-- ==== Sys2Proof/Word.lean ====
section
/-!
DEFINITION. The word types of the MLB-9620 model and their plainest arithmetic: register words, bytes, the
index types of ports, lanes, pods and their kin (Table 0.3), and bit slices.
-/
namespace Sys2Proof

/-- A register word: every register is 32 bits wide (R13). -/
abbrev Word := BitVec 32
/-- A byte of a packet, a record or slot memory. -/
abbrev Byte := BitVec 8

/-- Port P00 to P95 (Table 0.3). -/
abbrev PortId := Fin 96
/-- Line lane L0 to L7 of a port. -/
abbrev LaneId := Fin 8
/-- Pod 0 to Pod 7. -/
abbrev PodId := Fin 8
/-- Lane PLL group 0 to 3 of a pod (Table 1.2). -/
abbrev GroupId := Fin 4
/-- Host lane H0 to H11. -/
abbrev HostLaneId := Fin 12
/-- Stack port S0 to S3. -/
abbrev StackPortId := Fin 4
/-- CXL port MX0 to MX7. -/
abbrev CxlId := Fin 8
/-- Sub-port of an IEEE port. -/
abbrev SubId := Fin 8
/-- Mailbox slot 0 to 7 (R493). -/
abbrev SlotId := Fin 8
/-- Class 0 to 3. -/
abbrev ClassId := Fin 4

/-- Bits hi..lo of a word as a number. -/
def bits (w : Word) (hi lo : Nat) : Nat := (w.toNat >>> lo) % 2 ^ (hi + 1 - lo)

/-- Bit i of a word. -/
def bitOf (w : Word) (i : Nat) : Bool := w.getLsbD i

/-- The word w with bits hi..lo replaced by v. -/
def setBits (w : Word) (hi lo v : Nat) : Word :=
  let m : Nat := (2 ^ (hi + 1 - lo) - 1) <<< lo
  (w &&& ~~~ (BitVec.ofNat 32 m)) ||| (BitVec.ofNat 32 ((v <<< lo) % 2 ^ 32) &&& BitVec.ofNat 32 m)

/-- A flag as a field value. -/
def b2n (b : Bool) : Nat := if b then 1 else 0

/-- One field of a register value: v at bit position lo, width w (extra bits dropped). -/
def fld (v lo w : Nat) : Word := BitVec.ofNat 32 ((v % 2 ^ w) <<< lo)

/-- A flag at bit position i of a register value. -/
def flg (b : Bool) (i : Nat) : Word := fld (b2n b) i 1

/-- A w-bit field read as a two's-complement number. -/
def signed (w v : Nat) : Int := if v % 2 ^ w < 2 ^ (w - 1) then (v % 2 ^ w : Int) else (v % 2 ^ w : Int) - 2 ^ w

/-- The w-bit two's-complement field of a number. -/
def unsigned (w : Nat) (i : Int) : Nat := (i % (2 ^ w : Int)).toNat

/-- A saturating w-bit counter advanced by k (R524). -/
def satAdd (w n k : Nat) : Nat := Nat.min (2 ^ w - 1) (n + k)

/-- A wrapping w-bit counter advanced by k (R524). -/
def wrapAdd (w n k : Nat) : Nat := (n + k) % 2 ^ w

/-- A set of small numbers held as a register mask. -/
def maskOf (n : Nat) (p : Nat → Bool) : Nat :=
  (List.range n).foldl (fun a i => if p i then a + 2 ^ i else a) 0

/-- The k bytes of v, most significant first. -/
def beBytes (k v : Nat) : List Byte :=
  (List.range k).map fun i => BitVec.ofNat 8 (v >>> (8 * (k - 1 - i)))

/-- Bytes read as a number, most significant first. -/
def beNat (l : List Byte) : Nat := l.foldl (fun a b => a * 256 + b.toNat) 0

/-- Replace the element at an index of a fixed bank. -/
def updAt {α : Type} {n : Nat} (v : Vector α n) (i : Fin n) (f : α → α) : Vector α n :=
  v.set i.val (f v[i.val]) i.isLt

/-- Apply a function to every element of a bank, with its index. -/
def mapIdx {α : Type} {n : Nat} (v : Vector α n) (f : Fin n → α → α) : Vector α n :=
  Vector.ofFn fun i => f i v[i.val]

/-- The distance of two numbers. -/
def absDiff (a b : Nat) : Nat := if a < b then b - a else a - b

end Sys2Proof
end

