-- ==== Sys2Proof/Machine/FaultTypes.lean ====
section
/-!
DEFINITION. The causes of Table 17.1 with their class, kind, scope, default reaction, fixed actions and detail, and
the data a fault instance, an occurrence, a record and an armed injection hold (R417 to R436).
-/
namespace Sys2Proof.Machine

/-- Class of an occurrence (R417), in rising order of severity. -/
inductive FltClass where
  | c | u | f
deriving DecidableEq, Repr

/-- The code of a class in FLT_REACTc.CLASS and REC_STAT.CLASS (Table 17.7). -/
def FltClass.code : FltClass → Nat
  | .c => 1 | .u => 2 | .f => 3

/-- The higher of two classes (R429). -/
def FltClass.max (a b : FltClass) : FltClass := if a.code < b.code then b else a

/-- The scope of a cause (R418). -/
inductive FltScope where
  | lane | port | pod | dev
deriving DecidableEq, Repr

/-- The causes of Table 17.1, and no others (R418). -/
inductive Cause where
  | compliance | openPair | adcSpare | adaptUnstable | dacCell | laneShed | fecCorr
  | lpllConflict | linkDown | windowStall | retryRecovered | erroredDelivery | hostFecUnc | hostLaneFail
  | rcOverflow | parcelEccCorr | parcelLoss | cls0Noguar
  | bridgeReplay | bridgeFail | region | pllUnlock | podTiming | avsBus | podSensorLoss | refCheckPod
  | memRepairPod | podEccCorr
  | refFail | rpllUnlock | froFail | hubPllUnlock | supplyLoss | regionAon | thermWarn | thermOver | thermUnder
  | thermTrip | sensorFault | hubSensorLoss | refCheckHub | memRepairHub | memEccCorr | libIntegrity
  | clerkWdog | calSetInvalid | fsiClkLoss | cxlLink | spillBwReduced | floorBreach | stackLink | stackReport
  | timeHoldover | ledgerFault | bscanCtrl
deriving DecidableEq, Repr

/-- The 6-bit code of a cause (Table 17.1). -/
def Cause.code : Cause → Nat
  | .compliance => 0x01 | .openPair => 0x02 | .adcSpare => 0x03 | .adaptUnstable => 0x04 | .dacCell => 0x05
  | .laneShed => 0x06 | .fecCorr => 0x07 | .lpllConflict => 0x08 | .linkDown => 0x09 | .windowStall => 0x0A
  | .retryRecovered => 0x0B | .erroredDelivery => 0x0C | .hostFecUnc => 0x0D | .hostLaneFail => 0x0E
  | .rcOverflow => 0x0F | .parcelEccCorr => 0x10 | .parcelLoss => 0x11 | .cls0Noguar => 0x12
  | .bridgeReplay => 0x18 | .bridgeFail => 0x19 | .region => 0x1A | .pllUnlock => 0x1B | .podTiming => 0x1C
  | .avsBus => 0x1D | .podSensorLoss => 0x1E | .refCheckPod => 0x1F | .memRepairPod => 0x20
  | .podEccCorr => 0x21 | .refFail => 0x24 | .rpllUnlock => 0x25 | .froFail => 0x26 | .hubPllUnlock => 0x27
  | .supplyLoss => 0x28 | .regionAon => 0x29 | .thermWarn => 0x2A | .thermOver => 0x2B | .thermUnder => 0x2C
  | .thermTrip => 0x2D | .sensorFault => 0x2E | .hubSensorLoss => 0x2F | .refCheckHub => 0x30
  | .memRepairHub => 0x31 | .memEccCorr => 0x32 | .libIntegrity => 0x33 | .clerkWdog => 0x34
  | .calSetInvalid => 0x35 | .fsiClkLoss => 0x36 | .cxlLink => 0x37 | .spillBwReduced => 0x38
  | .floorBreach => 0x39 | .stackLink => 0x3A | .stackReport => 0x3B | .timeHoldover => 0x3C
  | .ledgerFault => 0x3D | .bscanCtrl => 0x3E

/-- Every cause, in ascending code. -/
def Cause.all : List Cause :=
  [.compliance, .openPair, .adcSpare, .adaptUnstable, .dacCell, .laneShed, .fecCorr, .lpllConflict, .linkDown,
   .windowStall, .retryRecovered, .erroredDelivery, .hostFecUnc, .hostLaneFail, .rcOverflow, .parcelEccCorr,
   .parcelLoss, .cls0Noguar, .bridgeReplay, .bridgeFail, .region, .pllUnlock, .podTiming, .avsBus,
   .podSensorLoss, .refCheckPod, .memRepairPod, .podEccCorr] ++
  [.refFail, .rpllUnlock, .froFail, .hubPllUnlock, .supplyLoss, .regionAon, .thermWarn, .thermOver, .thermUnder,
   .thermTrip, .sensorFault, .hubSensorLoss, .refCheckHub, .memRepairHub, .memEccCorr, .libIntegrity, .clerkWdog,
   .calSetInvalid, .fsiClkLoss, .cxlLink, .spillBwReduced, .floorBreach, .stackLink, .stackReport, .timeHoldover,
   .ledgerFault, .bscanCtrl]

/-- The cause a code names; none for a reserved code (R418). -/
def Cause.ofCode (n : Nat) : Option Cause := Cause.all.find? fun c => c.code == n

/-- The scope of a cause (Table 17.1). -/
def Cause.scope (c : Cause) : FltScope :=
  if c.code < 0x08 then .lane else if c.code < 0x18 then .port else if c.code < 0x24 then .pod else .dev

/-- Whether a cause is a condition, K (Table 17.1); the others are events, E. -/
def Cause.isCondition : Cause → Bool
  | .compliance | .openPair | .adcSpare | .adaptUnstable | .lpllConflict | .rcOverflow | .bridgeFail | .region
  | .pllUnlock | .podTiming | .avsBus | .podSensorLoss | .refCheckPod | .memRepairPod | .rpllUnlock | .froFail
  | .hubPllUnlock | .supplyLoss | .regionAon | .thermWarn | .thermOver | .thermUnder | .thermTrip | .sensorFault
  | .hubSensorLoss | .refCheckHub | .memRepairHub | .libIntegrity | .calSetInvalid | .fsiClkLoss
  | .timeHoldover | .bscanCtrl => true
  | _ => false

/-- The class of a cause whose class is fixed (Table 17.1); none where a rule decides it per occurrence. -/
def Cause.fixedClass : Cause → Option FltClass
  | .refFail | .froFail | .memRepairHub => none
  | .adcSpare | .adaptUnstable | .dacCell | .fecCorr | .lpllConflict | .retryRecovered | .parcelEccCorr
  | .bridgeReplay | .podEccCorr | .thermWarn | .thermUnder | .sensorFault | .memEccCorr | .spillBwReduced
  | .stackReport | .timeHoldover => some .c
  | .bridgeFail | .rpllUnlock | .supplyLoss | .thermTrip | .hubSensorLoss | .refCheckHub | .libIntegrity => some .f
  | _ => some .u

/-- Whether a real occurrence is a fault on a class-0 path resource (column C0 of Table 17.1; R428). -/
def Cause.c0 : Cause → Bool
  | .compliance | .openPair | .windowStall | .erroredDelivery | .hostFecUnc | .hostLaneFail | .region | .pllUnlock
  | .podTiming | .avsBus | .podSensorLoss | .refCheckPod | .memRepairPod | .refFail | .rpllUnlock | .supplyLoss
  | .thermTrip | .fsiClkLoss => true
  | _ => false

/-- The actions of FLT_REACTc as bits 6 to 1 (Table 17.7). -/
structure React where
  record : Bool
  portSafe : Bool
  podSafe : Bool
  devSafe : Bool
  stack : Bool
  ledger : Bool
deriving DecidableEq, Repr

/-- The reaction bits of a FLT_REACTc word. -/
def React.ofWord (w : Word) : React :=
  { record := bitOf w 1, portSafe := bitOf w 2, podSafe := bitOf w 3, devSafe := bitOf w 4, stack := bitOf w 5,
    ledger := bitOf w 6 }

/-- Bits of a reaction word: REC 0x02, PORT_SAFE 0x04, POD_SAFE 0x08, DEV_SAFE 0x10, STACK 0x20, LEDGER 0x40. -/
def Cause.defaultReact : Cause → Nat
  | .compliance | .openPair | .windowStall | .erroredDelivery | .rcOverflow | .avsBus | .podSensorLoss
  | .refCheckPod | .memRepairPod | .hubPllUnlock | .regionAon | .memRepairHub | .fsiClkLoss
  | .ledgerFault => 0x02
  | .laneShed | .hostLaneFail | .parcelLoss | .thermOver | .clerkWdog | .floorBreach | .bscanCtrl => 0x42
  | .linkDown | .cls0Noguar | .cxlLink | .spillBwReduced => 0x40
  | .bridgeFail => 0x72
  | .region => 0x4A
  | .pllUnlock => 0x06
  | .refFail | .rpllUnlock | .froFail | .thermTrip | .libIntegrity => 0x62
  | .supplyLoss | .hubSensorLoss | .refCheckHub => 0x22
  | _ => 0x00

/-- The fixed actions of Table 17.1 as reaction bits; a fixed entry that names a rule is taken where that rule's
occurrence is raised (R424). -/
def Cause.fixedReact : Cause → Nat
  | .bridgeFail | .podSensorLoss | .refCheckPod => 0x08
  | .supplyLoss | .thermTrip | .hubSensorLoss | .refCheckHub | .libIntegrity | .bscanCtrl => 0x10
  | _ => 0x00

/-- The NMI_STAT bit of a cause marked NMI (Table 17.6). -/
def Cause.nmiBit : Cause → Option Nat
  | .refFail => some 0 | .rpllUnlock => some 1 | .froFail => some 2 | .supplyLoss => some 3
  | .thermTrip => some 4 | .libIntegrity => some 5 | _ => none

/-- The causes whose injection is always report-only (R432). -/
def Cause.reportOnly : Cause → Bool
  | .supplyLoss | .thermTrip | .libIntegrity | .bscanCtrl => true
  | _ => false

/-- The reset value of an enable bit: causes whose default reaction includes IRQ (Tables 17.1 and 17.5). -/
def Cause.irqDefault : Cause → Bool
  | .fecCorr | .retryRecovered | .parcelEccCorr | .bridgeReplay | .podEccCorr | .memEccCorr => false
  | _ => true

/-- One instance: a cause at one lane, port or pod, or the single device instance (R418). -/
inductive Inst where
  | lane (p : PortId) (n : LaneId)
  | port (p : PortId)
  | pod (k : PodId)
  | dev
deriving DecidableEq, Repr

/-- The number of an instance as FLT_SEL.INST holds it (Table 17.8). -/
def Inst.num : Inst → Nat
  | .lane p n => p.val * 8 + n.val
  | .port p => p.val
  | .pod k => k.val
  | .dev => 0

/-- The pod that serves a port (R16). -/
def podOf (p : PortId) : PodId := ⟨p.val / 12, by omega⟩

/-- The index of a port in its pod (R16). -/
def idxOf (p : PortId) : Nat := p.val % 12

/-- The lane PLL group of a port (R16). -/
def groupOf (p : PortId) : GroupId := ⟨p.val % 12 / 3, by omega⟩

/-- The host PLL of a port (R16). -/
def hostPllOf (p : PortId) : Nat := p.val % 12 / 6

/-- The instance a cause code and an instance number name (R432): none when the number is out of range. -/
def Inst.ofNum (s : FltScope) (n : Nat) : Option Inst :=
  match s with
  | .lane => if h : n / 8 < 96 then some (.lane ⟨n / 8, h⟩ ⟨n % 8, by omega⟩) else none
  | .port => if h : n < 96 then some (.port ⟨n, h⟩) else none
  | .pod => if h : n < 8 then some (.pod ⟨n, h⟩) else none
  | .dev => if n = 0 then some .dev else none

/-- One occurrence on its way to the hub (R422, R427, R429). -/
structure Occ where
  cause : Cause
  inst : Inst
  detail : Nat
  cls : FltClass
  time : Nat
  inj : Bool
  /-- a real occurrence while an injection was pending on the instance (R433) -/
  real : Bool
  /-- the reaction in force when it was detected (R423) -/
  react : React
  /-- it took a safe state -/
  safe : Bool
deriving DecidableEq, Repr

/-- What one instance keeps (R420, R421, R433). -/
structure FltInst where
  /-- the real condition holds, or the real event is live -/
  real : Bool
  /-- an injected condition's HOLD runs, or an injected event is live -/
  injLive : Bool
  sticky : Bool
  count : Nat
  injCnt : Nat
  first : Nat
  last : Nat
  /-- an occurrence since the counts were last cleared -/
  seen : Bool
  injPend : Bool
  realFlag : Bool
  realCnt : Nat
deriving DecidableEq, Repr

/-- An instance after a full reset. -/
def FltInst.zero : FltInst :=
  { real := false, injLive := false, sticky := false, count := 0, injCnt := 0, first := 0, last := 0,
    seen := false, injPend := false, realFlag := false, realCnt := 0 }

/-- The live bit of an instance (R418, R432). -/
def FltInst.live (i : FltInst) : Bool := i.real || i.injLive

/-- A fault record (R429, Table 17.9). -/
structure FltRec where
  pend : Bool
  inj : Bool
  real : Bool
  safe : Bool
  merge : Nat
  cls : Option FltClass
  primary : Nat
  detail : Nat
  time : Nat
  secondary : BitVec 64
deriving DecidableEq, Repr

/-- A free record. -/
def FltRec.free : FltRec :=
  { pend := false, inj := false, real := false, safe := false, merge := 0, cls := none, primary := 0, detail := 0,
    time := 0, secondary := 0 }

/-- How far the occurrence behind a safe-state hold has come: on its way to its record, in a pending record, or
acknowledged (R426). -/
inductive HoldStage where
  | waiting | recorded | acked
deriving DecidableEq, Repr

/-- The ports a safe-state hold covers (R425). -/
inductive SafeScope where
  | ports (l : List PortId)
  | pod (k : PodId)
  | dev
deriving DecidableEq, Repr

/-- A reason for which ports are held in the safe state (R426). -/
structure SafeHold where
  cause : Cause
  inst : Inst
  scope : SafeScope
  stage : HoldStage
deriving DecidableEq, Repr

/-- An armed injection (Table 17.2). -/
structure Armed where
  cause : Cause
  inst : Inst
  delay : Nat
  repeatMode : Bool
  period : Nat
  left : Nat
  hold : Nat
deriving DecidableEq, Repr

end Sys2Proof.Machine
end

