-- ==== Sys2Proof/Machine/RegTypes.lean ====
section
/-!
DEFINITION. Staged registers: what one holds, which there are in a port window and in a lane window, their offsets and
reset values (R526, R527, R528; the register tables of each chapter).
-/
namespace Sys2Proof.Machine

/-- A staged register (R526): the staged value, the value in force that the _ACTIVE twin shows, the value the last
accepted commit put in force (what REVERT copies, R528), and the snapshot of a pending commit (R527). -/
structure StReg where
  staged : Word
  inForce : Word
  accepted : Word
  snap : Word
deriving DecidableEq, Repr

/-- A staged register after reset. -/
def StReg.mk0 (w : Word) : StReg := { staged := w, inForce := w, accepted := w, snap := w }

/-- The staged registers of a port window, in ascending address (R526). -/
inductive PortSt where
  | linkCtrl | ieeeCfg | codeCtrl | fecCtrl | lreCtrl | sndCtrl | sndDiffCtrl | sndCmCtrl | hostCtrl
deriving DecidableEq, Repr

/-- The place of a port staged register in the bank. -/
def PortSt.ix : PortSt → Fin 9
  | .linkCtrl => 0 | .ieeeCfg => 1 | .codeCtrl => 2 | .fecCtrl => 3 | .lreCtrl => 4 | .sndCtrl => 5
  | .sndDiffCtrl => 6 | .sndCmCtrl => 7 | .hostCtrl => 8

/-- The offset of a port staged register within the port window (Table 21.9 and the chapters' indexes). -/
def PortSt.ofs : PortSt → Nat
  | .linkCtrl => 0x0800 | .ieeeCfg => 0x0C00 | .codeCtrl => 0x1000 | .fecCtrl => 0x1008 | .lreCtrl => 0x2000
  | .sndCtrl => 0x3000 | .sndDiffCtrl => 0x3008 | .sndCmCtrl => 0x3010 | .hostCtrl => 0x4000

/-- Every port staged register, in ascending address. -/
def PortSt.all : List PortSt :=
  [.linkCtrl, .ieeeCfg, .codeCtrl, .fecCtrl, .lreCtrl, .sndCtrl, .sndDiffCtrl, .sndCmCtrl, .hostCtrl]

/-- Reset value of a port staged register (Tables 10.9, 6.8, 4.11, 4.12, 7.9, 5.14, 5.15, 5.16, 9.9). -/
def PortSt.reset : PortSt → Word
  | .linkCtrl => 0x00640000 | .ieeeCfg => 0x00000310 | .codeCtrl => 0x00800064 | .fecCtrl => 0x6000A802
  | .lreCtrl => 0x00000033 | .sndCtrl => 0x0A26141E | .sndDiffCtrl => 0x60C67F00 | .sndCmCtrl => 0x760C0000
  | .hostCtrl => 0x80000000

/-- The bits of a port staged register that are fields; the others are reserved and read 0 (R521). -/
def PortSt.mask : PortSt → Word
  | .linkCtrl => 0xFFFF000D | .ieeeCfg => 0x00000317 | .codeCtrl => 0x03FF006F | .fecCtrl => 0xF0FFFF0F
  | .lreCtrl => 0x0000FF33 | .sndCtrl => 0xFFFFFF7E | .sndDiffCtrl => 0xFFFF7F00 | .sndCmCtrl => 0xFF1F0000
  | .hostCtrl => 0x8FFF0FFF

/-- The staged registers of a lane window, in ascending address. -/
inductive LaneSt where
  | txCtrl | txFfe0 | txFfe1 | txToneCtrl | rxCtrl | rxAdapt | rxAnchorCtrl | rxRotCtrl
  | rxEcWin0 | rxEcWin1 | rxEcWin2 | rxEcWin3 | calLaneCtrl
deriving DecidableEq, Repr

/-- The place of a lane staged register in the bank. -/
def LaneSt.ix : LaneSt → Fin 13
  | .txCtrl => 0 | .txFfe0 => 1 | .txFfe1 => 2 | .txToneCtrl => 3 | .rxCtrl => 4 | .rxAdapt => 5
  | .rxAnchorCtrl => 6 | .rxRotCtrl => 7 | .rxEcWin0 => 8 | .rxEcWin1 => 9 | .rxEcWin2 => 10 | .rxEcWin3 => 11
  | .calLaneCtrl => 12

/-- The offset of a lane staged register within the lane window (Tables 2.8, 3.10, 11.14). -/
def LaneSt.ofs : LaneSt → Nat
  | .txCtrl => 0x000 | .txFfe0 => 0x010 | .txFfe1 => 0x014 | .txToneCtrl => 0x050 | .rxCtrl => 0x100
  | .rxAdapt => 0x108 | .rxAnchorCtrl => 0x110 | .rxRotCtrl => 0x120 | .rxEcWin0 => 0x140 | .rxEcWin1 => 0x144
  | .rxEcWin2 => 0x148 | .rxEcWin3 => 0x14C | .calLaneCtrl => 0x400

/-- Every lane staged register, in ascending address. -/
def LaneSt.all : List LaneSt :=
  [.txCtrl, .txFfe0, .txFfe1, .txToneCtrl, .rxCtrl, .rxAdapt, .rxAnchorCtrl, .rxRotCtrl, .rxEcWin0, .rxEcWin1,
   .rxEcWin2, .rxEcWin3, .calLaneCtrl]

/-- Reset value of a lane staged register (Tables 2.9 to 2.17, 3.11 to 3.20, 11.15). -/
def LaneSt.reset : LaneSt → Word
  | .txCtrl => 0x00000001 | .txFfe0 => 0x40000000 | .txFfe1 => 0x00000000 | .txToneCtrl => 0x00000000
  | .rxCtrl => 0x00000012 | .rxAdapt => 0x98783322 | .rxAnchorCtrl => 0x5A104060 | .rxRotCtrl => 0x00010800
  | .rxEcWin0 | .rxEcWin1 | .rxEcWin2 | .rxEcWin3 => 0x40000000 | .calLaneCtrl => 0x00000003

/-- The bits of a lane staged register that are fields. -/
def LaneSt.mask : LaneSt → Word
  | .txCtrl => 0x00001103 | .txFfe0 => 0xFFFFFFFF | .txFfe1 => 0x0000FFFF | .txToneCtrl => 0x001F7F33
  | .rxCtrl => 0x00003112 | .rxAdapt => 0xFFFFFFFF | .rxAnchorCtrl => 0xFFF8FFFF | .rxRotCtrl => 0x0001FFFF
  | .rxEcWin0 | .rxEcWin1 | .rxEcWin2 | .rxEcWin3 => 0xC0000FFF | .calLaneCtrl => 0x00000003

/-- A commit register's state (Table 21.7). -/
structure CommitSt where
  pend : Bool
  result : Nat
  ofs : Nat
  /-- the pending commit is the port's own after CONFIG_DONE, whose refusal is counted in CFG_SKIP (R378, R379) -/
  config : Bool
deriving DecidableEq, Repr

/-- A commit register after reset. -/
def CommitSt.zero : CommitSt := { pend := false, result := 0, ofs := 0, config := false }

end Sys2Proof.Machine
end

