-- ==== Sys2Proof/Machine/LaneState.lean ====
section
/-!
DEFINITION. The state of one line lane: transmitter (R40 to R61), receiver (R62 to R94), coding (R108 to R131),
quality figures (R266 to R282), calibration (R287 to R307), self-test (R404 to R415) and its fault instances.
-/
namespace Sys2Proof.Machine

/-- Transmitter states (Table 2.3). -/
inductive TxState where
  | off | idle | data | tone | safe
deriving DecidableEq, Repr

/-- TX_STAT.STATE (Table 2.13). -/
def TxState.code : TxState → Nat
  | .off => 0 | .idle => 1 | .data => 2 | .tone => 3 | .safe => 4

/-- The six transmit taps in units of 1/64 (R45). -/
structure Taps where
  pre3 : Int
  pre2 : Int
  pre1 : Int
  main : Int
  post1 : Int
  post2 : Int
deriving DecidableEq, Repr

/-- One chirp as the modem loads it into a tone generator (R58, R133): the FTW it starts at, and START, RAMP and STOP, so that an FTW
that reaches STOP wraps to START within the chirp. -/
structure ToneSeg where
  first : Nat
  start : Nat
  ramp : Int
  stop : Nat
deriving DecidableEq, Repr

/-- One line transmitter. -/
structure LaneTx where
  state : TxState
  /-- the lane's free-running count of folio slots, modulo 2^32 (R40) -/
  slots : Nat
  /-- target of a tap walk in progress (R46) -/
  walk : Option Taps
  /-- taps that take effect at the next slot boundary (R46, R167) -/
  tapsDue : Option Taps
  /-- folio slots until the next walk step -/
  walkLeft : Nat
  /-- range waiting to take effect (R49) -/
  rangeNext : Option Nat
  /-- the idle slot of R49 step 2 is in progress -/
  rangeIdle : Bool
  /-- what the lane resumes after the idle slot -/
  resume : TxState
  retireA : Nat
  retireB : Nat
  /-- DAC cell selection waiting (R47) -/
  cellNext : Option (Nat × Nat)
  /-- folio slots since the last cell exchange -/
  cellAge : Nat
  /-- the runs of P_HIGH, P_LOW, N_HIGH, N_LOW, SWING_LOW (R54) -/
  compRun : Vector Nat 5
  /-- violations in the current interval -/
  compCur : BitVec 5
  compLatched : BitVec 5
  compEn : Bool
  toneStart : Word
  toneRamp : Word
  toneStop : Word
  /-- 48-bit frequency accumulator (R56) -/
  facc : BitVec 48
  phase : Word
  /-- the chirps of the sounding transmission in progress on the lane that are still to start (R133, R135) -/
  segs : List ToneSeg
  /-- scrambler state at the next symbol group of the training pattern; none while the lane sends none (R166) -/
  pat : Option (BitVec 58)
  /-- the levels of the last five symbols sent, oldest first, in the FFE (R42), and the last precoded PAM4 symbol (R43) -/
  fir : List Int
  precode : Nat
  /-- the DAC codes of the slot or codeword last sent (R42) -/
  dac : List Int
deriving DecidableEq, Repr

/-- Receiver phases (Table 3.6). -/
inductive RxPhase where
  | off | echo | far | joint | track | hold
deriving DecidableEq, Repr

/-- RX_DSP_STAT.PHASE (Table 3.22). -/
def RxPhase.code : RxPhase → Nat
  | .off => 0 | .echo => 1 | .far => 2 | .joint => 3 | .track => 4 | .hold => 5

/-- The adaptive coefficients the anchor covers (R74, R75, R79, R80). -/
structure Coefs where
  /-- 40 FFE taps, index −8 first -/
  ffe : List Int
  /-- 384 dense echo taps and 4 × 64 sparse ones -/
  echo : List Int
  /-- 7 × 48 NEXT taps -/
  next : List Int
  /-- the estimator's two post-cursor taps -/
  dfe : List Int
deriving DecidableEq, Repr

/-- One sample instant at a lane's receiver (R62, R63, R75, R79): the ADC's code on the lane's TXn pair and on its RXn pair, the DAC
code less 128 that the lane itself sends, those of the other seven lanes in ascending order, and whether the symbol is the second of
its pair as the folio boundary places it (R80). -/
structure RxSample where
  txPair : Nat
  rxPair : Nat
  own : Int
  near : List Int
  second : Bool
deriving DecidableEq, Repr

/-- A survivor of the sequence estimator (R80): its metric above the best one, and its levels, newest first. -/
structure Survivor where
  metric : Nat
  path : List Int
deriving DecidableEq, Repr

/-- What the receive chain holds between samples (R62, R73, R80, R84 to R87). -/
structure RxRun where
  /-- samples about code 128, own codes and the other lanes' codes, newest first -/
  adc : List Int
  own : List Int
  near : List (List Int)
  /-- the estimator's inputs, newest first, and its survivors -/
  ins : List Int
  surv : List Survivor
  /-- the decisions of the samples last received: the level, IEEE precoding undone, and its reliability (R81) -/
  out : List (Int × Nat)
  /-- the sum of squared errors of the SNR window, and its symbols (R86) -/
  errSum : Nat
  errCnt : Nat
  /-- the sums of squares of the samples since the last AGC decision and in the epoch, with their counts (R65, R85) -/
  agcSq : Nat
  agcCnt : Nat
  epSq : Nat
  epCnt : Nat
  /-- epochs since the last alignment folio, and the active ones (R88) -/
  epochs : Nat
  epochsActive : Nat
  /-- since the last alignment folio: the sums of squares of the estimator's input and of the own codes, and the symbols (R78) -/
  farSum : Nat
  ownSum : Nat
  farCnt : Nat
  /-- consecutive symbols of ECHO with the residual 42 dB down (R87) -/
  echoRun : Nat
deriving DecidableEq, Repr

/-- A chain that has seen nothing yet. -/
def RxRun.empty : RxRun :=
  { adc := [], own := [], near := [], ins := [], surv := [], out := [], errSum := 0, errCnt := 0, agcSq := 0, agcCnt := 0, epSq := 0,
    epCnt := 0, epochs := 0, epochsActive := 0, farSum := 0, ownSum := 0, farCnt := 0, echoRun := 0 }

/-- The ADC slices of a lane (R67 to R71). -/
structure Slices where
  /-- slice at each of the 64 positions -/
  pos : List Nat
  inCal : Nat
  reserve : List Nat
  retired : List Nat
  /-- consecutive failed calibrations of each slice -/
  fails : List Nat
  /-- comparator chosen by each slice (R70) -/
  comparator : List Nat
  /-- offset (0.25 code), gain (0.05 %) and skew (0.05 ps) trim in force of each slice (R69, Table 11.8) -/
  trims : List (Int × Int × Int)
  /-- the calibrated values of each slice's last accepted result (R284) -/
  results : List (Int × Int × Int)
  /-- the slice in calibration has completed its steps -/
  calDone : Bool
  /-- position of the next swap -/
  nextPos : Nat
  /-- folio slots since the last swap -/
  sinceSwap : Nat
  /-- slice calibrations completed, for the ramp check of R408 -/
  calCount : Nat
deriving DecidableEq, Repr

/-- One line receiver. -/
structure LaneRx where
  phase : RxPhase
  peak : Nat
  lf : Nat
  vga : Nat
  hybR : Nat
  hybC : Nat
  agcTarget : Nat
  cdrLock : Bool
  conv : Bool
  follow : Bool
  freqOfs : Int
  snr : Nat
  /-- the latest SNR windows of the phase, newest first (R87) -/
  snrHist : List Nat
  slices : Slices
  coefs : Coefs
  /-- the fractions below an LSB that LMS has gathered, in 2^−20 LSB (R84) -/
  resid : Coefs
  anchor : Coefs
  run : RxRun
  /-- the phase of the 64-step interpolator (R73) -/
  cdrPhase : Nat
  /-- the search of FAR over PEAK and LF, and that of ECHO, have been made in the phase (R64, R77) -/
  searched : Bool
  /-- a VGA step of TRACK waits for its boundary, up or down, and the folio slots since the last one (R65, R92) -/
  vgaDue : Option Bool
  vgaAge : Nat
  anchorSnr : Nat
  anchorValid : Bool
  unstable : Bool
  held : Bool
  taken : Nat
  revert : Nat
  /-- reversions since the last anchor (R91) -/
  revSince : Nat
  /-- a reversion is due at the next folio boundary (R89) -/
  revDue : Bool
  /-- uncorrectable folios on the lane since the last alignment folio (R88) -/
  uncSince : Nat
  /-- folio slots since the last live change (R92) -/
  sinceChange : Nat
  /-- placements in force of the sparse windows: START, or none (R76) -/
  ecStart : List (Option Nat)
  echoLvl : Nat
  echoPos : Nat
  echoOpen : Bool
deriving DecidableEq, Repr

/-- Lane coding states (Table 4.4). -/
inductive CodeState where
  | off | hunt | locked | aligned | active | quar | shed | adding
deriving DecidableEq, Repr

/-- LANE_CODE_STAT.STATE (Table 4.4). -/
def CodeState.code : CodeState → Nat
  | .off => 0 | .hunt => 1 | .locked => 2 | .aligned => 3 | .active => 4 | .quar => 5 | .shed => 6 | .adding => 7

/-- Coding state of one lane (R108 to R114, R129). -/
structure LaneCode where
  state : CodeState
  lock : Bool
  alignedF : Bool
  deskewed : Bool
  idErr : Bool
  idSeen : Nat
  excess : Bool
  /-- arrival skew of the lane, units of 0.1 ns, as measured -/
  arrival : Nat
  /-- deskew delay added, units of 0.1 ns (R113) -/
  skew : Nat
  /-- the hypothesis held or to be resumed at (R108, R109) -/
  hyp : Nat
  /-- SLOT of the last accepted alignment folio -/
  lastSlot : Option Nat
  /-- consecutive alignment slots without an accepted folio (R112) -/
  alignMiss : Nat
  /-- consecutive uncorrectable folios (R109) -/
  consecUnc : Nat
  /-- uncorrectable folios in the current window, and the window's number (Table 4.7) -/
  winUnc : Nat
  winNo : Nat
  /-- the first slot of the epoch at which the lane last entered the map (R117) -/
  joinAt : Option Nat
  invalid : Nat
  lockLoss : Nat
  alignLoss : Nat
  corrSym : Nat
  unc : Nat
  /-- consecutive failed add attempts (R129) -/
  tries : Nat
  /-- automatic attempts are made for the lane (R128) -/
  autoAdd : Bool
  /-- the lane was shed under R230 -/
  shedCap : Bool
  /-- an add attempt is in progress on the lane -/
  adding : Bool
  /-- the lane in ADDING sends framed folios (R128 step 4) -/
  framed : Bool
  /-- candidate blocks since each invalid header of the last 1,024 (R109) -/
  invalidAt : List Nat
  /-- block lock is to be lost: R109's header rule or its eight uncorrectable folios -/
  lockDue : Bool
  /-- the partner's slot count of an arriving folio less this port's own, modulo 2^32, as the last accepted alignment folio
  fixed it (R112): the projection, since both ends run at one frequency (R72) -/
  recvOfs : Option Nat
  /-- a shed trigger waits for the next slot boundary: its cause and its change epoch (R121, R122) -/
  trig : Option (Nat × Nat)
deriving DecidableEq, Repr

/-- Quality figures (R266 to R269, Table 10.15). -/
structure LaneQual where
  eyeW : Nat
  eyeH : Nat
  /-- 12-bit MARGIN field; 0x800 before the first window -/
  margin : Nat
  snap : Word
  minMargin : Nat
  minValid : Bool
deriving DecidableEq, Repr

/-- Calibration state of a lane (R287 to R290, Tables 11.16 and 11.17). -/
structure LaneCal where
  ctleTrained : Nat
  ctleFrozen : Bool
  lastItem : Nat
  lastResult : Nat
  /-- largest in-use cell error of the last accepted measurement, 0.1 % -/
  dacWorst : Nat
  /-- cell errors e_0 to e_8 last measured, 0.1 % (R287) -/
  dacErr : List Int
  /-- alignment folios of the DAC measurement in progress, of 16 (R287) -/
  dacFolios : Nat
  /-- exchanges of an adopted selection that follow the pending one (R288) -/
  dacNext : Option (Nat × Nat)
  /-- alignment periods since the last CTLE evaluation (R289) -/
  ctleAge : Nat
  /-- a CTLE step waits for its boundary: its direction, and whether it is a reversion (R290, R92) -/
  ctleDue : Option (Int × Bool)
  /-- a step to be checked: the SNR of the point at which it was decided, and its direction (R290) -/
  ctleCheck : Option (Nat × Int)
  ctleTrim : Int
  /-- DIST_REF of the TX and the RX pair, 1 ps, and whether measured (R292) -/
  distTx : Nat
  distRx : Nat
  distMeas : Bool
  trimMeas : Bool
  cntDac : Nat
  cntCtle : Nat
  cntReject : Nat
  cntRevert : Nat
deriving DecidableEq, Repr

/-- Loopback of a lane (R404, R405): the near-end kinds; the far-end one as requester (REQ sent, ACK received, started)
and as partner (ACK sent, started); and ending, while its END frame is under way. -/
inductive LoopKind where
  | none | serial | parallel | farAsked | farAcked | far | farGranted | farServe | farEnding
deriving DecidableEq, Repr

/-- The lane is in a far-end loopback, from its ACK to the end of END (R405). -/
def LoopKind.isFar : LoopKind → Bool
  | .farAcked | .far | .farGranted | .farServe | .farEnding => true
  | _ => false

/-- ST_PRBS_STAT.LOOP (Table 16.12). -/
def LoopKind.code : LoopKind → Nat
  | .serial => 1 | .parallel => 2 | .far | .farEnding => 3 | .farServe => 4 | _ => 0

/-- Self-test state of a lane (R404 to R407, R415). -/
structure LaneTest where
  loop : LoopKind
  /-- ST_PRBS_CTRL, its fields only -/
  prbsCtrl : Word
  chkLock : Bool
  /-- the last bits the checker predicts from, newest first (R407) -/
  chkReg : List Bool
  genOn : Bool
  /-- the last 31 bits the generator made, newest first; none before it first runs (R406) -/
  genReg : Option (List Bool)
  errs : Nat
  bitCnt : Nat
  lockLoss : Nat
deriving DecidableEq, Repr

/-- One line lane. -/
structure Lane where
  st : Vector StReg 13
  commit : CommitSt
  tx : LaneTx
  rx : LaneRx
  code : LaneCode
  qual : LaneQual
  cal : LaneCal
  test : LaneTest
  /-- the lane causes 0x01 to 0x07 (Table 17.5) -/
  flt : Vector FltInst 7
  fltEn : Word
deriving DecidableEq, Repr

/-- The staged register r of a lane. -/
def Lane.reg (l : Lane) (r : LaneSt) : StReg := l.st[r.ix.val]

/-- The value in force of a lane's staged register. -/
def Lane.act (l : Lane) (r : LaneSt) : Word := (l.reg r).inForce

/-- Replace a staged register of a lane. -/
def Lane.setReg (l : Lane) (r : LaneSt) (f : StReg → StReg) : Lane := { l with st := updAt l.st r.ix f }

/-- The taps two FFE words hold (Tables 2.11 and 2.12). -/
def Taps.ofWords (a b : Word) : Taps :=
  { main := signed 8 (bits a 31 24), pre1 := signed 8 (bits a 23 16), pre2 := signed 8 (bits a 15 8),
    pre3 := signed 8 (bits a 7 0), post2 := signed 8 (bits b 15 8), post1 := signed 8 (bits b 7 0) }

/-- TX_FFE0 of a tap set. -/
def Taps.word0 (t : Taps) : Word :=
  fld (unsigned 8 t.main) 24 8 ||| fld (unsigned 8 t.pre1) 16 8 ||| fld (unsigned 8 t.pre2) 8 8
    ||| fld (unsigned 8 t.pre3) 0 8

/-- TX_FFE1 of a tap set. -/
def Taps.word1 (t : Taps) : Word := fld (unsigned 8 t.post2) 8 8 ||| fld (unsigned 8 t.post1) 0 8

/-- Every coefficient at zero. -/
def Coefs.zero : Coefs :=
  { ffe := List.replicate 40 0, echo := List.replicate 640 0, next := List.replicate 336 0,
    dfe := List.replicate 2 0 }

/-- The slices after PORST_N (R67). -/
def Slices.reset : Slices :=
  { pos := List.range 64, inCal := 64, reserve := [65, 66, 67], retired := [], fails := List.replicate 68 0,
    comparator := List.replicate 68 0, trims := List.replicate 68 (0, 0, 0), results := List.replicate 68 (0, 0, 0), calDone := false, nextPos := 0, sinceSwap := 0, calCount := 0 }

/-- A lane transmitter after reset (Tables 2.8 to 2.18). -/
def LaneTx.reset : LaneTx :=
  { state := .off, slots := 0, walk := none, tapsDue := none, walkLeft := 0, rangeNext := none, rangeIdle := false, resume := .off,
    retireA := 7, retireB := 8, cellNext := none, cellAge := 64, compRun := Vector.replicate 5 0, compCur := 0,
    compLatched := 0, compEn := true, toneStart := 0, toneRamp := 0, toneStop := 0, facc := 0, phase := 0,
    segs := [], pat := none, fir := [0, 0, 0, 0, 0], precode := 0, dac := [] }

/-- A lane receiver after reset (Tables 3.10 to 3.22). -/
def LaneRx.reset : LaneRx :=
  { phase := .off, peak := 8, lf := 0, vga := 32, hybR := 8, hybC := 8, agcTarget := 0x30, cdrLock := false,
    conv := false, follow := false, freqOfs := 0, snr := 0, snrHist := [], slices := Slices.reset,
    coefs := Coefs.zero, resid := Coefs.zero, anchor := Coefs.zero, run := RxRun.empty, cdrPhase := 0, searched := false, vgaDue := none,
    vgaAge := 64, anchorSnr := 0, anchorValid := false, unstable := false,
    held := false, taken := 0, revert := 0, revSince := 0, revDue := false, uncSince := 0, sinceChange := 16,
    ecStart := List.replicate 4 none, echoLvl := 0, echoPos := 0, echoOpen := false }

/-- Lane coding state after reset. -/
def LaneCode.reset : LaneCode :=
  { state := .off, lock := false, alignedF := false, deskewed := false, idErr := false, idSeen := 0, excess := false,
    arrival := 0, skew := 0, hyp := 0, lastSlot := none, alignMiss := 0, consecUnc := 0, winUnc := 0, winNo := 0, joinAt := none, invalid := 0,
    lockLoss := 0, alignLoss := 0, corrSym := 0, unc := 0, tries := 0, autoAdd := false, shedCap := false,
    adding := false, framed := false, invalidAt := [], lockDue := false, recvOfs := none, trig := none }

/-- Quality figures after reset (Table 10.15). -/
def LaneQual.reset : LaneQual :=
  { eyeW := 0, eyeH := 0, margin := 0x800, snap := 0x00000800, minMargin := 0, minValid := false }

/-- Lane calibration state after reset. -/
def LaneCal.reset : LaneCal :=
  { ctleTrained := 0, ctleFrozen := false, lastItem := 0, lastResult := 0, dacWorst := 0,
    dacErr := List.replicate 9 0, dacFolios := 0, dacNext := none, ctleAge := 0, ctleDue := none, ctleCheck := none,
    ctleTrim := 0, distTx := 0, distRx := 0, distMeas := false, trimMeas := false, cntDac := 0, cntCtle := 0,
    cntReject := 0, cntRevert := 0 }

/-- Lane self-test state after reset. -/
def LaneTest.reset : LaneTest :=
  { loop := .none, prbsCtrl := 0, chkLock := false, chkReg := [], genOn := false, genReg := none, errs := 0, bitCnt := 0, lockLoss := 0 }

/-- A lane after reset. -/
def Lane.reset : Lane :=
  { st := Vector.ofFn fun i => StReg.mk0 ((LaneSt.all[i.val]'(by have := i.isLt; simp [LaneSt.all])).reset),
    commit := CommitSt.zero, tx := LaneTx.reset, rx := LaneRx.reset, code := LaneCode.reset,
    qual := LaneQual.reset, cal := LaneCal.reset, test := LaneTest.reset, flt := Vector.replicate 7 FltInst.zero,
    fltEn := 0x0000007E }

end Sys2Proof.Machine
end

