-- ==== Sys2Proof/Machine/PortState.lean ====
section
/-!
DEFINITION. The state of one port beside its lanes: link (R261 to R281), coding (R95 to R130), link reliability engine
(R191 to R212), sounding and negotiation (R132 to R170), IEEE sub-ports (R171 to R190), queues and guarantee
(R222 to R238), host lanes (R239 to R260), diagnostics (R308 to R323), timestamps and time transfer (R470 to R476).
-/
namespace Sys2Proof.Machine

/-- A block: its header (control or data) and its 256 data bits (R96). -/
structure Block where
  ctrl : Bool
  data : BitVec 256
deriving DecidableEq, Repr

/-- The control block of a line-owned type with D[247:0] zero (Table 4.1). -/
def Block.ofType (t : Nat) : Block := { ctrl := true, data := BitVec.ofNat 256 (t % 256) <<< 248 }
/-- The type byte D[255:248] of a block (R96). -/
def Block.type (b : Block) : Nat := (b.data >>> 248).toNat
/-- FILL (Table 4.1). -/
def Block.fill : Block := Block.ofType 0xF8
/-- A FILL block, whatever its other bits (R97, R98). -/
def Block.isFill (b : Block) : Bool := b.ctrl && decide (b.data.extractLsb' 248 8 = 0xF8#8)
/-- ERRORED (Table 4.1). -/
def Block.errored : Block := Block.ofType 0xF9
/-- HALT with its reason byte in D[247:240] (R251). -/
def Block.halt (why : Nat) : Block :=
  { ctrl := true, data := (Block.ofType 0xFA).data ||| (BitVec.ofNat 256 (why % 256) <<< 240) }
/-- A control block of a line-owned type (R97). -/
def Block.lineOwned (b : Block) : Bool := b.ctrl && decide (0xF0 ≤ b.type)

/-- A folio as received (R99, R106): the positions of invalid headers before decoding, its 30 blocks as sent on the line
(header and data bits), the RS symbols in error, the reliability of each of its 3,440 line symbols (R81), the lane's arrival delay in
0.1 ns, and the time since its first symbol reached the line balls in ps. -/
structure RxFolio where
  invalid : List Nat
  blocks : List (BitVec 2 × BitVec 256)
  errs : List Nat
  rel : List Nat
  arrival : Nat
  ago : Nat
deriving DecidableEq, Repr

/-- Link states (Table 10.1). -/
inductive LinkState where
  | down | sound | parley | train | align | up | degraded | quiet | wake
deriving DecidableEq, Repr

/-- LINK_STAT.STATE (Table 10.1). -/
def LinkState.code : LinkState → Nat
  | .down => 0 | .sound => 1 | .parley => 2 | .train => 3 | .align => 4 | .up => 5 | .degraded => 6 | .quiet => 7
  | .wake => 8

/-- The states in which a native port carries data (R264, R498). -/
def LinkState.isData : LinkState → Bool
  | .up | .degraded | .quiet | .wake => true
  | _ => false

/-- Role in a wake (R278). -/
inductive WakeRole where
  | none | initiator | responder
deriving DecidableEq, Repr

/-- Link control of a port (R261 to R281). -/
structure LinkSt where
  state : LinkState
  lastDown : Nat
  /-- a cause of Table 10.3 waits for the next slot boundary (R264); second: start again at once -/
  downDue : Option Nat
  restart : Bool
  fullLanes : Nat
  inWindow : Bool
  /-- slots elapsed in the refresh window -/
  winSlot : Nat
  quietPend : Bool
  quietEpoch : Nat
  /-- slot count of the QUIET epoch's first slot, Q of R274 -/
  quietQ : Nat
  /-- index of the next refresh, k of R274 -/
  refreshK : Nat
  /-- a QUIET_REQ of this side is unanswered, with its epoch (R273) -/
  quietReq : Option Nat
  /-- receivers of the map's lanes go to HOLD once the partner's last slot before the QUIET epoch has arrived (R273) -/
  quietHold : Bool
  wakeRole : WakeRole
  /-- the wake burst is being sent, and how many have been started (R279) -/
  burst : Bool
  bursts : Nat
  /-- transmitters are in DATA and accepted heads since the wake began -/
  wakeData : Bool
  wakeHeads : Nat
  downs : Nat
  degrades : Nat
  wakes : Nat
  wakeFail : Nat
  winPfec : Nat
  winUnc : Nat
  snapDone : Bool
  snapSlot : Nat
  /-- the retry hold-off of R164 runs -/
  retryHold : Bool
deriving DecidableEq, Repr

/-- Lane-control state carried by heads (Table 4.2, R103). -/
structure LaneCtl where
  map : Nat
  quar : Nat
  nextMap : Nat
  chgEpoch : Nat
  ready : Nat
deriving DecidableEq, Repr

/-- What a pending change is (R117, R126). -/
inductive ChgKind where
  | linkUp | add | failure | planned
deriving DecidableEq, Repr

/-- How a planned shed stands (R126). -/
inductive PlanSt where
  | none | proposed | acked | responder
deriving DecidableEq, Repr

/-- Coding state of a port (R95 to R130). -/
structure CodeSt where
  slotCnt : Nat
  map : Nat
  quar : Nat
  nextMap : Nat
  chgEpoch : Nat
  chg : Option ChgKind
  plan : PlanSt
  /-- the partner's lane-control state as agreed by two heads, and the head that awaits its second (R103) -/
  partner : LaneCtl
  lastHead : Option LaneCtl
  /-- alignment periods since ALIGN was entered (R120) -/
  alignPeriods : Nat
  /-- the follower has loaded its transmit count (R111) -/
  loaded : Bool
  noticeId : Nat
  /-- lanes of own planned requests that wait, and the epoch a DECLINE named for them (R557) -/
  waitShed : Nat
  planWait : Option Nat
  /-- the planned change in progress is a shed under R230 -/
  planCap : Bool
  /-- the WR_STAT bits of the initiators whose LANE_REQ.SHED waits, and of the one whose request is proposed (R557) -/
  waitBits : Nat
  planBits : Nat
  /-- NOTICE_ID of the partner's latest LANE_NOTICE, and the planned proposal of its heads that was last declined: NEXT_MAP and epoch
  (R556, R557) -/
  noticeSeen : Nat
  declined : Option (Nat × Nat)
  /-- lanes whose ADD_NOTICE is out, and lanes whose notice waits after DECLINE with the epoch (R557) -/
  addSent : Nat
  addWait : Option (Nat × Nat)
  corrSym : Nat
  corrFol : Nat
  uncFol : Nat
  erase : Nat
  hostBad : Nat
  headCrc : Nat
  badBlk : Nat
  shedCnt : Nat
  addedCnt : Nat
  shedValid : Bool
  shedCause : Nat
  shedLane : Nat
  readdCtrl : Word
  /-- folios decoded and symbols corrected in the current guarantee window (Table 8.7) -/
  winDecoded : Nat
  winCorr : Nat
  winUnc : Nat
  winRecv : Nat
  /-- folios sent in the slot in progress, as the line symbols of each lane (R101) -/
  lineOut : List (Nat × List Int)
deriving DecidableEq, Repr

/-- A scheduled send of a replay entry (R201 to R203). -/
inductive Sched where
  | attempt | abandon | busy
deriving DecidableEq, Repr

/-- One replay entry (R194). -/
structure Replay where
  seq : Nat
  blocks : List Block
  attempts : Nat
  attMax : Nat
  /-- places of each send, latest first: (lane, slot count [10:0]) -/
  places : List (Nat × Nat)
  /-- lanes that carried an attempt (R116) -/
  lanes : List Nat
  lastAbandon : Bool
  sched : Option Sched
  waited : Bool
deriving DecidableEq, Repr

/-- One place of the place log: slot, lane, and the SEQ with its send number, none for a void (R194). -/
structure PlaceRec where
  slot : Nat
  lane : Nat
  carried : Option (Nat × Nat)
deriving DecidableEq, Repr

/-- A pending NAK entry (R199, R200). -/
structure Nak where
  lane : Nat
  slot : Nat
  busy : Bool
  sends : Nat
  /-- due for (another) send -/
  due : Bool
  waited : Bool
deriving DecidableEq, Repr

/-- A folio held for reorder (R196): its blocks but FILL, the positions they came in, the ATTEMPT it came with, and the
counter's time of its first symbol at the line balls (R470). -/
structure HeldFol where
  seq : Nat
  blocks : List Block
  places : List Nat
  attempt : Nat
  time : Int
deriving DecidableEq, Repr

/-- Link reliability engine (R191 to R212). -/
structure LreSt where
  run : Bool
  stall : Bool
  depth : Nat
  txNext : Nat
  /-- the ACK last accepted (R198) -/
  lastAck : Nat
  replay : List Replay
  placeLog : List PlaceRec
  rxNext : Nat
  held : List HeldFol
  naks : List Nak
  /-- cut-off of each quarantined lane: received slots at or above are not examined (R204) -/
  cutoff : List (Nat × Nat)
  resKib : Nat
  txNew : Nat
  txResend : Nat
  at2 : Nat
  at3 : Nat
  errFol : Nat
  errBlk : Nat
  nakSent : Nat
  nakActed : Nat
  dup : Nat
  stale : Nat
  busyCnt : Nat
  waitCnt : Nat
  disc : Nat
deriving DecidableEq, Repr

/-- How far a sounding reception has come (R142 to R146). -/
inductive SndRxSt where
  | none | preamble | synced | payload
deriving DecidableEq, Repr

/-- One sounding instance (R132 to R151, Table 5.20). -/
structure SndInst where
  rx : SndRxSt
  /-- reference power of the reception, units of 0.25 dB (R142) -/
  refPow : Int
  /-- CAP_MARGIN read at the start of the reception (R147) -/
  capMargin : Nat
  agcFrozen : Bool
  /-- TYPE, LEN and PSF of the header received -/
  hdr : Option (Nat × Nat × Nat)
  /-- PAIR of the reception, or of the last one: the frame is on TX0 (R139) -/
  pair : Bool
  rxOk : Nat
  crcErr : Nat
  hdrErr : Nat
  trunc : Nat
  detect : Nat
  falseDet : Nat
  superseded : Nat
  captured : Nat
  txFrames : Nat
  ignored : Nat
deriving DecidableEq, Repr

/-- A sounding frame to send: type, payload bytes, resends made, and whether it is a TRAIN_STAT that R167 requires an answer to
(R149). -/
structure SndFrame where
  typ : Nat
  payload : List Byte
  resends : Nat
  asks : Bool := false
deriving DecidableEq, Repr

/-- Which negotiation runs (SND_STAT.PATH). -/
inductive SndPath where
  | none | native | ieee | soundingOnly
deriving DecidableEq, Repr

/-- SND_STAT.PATH codes (Table 5.17). -/
def SndPath.code : SndPath → Nat
  | .none => 0 | .native => 1 | .ieee => 2 | .soundingOnly => 3

/-- An OFFER as Table 5.10 lays it out. -/
structure Offer where
  no : Nat
  mode : Nat
  rate : Nat
  laneSet : Nat
  minLanes : Nat
  rangeL : Nat
  rangeF : Nat
  cmSf : Nat
  features : Nat
  rtt : Nat
  replay : Nat
deriving DecidableEq, Repr

/-- One lane estimate of a PROBE (R160). -/
structure LaneEst where
  detected : Bool
  usable : Bool
  snr : Nat
  skew : Int
  il1 : Nat
  il175 : Nat
deriving DecidableEq, Repr

/-- What a CALL or RETURN says of its sender (Table 5.8). -/
structure CallInfo where
  version : Nat
  part : Nat
  uid : Nat
  port : Nat
  lanes : Nat
  rand : Nat
  modes : Nat
  rates : Nat
  minLanes : Nat
  rangeMax : Nat
  cmSf : Nat
  mgmtSf : Nat
  replay : Nat
deriving DecidableEq, Repr

/-- Sounding and negotiation of a port (R132 to R170). -/
structure SndSt where
  diff : SndInst
  cm : SndInst
  /-- queued common-mode frames, in order of queueing (R150) -/
  queue : List SndFrame
  /-- the common-mode frame in progress -/
  cur : Option SndFrame
  /-- frames sent that expect a reply (R149) -/
  await : List SndFrame
  /-- the differential frame that is due, with its base SF, and whether it is a reply due under R148 -/
  diffDue : Option (SndFrame × Nat × Bool)
  /-- the differential frame in progress -/
  diffCur : Option SndFrame
  /-- the differential frame last sent, for resends (R163), and its resends -/
  diffLast : Option SndFrame
  diffResends : Nat
  /-- the lane whose probe burst is being sent (R160) -/
  train : Option Nat
  /-- RESULT code of a closing OFFER sent or being answered (R164) -/
  closing : Option Nat
  /-- QUIET_EN as read on entering SOUND (R271) -/
  quietOffer : Bool
  path : SndPath
  leader : Bool
  pairTx : Bool
  step : Nat
  result : Nat
  /-- rounds begun in the current SOUND window (R153) -/
  round : Nat
  /-- offset of the round's CALL in µs; none once it is sent or cancelled (R153) -/
  callOfs : Option Nat
  rand : Nat
  partner : Option CallInfo
  session : Nat
  sessionSf : Nat
  /-- estimates of the partner's train by this side, and of this side's by the partner (R160) -/
  estRx : List LaneEst
  estTx : List LaneEst
  /-- lane-0 round trip measured by the leader, 0.1 ns (R160) -/
  rtt0 : Nat
  offer : Option Offer
  /-- agreed parameters from GO until DOWN (R162) -/
  agreed : Option Offer
  /-- GO has been sent or received; TRAIN starts TRAIN_GO_DELAY later -/
  goDone : Bool
  set : Nat
  /-- TRAIN_STAT: own SEQ, last partner SEQ, responses, and a switch announced (R167) -/
  tsSeq : Nat
  tsAck : Nat
  tsResp : List Nat
  switchTo : Option Nat
  /-- tap requests to carry in the next TRAIN_STAT, as firmware set them -/
  tapReq : List Word
  partnerConv : Nat
  partnerCdr : Nat
  partnerStep : Nat
  /-- TRAIN_STATs are due to be sent -/
  tsDue : Bool
  negPartner : Word
  negUid : Nat
  /-- the sounding registers as read on entering SOUND, DOWN and TRAIN (R170) -/
  ctrl : Word
  diffCtrl : Word
  cmCtrl : Word
deriving DecidableEq, Repr

/-- States of an IEEE sub-port (Table 6.9). -/
inductive SubState where
  | down | parley | train | up
deriving DecidableEq, Repr

/-- IEEE_SUBs_STAT.STATE. -/
def SubState.code : SubState → Nat
  | .down => 0 | .parley => 1 | .train => 2 | .up => 3

/-- What the parse of a 257-bit block says of it (R179): idle or LPI between packets, the start, the end or the middle of a packet, an
ordered set, or a block marked as errored (R178). -/
inductive PcsKind where
  | idle | lpi | start | term | ordered | data | errored
deriving DecidableEq, Repr

/-- A 257-bit block of a codeword, with its parse (R178, R179). -/
structure PcsBlock where
  kind : PcsKind
  bits : BitVec 257
deriving DecidableEq, Repr

/-- Rate compensation after an overflow (R179): none; whole packets go from the next start block; a packet is being dropped. -/
inductive RcDrop where
  | none | armed | dropping
deriving DecidableEq, Repr

/-- A coefficient request of a clause's link training (R181): a preset with its taps, or a step of one of the taps MAIN, POST1, PRE1,
POST2, PRE2, PRE3, up or down. -/
inductive CoefReq where
  | preset (t : Taps)
  | step (tap : Fin 6) (up : Bool)
deriving DecidableEq, Repr

/-- One IEEE sub-port (R175 to R190). -/
structure IeeeSub where
  state : SubState
  phy : Nat
  precodeTx : Bool
  precodeRx : Bool
  rcOvf : Bool
  lastDown : Nat
  /-- advertisement mask in force and the one waiting for the next Clause 73 start (R189) -/
  advMask : Nat
  advNext : Nat
  /-- it waits for its group to provide 53.125 GHz (R177) -/
  waitGroup : Bool
  /-- the partner's base page of the current attempt (R155, Table 6.6) -/
  page : Option (BitVec 48)
  /-- the PHYs that page offers, bit code − 1 -/
  able : Nat
  /-- the lanes whose last coefficient request was answered coefficient-at-limit (R181) -/
  atLimit : Nat
  /-- the PCS lane that the alignment markers identify on each line lane used, ascending (R178, R180) -/
  pcsOrder : List Nat
  /-- the hold-off of R182 runs -/
  retry : Bool
  corrCw : Nat
  uncCw : Nat
  sym : Nat
  rcIns : Nat
  rcDel : Nat
  /-- blocks in the compensation buffers, of 64: line to host and host to line (R179) -/
  comp : Nat
  compTx : Nat
  /-- whole packets are being dropped, each direction (R179) -/
  drop : RcDrop
  dropTx : RcDrop
  /-- the blocks last passed on to the host and to the line (R178, R184) -/
  toHost : List PcsBlock
  toLine : List PcsBlock
deriving DecidableEq, Repr

/-- Where a parcel of a queue is: closed and waiting in elastic SRAM, written to a link and region (0 common, 1 to 3 a
class's shelf, R218) with the SPILL_GEN.GEN of its writing and its store slot, or flushed, its ERRORED blocks standing in its place (R234). -/
inductive ParcelPlace where
  | waiting
  | stored (link : CxlId) (region gen slot : Nat)
  | flushed
deriving DecidableEq, Repr

/-- A parcel of a queue (R219). -/
structure Parcel where
  pseq : Nat
  blocks : List Block
  place : ParcelPlace
deriving DecidableEq, Repr

/-- One spill queue of a port and direction (R229, R230). -/
structure SpillQ where
  head : List Block
  /-- the parcels in queue order, written or waiting to be -/
  parcels : List Parcel
  /-- the open parcel: the tail being packed -/
  tail : List Block
  pseq : Nat
  /-- blocks returned from the store, in the head -/
  returned : Nat
  /-- reads granted of the parcels at the front of the store part and not yet back (R223) -/
  reading : Nat
deriving DecidableEq, Repr

/-- Queues, holds and guarantee of a port (R222 to R238). -/
structure PortSpill where
  h2l : SpillQ
  l2h : SpillQ
  hold1 : Bool
  hold2 : Bool
  hold3 : Bool
  hold4 : Bool
  guar : Bool
  noguar : Nat
  /-- a host violation, and failed continuous conditions, in the current window (R236) -/
  winViol : Bool
  winFail : Nat
  flush : Nat
  flushBlk : Nat
  disc : Nat
  viol : Nat
  lost : Nat
  drop : Nat
  /-- the number of dropped blocks whose ERRORED replacement waits for room (R233) -/
  owed : Nat
  /-- parcel writes and reads granted in the current interval (R223) -/
  gW : Nat
  gR : Nat
deriving DecidableEq, Repr

/-- Host transmit state (R251). -/
inductive HostTx where
  | idle | framing | localFault | halt
deriving DecidableEq, Repr

/-- Host side of a port (R239 to R260). -/
structure HostSt where
  tx : HostTx
  rxLock : Nat
  rxFail : Nat
  txFail : Nat
  /-- logical lane of each physical lane; 15 for none, each direction (Table 9.2) -/
  rxMap : Vector Nat 12
  txMap : Vector Nat 12
  /-- map announced for the next frame: as the host's markers say, with the number that agree, and the device's own -/
  rxNext : Option (List Nat × Nat)
  /-- the map decided for the device's next announcement, and the one its markers announce in this frame (R249) -/
  txNext : Option (List Nat)
  txAnn : Option (List Nat)
  /-- FAIL mask of the latest marker, awaiting a second that agrees -/
  failSeen : Nat
  /-- FRAME of the last valid marker of each receive lane, and consecutive expected markers that failed (R246) -/
  rxMark : Vector (Option Nat) 12
  rxMiss : Vector Nat 12
  frame : Nat
  rxFrame : Nat
  /-- periods, counted from frame 0, of each lane's uncorrectable codewords within the last 1,024 (R248) -/
  uncAt : Vector (List Nat) 12
  corrCw : Nat
  uncCw : Nat
  rxFails : Nat
  txMoves : Nat
  mapMiss : Nat
  /-- blocks discarded during HALT (R251) -/
  haltDisc : Nat
  /-- blocks delivered to the host since the last slot boundary, oldest first -/
  out : List Block
  /-- the part of a block that host egress has room for beyond the whole blocks of the slots so far, in units of
  1 / (256 × rate × 100,000) with the rate in GBd (R247) -/
  egress : Nat
  /-- EVENT bit of the status word, and the bits it was judged on (R255) -/
  event : Bool
  word : Nat
deriving DecidableEq, Repr

/-- One timestamp entry (R470, Table 19.9): its time in units of 2^-40 ns, and the SEQ of the folio that carried a block
sent, so that a resend can mark it. -/
structure TsEntry where
  time : Nat
  rx : Bool
  epoch : Nat
  retry : Bool
  tag : Nat
  seq : Option Nat
deriving DecidableEq, Repr

/-- Native link time transfer and timestamps of a port (R470 to R475, R481). -/
structure PortTime where
  tsCtrl : Word
  fifo : List TsEntry
  drop : Nat
  /-- the entry popped by TS_ENTRY0, for its other words -/
  popped : Option TsEntry
  /-- the mark precedes the next block, each path, with its tag (R470) -/
  markTx : Option Nat
  markRx : Option Nat
  /-- latest alignment folios sent and received: SLOT and time, newest first (R474) -/
  sentAl : List (Nat × Nat)
  recvAl : List (Nat × Nat)
  /-- TIME_LINK_OFS and TIME_LINK_DLY -/
  ofs : Int
  dly : Int
  /-- TS_LAT transmit and receive in force, 1 ps, and whether measured (R292) -/
  latTx : Nat
  latRx : Nat
  latMeas : Bool
deriving DecidableEq, Repr

/-- What holds a port for diagnostics (DIAG_STAT.RUNNING, Table 12.12). -/
inductive DiagKind where
  | tdr | rl | next | il | capture | serving
deriving DecidableEq, Repr

/-- DIAG_STAT.RUNNING. -/
def DiagKind.code : DiagKind → Nat
  | .tdr => 1 | .rl => 2 | .next => 3 | .il => 4 | .capture => 5 | .serving => 6

/-- One event of a TDR result (Table 12.6). -/
structure TdrEvent where
  mm : Nat
  tau : Nat
  rho : Int
  kind : Nat
deriving DecidableEq, Repr

/-- A kept result table of one kind and index (Tables 12.5 and 12.6): an entry not measured is 0xFFFF. -/
structure DiagResult where
  kind : Nat
  index : Nat
  result : Nat
  fs : Nat
  time : Nat
  vf : Nat
  events : List TdrEvent
  entries : List Nat
deriving DecidableEq, Repr

/-- How far an insertion-loss exchange has come (R315): at the initiator the request is out, then the measurement runs
and its expected end; at the partner the schedule waits to start or runs. -/
inductive IlState where
  | none | requested | measuring | granted | driving
deriving DecidableEq, Repr

/-- Diagnostics of a port (R308 to R323). -/
structure PortDiag where
  ctrl : Word
  running : Option DiagKind
  lastStatus : Nat
  /-- kept results of the last completed run of each kind (R317) -/
  kept : List DiagResult
  il : IlState
  /-- IL_REQ of the exchange in progress, for resends and for the schedule: UID, port, MASK, RANGE, FS, CABLE, SF -/
  ilUid : Nat
  ilPort : Nat
  ilMask : Nat
  ilRange : Nat
  ilFs : Nat
  ilCable : Nat
  ilSf : Nat
  ilResends : Nat
  /-- the TX_TONE_CTRL in force of each lane that a diagnostic uses, to return to (R309) -/
  toneSaved : List (Nat × Word)
  /-- the transmit range in force of each lane that a partner's schedule drives, to return to (R315) -/
  rangeSaved : List (Nat × Nat)
  /-- kinds and pairs that recorded NOT_QUIET since the last completed run of their kind (R312) -/
  notQuiet : List (Nat × Nat)
  /-- VF and threshold of a TDR in progress -/
  vf : Nat
  threshold : Nat
  mask : Nat
deriving DecidableEq, Repr

/-- What a COUNTERS record of the ledger reports of a port over its period (Table 20.10). -/
structure PortCtr where
  /-- uptime of the last accrual -/
  since : Nat
  /-- uptime units spent in UP, DEGRADED, QUIET, WAKE and other states -/
  up : Nat
  degraded : Nat
  quiet : Nat
  wake : Nat
  other : Nat
  /-- it was not in DOWN with its link disabled at some moment of the period -/
  active : Bool
  downs : Nat
  sheds : Nat
  h2l : Nat
  l2h : Nat
  errored : Nat
  retried : Nat
  abandoned : Nat
  guarLost : Nat
  flushes : Nat
  hostFails : Nat
deriving DecidableEq, Repr

/-- A period with nothing counted. -/
def PortCtr.zero : PortCtr :=
  { since := 0, up := 0, degraded := 0, quiet := 0, wake := 0, other := 0, active := false, downs := 0, sheds := 0,
    h2l := 0, l2h := 0, errored := 0, retried := 0, abandoned := 0, guarLost := 0, flushes := 0, hostFails := 0 }

/-- One port. -/
structure Port where
  st : Vector StReg 9
  commit : CommitSt
  lanes : Vector Lane 8
  link : LinkSt
  code : CodeSt
  lre : LreSt
  snd : SndSt
  ieee : Vector IeeeSub 8
  spill : PortSpill
  cls : Nat
  host : HostSt
  time : PortTime
  diag : PortDiag
  ctr : PortCtr
  /-- the port causes 0x08 to 0x12 (Table 17.5) -/
  flt : Vector FltInst 11
  fltEn : Word
deriving DecidableEq, Repr

/-- The staged register r of a port. -/
def Port.reg (p : Port) (r : PortSt) : StReg := p.st[r.ix.val]
/-- The value in force of a port's staged register. -/
def Port.act (p : Port) (r : PortSt) : Word := (p.reg r).inForce
/-- Replace a staged register of a port. -/
def Port.setReg (p : Port) (r : PortSt) (f : StReg → StReg) : Port := { p with st := updAt p.st r.ix f }
/-- Change one lane of a port. -/
def Port.modLane (p : Port) (n : LaneId) (f : Lane → Lane) : Port := { p with lanes := updAt p.lanes n f }
/-- Change every lane of a port. -/
def Port.mapLanes (p : Port) (f : LaneId → Lane → Lane) : Port := { p with lanes := mapIdx p.lanes f }

/-- Link control after reset. -/
def LinkSt.reset : LinkSt :=
  { state := .down, lastDown := 0, downDue := none, restart := false, fullLanes := 0, inWindow := false, winSlot := 0,
    quietPend := false, quietEpoch := 0, quietQ := 0, refreshK := 0, quietReq := none, quietHold := false,
    wakeRole := .none, burst := false, bursts := 0, wakeData := false, wakeHeads := 0, downs := 0, degrades := 0,
    wakes := 0, wakeFail := 0, winPfec := 0, winUnc := 0, snapDone := true, snapSlot := 0, retryHold := false }

/-- No lane-control state. -/
def LaneCtl.zero : LaneCtl := { map := 0, quar := 0, nextMap := 0, chgEpoch := 0, ready := 0 }

/-- Coding state of a port after reset. -/
def CodeSt.reset : CodeSt :=
  { slotCnt := 0, map := 0, quar := 0, nextMap := 0, chgEpoch := 0, chg := none, plan := .none,
    partner := LaneCtl.zero, lastHead := none, alignPeriods := 0, loaded := false, noticeId := 0, waitShed := 0,
    planWait := none, planCap := false, waitBits := 0, planBits := 0, noticeSeen := 0, declined := none, addSent := 0, addWait := none, corrSym := 0, corrFol := 0, uncFol := 0, erase := 0,
    hostBad := 0, headCrc := 0, badBlk := 0, shedCnt := 0, addedCnt := 0, shedValid := false, shedCause := 0,
    shedLane := 0, readdCtrl := 0x08000064, winDecoded := 0, winCorr := 0, winUnc := 0, winRecv := 0,
    lineOut := [] }

/-- The engine after reset. -/
def LreSt.reset : LreSt :=
  { run := false, stall := false, depth := 0, txNext := 0, lastAck := 0, replay := [], placeLog := [], rxNext := 0,
    held := [], naks := [], cutoff := [], resKib := 0, txNew := 0, txResend := 0, at2 := 0, at3 := 0, errFol := 0,
    errBlk := 0, nakSent := 0, nakActed := 0, dup := 0, stale := 0, busyCnt := 0, waitCnt := 0, disc := 0 }

/-- A sounding instance after reset. -/
def SndInst.reset : SndInst :=
  { rx := .none, refPow := 0, capMargin := 0, agcFrozen := false, hdr := none, pair := false, rxOk := 0, crcErr := 0, hdrErr := 0,
    trunc := 0, detect := 0, falseDet := 0, superseded := 0, captured := 0, txFrames := 0, ignored := 0 }

/-- Sounding and negotiation after reset. -/
def SndSt.reset : SndSt :=
  { diff := SndInst.reset, cm := SndInst.reset, queue := [], cur := none, await := [], diffDue := none,
    diffCur := none, diffLast := none, diffResends := 0, train := none, closing := none, quietOffer := false, path := .none, leader := false, pairTx := false, step := 0,
    result := 0, round := 0, callOfs := none, rand := 0, partner := none, session := 0, sessionSf := 9, estRx := [],
    estTx := [], rtt0 := 0, offer := none, agreed := none, goDone := false, set := 0, tsSeq := 0, tsAck := 0,
    tsResp := List.replicate 8 0, switchTo := none, tapReq := List.replicate 8 0, partnerConv := 0, partnerCdr := 0,
    partnerStep := 0, tsDue := false, negPartner := 0, negUid := 0, ctrl := PortSt.sndCtrl.reset,
    diffCtrl := PortSt.sndDiffCtrl.reset, cmCtrl := PortSt.sndCmCtrl.reset }

/-- A sub-port after reset; masks are all ones (R189). -/
def IeeeSub.reset : IeeeSub :=
  { state := .down, phy := 0, precodeTx := false, precodeRx := false, rcOvf := false, lastDown := 0, advMask := 0xFF,
    advNext := 0xFF, waitGroup := false, page := none, able := 0, atLimit := 0, pcsOrder := [], retry := false, corrCw := 0, uncCw := 0,
    sym := 0, rcIns := 0, rcDel := 0, comp := 32, compTx := 32, drop := .none, dropTx := .none, toHost := [], toLine := [] }

/-- An empty queue. -/
def SpillQ.empty : SpillQ := { head := [], parcels := [], tail := [], pseq := 0, returned := 0, reading := 0 }

/-- Queues and guarantee after reset. -/
def PortSpill.reset : PortSpill :=
  { h2l := SpillQ.empty, l2h := SpillQ.empty, hold1 := false, hold2 := false, hold3 := false, hold4 := false,
    guar := false, noguar := 0, winViol := false, winFail := 0, flush := 0, flushBlk := 0, disc := 0, viol := 0,
    lost := 0, drop := 0, owed := 0, gW := 0, gR := 0 }

/-- Host side after reset: HOST_MAP reads no lane used and no spare (Table 9.11). -/
def HostSt.reset : HostSt :=
  { tx := .idle, rxLock := 0, rxFail := 0, txFail := 0, rxMap := Vector.replicate 12 15,
    txMap := Vector.replicate 12 15, rxNext := none, txNext := none, txAnn := none, failSeen := 0,
    rxMark := Vector.replicate 12 none, rxMiss := Vector.replicate 12 0, frame := 0, rxFrame := 0,
    uncAt := Vector.replicate 12 [], corrCw := 0, uncCw := 0, rxFails := 0, txMoves := 0, mapMiss := 0,
    haltDisc := 0, out := [], egress := 0, event := false, word := 0 }

/-- Time state of a port after reset (Table 19.9). -/
def PortTime.reset : PortTime :=
  { tsCtrl := 0x5A000000, fifo := [], drop := 0, popped := none, markTx := none, markRx := none, sentAl := [],
    recvAl := [], ofs := 0, dly := 0, latTx := 0, latRx := 0, latMeas := false }

/-- Diagnostics of a port after reset (Tables 12.11 and 12.12). -/
def PortDiag.reset : PortDiag :=
  { ctrl := 0x00000090, running := none, lastStatus := 0, kept := [], il := .none, ilUid := 0, ilPort := 0, ilMask := 0,
    ilRange := 0, ilFs := 0, ilCable := 0, ilSf := 9, ilResends := 0, toneSaved := [], rangeSaved := [], notQuiet := [], vf := 140, threshold := 0,
    mask := 0 }

/-- A port after reset. -/
def Port.reset : Port :=
  { st := Vector.ofFn fun i => StReg.mk0 ((PortSt.all[i.val]'(by have := i.isLt; simp [PortSt.all])).reset),
    commit := CommitSt.zero, lanes := Vector.replicate 8 Lane.reset, link := LinkSt.reset, code := CodeSt.reset,
    lre := LreSt.reset, snd := SndSt.reset, ieee := Vector.replicate 8 IeeeSub.reset, spill := PortSpill.reset,
    cls := 0, host := HostSt.reset, time := PortTime.reset, diag := PortDiag.reset, ctr := PortCtr.zero,
    flt := Vector.replicate 11 FltInst.zero, fltEn := 0x000006F7 }

end Sys2Proof.Machine
end

