-- ==== Sys2Proof/Machine/HubState.lean ====
section
/-!
DEFINITION. State of the pods' shared resources (R16 to R30) and of the hub blocks that faults (R417 to R436), firmware
and ledger (R482 to R514), registers (R515 to R532), spill store (R214 to R228) and fast status bus (R252 to R259) need.
-/
namespace Sys2Proof.Machine

/-- The parts (Table 0.1). -/
inductive Part where
  /-- MLB-9620A -/
  | a
  /-- MLB-9620S -/
  | s
  /-- MLB-9648A -/
  | b48
deriving DecidableEq, Repr

/-- GLB_DEV_ID.PART (Table 0.1). -/
def Part.code : Part → Nat
  | .a => 1 | .s => 2 | .b48 => 3
/-- Ports of a part. -/
def Part.ports : Part → Nat
  | .b48 => 48 | _ => 96
/-- Pods of a part. -/
def Part.pods : Part → Nat
  | .b48 => 4 | _ => 8
/-- Spill store, CXL ports, classes 1 to 3, capture (Table 0.1, R8). -/
def Part.hasStore : Part → Bool
  | .s => false | _ => true
/-- Native duplex (Table 0.1). -/
def Part.hasDuplex : Part → Bool
  | .s => false | _ => true
/-- Whether the part has a port. -/
def Part.hasPort (p : Part) (n : PortId) : Bool := decide (n.val < p.ports)
/-- Whether the part has a pod. -/
def Part.hasPod (p : Part) (k : PodId) : Bool := decide (k.val < p.pods)

/-- A multiplying loop that can lose lock (Table 13.3). -/
inductive PllSel where
  | lane (k : PodId) (g : GroupId)
  | host (k : PodId) (h : Fin 2)
  | stack
  | cxl
deriving DecidableEq, Repr

/-- The element of a region check (Table 14.7). -/
inductive RegionElem where
  | supply | temp | clock
deriving DecidableEq, Repr

/-- A region check's measurement (Table 14.7): the region's and the hub's core rails in mV, the temperatures, which the sensors hold, or the
CLK_DSP cycles in 2^16 cycles of the returned CLK_FAB. -/
inductive RegionMeas where
  | supply (region hub : Nat)
  | temp
  | clock (cycles : Nat)
deriving DecidableEq, Repr

/-- The initiators of register accesses (R520, Table 21.13). -/
inductive Initiator where
  | lib | clerk | pcie | spi | mdio
deriving DecidableEq, Repr

/-- The bit of an initiator in GLB_WR_STAT (Table 21.13). -/
def Initiator.bit : Initiator → Nat
  | .lib => 0 | .clerk => 1 | .pcie => 2 | .spi => 3 | .mdio => 4

/-- What the latest register access answered (R347, R516, R518). -/
inductive BusReply where
  | none | value (w : Word) | written | ignored | busError
deriving DecidableEq, Repr

/-- Latched upper words of a wide register for one initiator (R525). -/
structure Latch where
  who : Initiator
  addr : Nat
  upper : Nat
deriving DecidableEq, Repr

/-- Frequencies of a lane PLL group (Table 1.6). -/
inductive PllFreq where
  | none | f592 | f518 | f444 | f53125
deriving DecidableEq, Repr

/-- POD_LPLL_STATg.FREQ. -/
def PllFreq.code : PllFreq → Nat
  | .none => 0 | .f592 => 1 | .f518 => 2 | .f444 => 3 | .f53125 => 4

/-- One lane PLL group (R18 to R23). -/
structure LpllGroup where
  /-- PLAN as written, and the plan that has taken effect (R21) -/
  plan : Nat
  planInForce : Nat
  freq : PllFreq
  lock : Bool
  /-- the frequency a retune in progress goes to -/
  target : Option PllFreq
  /-- a frequency that a port needs and that a sounding frame in progress holds back (R19) -/
  need : Option (PortId × PllFreq)
  /-- ports of the group that wait under R20 or R21 -/
  waiting : List PortId
deriving DecidableEq, Repr

/-- Kinds of bridge traffic in falling priority (R26). -/
inductive FlitKind where
  | fault | time | mgmt | spill | capture
deriving DecidableEq, Repr

/-- One direction of a bridge's packet path (R25, R26, R30): bytes of fault and time, and of management, sent in the current
microsecond; whether spill has had every opportunity of it and of the last one; whether a capped kind waits; the kind sent
last; and the replays made of the flit in hand. -/
structure BridgeDir where
  sentFt : Nat
  sentMg : Nat
  satNow : Bool
  sat : Bool
  capped : Bool
  last : Option FlitKind
  replays : Nat
deriving DecidableEq, Repr

/-- A pod's bridge (R25 to R30). -/
structure Bridge where
  up : Bool
  replayCnt : Nat
  toHub : BridgeDir
  toPod : BridgeDir
deriving DecidableEq, Repr

/-- Adaptive supply of a pod (R360 to R362, Tables 14.10 and 14.11). -/
structure PodAvs where
  ctrl : Word
  target : Nat
  atMax : Bool
  busErr : Bool
  iout : Nat
  margin : Nat
  /-- consecutive examinations with low margin at VMAX -/
  lowRun : Nat
  /-- the target before the one in force, and the uptime at which it changed (Table 14.8) -/
  prev : Nat
  setAt : Nat
  /-- a Voltage write waits for a retry, and its retries (R361) -/
  retries : Nat
  writePend : Bool
deriving DecidableEq, Repr

/-- A temperature sensor (R366, R367). -/
structure Sensor where
  valid : Bool
  /-- reading in units of 0.125 °C -/
  reading : Int
  fails : Nat
  tripRun : Nat
deriving DecidableEq, Repr

/-- Region pair elements: supply, temperature, clock (R363). -/
structure RegionEl where
  bad : Nat
  live : Bool
  /-- the element's deviation is within 75 % of tolerance -/
  quiet : Bool
deriving DecidableEq, Repr

/-- A region pair (R39, R363): its three elements and whether its fault is live. -/
structure RegionPair where
  supply : RegionEl
  temp : RegionEl
  clock : RegionEl
  fault : Bool
deriving DecidableEq, Repr

/-- One pod. -/
structure Pod where
  groups : Vector LpllGroup 4
  /-- lock of host PLLs 0 and 1 -/
  hpll : Vector Bool 2
  /-- PLLs that have lost lock and not regained it: bits 0 to 3 groups, 4 and 5 host PLLs (R332) -/
  pllLost : Nat
  bridge : Bridge
  avs : PodAvs
  sensors : Vector Sensor 2
  region : RegionPair
  /-- consecutive bad bandgap samples (R408) -/
  bgBad : Nat
  rampBad : Nat
  /-- the pod causes 0x18 to 0x21 (Table 17.5) -/
  flt : Vector FltInst 10
  fltEn : Word
  /-- occurrences waiting in the pod for a fault message (R422) -/
  fltQueue : List Occ
  /-- the instances whose last message went less than 1 µs ago, with its uptime (R422) -/
  msgAt : List (Cause × Inst × Nat)
deriving DecidableEq, Repr

/-- Fault collector of the hub (R421 to R435). -/
structure HubFlt where
  /-- the device causes 0x24 to 0x3E -/
  dev : Vector FltInst 27
  devEn : Word
  irqCtrl : Word
  nmi : BitVec 6
  react : Vector Word 64
  /-- the class of the last occurrence of each cause whose class varies -/
  lastCls : Vector (Option FltClass) 64
  recs : Vector FltRec 105
  recSel : Nat
  /-- FLT_SEL and its snapshot -/
  sel : Word
  snapCnt : Word
  snapFirst : Nat
  snapLast : Nat
  snapFlags : Word
  fiEn : Bool
  delivered : Nat
  armed : List Armed
  safe : List SafeHold
  /-- always-on copy of the last class F occurrence (R435) -/
  lastF0 : Word
  lastF1 : Word
  /-- FAULT_N asserted (R426) -/
  faultN : Bool
  /-- FAULT_N was not released at boot step 6 because a cause of class F was pending then (R381) -/
  fHold : Bool
deriving DecidableEq, Repr

/-- Who issued a command packet (R495, R458, R389, R500). -/
inductive Origin where
  | slot (n : SlotId)
  | tunnel (member tag : Nat)
  | stageC
  | farEnd (p : PortId) (tag : Nat)
deriving DecidableEq, Repr

/-- Slot states (R494). -/
inductive SlotState where
  | free | posted | running | done
deriving DecidableEq, Repr

/-- MBX_STAT.STATE codes. -/
def SlotState.code : SlotState → Nat
  | .free => 0 | .posted => 1 | .running => 2 | .done => 3

/-- One mailbox slot (R493, R494). -/
structure Slot where
  state : SlotState
  spi : Bool
  long : Bool
  /-- position in doorbell order -/
  order : Nat
deriving DecidableEq, Repr

/-- A command that runs (R495). -/
structure RunCmd where
  origin : Origin
  opcode : Nat
  tag : Nat
  port : Option PortId
deriving DecidableEq, Repr

/-- States of the Clerk (Table 20.16). -/
inductive ClerkState where
  | held | starting | running | restarting | givenUp
deriving DecidableEq, Repr

/-- FW_STAT.CLERK. -/
def ClerkState.code : ClerkState → Nat
  | .held => 0 | .starting => 1 | .running => 2 | .restarting => 3 | .givenUp => 4

/-- A reply of a command: its status and payload (R496). -/
structure Reply where
  origin : Origin
  opcode : Nat
  status : Nat
  payload : List Byte
deriving DecidableEq, Repr

/-- The Librarian configuration section in force (Table 20.3). -/
structure LibConfig where
  wdogMs : Nat
  giveUp : Nat
  sealN : Nat
  sealMs : Nat
  ctrS : Nat
  witnessS : Nat
  rate : Nat
  burst : Nat
deriving DecidableEq, Repr

/-- Defaults of Table 20.3. -/
def LibConfig.default : LibConfig :=
  { wdogMs := 200, giveUp := 3, sealN := 256, sealMs := 1000, ctrS := 900, witnessS := 60, rate := 100,
    burst := 4096 }

/-- Fragments of a far-end packet as received so far (R498). -/
structure FarBuf where
  port : PortId
  tag : Nat
  next : Nat
  bytes : List (BitVec 8)
deriving DecidableEq, Repr

/-- Command interface and processors (R482 to R500). -/
structure FwSt where
  slots : Vector Slot 8
  nextOrder : Nat
  mbxCtrl : Word
  /-- slot memory, addresses 0 to 0x7FFF: strictly rising, no zero byte listed -/
  mem : List (Nat × BitVec 8)
  running : List RunCmd
  /-- packets that came without a slot and wait to start (R495) -/
  waiting : List (Origin × List Byte)
  lastReply : Option Reply
  /-- an MSI was sent with the last completion (R494) -/
  msi : Nat
  clerk : ClerkState
  restarts : Nat
  viol : Nat
  /-- the first refused access since the Clerk's start has been entered (R485) -/
  violSeen : Bool
  /-- uptimes of the restarts within 60 s, in ns (R492) -/
  restartTimes : List Nat
  /-- LIB_INTEGRITY has been raised: no signature, no seal (R486) -/
  libDead : Bool
  config : LibConfig
  /-- far-end requests outstanding, by port with TAG (R498, R500) -/
  far : List (PortId × Nat × Origin)
  farTag : Nat
  /-- far-end requests and replies being assembled (R498, R499) -/
  farIn : List FarBuf
  farResp : List FarBuf
  /-- image key slots revoked (R487, R488) -/
  revoked : Nat
  svnMin : Nat
  /-- the Librarian's image store: the Clerk firmware section of a streamed image (R490) -/
  imageStore : List Byte
deriving DecidableEq, Repr

/-- One ledger record (Table 20.9). -/
structure LedgerRec where
  accession : Nat
  type : Nat
  flags : Nat
  code : Nat
  time : Nat
  uptime : Nat
  tstate : Nat
  body : List Byte
  chain : BitVec 384
deriving DecidableEq, Repr

/-- A coalesced count waiting to become a SUMMARY record (R506). -/
structure Coalesced where
  type : Nat
  code : Nat
  count : Nat
  first : Nat
  last : Nat
deriving DecidableEq, Repr

/-- A 64 KiB block of the ring (R506): its sequence number and the records programmed so far, at most 341. -/
structure LedgerBlock where
  seq : Nat
  recs : List LedgerRec
deriving DecidableEq, Repr

/-- The ledger (R501 to R510). -/
structure LedgerSt where
  run : Bool
  ringOk : Bool
  reserveOk : Bool
  unanchored : Bool
  /-- ANCHOR_CTR: bits set, out of 131,072 -/
  ctr : Nat
  /-- rollovers since the last increment while unanchored (R504) -/
  k : Nat
  offset : Nat
  newest : Nat
  newestSealed : Nat
  /-- 64 KiB blocks of the ring's region (R506) -/
  ringBlocks : Nat
  /-- the next records programmed start a new block: after a boot, and after a program that failed (R509) -/
  ringSkip : Bool
  chain : BitVec 384
  /-- accession and CHAIN of the latest SEAL (R507) -/
  lastSeal : Option (Nat × BitVec 384)
  /-- the working store: records not yet in the ring, the unsealed ones last (R506, R509) -/
  unsealed : List LedgerRec
  /-- the blocks of the ring that hold records, oldest first -/
  ring : List LedgerBlock
  reserve : List LedgerRec
  allowance : Nat
  coalesced : List Coalesced
  coalCnt : Nat
  sealCnt : Nat
deriving DecidableEq, Repr

/-- A CXL link (R214 to R216, Table 8.14). -/
structure CxlLink where
  /-- 0 absent, 1 training, 2 up, 3 dropped -/
  state : Nat
  /-- 0 ×8, 1 ×4, 2 ×2, 3 not usable -/
  width : Nat
  /-- 0 64 GT/s, 1 32 GT/s, 2 not usable -/
  rate : Nat
  ide : Bool
  fenced : Bool
  /-- the 100 ms of R216 run -/
  qual : Bool
  /-- measured share, units of 0.01 GB/s -/
  dM : Nat
  capGib : Nat
  /-- the device supports IDE, and SPILL_INIT left the link out for want of it (R214, R215) -/
  hasIde : Bool
  excluded : Bool
deriving DecidableEq, Repr

/-- What a training of a CXL port finds (R214, R215): a device, the width and rate codes of MXm_STAT, whether it supports
IDE, its whole GiB, and its share of the measurement in units of 0.01 GB/s. -/
structure CxlTrain where
  present : Bool
  width : Nat
  rate : Nat
  hasIde : Bool
  capGib : Nat
  d : Nat
deriving DecidableEq, Repr

/-- Parameters of a class (Table 8.5), bandwidths in 0.1 GB/s. -/
structure ClassPar where
  min : Nat
  floor : Nat
  weight : Nat
  ceil : Nat
  portCap : Nat
  minEff : Nat
deriving DecidableEq, Repr

/-- The spill store (R214 to R228, R238). -/
structure SpillStore where
  /-- 0 OFF, 1 INIT, 2 RUN, 3 FAIL -/
  state : Nat
  reduced : Bool
  floorBreach : Bool
  /-- CFG_D and NOW_D, units of 0.01 GB/s -/
  cfgD : Nat
  nowD : Nat
  gen : Nat
  ledgerGib : Nat
  captureGib : Nat
  shelf : Vector Nat 3
  commonGib : Nat
  mx : Vector CxlLink 8
  podBw : Vector (Nat × Nat) 8
  cls : Vector ClassPar 3
  /-- start of the grant interval in uptime units, and parcels granted in it to each class, writes and reads (R223) -/
  grantT : Nat
  gW : Vector Nat 3
  gR : Vector Nat 3
  /-- 4 KiB slots of captured segments stored in the interval (R224) -/
  gC : Nat
  /-- each link's credit in the rotation weighted by D_m (R218) -/
  rot : Vector Int 8
deriving DecidableEq, Repr

/-- Fast status interface (R252 to R259). -/
structure FsiSt where
  modeWritten : Nat
  mode : Nat
  clkOk : Bool
  cycle : Nat
  sel : Nat
  /-- FSI_D as driven -/
  d : Word
  /-- the holds in force in the shadow (R252) -/
  holds : Vector Bool 96
deriving DecidableEq, Repr

/-- Register access state (R517 to R531). -/
structure RegSt where
  wrStat : BitVec 5
  wrAddr : Nat
  scratch : Word
  capWin : Nat
  latches : List Latch
  reply : BusReply
  /-- SPI frame flags WR_IGN, LATE, ERR (R519) -/
  spiWrIgn : Bool
  spiLate : Bool
  spiErr : Bool
  mdioPage : BitVec 16
deriving DecidableEq, Repr

/-- A direction that has carried nothing. -/
def BridgeDir.zero : BridgeDir :=
  { sentFt := 0, sentMg := 0, satNow := true, sat := false, capped := false, last := none, replays := 0 }

/-- A sensor before its first conversion. -/
def Sensor.zero : Sensor := { valid := false, reading := 0, fails := 0, tripRun := 0 }
/-- A region element with no sample. -/
def RegionEl.zero : RegionEl := { bad := 0, live := false, quiet := true }
/-- A region pair with no fault. -/
def RegionPair.zero : RegionPair :=
  { supply := RegionEl.zero, temp := RegionEl.zero, clock := RegionEl.zero, fault := false }

/-- A lane PLL group after reset (Tables 1.5 and 1.6). -/
def LpllGroup.reset : LpllGroup :=
  { plan := 0, planInForce := 0, freq := .none, lock := false, target := none, need := none, waiting := [] }

/-- The hub's fault state after a full reset (Tables 17.5 to 17.10). -/
def HubFlt.reset : HubFlt :=
  { dev := Vector.replicate 27 FltInst.zero, devEn := 0x07FFBFFF, irqCtrl := 3, nmi := 0,
    react := Vector.ofFn fun i =>
      match Cause.ofCode i.val with
      | some c => BitVec.ofNat 32 (c.defaultReact ||| c.fixedReact)
      | none => 0,
    lastCls := Vector.replicate 64 none, recs := Vector.replicate 105 FltRec.free, recSel := 0, sel := 0,
    snapCnt := 0, snapFirst := 0, snapLast := 0, snapFlags := 0, fiEn := false, delivered := 0, armed := [],
    safe := [], lastF0 := 0, lastF1 := 0, faultN := true, fHold := false }

/-- A free slot. -/
def Slot.free : Slot := { state := .free, spi := false, long := false, order := 0 }

/-- Command interface after reset. -/
def FwSt.reset : FwSt :=
  { slots := Vector.replicate 8 Slot.free, nextOrder := 0, mbxCtrl := 0, mem := [], running := [], waiting := [],
    lastReply := none, msi := 0, clerk := .held, restarts := 0, viol := 0, violSeen := false, restartTimes := [],
    libDead := false, config := LibConfig.default, far := [], farTag := 0, farIn := [], farResp := [], revoked := 0, svnMin := 0,
    imageStore := [] }

/-- The ledger after reset. -/
def LedgerSt.reset : LedgerSt :=
  { run := false, ringOk := false, reserveOk := false, unanchored := false, ctr := 0, k := 0, offset := 0,
    newest := 0, newestSealed := 0, ringBlocks := 0, ringSkip := false, chain := 0, lastSeal := none, unsealed := [], ring := [], reserve := [], allowance := 0,
    coalesced := [], coalCnt := 0, sealCnt := 0 }

/-- An absent CXL link (Table 8.14). -/
def CxlLink.reset : CxlLink :=
  { state := 0, width := 0, rate := 0, ide := false, fenced := false, qual := false, dM := 0, capGib := 0,
    hasIde := false, excluded := false }

/-- Class parameters after reset (Table 8.15). -/
def ClassPar.reset : ClassPar := { min := 0, floor := 0, weight := 1, ceil := 0x12C0, portCap := 0, minEff := 0 }

/-- The store after reset (Tables 8.12 to 8.15). -/
def SpillStore.reset : SpillStore :=
  { state := 0, reduced := false, floorBreach := false, cfgD := 0, nowD := 0, gen := 0, ledgerGib := 0,
    captureGib := 0, shelf := Vector.replicate 3 0, commonGib := 0, mx := Vector.replicate 8 CxlLink.reset,
    podBw := Vector.replicate 8 (0, 0), cls := Vector.replicate 3 ClassPar.reset, grantT := 0,
    gW := Vector.replicate 3 0, gR := Vector.replicate 3 0, gC := 0, rot := Vector.replicate 8 0 }

/-- The fast status interface after reset (Tables 9.6 and 9.7): every port is held. -/
def FsiSt.reset : FsiSt :=
  { modeWritten := 1, mode := 1, clkOk := false, cycle := 0, sel := 0, d := 0, holds := Vector.replicate 96 true }

/-- Register access state after reset (Table 21.13). -/
def RegSt.reset : RegSt :=
  { wrStat := 0, wrAddr := 0, scratch := 0, capWin := 0, latches := [], reply := .none, spiWrIgn := false,
    spiLate := false, spiErr := false, mdioPage := 0 }

end Sys2Proof.Machine
end

