-- ==== Sys2Proof/Machine/HubState2.lean ====
section
/-!
DEFINITION. State of the hub blocks that stand behind the data path: clocks (R324 to R349), power and regions (R350 to
R370), boot and image (R371 to R394), self-test (R395 to R416), stack links (R437 to R462), time (R463 to R481),
calibration store (R297 to R306) and waveform capture (R319 to R321).
-/
namespace Sys2Proof.Machine

/-- The references of the RPLL (Table 13.1). -/
inductive RefSel where
  | refclk | xa
deriving DecidableEq, Repr

/-- A hub domain clock (R331, R336): CLK_CORE, CLK_FAB, CLK_CTRL, CLK_PERI. -/
structure DomainClk where
  /-- on the FRO; otherwise on the root -/
  fro : Bool
  /-- steps still to take of a move: 15 at its start, the switch taken at 8, none when it does not ramp -/
  ramp : Nat
  /-- the source a ramp goes to is the FRO -/
  toFro : Bool
  running : Bool
deriving DecidableEq, Repr

/-- How a reference is judged (R326): windows passed and the first window's count. -/
structure RefJudge where
  good : Bool
  windows : Nat
  first : Nat
deriving DecidableEq, Repr

/-- Clocks (R324 to R349). -/
structure ClkSt where
  cfg : Word
  gate : Word
  ref : RefJudge
  xa : RefJudge
  xb : Bool
  froOk : Bool
  /-- the XA start-up delay has passed, and XA's first judgement counts as complete (R325, R330) -/
  xaDelay : Bool
  xaFirst : Bool
  /-- the RPLL has been enabled by the boot (R374) -/
  rpllEn : Bool
  froCode : Nat
  sroCode : Nat
  /-- 0 none, 1 REFCLK, 2 XA, 3 stack marks -/
  trimSrc : Nat
  trimmed : Bool
  slowXb : Bool
  rpllSrc : Option RefSel
  rpllLock : Bool
  holdover : Bool
  /-- a recovery of R343 is in progress: the RPLL waits to restart on the other reference, or locks on it -/
  altWait : Bool
  /-- the RPLL is being restarted by a write of RPLL_REF (R349) -/
  refMove : Bool
  dom : Vector DomainClk 4
  dspRun : Bool
  /-- 0 none, 1 root, 2 upstream -/
  stkSrc : Nat
  stkLock : Bool
  cxlLock : Bool
  /-- bit 0 the stack PLL, bit 1 the CXL PLL has lost lock and not regained it -/
  pllLost : Nat
  refDev : Int
  xaDev : Int
  cntRef : Nat
  cntXa : Nat
  cntUnlock : Nat
  cntForced : Nat
deriving DecidableEq, Repr

/-- Clocks after PORST_N (R335, Tables 13.8 to 13.11). -/
def ClkSt.reset : ClkSt :=
  { cfg := 0x000000A2, gate := 0x000100FF, ref := { good := false, windows := 0, first := 0 },
    xa := { good := false, windows := 0, first := 0 }, xb := false, froOk := true, xaDelay := false, xaFirst := false,
    rpllEn := false, froCode := 0x200, sroCode := 0x200, trimSrc := 0, trimmed := false, slowXb := false, rpllSrc := none,
    rpllLock := false, holdover := false, altWait := false, refMove := false,
    dom := Vector.ofFn fun i =>
      { fro := decide (i.val ≠ 0), ramp := 0, toFro := false, running := decide (i.val ≠ 0) },
    dspRun := false, stkSrc := 0, stkLock := false, cxlLock := false, pllLost := 0, refDev := 0, xaDev := 0, cntRef := 0,
    cntXa := 0, cntUnlock := 0, cntForced := 0 }

/-- Supply rails (Table 14.4). -/
inductive Rail where
  | hub | pod (k : PodId) | vddaLine | vddhLine | vddaHost | aon | io
deriving DecidableEq, Repr

/-- Regions, sensors and supplies of the hub (R357 to R370). -/
structure PowerSt where
  thermWarn : Nat
  hubSensors : Vector Sensor 8
  /-- the HUB–AON pair (R363) -/
  aon : RegionPair
  /-- rails below power-good -/
  lost : List Rail
  /-- THERMTRIP_N asserted (R368) -/
  trip : Bool
deriving DecidableEq, Repr

/-- Power state after reset. -/
def PowerSt.reset : PowerSt :=
  { thermWarn := 0x64, hubSensors := Vector.replicate 8 Sensor.zero, aon := RegionPair.zero, lost := [],
    trip := false }

/-- A pod after reset (Tables 1.5 to 1.8, 14.14 to 14.16, 17.5). -/
def Pod.reset : Pod :=
  { groups := Vector.replicate 4 LpllGroup.reset, hpll := Vector.replicate 2 false, pllLost := 0,
    bridge := { up := false, replayCnt := 0, toHub := BridgeDir.zero, toPod := BridgeDir.zero },
    avs := { ctrl := 0x00401828, target := 0x28, atMax := false, busErr := false, iout := 0, margin := 0, lowRun := 0,
             prev := 0x28, setAt := 0, retries := 0, writePend := false },
    sensors := Vector.replicate 2 Sensor.zero, region := RegionPair.zero, bgBad := 0, rampBad := 0,
    flt := Vector.replicate 10 FltInst.zero, fltEn := 0x000001FE, fltQueue := [], msgAt := [] }

/-- A section entry of an image header (Table 15.6). -/
structure Section where
  typ : Nat
  flags : Nat
  ofs : Nat
  size : Nat
  digest : BitVec 384
deriving DecidableEq, Repr

/-- What the Librarian finds in a slot's header (R383 to R385): validity of MAGIC, FORMAT and COUNT, WRITTEN, PARTS, SVN, GEN,
STATE, whether the signature verifies under its own key and that key is one of the OTP, the key slot (4 where none matches),
VERSION, the digest of bytes 0x000 to 0xEFF, LENGTH and the section table. -/
structure SlotHdr where
  formatOk : Bool
  written : Nat
  parts : Nat
  svn : Nat
  gen : Nat
  state : Nat
  sigOk : Bool
  key : Nat
  version : List Byte
  digest : BitVec 384
  length : Nat
  sections : List Section
deriving DecidableEq, Repr

/-- A header of erased flash: every field reads all ones, so the slot is no candidate. -/
def SlotHdr.blank : SlotHdr :=
  { formatOk := false, written := 0xFFFFFFFF, parts := 0xFF, svn := 0xFFFFFFFF, gen := 0xFFFFFFFF, state := 0xFFFFFFFF,
    sigOk := false, key := 4, version := List.replicate 44 0xFF, digest := 0, length := 0xFFFFFFFF, sections := [] }

/-- The limits record (Table 15.9a), field by field in its order. -/
structure Limits where
  sliceOfs : Nat × Nat
  sliceGain : Nat × Nat
  sliceSkew : Nat × Nat
  compNoise : Nat
  dacInUse : Nat
  ctlePeak : Nat
  ctleTrim : Nat
  distRef : Nat
  tsLat : Nat
  skDeskew : Nat
  distDesign : Nat
  tsTxDesign : Nat
  tsRxDesign : Nat
  skDesign : Int
  dacHyst : Nat
  ctlePer : Nat
  ctleHi : Nat
  ctleLo : Nat
  quiet : Nat
deriving DecidableEq, Repr

/-- No limits record read yet. -/
def Limits.zero : Limits :=
  { sliceOfs := (0, 0), sliceGain := (0, 0), sliceSkew := (0, 0), compNoise := 0, dacInUse := 0, ctlePeak := 0,
    ctleTrim := 0, distRef := 0, tsLat := 0, skDeskew := 0, distDesign := 0, tsTxDesign := 0, tsRxDesign := 0,
    skDesign := 0, dacHyst := 0, ctlePer := 0, ctleHi := 0, ctleLo := 0, quiet := 0 }

/-- What holds the flash (R390, R303, R305): the operation, its stage, and who waits for its reply. -/
inductive FlashOp where
  | imgErase | imgWrite | imgCommit | imgConfirm | calStore | calImport
deriving DecidableEq, Repr

/-- A flash operation in progress. -/
structure FlashJob where
  op : FlashOp
  stage : Nat
  origin : Origin
  opcode : Nat
deriving DecidableEq, Repr

/-- Reset, boot and the image (R371 to R394). -/
structure BootSt where
  straps : Word
  /-- BOOT_STAT.PHASE: 0 to 11 the steps, 14 failed, 15 awaiting the stream -/
  step : Nat
  fail : Nat
  trial : Bool
  slot : Nat
  stream : Bool
  noRoot : Bool
  configDone : Bool
  cfgSkip : Nat
  /-- the device configuration section has been verified since the full reset (R51) -/
  verified : Bool
  /-- RESET_CAUSE, in the always-on logic (R372) -/
  cause : Word
  /-- PORST_N low or an internal reset held -/
  inReset : Bool
  hdr : Vector SlotHdr 2
  singleSlot : Bool
  /-- candidates still to try, best first (R385) -/
  cands : List (Fin 2)
  /-- bytes of the stream received, from offset 0 (R388) -/
  streamBuf : List Byte
  /-- header of a streamed image -/
  streamHdr : SlotHdr
  /-- blocks erased of the inactive slot from its start, and the writes made since -/
  erased : Nat
  left : Nat
  writes : List (Nat × List Byte)
  job : Option FlashJob
  txIdle : Nat
  prtad : Nat
  ledgerGib : Nat
  /-- host equaliser settings by (port × 12 + lane): PRE3, PRE2, PRE1, MAIN, POST1 (Table 15.8) -/
  heq : List (List Int)
  limits : Limits
  devReset : Option Nat
  /-- PE_PERST_N low -/
  peReset : Bool
  /-- stage C has ended -/
  stageCEnd : Bool
  /-- the bytes of the stage C list of the device configuration section in force, and the offset of its next record (R389) -/
  stageC : List Byte
  stageCPos : Nat
deriving DecidableEq, Repr

/-- Bytes of the stream received: the offset the next IMG_WRITE must name (R388). -/
def BootSt.streamOfs (b : BootSt) : Nat := b.streamBuf.length

/-- Boot state after a full reset with every strap low. -/
def BootSt.reset : BootSt :=
  { straps := 0, step := 0, fail := 0, trial := false, slot := 0, stream := false, noRoot := false,
    configDone := false, cfgSkip := 0, verified := false, cause := 0, inReset := false, hdr := Vector.replicate 2 SlotHdr.blank,
    singleSlot := false, cands := [], streamBuf := [], streamHdr := SlotHdr.blank, erased := 0, left := 0,
    writes := [], job := none, txIdle := 0x80, prtad := 0, ledgerGib := 1, heq := [],
    limits := Limits.zero, devReset := none, peReset := false, stageCEnd := false, stageC := [],
    stageCPos := 0 }

/-- The parameter block and tables of the device configuration section (Tables 15.8 and 15.9a). -/
structure DevParams where
  txIdle : Nat
  prtad : Nat
  ledgerGib : Nat
  limits : Limits
  heq : List (List Int)
deriving DecidableEq, Repr

/-- A stage C record (R389): CMD with the bytes of its packet. -/
inductive StageC where
  | write (addr : BitVec 32) (v : Word)
  | cmd (packet : List Byte)
  | ends
  | truncated
deriving DecidableEq, Repr

/-- What the Librarian finds in the SFDP table of the flash (R552): quad I/O reads at 100 MHz, 4-byte addressing, 256-byte page
programming and 64 KiB block erase are described; and the capacity in MiB. -/
structure Sfdp where
  quadRead : Bool
  addr4 : Bool
  page256 : Bool
  erase64k : Bool
  mib : Nat
deriving DecidableEq, Repr

/-- Memory groups (Table 16.1). -/
inductive MemGroup where
  | podReplay | podElastic | podLane | hubIndex | hubClerk | hubLib | hubGen
deriving DecidableEq, Repr

/-- The code of a memory group. -/
def MemGroup.code : MemGroup → Nat
  | .podReplay => 1 | .podElastic => 2 | .podLane => 3 | .hubIndex => 4 | .hubClerk => 5 | .hubLib => 6 | .hubGen => 7
/-- Every memory group, in ascending code. -/
def MemGroup.all : List MemGroup := [.podReplay, .podElastic, .podLane, .hubIndex, .hubClerk, .hubLib, .hubGen]
/-- Whether a group belongs to the pods. -/
def MemGroup.inPod : MemGroup → Bool
  | .podReplay | .podElastic | .podLane => true
  | _ => false
/-- Banks of a group, per pod where it belongs to the pods (Table 16.1). -/
def MemGroup.banks : MemGroup → Nat
  | .podReplay | .podLane => 12 | .podElastic => 6 | .hubIndex | .hubClerk => 2 | .hubLib => 1 | .hubGen => 3
/-- Spare rows of a bank (Table 16.1). -/
def MemGroup.spares : MemGroup → Nat
  | .podLane => 4 | .hubLib => 2 | _ => 16

/-- A bank: its group, its pod (0 for a hub group) and its index (R395). -/
structure MemBank where
  group : MemGroup
  pod : Nat
  bank : Nat
deriving DecidableEq, Repr

/-- A failing-bit entry (Table 16.3). -/
structure BitFail where
  row : Nat
  word : Nat
  bit : Nat
  count : Nat
  spare : Bool
  more : Bool
deriving DecidableEq, Repr

/-- What a bank keeps of its last test (R400): result code, kind, entries and MISR. -/
structure BankResult where
  bank : MemBank
  code : Nat
  kind : Nat
  fails : List BitFail
  misr : BitVec 64
deriving DecidableEq, Repr

/-- A soft repair in force (R396): the row replaced and the spare row that replaces it. -/
structure SoftRepair where
  bank : MemBank
  row : Nat
  spare : Nat
deriving DecidableEq, Repr

/-- What the march of a boot pass finds of one bank (R396): the rows that fail, the spare rows that fail, and whether the
march on the repaired bank passes. -/
structure BankPass where
  bank : MemBank
  rows : List Nat
  badSpares : List Nat
  again : Bool
deriving DecidableEq, Repr

/-- What a run of BIST finds of one bank (R398, R399): the count of pattern cycles, the MISR, the failing bits and their rows, and
the spare rows that fail. -/
structure BistFound where
  cycles : Nat
  misr : BitVec 64
  fails : List BitFail
  rows : List Nat
  badSpares : List Nat
deriving DecidableEq, Repr

/-- A BIST_RUN in progress (R397): the banks not yet done, the one under test first. -/
structure BistRun where
  origin : Origin
  left : List MemBank
  all : List MemBank
  diag : Bool
  raw : Bool
  repair : Bool
  partialF : Bool
deriving DecidableEq, Repr

/-- JTAG instructions (Table 16.6). -/
inductive JtagInstr where
  | extest | idcode | samplePreload | extestPulse | extestTrain | clamp | highz | auth | iscan | bypass
deriving DecidableEq, Repr

/-- The instruction an opcode names; any other opcode acts as BYPASS (R409). -/
def JtagInstr.ofOpcode (n : Nat) : JtagInstr :=
  match n with
  | 0x00 => .extest | 0x01 => .idcode | 0x02 => .samplePreload | 0x03 => .extestPulse | 0x04 => .extestTrain
  | 0x05 => .clamp | 0x06 => .highz | 0x40 => .auth | 0x41 => .iscan | _ => .bypass

/-- Self-test (R395 to R416). -/
structure TestSt where
  results : List BankResult
  soft : List SoftRepair
  /-- spare rows retired (R396) -/
  badSpares : List (MemBank × Nat)
  unrep : List MemBank
  /-- the OTP repair map from entry 0: its used entries (R402) -/
  map : List Word
  /-- VPP_EN as driven (R403) -/
  vppEn : Bool
  bist : Option BistRun
  lastMode : Bool
  lastFail : Nat
  lastTrunc : Nat
  /-- consecutive bad bandgap samples of the hub (R408) -/
  hubBg : Nat
  scanLocked : Bool
  scanEnabled : Bool
  scanFails : Nat
  scanPods : Nat
  scanHub : Bool
  /-- the challenge in force (R411) -/
  challenge : Option (List Byte)
  /-- far-end loopback requests that await their answer (R405) -/
  loopReqs : List (PortId × LaneId × Origin)
  jtag : JtagInstr
  /-- the device-wide safe state of an internal scan authorisation is held (R412) -/
  scanSafe : Bool
deriving DecidableEq, Repr

/-- Self-test state after a full reset. -/
def TestSt.reset : TestSt :=
  { results := [], soft := [], badSpares := [], unrep := [], map := [], vppEn := false, bist := none, lastMode := false,
    lastFail := 0, lastTrunc := 0, hubBg := 0, scanLocked := false, scanEnabled := false, scanFails := 0, scanPods := 0,
    scanHub := false, challenge := none, loopReqs := [], jtag := .idcode,
    scanSafe := false }

/-- Stack port states (Table 18.2). -/
inductive StkState where
  | off | clock | lock | align | hello | up
deriving DecidableEq, Repr

/-- STK_PORTs_STAT.STATE. -/
def StkState.code : StkState → Nat
  | .off => 0 | .clock => 1 | .lock => 2 | .align => 3 | .hello => 4 | .up => 5

/-- Roles of a stack port (R443). -/
inductive StkRole where
  | none | upstream | downstream | standby | cut | foreign | dualRoot
deriving DecidableEq, Repr

/-- STK_PORTs_STAT.ROLE (Table 18.14). -/
def StkRole.code : StkRole → Nat
  | .none => 0 | .upstream => 1 | .downstream => 2 | .standby => 3 | .cut => 4 | .foreign => 5 | .dualRoot => 6

/-- A stack message (Table 18.4). -/
structure StkMsg where
  typ : Nat
  last : Bool
  nak : Bool
  dst : Nat
  src : Nat
  tag : Nat
  frag : Nat
  lseq : Nat
  payload : List Byte
deriving DecidableEq, Repr

/-- A column of a stack port (R437, R438): one of the control columns of Table 18.1, four bytes with byte 0 on lane 0, or an
errored column with its errored code groups. -/
inductive StkCol where
  | sof | comma | som | eom | error | idle
  | data (b0 b1 b2 b3 : Byte)
  | bad (groups : Nat)
deriving DecidableEq, Repr

/-- The code groups of a column as the four lanes carry them (R437), the first bit on the line most significant. -/
structure StkQuad where
  g0 : BitVec 10
  g1 : BitVec 10
  g2 : BitVec 10
  g3 : BitVec 10
deriving DecidableEq, Repr

/-- A HELLO payload (Table 18.3). -/
structure Hello where
  uid : BitVec 64
  part : Nat
  port : Nat
  root : Bool
  depth : Nat
  id : Nat
  gen : Nat
  master : BitVec 64
  peer : BitVec 64
deriving DecidableEq, Repr

/-- A REPORT payload (R451). -/
structure StkReport where
  standby : Bool
  depthCut : Bool
  tooMany : Bool
  /-- U[0] to U[7] -/
  u : List Nat
  /-- bit i: ID i is held in the subtree -/
  present : Nat
deriving DecidableEq, Repr

/-- One stack port (R440 to R447). -/
structure StkPort where
  state : StkState
  role : StkRole
  /-- the forwarded clock SKs_RCLK toggles (R440) -/
  rclk : Bool
  lockMask : BitVec 4
  polInv : BitVec 4
  laneErr : Bool
  /-- receive delay of each lane in force and the value it moves to, 0.1 ps, and whether measured (R441, R293) -/
  deskew : List Int
  deskewTo : List Int
  deskewMeas : Bool
  partner : Option Hello
  txSeq : Nat
  rxSeq : Nat
  /-- sent and unacknowledged, oldest first (R446) -/
  unacked : List StkMsg
  /-- waiting to be sent, in order of queueing (R447) -/
  queue : List StkMsg
  /-- consecutive resends of the oldest message -/
  resendRun : Nat
  /-- messages accepted since the last LINK_ACK, and a NAK due -/
  toAck : Nat
  /-- DEPTH of the DISCOVER received on the port in the run -/
  disc : Option Nat
  /-- DISCOVER of the run was sent on the port -/
  fwd : Bool
  report : Option StkReport
  /-- IDs routed to the port, as a bit set (R453) -/
  route : Nat
  fails : Nat
  resends : Nat
  msgErr : Nat
  /-- errored code groups, of which STK_PORTs_CNT counts sixteens -/
  symErr : Nat
  /-- the HELLO or LINK_ACK sent last -/
  lastOut : Option StkMsg
  /-- unacknowledged messages being resent, oldest first (R446) -/
  again : List StkMsg
  /-- columns of the message in progress that the next frame carries (R439, R447) -/
  mid : List StkCol
  /-- the frame begun at the last SOF, as its lanes carry it (R437, R439) -/
  line : List StkQuad
  /-- running disparity of each transmit lane, true positive (R437) -/
  txRd : List Bool
deriving DecidableEq, Repr

/-- A stack port in OFF. -/
def StkPort.reset : StkPort :=
  { state := .off, role := .none, rclk := false, lockMask := 0, polInv := 0, laneErr := false, deskew := List.replicate 4 0,
    deskewTo := List.replicate 4 0, deskewMeas := false,
    partner := none, txSeq := 0, rxSeq := 0, unacked := [], queue := [], resendRun := 0, toAck := 0, disc := none,
    fwd := false, report := none, route := 0, fails := 0, resends := 0, msgErr := 0, symErr := 0, lastOut := none,
    again := [], mid := [], line := [], txRd := List.replicate 4 false }

/-- An aggregated fault entry (Table 18.6). -/
structure AggEntry where
  code : Nat
  inj : Bool
  mixed : Bool
  cls : Nat
  scope : Nat
  inst : Nat
  count : Nat
  occ : Nat
  low : Nat
  high : Nat
  window : Nat
  first : Nat
  /-- this device is one of those COUNT counts (R456); no part of the 16 bytes -/
  own : Bool
deriving DecidableEq, Repr

/-- Fragments of a tunnelled packet as received so far (R458). -/
structure TunnelBuf where
  peer : Nat
  tag : Nat
  next : Nat
  bytes : List Byte
deriving DecidableEq, Repr

/-- A STK_TUNNEL that awaits its reply (R458). -/
structure TunnelOut where
  tag : Nat
  dst : Nat
  origin : Origin
deriving DecidableEq, Repr

/-- Stack links and tree (R437 to R462). -/
structure StackSt where
  autoEnum : Bool
  acceptTunnel : Bool
  ports : Vector StkPort 4
  id : Option Nat
  depth : Option Nat
  upstream : Option StackPortId
  master : BitVec 64
  orphan : Bool
  gen : Nat
  /-- a DISCOVER has been accepted, so that a GEN must be later than `gen` (R450) -/
  genSeen : Bool
  frame : Nat
  /-- FRAME of the SOF last received on the upstream port (R439) -/
  frameIn : Nat
  /-- uptime of the SOF last sent, and whether one has been sent (R439) -/
  sofTime : Nat
  sofSent : Bool
  /-- a run is in progress at this device (ENUM_BUSY) -/
  busy : Bool
  /-- MASTER_UID and RENUMBER of the run, and the parent once chosen -/
  runMaster : BitVec 64
  runRenumber : Bool
  parent : Option StackPortId
  /-- the REPORT of the run has been sent, or at the master its ASSIGNs -/
  reported : Bool
  /-- causes of a run that wait (R449): one of AUTO_ENUM, a command, and whether the run renumbers -/
  wanted : Bool
  wantCmd : Bool
  wantRenumber : Bool
  tooMany : Bool
  depthCut : Bool
  members : Nat
  nextId : Nat
  /-- entries of windows not yet closed, or late (R455, R456) -/
  entries : List AggEntry
  /-- windows below this one are closed -/
  closedTo : Nat
  /-- the master's stack fault records, oldest first (R457) -/
  recs : List AggEntry
  late : Nat
  lost : Nat
  /-- upstream-bound messages held by an orphan (R454) -/
  held : List StkMsg
  tunTag : Nat
  tunOut : List TunnelOut
  tunIn : List TunnelBuf
  respIn : List TunnelBuf
deriving DecidableEq, Repr

/-- Stack state after a full reset (Tables 18.12 to 18.14). -/
def StackSt.reset : StackSt :=
  { autoEnum := true, acceptTunnel := true, ports := Vector.replicate 4 StkPort.reset, id := none, depth := none,
    upstream := none, master := 0, orphan := false, gen := 0, genSeen := false, frame := 0, frameIn := 0, sofTime := 0,
    sofSent := false, busy := false, runMaster := 0, runRenumber := false, parent := none, reported := false, wanted := false,
    wantCmd := false, wantRenumber := false, tooMany := false,
    depthCut := false, members := 0, nextId := 1, entries := [], closedTo := 0, recs := [], late := 0, lost := 0,
    held := [], tunTag := 0, tunOut := [], tunIn := [], respIn := [] }

/-- TIME_STAT.STATE (Table 19.1). -/
inductive TimeState where
  | off | free | acquire | locked | holdover
deriving DecidableEq, Repr

/-- TIME_STAT.STATE codes. -/
def TimeState.code : TimeState → Nat
  | .off => 0 | .free => 1 | .acquire => 2 | .locked => 3 | .holdover => 4

/-- The time unit (R463 to R481). -/
structure TimeSt where
  run : Bool
  /-- RUN has been set since the full reset (R463) -/
  started : Bool
  src : Nat
  port : Nat
  holdS : Nat
  thr : Nat
  /-- the counter in units of 2^-40 ns: SEC, NS, FRAC and the 24 bits below FRAC (R463, R464) -/
  ctr : Nat
  adj : Int
  state : TimeState
  epoch : Nat
  /-- last offset in units of 2^-8 ns, saturated to 27 bits -/
  ofs : Int
  /-- consecutive offsets below 2 ns -/
  good : Nat
  outEn : Bool
  reqLock : Bool
  ppsOfs : Int
  width : Nat
  /-- PPS_OUT as driven (R472) -/
  ppsOut : Bool
  /-- the last second boundary, OFS included, that the counter has been seen to reach while PPS_OUT may pulse, and those that have been
  pulsed (R472) -/
  reached : Nat
  pulsed : List Nat
  /-- last capture of PPS_IN, in units of 2^-40 ns (R471) -/
  ppsIn : Nat
  ppsNew : Bool
  /-- round trips of each stack port since its return, units of 2^-16 ns, newest first, at most 16 (R476) -/
  rtt : Vector (List Nat) 4
  /-- frame, residence in 2^-16 ns and own timestamp of the last own SOF with F mod 16 = 0 (R477) -/
  lastSof : Option (Nat × Nat × Nat)
  /-- the timestamps made in the current EPOCH with RETRY clear (R473) -/
  stamps : List Nat
deriving DecidableEq, Repr

/-- The time unit after a full reset (Tables 19.8 and 19.9). -/
def TimeSt.reset : TimeSt :=
  { run := false, started := false, src := 0, port := 0, holdS := 3, thr := 1000, ctr := 0, adj := 0, state := .off,
    epoch := 0, ofs := 0, good := 0, outEn := false, reqLock := true, ppsOfs := 0, width := 100, ppsOut := false,
    reached := 0, pulsed := [], ppsIn := 0, ppsNew := false, rtt := Vector.replicate 4 [], lastSof := none, stamps := [] }

/-- Calibration values of a lane as the set stores them (Table 11.8). -/
structure CalLane where
  /-- offset, gain, skew and comparator of slices 0 to 67 -/
  slices : List (Int × Int × Int × Nat)
  retireA : Nat
  retireB : Nat
  trim : Int
  distTx : Nat
  distRx : Nat
  distMeas : Bool
  trimMeas : Bool
deriving DecidableEq, Repr

/-- A calibration set (Tables 11.8 and 11.9a). -/
structure CalSet where
  seq : Nat
  source : Nat
  origin : Nat
  part : Nat
  uid : BitVec 64
  stored : Nat
  /-- SK_DESKEW of stack port s, lane d at s × 4 + d, and the ports measured -/
  deskew : List Int
  skMeas : Nat
  /-- TS_LAT transmit, receive and measured of each port -/
  ports : List (Nat × Nat × Bool)
  /-- the lane records, port × 8 + lane -/
  lanes : List CalLane
deriving DecidableEq, Repr

/-- A calibration sector as the flash holds it (R300): the committed set, if valid, and whether it is blank. -/
structure CalSector where
  set : Option CalSet
  blank : Bool
deriving DecidableEq, Repr

/-- A CAL_RUN in progress (R297). -/
structure CalRunning where
  origin : Origin
  ports : List PortId
  laneMask : Nat
  stkMask : Nat
  items : Nat
deriving DecidableEq, Repr

/-- A listen of at least 10 µs with the transmitter idle (R294, R312): a sounding detection on the port, the ADC codes about zero with
the VGA at 12 dB, and the power at each of the lane's two differential detectors, at the start of the command and now. -/
structure Listen where
  detected : Bool
  codes : List Int
  power : List (Nat × Nat)
deriving DecidableEq, Repr

/-- One measurement of a CAL_RUN (R291, R292, R294). -/
inductive CalMeas where
  /-- ADC_FG: for each slice its offset, gain and skew, and each comparator's residual offset and noise (R70) -/
  | adcFg (p : PortId) (n : LaneId) (slices : List (Int × Int × Int × List (Int × Nat)))
  /-- DAC_FG: e_0 to e_8 -/
  | dacFg (p : PortId) (n : LaneId) (e : List Int)
  | ctleTrim (p : PortId) (n : LaneId) (v : Int)
  /-- DIST_REF: TX and RX pair of each of two runs -/
  | distRef (p : PortId) (n : LaneId) (tx1 rx1 tx2 rx2 : Nat)
  /-- TS_LAT: transmit and receive of each of two runs -/
  | tsLat (p : PortId) (tx1 rx1 tx2 rx2 : Nat)
  /-- SK_DESKEW: data lanes 0 to 3 of each of two runs; none when the link dropped during them -/
  | skDeskew (s : StackPortId) (runs : Option (List Int × List Int))
  /-- a listen of an item at its input -/
  | listen (p : PortId) (n : LaneId) (item : Nat) (x : Listen)
deriving DecidableEq, Repr

/-- Calibration of the device (R297 to R306). -/
structure CalSt where
  secA : CalSector
  secB : CalSector
  /-- the sector in force: 0 none, 1 A, 2 B (Table 11.12) -/
  inForce : Nat
  source : Nat
  seq : Nat
  defaults : Bool
  run : Option CalRunning
  /-- the set being written, and the sector it goes to -/
  writing : Option CalSet
  target : Nat
  /-- staged chunks of an import (R305) -/
  staged : List (Nat × List Byte)
deriving DecidableEq, Repr

/-- Calibration state before the boot has chosen a set. -/
def CalSt.reset : CalSt :=
  { secA := { set := none, blank := true }, secB := { set := none, blank := true }, inForce := 0, source := 0,
    seq := 0, defaults := false, run := none, writing := none, target := 0, staged := [] }

/-- Triggers of a capture (R320). -/
inductive CapTrigger where
  | immediate
  | slot (n : Nat)
  | tone (n : LaneId)
deriving DecidableEq, Repr

/-- Outcome of a capture (R320). -/
inductive CapOutcome where
  | none | running | done | full | stopped | timeout | aborted
deriving DecidableEq, Repr

/-- CAPTURE_STATUS outcome codes, which the specification does not number. -/
def CapOutcome.code : CapOutcome → Nat
  | .none => 0 | .running => 1 | .done => 2 | .full => 3 | .stopped => 4 | .timeout => 5 | .aborted => 6

/-- A stored segment: its header fields (R321), its size in 4 KiB slots of the reserve, its CXL link, its samples as stored
and whether it is lost. -/
structure CapSegment where
  port : PortId
  laneMask : Nat
  txGroup : Bool
  number : Nat
  s : Nat
  fs : Nat
  vga : Nat
  peak : Nat
  slot : Nat
  sec : Nat
  ns : Nat
  link : Nat
  samples : List Byte
  lost : Bool
deriving DecidableEq, Repr

/-- The device's waveform capture (R319 to R321). -/
structure CaptureSt where
  outcome : CapOutcome
  port : Option PortId
  laneMask : Nat
  txGroup : Bool
  vga : Nat
  peak : Nat
  s : Nat
  count : Nat
  trigger : CapTrigger
  /-- segments captured so far -/
  taken : Nat
  missed : Nat
  /-- segments staged and not yet stored, oldest first -/
  staging : List CapSegment
  stored : List CapSegment
  /-- SLOT_CNT of the port when the capture was armed, and at its latest trigger (R320) -/
  mark : Nat
deriving DecidableEq, Repr

/-- No capture made. -/
def CaptureSt.reset : CaptureSt :=
  { outcome := .none, port := none, laneMask := 0, txGroup := false, vga := 0, peak := 0, s := 0, count := 0,
    trigger := .immediate, taken := 0, missed := 0, staging := [], stored := [], mark := 0 }

/-- The measurement of one pair, or of one aggressor pair, of a diagnostic run: its index, result code, the TDR correlation
peaks (round trip in ps and ρ in 2^-15), and for the other tables the amplitudes detected at each step of the plan: what arrives, and
what it is measured against (the reference reflection, or the aggressor's launched amplitude). -/
structure DiagMeas where
  index : Nat
  result : Nat
  peaks : List (Nat × Int)
  entries : List (Nat × Nat)
deriving DecidableEq, Repr

end Sys2Proof.Machine
end

