-- ==== Sys2Proof/Machine/Operands.lean ====
section
/-!
DEFINITION. Operand types of commands: what ends on the line, why a wake is wanted, and how a lane or a clock failed.
-/
namespace Sys2Proof.Machine

/-- What ends on the line (SOUNDING_FRAME_SENT, R148, R149, R160): a differential frame, a common-mode frame, or one burst of a
probe train. -/
inductive SentKind where
  | diff | cm | chirp
deriving DecidableEq, Repr

/-- A host block of class 1 to 3 that waits, the wake request, a commit, or the end-of-window and entry checks (Table 10.6). -/
inductive WakeCause where
  | hostBlock | request | quietEnd | check
deriving DecidableEq, Repr

/-- Why a host receive lane fails (R248). -/
inductive HostFail where
  | cdr | marker | uncorrectable
deriving DecidableEq, Repr

/-- Why an IEEE sub-port fails (R182, Table 6.9). -/
inductive SubFail where
  | marker | cdr | linkStatus
deriving DecidableEq, Repr

/-- LAST_DOWN of a sub-port's failure. -/
def SubFail.code : SubFail → Nat
  | .marker => 2 | .cdr => 3 | .linkStatus => 4

end Sys2Proof.Machine
end

