-- ==== Sys2Proof/Syntax.lean ====
section
/-!
DEFINITION. The commands of the block: one constructor for each row of spec/opcode_table.json, with the row's operands.
What comes from outside the device (a measurement, bits on a wire, what a flash read finds) is an operand; a
command of the mailbox names with via the slot, tunnel, far end or stage C record it came by.
-/
namespace Sys2Proof

open Sys2Proof.Machine

/-- A command of the block. -/
inductive Instr where
  /-- SLOT_BOUNDARY (R40): the next folio slot boundary of a port and its lanes. -/
  | slotBoundary (p : PortId)
  /-- LPLL_RETUNE (R20): the port whose negotiation or fall-back needs a frequency, and the frequency. -/
  | lpllRetune (p : PortId) (f : PllFreq)
  /-- LPLL_RELOCK_DONE (R19). -/
  | lpllRelockDone (k : PodId) (g : GroupId)
  /-- LPLL_PLAN_APPLY (R21). -/
  | lpllPlanApply (k : PodId) (g : GroupId)
  /-- POD_LPLL_CTRL_WRITE (R22). -/
  | podLpllCtrlWrite (who : Initiator) (k : PodId) (g : GroupId) (v : Word)
  /-- BRIDGE_FLIT_RECEIVE (R25): the direction (true: pod to hub) and whether the flit's CRC passes. -/
  | bridgeFlitReceive (k : PodId) (toHub crcOk : Bool)
  /-- BRIDGE_FLIT_SEND (R26): the direction, the kinds that wait, and whether a new microsecond has begun. -/
  | bridgeFlitSend (k : PodId) (toHub : Bool) (waiting : List FlitKind) (newUs : Bool)
  /-- BRIDGE_TRAINED (R30). -/
  | bridgeTrained (k : PodId)
  /-- FFE_WALK_STEP (R46): the lane whose next walk step falls due. -/
  | ffeWalkStep (p : PortId) (n : LaneId)
  /-- DAC_CELL_EXCHANGE (R47). -/
  | dacCellExchange (p : PortId) (n : LaneId)
  /-- RANGE_IDLE_START (R49). -/
  | rangeIdleStart (p : PortId) (n : LaneId)
  /-- RANGE_TAKE_EFFECT (R49). -/
  | rangeTakeEffect (p : PortId) (n : LaneId)
  /-- COMPLIANCE_INTERVAL (R54): VCM, the largest and smallest voltage of the P and N legs in the interval, and its largest
  differential peak-to-peak voltage, all in 0.1 mV. -/
  | complianceInterval (p : PortId) (n : LaneId) (vcm pMax pMin nMax nMin swing : Nat)
  /-- TONE_RAMP_RELOAD (R58): the number of samples made since the last reload. -/
  | toneRampReload (p : PortId) (n : LaneId) (samples : Nat)
  /-- TX_TONE_REG_WRITE (R60): 0 TX_TONE_START, 1 TX_TONE_RAMP, 2 TX_TONE_STOP, and the word. -/
  | txToneRegWrite (who : Initiator) (p : PortId) (n : LaneId) (reg : Fin 3) (v : Word)
  /-- SPILL_INIT (0x0401): IDE_REQ, CAPTURE_GIB, SHELF1_GIB to SHELF3_GIB; what the training of MX0 to MX7 finds, and W, R
  (0.01 GB/s) and each pod's TO_HUB and TO_POD (0.1 GB/s) as measured. -/
  | spillInit (via : Origin) (ideReq : Bool) (capture sh1 sh2 sh3 : Nat) (links : List CxlTrain) (w r : Nat)
      (pods : List (Nat × Nat))
  /-- SPILL_MEASURE (0x0402): D_m of each link, W, R (0.01 GB/s) and the pods' bandwidths (0.1 GB/s) as measured. -/
  | spillMeasure (via : Origin) (d : List Nat) (w r : Nat) (pods : List (Nat × Nat))
  /-- CLASS_SET (0x0403): class, MIN, FLOOR, WEIGHT, CEIL, PORT_CAP. -/
  | classSet (via : Origin) (cls min floor weight ceil portCap : Nat)
  /-- PORT_CLASS (0x0404): port mask and class. -/
  | portClass (via : Origin) (mask : BitVec 96) (cls : Nat)
  /-- SHELF_SET (0x0405): CAPTURE_GIB, SHELF1_GIB to SHELF3_GIB. -/
  | shelfSet (via : Origin) (capture sh1 sh2 sh3 : Nat)
  /-- LINK_UNFENCE (0x0406). -/
  | linkUnfence (via : Origin) (m : CxlId)
  /-- CXL_LINK_DROP (R216). -/
  | cxlLinkDrop (m : CxlId)
  /-- CXL_LINK_DOWNTRAIN (R216): the width and rate codes in force. -/
  | cxlLinkDowntrain (m : CxlId) (width rate : Nat)
  /-- CXL_LINK_FENCE (R216). -/
  | cxlLinkFence (m : CxlId)
  /-- CXL_LINK_RETURN (R216). -/
  | cxlLinkReturn (m : CxlId)
  /-- CXL_RETRAIN_DONE (R216): a dropped link has retrained, at these width and rate codes. -/
  | cxlRetrainDone (m : CxlId) (width rate : Nat)
  /-- MIN_EFF_RESTORE (R228). -/
  | minEffRestore
  /-- PARCEL_CLOSE (R229): port and direction (true: line-to-host). -/
  | parcelClose (p : PortId) (l2h : Bool)
  /-- PARCEL_WRITE_GRANT (R223): the port and direction granted, a read or a write. -/
  | parcelWriteGrant (p : PortId) (l2h read : Bool)
  /-- PARCEL_READ_DONE (R219): the 4,096 bytes of the slot as read, byte 0 first; none where the read fails or returns poison. -/
  | parcelReadDone (p : PortId) (l2h : Bool) (slot : Option (BitVec 32768))
  /-- GUAR_WINDOW_END (R236). -/
  | guarWindowEnd (p : PortId)
  /-- CAL_RUN (0x0201): port, lane, stack port and item masks. -/
  | calRun (via : Origin) (ports : BitVec 96) (lanes : BitVec 8) (stk : BitVec 4) (items : BitVec 16)
  /-- CAL_RUN_DONE (R297): the measurements made and the duration in µs. -/
  | calRunDone (meas : List CalMeas) (us : Nat)
  /-- CAL_STORE (0x0202). -/
  | calStore (via : Origin)
  /-- CAL_EXPORT (0x0203): chunk. -/
  | calExport (via : Origin) (chunk : Nat)
  /-- CAL_IMPORT (0x0204): chunk, its bytes, flag LAST. -/
  | calImport (via : Origin) (chunk : Nat) (data : List Byte) (last : Bool)
  /-- CAL_COEF_READ (0x0205): port or stack port, lane, stage, first index, count, flag ANCHOR. -/
  | calCoefRead (via : Origin) (port : Nat) (n : LaneId) (stage first count : Nat) (anchor : Bool)
  /-- CAL_LIMITS_READ (0x0206). -/
  | calLimitsRead (via : Origin)
  /-- DAC_MEASURE_DONE (R288): e_0 to e_8 in 0.1 %. -/
  | dacMeasureDone (p : PortId) (n : LaneId) (e : List Int)
  /-- CTLE_STEP_APPLY (R92). -/
  | ctleStepApply (p : PortId) (n : LaneId)
  /-- CTLE_CHECK_TIMEOUT (R290). -/
  | ctleCheckTimeout (p : PortId) (n : LaneId)
  /-- CTLE_FREEZE_END (R290). -/
  | ctleFreezeEnd (p : PortId) (n : LaneId)
  /-- DIAG_TDR (0x0301): pair mask, VF in units of 0.005, threshold in units of 2^-15. -/
  | diagTdr (via : Origin) (p : PortId) (pairs : BitVec 16) (vf threshold : Nat)
  /-- DIAG_RL (0x0302): pair mask. -/
  | diagRl (via : Origin) (p : PortId) (pairs : BitVec 16)
  /-- DIAG_NEXT (0x0303): aggressor TX pair mask. -/
  | diagNext (via : Origin) (p : PortId) (mask : BitVec 8)
  /-- DIAG_IL (0x0304): partner TX pairs, CABLE, RANGE and SF. -/
  | diagIl (via : Origin) (p : PortId) (mask : BitVec 8) (cable : Bool) (range sf : Nat)
  /-- DIAG_READ (0x0305): KIND and INDEX. -/
  | diagRead (via : Origin) (p : PortId) (kind index : Nat)
  /-- DIAG_LIVE (0x0306): VF in units of 0.005. -/
  | diagLive (via : Origin) (p : PortId) (vf : Nat)
  /-- DIAG_RUN_DONE (R312, R322): the listens made at the pairs, by pair id, and each pair's or aggressor's measurement. -/
  | diagRunDone (p : PortId) (listens : List (Nat × Listen)) (meas : List DiagMeas)
  /-- IL_REQ_RECEIVE (R315): the SESSION of its frame, the initiator's UID and port, the pair mask, RANGE and fs code. -/
  | ilReqReceive (p : PortId) (session : Nat) (uid : BitVec 64) (port mask range fs : Nat)
  /-- IL_ACK_RECEIVE (R315): SESSION and the partner's fs code. -/
  | ilAckReceive (p : PortId) (session fs : Nat)
  /-- IL_DECLINE_RECEIVE (R316): SESSION and REASON. -/
  | ilDeclineReceive (p : PortId) (session reason : Nat)
  /-- IL_SCHEDULE_START (R315). -/
  | ilScheduleStart (p : PortId)
  /-- IL_DONE_RECEIVE (R315): SESSION, and the tables measured, by aggressor pair. -/
  | ilDoneReceive (p : PortId) (session : Nat) (meas : List DiagMeas)
  /-- IL_DONE_TIMEOUT (R316): the tables of the pairs whose schedule was completed. -/
  | ilDoneTimeout (p : PortId) (meas : List DiagMeas)
  /-- CAPTURE_START (0x0310): lanes, pair group (TX or RX), VGA, PEAK, samples per segment, segments, trigger. -/
  | captureStart (via : Origin) (p : PortId) (lanes : BitVec 8) (txGroup : Bool) (vga peak s count : Nat)
      (trigger : CapTrigger)
  /-- CAPTURE_STATUS (0x0311). -/
  | captureStatus (via : Origin)
  /-- CAPTURE_READ (0x0312): segment and byte offset. -/
  | captureRead (via : Origin) (segment ofs : Nat)
  /-- CAPTURE_STOP (0x0313). -/
  | captureStop (via : Origin)
  /-- CAPTURE_TRIGGER (R320): the ADC codes of the segment, lane by lane. -/
  | captureTrigger (samples : List Byte)
  /-- CAPTURE_SEGMENT_STORED (R321): the CXL link it went to. -/
  | captureSegmentStored (link : CxlId)
  /-- CAPTURE_TIMEOUT (R320). -/
  | captureTimeout
  /-- XA_DELAY_EXPIRE (R325). -/
  | xaDelayExpire
  /-- REF_JUDGED_GOOD (R326): the reference and its 16 window counts. -/
  | refJudgedGood (r : RefSel) (counts : List Nat)
  /-- FRO_TRIM_UPDATE (R327): the averaged error measured, in units of 0.001 %. -/
  | froTrimUpdate (count : Nat)
  /-- FLASH_ACCESS_TIMEOUT (R328). -/
  | flashAccessTimeout
  /-- XB_DETECT (R329). -/
  | xbDetect
  /-- XB_LOSS (R329). -/
  | xbLoss
  /-- RPLL_LOCK (R330): what the memory passes that its clocks start find (R395). -/
  | rpllLock (pass : List BankPass)
  /-- DOMAIN_RAMP_STEP (R336): domain 0 CLK_CORE, 1 CLK_FAB, 2 CLK_CTRL, 3 CLK_PERI. -/
  | domainRampStep (d : Fin 4)
  /-- FORCED_SWITCH (R337). -/
  | forcedSwitch (d : Fin 4)
  /-- CLOCK_MONITOR_WINDOW (R340): the FRO count, and whether it was reached before the window ended. -/
  | clockMonitorWindow (r : RefSel) (count : Nat) (early : Bool)
  /-- RPLL_HOLDOVER (R342). -/
  | rpllHoldover
  /-- RPLL_UNLOCK (R342). -/
  | rpllUnlock
  /-- RPLL_ALT_RESTART (R343). -/
  | rpllAltRestart
  /-- FRO_CHECK (R341): the count of one SRO period; none when no edge came in 4 periods. -/
  | froCheck (count : Option Nat)
  /-- PLL_UNLOCK (R332). -/
  | pllUnlock (pll : PllSel)
  /-- PLL_LOCK_REGAINED (R332). -/
  | pllLockRegained (pll : PllSel)
  /-- CLK_CFG_WRITE (R349). -/
  | clkCfgWrite (who : Initiator) (v : Word)
  /-- CLK_GATE_WRITE (R348). -/
  | clkGateWrite (who : Initiator) (v : Word)
  /-- XA_FIRST_JUDGEMENT_END (R376). -/
  | xaFirstJudgementEnd
  /-- AVS_EXAMINE (R360): the slacks of the pod's 16 monitors, in units of 0.5 %. -/
  | avsExamine (k : PodId) (slacks : List Int)
  /-- AVS_WRITE_RETRY (R361): whether the retried write was acknowledged with no alert. -/
  | avsWriteRetry (k : PodId) (ok : Bool)
  /-- AVS_STATUS_POLL (R361): whether the Status shows an alert, and the Current in units of 0.5 A. -/
  | avsStatusPoll (k : PodId) (alert : Bool) (iout : Nat)
  /-- POD_AVS_CTRL_WRITE (R370). -/
  | podAvsCtrlWrite (who : Initiator) (k : PodId) (v : Word)
  /-- REGION_SAMPLE (R363): the pair (none for HUB and AON), and what is measured. -/
  | regionSample (pair : Option PodId) (x : RegionMeas)
  /-- REGION_FAULT_CLEAR (R363). -/
  | regionFaultClear (pair : Option PodId)
  /-- SUPPLY_LOSS (R359): the rail, its voltage in mV and for how many ns it has stayed there. -/
  | supplyLoss (r : Rail) (mv ns : Nat)
  /-- SUPPLY_RESTORE (R359): the rail, its voltage in units of 0.1 mV, and the straps and memory passes of the boot that may follow. -/
  | supplyRestore (r : Rail) (level : Nat) (straps : BitVec 6) (pass : List BankPass)
  /-- SENSOR_CONVERSION (R366): sensor index of THERM_MAX, whether the self-check passed, reading in 0.125 °C. -/
  | sensorConversion (i : Fin 24) (ok : Bool) (reading : Int)
  /-- POWER_ON_RESET (R371). -/
  | powerOnReset
  /-- PORST_N_ASSERT (R371). -/
  | porstNAssert
  /-- PORST_N_RELEASE (R373): the levels of the strap balls as STRAP_STAT lays them out. -/
  | porstNRelease (straps : BitVec 6) (pass : List BankPass)
  /-- PE_PERST_N_ASSERT (R371). -/
  | pePerstNAssert
  /-- TRST_N_ASSERT (R371). -/
  | trstNAssert
  /-- BOOT_TRIMMED (R374): the 4 KiB headers of SLOT0 and SLOT1 as read, and what the SFDP table of the flash describes (R552);
  none where there is no such table. -/
  | bootTrimmed (h0 h1 : List Byte) (flash : Option Sfdp)
  /-- BOOT_TRIM_TIMEOUT (R375). -/
  | bootTrimTimeout
  /-- BOOT_LIB_CONFIG_READ (R374): the section as stored, and the bytes of calibration sectors A and B; no bytes where no flash
  answers. -/
  | bootLibConfigRead (stored secA secB : List Byte)
  /-- BOOT_DEVICE_CONFIG_READ (R374): the section as stored. -/
  | bootDeviceConfigRead (stored : List Byte)
  /-- BOOT_RPLL_TIMEOUT (R376). -/
  | bootRpllTimeout
  /-- BOOT_CLERK_FW_READ (R374): the section as stored. -/
  | bootClerkFwRead (stored : List Byte)
  /-- BOOT_LEDGER_ANCHOR (R508): the blocks found in the ring, oldest first, none when the region is absent or unreadable; and the
  counter bits that fail to program one after the other. -/
  | bootLedgerAnchor (ring : Option (List LedgerBlock)) (failedBits : Nat)
  /-- BOOT_USER_AREA_READ (R374): the user area as stored, and the memory passes of the Clerk's domain. -/
  | bootUserAreaRead (stored : List Byte) (pass : List BankPass)
  /-- STAGE_C_RECORD (R389): the port that a CMD's parameters name, and whether its LENGTH is its opcode's. -/
  | stageCRecord (port : Option PortId) (lengthOk : Bool)
  /-- CONFIG_DONE (R378). -/
  | configDone
  /-- IMG_INFO (0x0701). -/
  | imgInfo (via : Origin)
  /-- IMG_ERASE (0x0702): blocks. -/
  | imgErase (via : Origin) (blocks : Nat)
  /-- IMG_ERASE_BLOCK_DONE (R390). -/
  | imgEraseBlockDone
  /-- IMG_WRITE to the inactive slot (0x0703). -/
  | imgWrite (via : Origin) (ofs : Nat) (data : List Byte)
  /-- IMG_WRITE with TARGET = STREAM (R388): the offset and the bytes. -/
  | imgWriteStream (via : Origin) (ofs : Nat) (data : List Byte)
  /-- IMG_COMMIT (0x0704): what the inactive slot holds beyond the blocks erased and written since (R391). -/
  | imgCommit (via : Origin) (rest : List Byte)
  /-- IMG_CONFIRM (0x0705). -/
  | imgConfirm (via : Origin) (raiseSvn : Bool)
  /-- DEV_RESET (0x0706): delay in ms. -/
  | devReset (via : Origin) (delay : Nat)
  /-- DEV_RESET_EXPIRE (R371): the straps sampled again at the end of the internal reset. -/
  | devResetExpire (straps : BitVec 6) (pass : List BankPass)
  /-- PE_PERST_N_RELEASE (R545). -/
  | pePerstNRelease
  /-- BIST_RUN (0x0A01): pod mask, hub bit, group mask, bank mask, MODE DIAGNOSTIC, RAW, REPAIR. -/
  | bistRun (via : Origin) (pods : BitVec 8) (hub : Bool) (groups : BitVec 8) (banks : BitVec 16)
      (diag raw repair : Bool)
  /-- BIST_BANK_DONE (R398): what the march of the bank under test found. -/
  | bistBankDone (found : BistFound)
  /-- BIST_READ (0x0A02): pod or hub, group, bank. -/
  | bistRead (via : Origin) (pod : Option PodId) (group bank : Nat)
  /-- LOOP_SET (0x0A03): lane mask, kind (0 NONE, 1 SERIAL, 2 PARALLEL, 3 FAR), and what the lanes heard of the far end (R294). -/
  | loopSet (via : Origin) (p : PortId) (lanes : BitVec 8) (kind : Nat) (heard : List Listen)
  /-- REF_CHECK (0x0A04): bandgap differences (0.1 %), pods then hub, ramp slope errors (0.1 %) and INL (0.1 code). -/
  | refCheck (via : Origin) (bandgap slope inl : List Int)
  /-- REPAIR_READ (0x0A05): pod or hub, group. -/
  | repairRead (via : Origin) (pod : Option PodId) (group : Nat)
  /-- FUSE_REPAIR (0x0A06): pod mask, hub bit, whether VPP_FUSE came up, and which entries read back correctly. -/
  | fuseRepair (via : Origin) (pods : BitVec 8) (hub : Bool) (vppOk : Bool) (good : List Bool)
  /-- SCAN_CHALLENGE (0x0A07, or a shift of AUTH with no origin): pod mask, hub bit. -/
  | scanChallenge (via : Option Origin) (pods : BitVec 8) (hub : Bool)
  /-- SCAN_AUTH (0x0A08, or a shift of AUTH): the 96-byte response, and whether zeroising and the ledger entry succeed. -/
  | scanAuth (via : Option Origin) (response : List Byte) (stepsOk : Bool)
  /-- SCAN_CHALLENGE_EXPIRE (R411). -/
  | scanChallengeExpire
  /-- LOOPBACK_REQ_RECEIVE (R405). -/
  | loopbackReqReceive (p : PortId) (n : LaneId)
  /-- LOOPBACK_ACK_RECEIVE (R405). -/
  | loopbackAckReceive (p : PortId) (n : LaneId)
  /-- LOOPBACK_DECLINE_RECEIVE (R405). -/
  | loopbackDeclineReceive (p : PortId) (n : LaneId) (reason : Nat)
  /-- FAR_LOOPBACK_START (R405). -/
  | farLoopbackStart (p : PortId) (n : LaneId)
  /-- LOOPBACK_END_RECEIVE (R405): the end of an END frame, at its receiver and at its sender. -/
  | loopbackEndReceive (p : PortId) (n : LaneId)
  /-- PRBS_LOCK (R407): bits received by the checker, oldest first. -/
  | prbsLock (p : PortId) (n : LaneId) (rx : List Bool)
  /-- PRBS_LOCK_LOSS (R407): further bits, of which 1,024 or more within 8,192 are wrong. -/
  | prbsLockLoss (p : PortId) (n : LaneId) (rx : List Bool)
  /-- ST_PRBS_CTRL_WRITE (R406). -/
  | stPrbsCtrlWrite (who : Initiator) (p : PortId) (n : LaneId) (v : Word)
  /-- PRBS_CLEAR (R415). -/
  | prbsClear (who : Initiator) (p : PortId) (n : LaneId)
  /-- BANDGAP_CHECK (R408): the die (none for the hub) and the difference in 0.1 %. -/
  | bandgapCheck (die : Option PodId) (diff : Int)
  /-- JTAG_INSTRUCTION (R410): the opcode made current. -/
  | jtagInstruction (opcode : BitVec 8)
  /-- FAULT_MESSAGE (R422): the pod whose next fault message reaches the hub. -/
  | faultMessage (k : PodId)
  /-- EVENT_CAUSE_EXPIRE (R418). -/
  | eventCauseExpire (c : Cause) (i : Inst)
  /-- STICKY_CLEAR (R420): the sticky register of a lane, port, pod or of the device, and the word written. -/
  | stickyClear (who : Initiator) (i : Inst) (v : Word)
  /-- REC_ACK (R429). -/
  | recAck (who : Initiator) (index : BitVec 7)
  /-- REC_ACK_ALL (R429). -/
  | recAckAll (who : Initiator)
  /-- FLT_SEL_WRITE (R421). -/
  | fltSelWrite (who : Initiator) (v : Word)
  /-- FLT_SEL_CLEAR (R433): a write of FLT_SEL with CLR. -/
  | fltSelClear (who : Initiator) (v : Word)
  /-- FLT_REACT_WRITE (R424). -/
  | fltReactWrite (who : Initiator) (c : Cause) (v : Word)
  /-- FI_ARM (0x0901): code, instance, DELAY, MODE REPEAT, PERIOD, COUNT, HOLD. -/
  | fiArm (via : Origin) (code inst delay : Nat) (rep : Bool) (period count hold : Nat)
  /-- FI_STOP (0x0902): code and instance, none for ALL. -/
  | fiStop (via : Origin) (what : Option (Nat × Nat))
  /-- FI_LIST (0x0903). -/
  | fiList (via : Origin)
  /-- INJECTION_DELIVER (R432). -/
  | injectionDeliver (c : Cause) (i : Inst)
  /-- INJECT_HOLD_END (R432). -/
  | injectHoldEnd (c : Cause) (i : Inst)
  /-- STACK_CLOCK_DETECT (R440). -/
  | stackClockDetect (p : StackPortId)
  /-- STACK_LANE_LOCK (R441): lane, bit positions of its last three SOF code groups, whether it saw an inverted K28.5, and the centre
  its sweep found (0.1 ps). -/
  | stackLaneLock (p : StackPortId) (d : Fin 4) (sofs : List Nat) (inv : Bool) (centre : Int)
  /-- STACK_PORT_ALIGN (R441): distance in columns of the four SOFs, FRAME and the column after it. -/
  | stackPortAlign (p : StackPortId) (spread : Nat) (frame compl : Word)
  /-- STACK_ALIGN_TIMEOUT (R441). -/
  | stackAlignTimeout (p : StackPortId)
  /-- STACK_LANE_LOCK_LOSS (R441): consecutive frames with no SOF at the expected position, and errored code groups in the frame. -/
  | stackLaneLockLoss (p : StackPortId) (d : Fin 4) (missed errored : Nat)
  /-- STACK_SOF_RECEIVE (R439, R476): FRAME, and the time from the device's own SOF of that frame (2^-16 ns). -/
  | stackSofReceive (p : StackPortId) (frame : Word) (dt : Nat)
  /-- STACK_SOF_SEND (R439, R477): the residence of the frame (2^-16 ns). -/
  | stackSofSend (residence cols : Nat) (spoil : BitVec 4)
  /-- HELLO_SEND (R442). -/
  | helloSend (p : StackPortId)
  /-- HELLO_RECEIVE (R442). -/
  | helloReceive (p : StackPortId) (h : Hello)
  /-- STACK_LINK_TIMEOUT (R442). -/
  | stackLinkTimeout (p : StackPortId)
  /-- STACK_MSG_RECEIVE (R445): the columns from SOM to the message's end. -/
  | stackMsgReceive (p : StackPortId) (quads : List StkQuad)
  /-- LINK_ACK_RECEIVE (R446): the next expected LSEQ, and NAK. -/
  | linkAckReceive (p : StackPortId) (next : BitVec 8) (nak : Bool)
  /-- LINK_ACK_SEND (R446). -/
  | linkAckSend (p : StackPortId)
  /-- STACK_RESEND_TIMEOUT (R446). -/
  | stackResendTimeout (p : StackPortId)
  /-- ENUM_RUN_START (R449). -/
  | enumRunStart
  /-- DISCOVER_RECEIVE (R450). -/
  | discoverReceive (p : StackPortId) (gen : BitVec 16) (depth : Nat) (master : BitVec 64) (renumber : Bool)
  /-- ORPHAN_NOTICE_RECEIVE (R454). -/
  | orphanNoticeReceive (p : StackPortId)
  /-- PARENT_CHOOSE (R450). -/
  | parentChoose
  /-- REPORT_RECEIVE (R451). -/
  | reportReceive (p : StackPortId) (gen : BitVec 16) (r : StkReport)
  /-- REPORT_DUE (R451): whether (9 − depth) ms have passed. -/
  | reportDue (expired : Bool)
  /-- ASSIGN_RECEIVE (R452): GEN and B[0] to B[7]. -/
  | assignReceive (p : StackPortId) (gen : BitVec 16) (b : List Nat)
  /-- TOPO_CHANGE_RECEIVE (R454). -/
  | topoChangeReceive (p : StackPortId)
  /-- STACK_LINK_FAIL (R454): whether the port lost its clock. -/
  | stackLinkFail (p : StackPortId) (clockLost : Bool)
  /-- FAULT_WINDOW_CLOSE (R455). -/
  | faultWindowClose
  /-- FAULT_REPORT_RECEIVE (R456). -/
  | faultReportReceive (p : StackPortId) (entries : List AggEntry)
  /-- MGMT_REQ_RECEIVE (R458): originator, TAG, FRAG, LAST and data. -/
  | mgmtReqReceive (src tag frag : Nat) (last : Bool) (data : List Byte)
  /-- MGMT_RESP_RECEIVE (R458). -/
  | mgmtRespReceive (src tag frag : Nat) (last : Bool) (data : List Byte)
  /-- TUNNEL_TIMEOUT (R458): the TAG that waits. -/
  | tunnelTimeout (tag : Nat)
  /-- LEDGER_ANCHOR_RECEIVE (R507): member ID, its UID, accession and chain hash of its seal. -/
  | ledgerAnchorReceive (member : Nat) (uid : BitVec 64) (accession : Nat) (chain : BitVec 384)
  /-- STK_ENUM (0x0501). -/
  | stkEnum (via : Origin)
  /-- STK_RENUMBER (0x0502). -/
  | stkRenumber (via : Origin)
  /-- STK_TUNNEL (0x0503): DST and the inner packet. -/
  | stkTunnel (via : Origin) (dst : Nat) (packet : List Byte)
  /-- STK_PORT_INFO (0x0504). -/
  | stkPortInfo (via : Origin)
  /-- STK_FREC_READ (0x0505): count. -/
  | stkFrecRead (via : Origin) (count : Nat)
  /-- TIME_CFG_WRITE (R466). -/
  | timeCfgWrite (who : Initiator) (v : Word)
  /-- TIME_RATE_WRITE (R464). -/
  | timeRateWrite (who : Initiator) (v : Word)
  /-- TIME_SET (0x0601): seconds, ns, fraction. -/
  | timeSet (via : Origin) (sec ns frac : Nat)
  /-- TIME_STEP (0x0602): signed ns. -/
  | timeStep (via : Origin) (ns : Int)
  /-- TIME_PTP_SAMPLE (0x0603): t1 to t4 and the correction, in units of 2^-16 ns. -/
  | timePtpSample (via : Origin) (t1 t2 t3 t4 : Nat) (corr : Int)
  /-- TIME_STATUS (0x0604). -/
  | timeStatus (via : Origin)
  /-- TIME_HOLDOVER_TIMEOUT (R468). -/
  | timeHoldoverTimeout
  /-- PPS_IN_EDGE (R471). -/
  | ppsInEdge
  /-- PPS_OUT_PULSE (R472). -/
  | ppsOutPulse
  /-- PPS_OUT_FALL (R472). -/
  | ppsOutFall
  /-- TIME_FRAME_SEND (R474). -/
  | timeFrameSend (p : PortId)
  /-- TIME_FRAME_RECEIVE (R475): SLOT_TX, T1, SLOT_RX, T2 (times in 2^-16 ns). -/
  | timeFrameReceive (p : PortId) (slotTx t1 slotRx t2 : Nat)
  /-- TIME_SYNC_SEND (R477). -/
  | timeSyncSend
  /-- TIME_SYNC_RECEIVE (R477): F, T and R (2^-16 ns). -/
  | timeSyncReceive (frame t r : Nat)
  /-- TS_ENTRY_READ (R481). -/
  | tsEntryRead (who : Initiator) (p : PortId)
  /-- TIME_NOW_READ (R465). -/
  | timeNowRead (who : Initiator)
  /-- PPSIN_READ (R471). -/
  | ppsinRead (who : Initiator)
  /-- MBX_DOORBELL (R494). -/
  | mbxDoorbell (who : Initiator) (v : Word)
  /-- MBX_RELEASE (R494). -/
  | mbxRelease (who : Initiator) (v : Word)
  /-- COMMAND_START (R495): the port the packet names, if any, and whether its LENGTH fits its opcode. -/
  | commandStart (via : Origin) (port : Option PortId) (lengthOk : Bool)
  /-- COMMAND_TIMEOUT (R495). -/
  | commandTimeout (via : Origin)
  /-- PORT_INFO (0x0101). -/
  | portInfo (via : Origin) (port : Nat)
  /-- FAR_CMD (0x0102). -/
  | farCmd (via : Origin) (p : PortId) (packet : List Byte)
  /-- FAR_REQUEST_RECEIVE (R499): SESSION, TAG, FRAG, LAST and data of a MGMT request fragment. -/
  | farRequestReceive (p : PortId) (session tag frag : Nat) (last : Bool) (data : List Byte)
  /-- FAR_REPLY_RECEIVE (R500): SESSION, TAG, FRAG, LAST and data of a MGMT response fragment. -/
  | farReplyReceive (p : PortId) (session tag frag : Nat) (last : Bool) (data : List Byte)
  /-- FAR_CMD_TIMEOUT (R498). -/
  | farCmdTimeout (p : PortId)
  /-- LEDGER_INFO (0x0801). -/
  | ledgerInfo (via : Origin)
  /-- LEDGER_READ (0x0802): first accession, count. -/
  | ledgerRead (via : Origin) (first count : Nat)
  /-- LEDGER_SEAL (0x0803): whether the flash program succeeds. -/
  | ledgerSeal (via : Origin) (programOk : Bool)
  /-- LEDGER_NOTE (0x0804): text. -/
  | ledgerNote (via : Origin) (text : List Byte)
  /-- ATTEST_QUOTE (0x0805): nonce. -/
  | attestQuote (via : Origin) (nonce : List Byte)
  /-- CERT_READ (0x0806): chunk. -/
  | certRead (via : Origin) (chunk : Nat)
  /-- KEY_REVOKE (0x0807): slot, signature, and whether VPP_FUSE came up. -/
  | keyRevoke (via : Origin) (slot : Nat) (sig : List Byte) (vppOk : Bool)
  /-- SEAL_DUE (R505): whether the flash program succeeds. -/
  | sealDue (programOk : Bool)
  /-- COUNTERS_RECORD_DUE (R501). -/
  | countersRecordDue
  /-- WITNESS_SEND (R507). -/
  | witnessSend
  /-- ALLOWANCE_REFILL (R506): one record of the allowance falls due. -/
  | allowanceRefill
  /-- CLERK_WATCHDOG_EXPIRE (R490). -/
  | clerkWatchdogExpire
  /-- CLERK_RESTART_DONE (R490): the Clerk firmware section of the booted slot as read again. -/
  | clerkRestartDone (stored : List Byte)
  /-- FIREWALL_VIOLATION (R485): address refused and Clerk core. -/
  | firewallViolation (addr : BitVec 64) (core : Fin 4)
  /-- LIB_ROM_CHECK (R486): whether the digests are equal. -/
  | libRomCheck (ok : Bool)
  /-- LIB_FIREWALL_CHECK (R486): whether the configuration equals the locked value. -/
  | libFirewallCheck (ok : Bool)
  /-- LIB_WATCHDOG_EXPIRE (R486). -/
  | libWatchdogExpire
  /-- PORT_COMMIT (R527): the word written to PORT_COMMIT. -/
  | portCommit (who : Initiator) (p : PortId) (v : Word)
  /-- PORT_REVERT (R528): the word written to PORT_COMMIT. -/
  | portRevert (who : Initiator) (p : PortId) (v : Word)
  /-- LANE_COMMIT (R527). -/
  | laneCommit (who : Initiator) (p : PortId) (n : LaneId) (v : Word)
  /-- LANE_REVERT (R528). -/
  | laneRevert (who : Initiator) (p : PortId) (n : LaneId) (v : Word)
  /-- COMMIT_JUDGE (R527). -/
  | commitJudge (p : PortId)
  /-- REGISTER_WRITE (R523): address, value and byte enables. -/
  | registerWrite (who : Initiator) (addr : BitVec 32) (v : Word) (be : BitVec 4)
  /-- RC_READ (R521). -/
  | rcRead (who : Initiator) (addr : BitVec 32)
  /-- WIDE_LO_READ (R525). -/
  | wideLoRead (who : Initiator) (addr : BitVec 32)
  /-- GLB_WR_STAT_CLEAR (R531). -/
  | glbWrStatClear (who : Initiator) (v : Word)
  /-- SPI_STATUS_READ (R519). -/
  | spiStatusRead
  /-- BAR2_READ (R518): byte offset in the window. -/
  | bar2Read (ofs : Nat)
  /-- BAR2_WRITE (R518). -/
  | bar2Write
  /-- AGC_STEP (R65, R84, R85, R90, R92): the samples up to the end of an AGC interval. -/
  | agcStep (p : PortId) (n : LaneId) (samples : List RxSample)
  /-- SLICE_SWAP (R68, R92, R93). -/
  | sliceSwap (p : PortId) (n : LaneId)
  /-- SLICE_CAL_DONE (R69 to R71, R284, R408): the calibrated trims, each comparator's residual offset and noise, the measured
  differences from the outgoing slice, and the ramp check's slope (0.1 %) and nonlinearity (0.1 code). -/
  | sliceCalDone (p : PortId) (n : LaneId) (cal diff : Int × Int × Int) (comps : List (Int × Nat)) (slope inl : Int)
  /-- CDR_LOCK_LOST (R73, R121): shed trigger 0x2 in ACTIVE. -/
  | cdrLockLost (p : PortId) (n : LaneId)
  /-- ECHO_SEARCH_END (R77): the samples of the first 65,536 symbols of the phase. -/
  | echoSearchEnd (p : PortId) (n : LaneId) (samples : List RxSample)
  /-- ECHO_CONVERGE (R66, R77, R87): the echo power under each of the 256 pairs of hybrid trims, HYB_R first, and the samples. -/
  | echoConverge (p : PortId) (n : LaneId) (powers : List Nat) (samples : List RxSample)
  /-- SNR_WINDOW_END (R64, R72, R86, R87, R266, R128 step 4): whether the CDR holds lock, the SNRs under the 128 combinations of PEAK and LF
  where FAR has tried them, and the samples up to the window's end. -/
  | snrWindowEnd (p : PortId) (n : LaneId) (lock : Bool) (trials : List Nat) (samples : List RxSample)
  /-- ALIGN_FOLIO_RECEIVE (R77, R78, R88 to R91, R107, R289, R290): the decisions on groups 52 to 1,547, and the samples up to the folio's
  end. -/
  | alignFolioReceive (p : PortId) (n : LaneId) (decisions : List Int) (samples : List RxSample)
  /-- ANCHOR_REVERT (R89, R91). -/
  | anchorRevert (p : PortId) (n : LaneId)
  /-- HOST_CODEWORD_RECEIVE (R242 to R245, R229, R232, R233, R276, R278): the data codeword of a physical lane in a period, with
  its symbols in error (none: missing), its 20 units as received, and whether its blocks come more than 20 ns after a hold
  appeared on the bus. -/
  | hostCodewordReceive (p : PortId) (h : HostLaneId) (period : Nat) (errs : Option Nat) (units : List (BitVec 257)) (late : Bool)
  /-- FOLIO_RECEIVE (R102, R106, R109, R196). -/
  | folioReceive (p : PortId) (n : LaneId) (f : RxFolio)
  /-- NAK_REPEAT_DUE (R200): T_rep has passed since the last send of the entry. -/
  | nakRepeatDue (p : PortId) (n : LaneId) (slot : Nat)
  /-- BLOCK_LOCK_ACQUIRE (R80, R108): for each hypothesis of the round, from its first, which of its candidate headers were valid. -/
  | blockLockAcquire (p : PortId) (n : LaneId) (headers : List (List Bool))
  /-- BLOCK_LOCK_LOSS (R109, Table 4.5). -/
  | blockLockLoss (p : PortId) (n : LaneId)
  /-- ALIGNMENT_LOSS (R112, Table 4.5). -/
  | alignmentLoss (p : PortId) (n : LaneId)
  /-- FOLLOWER_COUNT_LOAD (R111): at the slot boundary after its first lane is aligned, the follower takes the projected count of
  the folio then arriving as its own. -/
  | followerCountLoad (p : PortId) (n : LaneId)
  /-- ALIGN_TIMEOUT (R120): 16 alignment periods after the entry into ALIGN the lanes ready on both sides are added if enough,
  otherwise the port goes to DOWN. -/
  | alignTimeout (p : PortId)
  /-- CHANGE_EPOCH (R117, R126): at the boundary that begins the agreed epoch. -/
  | changeEpoch (p : PortId)
  /-- LANE_QUARANTINE (R122, R124, R127, R205): at the boundary after an own trigger. -/
  | laneQuarantine (p : PortId) (n : LaneId)
  /-- PARTNER_QUARANTINE (R123): at the boundary after this side has learned of the partner's shed; the notice has its ACK. -/
  | partnerQuarantine (p : PortId) (n : LaneId)
  /-- LANE_REQ_SHED (R126). -/
  | laneReqShed (who : Initiator) (p : PortId) (v : Word)
  /-- LANE_REQ_ADD (R128). -/
  | laneReqAdd (who : Initiator) (p : PortId) (v : Word)
  /-- PLANNED_SHED_DEADLINE (R126): the first slot of the epoch 16 epochs before the change epoch. -/
  | plannedShedDeadline (p : PortId)
  /-- READD_HOLDOFF_EXPIRE (R128, R129): in QUIET and WAKE the attempt waits. -/
  | readdHoldoffExpire (p : PortId) (n : LaneId)
  /-- ADD_ATTEMPT_TIMEOUT (R129): 8 alignment periods after the attempt started. -/
  | addAttemptTimeout (p : PortId) (n : LaneId)
  /-- LANE_NOTICE_RECEIVE (R123, R126, R127, R556, R557): NOTICE_ID, KIND, QUAR, NEXT_MAP and CHG_EPOCH. -/
  | laneNoticeReceive (p : PortId) (id kind quar nextMap epoch : Nat)
  /-- ADD_NOTICE_RECEIVE (R128, R557). -/
  | addNoticeReceive (p : PortId) (id : Nat) (n : LaneId)
  /-- NOTICE_ACK_RECEIVE (R122, R126, R128, R556): NOTICE_ID and TYPE of the notice answered, the lane or NEXT_MAP, CHG_EPOCH. -/
  | noticeAckReceive (p : PortId) (id typ what epoch : Nat)
  /-- NOTICE_DECLINE_RECEIVE (R557): with REASON 0x1 the request waits; otherwise an add attempt has failed. -/
  | noticeDeclineReceive (p : PortId) (id typ lane reason epoch : Nat)
  /-- PREAMBLE_DETECT (R139 to R142, R147): the powers of the RX0 and TX0 inputs during the preamble (0.25 dB; of the common-mode sum
  twice), and the time in ns since the transmitter that can blank the input last sent. -/
  | preambleDetect (p : PortId) (cm : Bool) (rx0 tx0 : Int) (since : Nat)
  /-- FALSE_DETECT (R143). -/
  | falseDetect (p : PortId) (cm : Bool)
  /-- NEW_PREAMBLE_DETECT (R141, R144, R145, R147): the new preamble's power (0.25 dB), how far its timing (1/16 chirp) and its
  peak bin lie from the current reception's, whether that reception has found sync, and whether the new one is on TX0. -/
  | newPreambleDetect (p : PortId) (cm : Bool) (power : Int) (timing bin : Nat) (synced tx0 : Bool)
  /-- SND_RECEPTION_TRUNCATE (R146): the powers of two consecutive symbol windows, 0.25 dB. -/
  | sndReceptionTruncate (p : PortId) (cm : Bool) (w1 w2 : Int)
  /-- SND_HEADER_RECEIVE (R136): the 32 bits of the header. -/
  | sndHeaderReceive (p : PortId) (cm : Bool) (w : Word)
  /-- SND_FRAME_RECEIVE (R137, R138): the payload and CRC bytes as sent. What the frame says is the command of its type; one of a
  type that is reserved or not expected acts no further. -/
  | sndFrameReceive (p : PortId) (cm : Bool) (raw : List Byte)
  /-- TURN_REPLY (R19, R148, R154, R162): the due frame starts; an ACCEPT, but for one that answers a closing OFFER, and a GO wait
  for the group to provide the offered rate. A port in SOUND enters PARLEY as it sends its RETURN. -/
  | turnReply (p : PortId)
  /-- CM_FRAME_SEND (R19, R149, R150, R151): clear says that in native duplex TURN has passed since the last frame ended and the
  last detection. -/
  | cmFrameSend (p : PortId) (clear : Bool)
  /-- SND_FRAME_RESEND (R129, R149, R273, R405): the k-th waiting frame has had no reply within 160 chirp times and its random
  delay; the fourth resend is the last, and then what it asked for lapses. -/
  | sndFrameResend (p : PortId) (k : Nat)
  /-- WAKE_BURST_DETECT (R151, R278, R279): the detector declares a wake; a side in QUIET is a responder. -/
  | wakeBurstDetect (p : PortId)
  /-- SOUND_ROUND (R153): a round begins and draws the offset of its CALL, 0 to 899 µs. -/
  | soundRound (p : PortId)
  /-- CALL_SEND (R19, R148, R153): the round's CALL is sent at SF 9, or SF 12 in every eighth round of a port that sends long
  calls; while the receiver is in a reception it waits. -/
  | callSend (p : PortId)
  /-- SOUND_WINDOW_END (R155). -/
  | soundWindowEnd (p : PortId)
  /-- CALL_RECEIVE (R154, R156, R163): the CALL's fields, its SF and its SNR (0.25 dB). -/
  | callReceive (p : PortId) (c : CallInfo) (sf : Nat) (snr : Int)
  /-- RETURN_RECEIVE (R154, R157): the RETURN's fields, those of the CALL it answers, the PAIR it reports and its SF. -/
  | returnReceive (p : PortId) (c : CallInfo) (cRand cUid cPort : Nat) (pairTx : Bool) (sf : Nat)
  /-- PROBE_RECEIVE (R159 to R161, R163): SESSION, the mask of the train, the partner's estimates, what this side measured of the
  train on each lane, and the lane-0 round trip the leader measured (0.1 ns). -/
  | probeReceive (p : PortId) (session mask : Nat) (est measured : List LaneEst) (rtt : Nat)
  /-- OFFER_RECEIVE (R20, R162 to R164): the follower answers once its group provides the rate, or refuses. -/
  | offerReceive (p : PortId) (session : Nat) (o : Offer)
  /-- ACCEPT_RECEIVE (R162, R164): GO once the leader's own group provides the rate, or a new OFFER. -/
  | acceptReceive (p : PortId) (session no : Nat)
  /-- REFUSE_RECEIVE (R162): a new OFFER with the follower's RATES. -/
  | refuseReceive (p : PortId) (session no rates : Nat)
  /-- GO_RECEIVE (R162): the follower puts the agreed parameters in force. -/
  | goReceive (p : PortId) (session : Nat)
  /-- PARLEY_RESEND (R163, R315): 5 ms without a reply; at most 3 resends. An IL_REQ without an answer ends in TIMEOUT. -/
  | parleyResend (p : PortId)
  /-- PARLEY_TIMEOUT (R164): 40 ms in PARLEY, or the resends of R163 are exhausted; a leader whose closing OFFER got no ACCEPT
  fails with its code. exhausted: it is the resends that have ended. -/
  | parleyTimeout (p : PortId) (exhausted : Bool)
  /-- NEG_RETRY_EXPIRE (R164, R182): RETRY ms after the failure the port, or a sub-port of it, starts again. -/
  | negRetryExpire (p : PortId) (sub : Option SubId)
  /-- TRAIN_START (R72, R162, R166): TRAIN_GO_DELAY after GO; the common-mode instance runs from now on. -/
  | trainStart (p : PortId)
  /-- CLAUSE73_PAGE_RECEIVE (R155): a valid base page on a sub-port's lowest lane, and the PHYs it offers, bit code − 1; during SOUND
  it ends the window. -/
  | clause73PageReceive (p : PortId) (i : SubId) (page : BitVec 48) (able : BitVec 8)
  /-- CLAUSE73_RESOLVE (R4, R18, R20, R176, R177, R251): the PHY of highest priority that both sides advertise. -/
  | clause73Resolve (p : PortId) (i : SubId)
  /-- AN_ATTEMPT_TIMEOUT (R156, R177): no base page, or the group could not provide 53.125 GHz in time. -/
  | anAttemptTimeout (p : PortId) (i : SubId)
  /-- TRAIN_STAT_SEND (R167): the frame falls due with the tap requests of firmware, eight of 16 bits. -/
  | trainStatSend (p : PortId) (req : List (BitVec 16))
  /-- TRAIN_STAT_RECEIVE (R167, R168): SESSION, STEP, SEQ, the CONV and CDR masks, tap requests, ACK_SEQ and the training set. -/
  | trainStatReceive (p : PortId) (session step seq conv cdr : Nat) (req : List (BitVec 16)) (ack set : Nat)
  /-- TRAIN_STEP_SWITCH (R167, R169): 20 µs after the announcement. -/
  | trainStepSwitch (p : PortId)
  /-- TRAIN_STEP_TIMEOUT (R168): the leader removes the lanes that have not met the end condition. -/
  | trainStepTimeout (p : PortId)
  /-- TRAIN_PARTNER_TIMEOUT (R168). -/
  | trainPartnerTimeout (p : PortId)
  /-- TRAIN_TIMEOUT (R168). -/
  | trainTimeout (p : PortId)
  /-- IEEE_TRAIN_DONE (R46, R83, R181): the sub-port enters UP, with the precoding that each side asked for and the coefficient
  requests that the partner made on each lane, in order. -/
  | ieeeTrainDone (p : PortId) (i : SubId) (partnerAsks wants : Bool) (reqs : List (LaneId × List CoefReq))
  /-- IEEE_TRAIN_TIMEOUT (R181). -/
  | ieeeTrainTimeout (p : PortId) (i : SubId)
  /-- IEEE_SUBPORT_FAIL (R182). -/
  | ieeeSubportFail (p : PortId) (i : SubId) (why : SubFail)
  /-- IEEE_CODEWORD_RECEIVE (R178 to R180, R184): received from the host or the line; the PCS lane found on each lane, its 20 blocks,
  how many of its RS symbols were in error, and the blocks by which the clocks have drifted. -/
  | ieeeCodewordReceive (p : PortId) (i : SubId) (host : Bool) (order : List Nat) (blocks : List PcsBlock) (errs : Nat) (drift : Int)
  /-- MDIO_PAGE_WRITE (R187): MMD 30, register 0x0000, of the port address of the frame. -/
  | mdioPageWrite (prtad : BitVec 5) (v : BitVec 16)
  /-- MDIO_PMA_RESET (R188): 1.0 bit 15; the sub-port goes to DOWN and starts again at once. -/
  | mdioPmaReset (prtad : BitVec 5)
  /-- MDIO_AN_RESTART (R189): 7.0 bit 9. -/
  | mdioAnRestart (prtad : BitVec 5)
  /-- MDIO_ADV_MASK_WRITE (R189): the PHYs whose abilities the register written holds, and those of them whose bits it sets, bit
  code − 1; the clause gives the bits their places. -/
  | mdioAdvMaskWrite (prtad : BitVec 5) (covers sets : BitVec 8)
  /-- PORT_DOWN_ENTER (R20, R21, R164, R264, R298, R558): at the next slot boundary after a cause. A port that failed to negotiate
  or train holds off before it starts again, but for a restart and for lane 0 off. -/
  | portDownEnter (p : PortId)
  /-- HOST_MARKER_RECEIVE (R244 to R246, R249, R250): unit 0 of the marker codeword of physical lane h; none where the codeword
  is missing or uncorrectable. -/
  | hostMarkerReceive (p : PortId) (h : HostLaneId) (d : Option (BitVec 256))
  /-- HOST_FRAME_START (R245, R247, R249): a frame of the device's transmit side, or of the host's, begins. -/
  | hostFrameStart (p : PortId) (tx : Bool)
  /-- HOST_LANE_FAIL (R248): a receive lane that carries a logical lane fails. -/
  | hostLaneFail (p : PortId) (h : HostLaneId) (why : HostFail)
  /-- HOST_REQ_TX_MOVE (R249). -/
  | hostReqTxMove (who : Initiator) (p : PortId) (v : Word)
  /-- FSI_CTRL_WRITE (R252, R259). -/
  | fsiCtrlWrite (who : Initiator) (v : Word)
  /-- FSI_CLK_LOSS (R258). -/
  | fsiClkLoss
  /-- FSI_CLK_RESTORE (R258). -/
  | fsiClkRestore
  /-- FSI_EVENT_EXPIRE (R255). -/
  | fsiEventExpire (p : PortId)
  /-- LINK_REQ_WAKE (R278). -/
  | linkReqWake (who : Initiator) (p : PortId) (v : Word)
  /-- LINK_REQ_RESTART (R264). -/
  | linkReqRestart (who : Initiator) (p : PortId) (v : Word)
  /-- LINK_SNAP_REQUEST (R269). -/
  | linkSnapRequest (who : Initiator) (p : PortId) (v : Word)
  /-- LINK_SNAP_TAKE (R269). -/
  | linkSnapTake (p : PortId)
  /-- EYE_HEIGHT_UPDATE (R267): the ADC codes of the active slices over the 2^22 samples. -/
  | eyeHeightUpdate (p : PortId) (n : LaneId) (codes : List Nat)
  /-- EYE_WIDTH_UPDATE (R268): the 4,096 samples taken at each of the 32 offsets, −32/64 UI first. -/
  | eyeWidthUpdate (p : PortId) (n : LaneId) (offsets : List (List Nat))
  /-- QUIET_REQUEST (R271, R273): the host has been idle for QUIET_IDLE. -/
  | quietRequest (p : PortId)
  /-- QUIET_REQ_RECEIVE (R273): requests that cross acknowledge each other at the later epoch. -/
  | quietReqReceive (p : PortId) (epoch : Nat)
  /-- QUIET_ACK_RECEIVE (R273). -/
  | quietAckReceive (p : PortId) (epoch : Nat)
  /-- QUIET_DECLINE_RECEIVE (R273): no request until QUIET_IDLE has elapsed afresh. -/
  | quietDeclineReceive (p : PortId) (epoch : Nat)
  /-- QUIET_ENTER (R273): at the epoch's first slot of this side's transmit count. -/
  | quietEnter (p : PortId)
  /-- REFRESH_WINDOW_START (R274, R275). -/
  | refreshWindowStart (p : PortId)
  /-- REFRESH_WINDOW_END (R93, R275): after the window's last slot. -/
  | refreshWindowEnd (p : PortId)
  /-- WAKE_TRIGGER (R276, R278, Table 10.6). A host block wakes ports of class 1 to 3 only. -/
  | wakeTrigger (p : PortId) (why : WakeCause)
  /-- WAKE_TX_DATA (R279): 1,250 ns + RTT / 2 after the burst start, at a slot boundary. -/
  | wakeTxData (p : PortId)
  /-- WAKE_RESPOND (R279): at the first slot boundary after detection. -/
  | wakeRespond (p : PortId)
  /-- WAKE_BURST_TIMEOUT (R151, R279): a burst that ends at 8 µs without an answer is sent once more. -/
  | wakeBurstTimeout (p : PortId)
  /-- WAKE_TIMEOUT (R279): 20 µs after the trigger or detection. -/
  | wakeTimeout (p : PortId)
  /-- SOUNDING_FRAME_SENT (R51, R148, R149, R160). -/
  | soundingFrameSent (p : PortId) (kind : SentKind)
  /-- FSI_CLK_EDGE (R252, R253, R256, R257): a rising edge with FSI_SEL as captured; holds and releases enter the shadow. -/
  | fsiClkEdge (sel : BitVec 7)
  /-- FSI_SEL_CHANGE (R254): in select mode the word of the port named is driven in the same cycle. -/
  | fsiSelChange (sel : BitVec 7)
  /-- FLASH_OPERATION_DONE (R303, R305, R390, R391): the operation that holds the flash ends, well or not. -/
  | flashOperationDone (ok : Bool)
deriving DecidableEq, Repr

end Sys2Proof
end

