-- ==== Sys2Proof/Machine/Codes.lean ====
section
/-!
DEFINITION. Check codes and keystreams: CRC-32 and CRC-8 of sounding frames (R136, R137), CRC-16 of heads (R102), and the
PN9 generator (R137).
-/
namespace Sys2Proof.Machine

/-- One bit of the CRC-32 of the IEEE 802.3 frame check sequence, reflected. -/
def crc32Bit (c : BitVec 32) : BitVec 32 := if c.getLsbD 0 then (c >>> 1) ^^^ 0xEDB88320 else c >>> 1

/-- One byte of the CRC-32. -/
def crc32Byte (c : BitVec 32) (b : Byte) : BitVec 32 :=
  crc32Bit (crc32Bit (crc32Bit (crc32Bit (crc32Bit (crc32Bit (crc32Bit (crc32Bit (c ^^^ b.setWidth 32))))))))

/-- The CRC-32 of a byte string (R137). -/
def crc32 (l : List Byte) : Word := ~~~ (l.foldl crc32Byte 0xFFFFFFFF)

/-- A CRC shifted by one message bit, most significant bit first, under a polynomial. -/
def crcStep {w : Nat} (poly : BitVec w) (c : BitVec w) (b : Bool) : BitVec w :=
  if c.msb != b then (c <<< 1) ^^^ poly else c <<< 1

/-- The bits of a number, most significant of k first. -/
def msbBits (k v : Nat) : List Bool := (List.range k).map fun i => v.testBit (k - 1 - i)

/-- Bits read as a number, most significant first. -/
def bitsNat (l : List Bool) : Nat := l.foldl (fun a b => 2 * a + b2n b) 0

/-- The CRC-8 x^8 + x^2 + x + 1 with initial value 0 (Table 5.3). -/
def crc8 (l : List Bool) : BitVec 8 := l.foldl (crcStep (0x07 : BitVec 8)) 0

/-- The CRC-16 x^16 + x^12 + x^5 + 1 with initial value 0xFFFF (R102). -/
def crc16 (l : List Bool) : BitVec 16 := l.foldl (crcStep (0x1021 : BitVec 16)) 0xFFFF

/-- The PN9 generator x^9 + x^5 + 1 (R137): k bits from a register, bit 8 the oldest. -/
def pn9 : Nat → BitVec 9 → List Bool
  | 0, _ => []
  | k + 1, r =>
    let b := r.msb
    b :: pn9 k ((r <<< 1) ||| (if b != r.getLsbD 4 then 1 else 0))

/-- Bytes whitened with PN9 from all ones, bit 7 of each first (R137). -/
def whiten (l : List Byte) : List Byte :=
  let ks := pn9 (8 * l.length) 0x1FF
  l.zipIdx.map fun x => x.1 ^^^ BitVec.ofNat 8 (bitsNat ((ks.drop (8 * x.2)).take 8))

end Sys2Proof.Machine
end

