-- ==== Sys2Proof/Config.lean ====
section
/-!
DEFINITION. What an implementation fixes and what the specification leaves open: uninterpreted constants with no body, so
that no proof can see a value of them. Each is applied to the operands it depends on, or to State.fresh, the counter
of free values drawn so far.
-/
namespace Sys2Proof.Config

/-- The device's random source (R153, R156, R149): the n-th draw. -/
opaque random : Nat → Nat
/-- An output of the signing engine over a message (R488, R505, R511): the device identity key is never visible. -/
opaque sign : List Byte → BitVec 768
/-- SHA-384 of a byte string (FIPS 180, named by R503): the specification does not restate the function. -/
opaque sha384 : List Byte → BitVec 384
/-- Whether an ECDSA P-384 signature over a message verifies under the key of a slot (R488). -/
opaque verifyKey : Nat → List Byte → List Byte → Bool
/-- IMG_KEYn of the OTP (Table 20.3a): SHA-384 of an image signing public key. -/
opaque imgKey : Nat → BitVec 384
/-- Whether an ECDSA P-384 signature with SHA-384 over a message verifies under a public key (R383). -/
opaque ecdsa : List Byte → List Byte → List Byte → Bool
/-- AES-256-GCM under IMG_AES (R384): the plaintext of an IV, a ciphertext and a tag; none where the tag does not match. -/
opaque gcm : List Byte → List Byte → List Byte → Option (List Byte)
/-- Whether a signature of the scan authority over a message verifies (R412). -/
opaque verifyScan : List Byte → List Byte → Bool
/-- GLB_UID, fused at manufacture (Table 21.12). -/
opaque uid : BitVec 64
/-- GLB_REV, fused at manufacture (Table 21.11). -/
opaque glbRev : Word
/-- CERTS of the OTP (Table 20.3a), by byte index. -/
opaque certByte : Nat → Byte
/-- How many counter bits fail to program one after the other when the ledger starts a block between boots, by C (R504). -/
opaque ctrFails : Nat → Nat
/-- Which way a half-way value rounds where a rule says round and names no direction (R42, R59, R227). -/
opaque roundTie : Int → Bool
/-- The FFE output, in 1/256 code, that one unit of level is at an RX_AGC.TARGET, in native and in IEEE modes: no rule scales it. -/
opaque levelUnit : Nat → Bool → Nat
/-- One LSB of an echo tap and of a NEXT tap, in 1/256 code at the FFE output for each DAC code (R75, R79): neither is stated. -/
opaque echoUnit : Nat
opaque nextUnit : Nat
/-- The lane's own transmit signal in R77, R78 and R87, in 1/256 code at the FFE output for each DAC code: the reference is not stated. -/
opaque ownUnit : Nat
/-- The clock recovery loop (R73): from its detector's output, the interpolator phase and the frequency offset (ppm), the new two. -/
opaque cdrLoop : Int → Nat → Int → Nat × Int
/-- The bits that a lane's pattern generator starts from (R406): the rule gives no starting point. -/
opaque prbsSeed : Nat → BitVec 31
/-- The expected count of pattern cycles and the expected signature that the ROM holds for a memory group (R398). -/
opaque bistCycles : Nat → Nat
opaque bistSignature : Nat → BitVec 64
/-- The check bits of the SECDED code on a 256-bit word of a parcel (R219): the rule names no code. -/
opaque secded : BitVec 256 → BitVec 10
/-- The clause's error mark on a 257-bit block (R178). -/
opaque pcsMark : BitVec 257 → BitVec 257
/-- The PMA/PMD type code that the clause gives a PHY (1.7, Table 6.6). -/
opaque pmaType : Nat → BitVec 16
/-- The abilities word of the clause's base page for a set of PHYs, bit code − 1 (7.16 to 7.18, Table 6.6). -/
opaque advPage : Nat → BitVec 48
/-- The resolved technology of a PHY as the clause shows it (7.48, Table 6.6). -/
opaque anResolved : Nat → BitVec 16
/-- The correction the Clerk's servo makes to ADJ at a sample (R467): the gains are firmware policy. Applied to the draw and
the offset. -/
opaque clerkServo : Nat → Int → Int
/-- A byte the specification gives no value to, by draw. -/
opaque freeByte : Nat → Byte
/-- A number the specification gives no value to, by draw. -/
opaque freeNat : Nat → Nat

end Sys2Proof.Config
end

