-- ==== Sys2Proof/Machine/State.lean ====
section
/-!
DEFINITION. The whole state of the block as plain data, the reasons a step may stop, and the state after reset. Every
field is listed in INVENTORY.md with the rule that names it.
-/
namespace Sys2Proof.Machine

/-- The reasons a step stops the model. No meaning of this model raises one: every command of the table has an effect
or, where its condition does not hold, leaves the state unchanged. -/
inductive Fault where
  /-- Raised by nobody: kept so that the type has a member; safe, since a stop can prove no false claim. -/
  | none
deriving DecidableEq, Repr

/-- The reasons the model refuses a command. -/
inductive Refusal where
  /-- Raised by Machine/Dispatch.lean for a command that has no meaning yet: safe. -/
  | notModelled (mnemonic : String)
deriving DecidableEq, Repr

/-- The state of the device. -/
structure State where
  part : Part
  /-- DESIGN CHOICE: the model's counter of free values drawn, see Config -/
  fresh : Nat
  /-- uptime in units of 1/37 ns: a CLK_CTRL cycle is 100 units on the root and 185 on the FRO (R421, Table 13.2) -/
  uptime : Nat
  ports : Vector Port 96
  pods : Vector Pod 8
  flt : HubFlt
  fw : FwSt
  ledger : LedgerSt
  store : SpillStore
  fsi : FsiSt
  reg : RegSt
  clk : ClkSt
  pwr : PowerSt
  boot : BootSt
  test : TestSt
  stack : StackSt
  time : TimeSt
  cal : CalSt
  cap : CaptureSt
  /-- the commands that wait, first in first out -/
  pending : List Instr
deriving DecidableEq, Repr

/-- The machine right after reset (every register at its reset value; no command waits). -/
def State.reset : State :=
  { part := .a, fresh := 0, uptime := 0, ports := Vector.replicate 96 Port.reset,
    pods := Vector.replicate 8 Pod.reset, flt := HubFlt.reset, fw := FwSt.reset, ledger := LedgerSt.reset,
    store := SpillStore.reset, fsi := FsiSt.reset, reg := RegSt.reset, clk := ClkSt.reset, pwr := PowerSt.reset,
    boot := BootSt.reset, test := TestSt.reset, stack := StackSt.reset, time := TimeSt.reset, cal := CalSt.reset,
    cap := CaptureSt.reset, pending := [] }

end Sys2Proof.Machine
end

