-- ==== Sys2Proof/Machine/Ops.lean ====
section
/-!
DEFINITION. The named operations every meaning is written over: banks and time, register access outcomes (R516 to R525),
slot memory (R493), stack messages (R444 to R447, R453), the ledger (R501 to R508), faults and safe states (R417 to R435),
link state changes (R264, R209, R231) and command replies (R495, R496).
-/
namespace Sys2Proof.Machine

/-! ### Banks, time and draws -/

/-- Change the element at a number, if the bank has it. -/
def updNat {α : Type} {n : Nat} (v : Vector α n) (i : Nat) (f : α → α) : Vector α n :=
  if h : i < n then updAt v ⟨i, h⟩ f else v

/-- The element at a number, or a default. -/
def getNat {α : Type} {n : Nat} (v : Vector α n) (i : Nat) (d : α) : α :=
  if h : i < n then v[i] else d

/-- An element put into an ordered list before the first element it may precede. -/
def insertBy {α : Type} (le : α → α → Bool) (a : α) : List α → List α
  | [] => [a]
  | b :: l => if le a b then a :: b :: l else b :: insertBy le a l

/-- A list in an order; elements that may precede each other keep their order. -/
def sortBy {α : Type} (le : α → α → Bool) (l : List α) : List α := l.foldr (insertBy le) []

/-- The element of a list at an index changed. -/
def listUpd {α : Type} (l : List α) (i : Nat) (f : α → α) : List α := l.modify i f

/-- A port. -/
def State.port (s : State) (p : PortId) : Port := s.ports[p.val]
/-- A lane. -/
def State.lane (s : State) (p : PortId) (n : LaneId) : Lane := (s.port p).lanes[n.val]
/-- A pod. -/
def State.pod (s : State) (k : PodId) : Pod := s.pods[k.val]
/-- Change a port. -/
def State.modPort (s : State) (p : PortId) (f : Port → Port) : State := { s with ports := updAt s.ports p f }
/-- Change a lane. -/
def State.modLane (s : State) (p : PortId) (n : LaneId) (f : Lane → Lane) : State :=
  s.modPort p fun q => q.modLane n f
/-- Change every port. -/
def State.mapPorts (s : State) (f : PortId → Port → Port) : State := { s with ports := mapIdx s.ports f }
/-- Change every lane of a port. -/
def State.mapLanes (s : State) (p : PortId) (f : LaneId → Lane → Lane) : State := s.modPort p fun q => q.mapLanes f
/-- Change a pod. -/
def State.modPod (s : State) (k : PodId) (f : Pod → Pod) : State := { s with pods := updAt s.pods k f }
/-- Change every pod. -/
def State.mapPods (s : State) (f : PodId → Pod → Pod) : State := { s with pods := mapIdx s.pods f }

/-- Every port number. -/
def allPorts : List PortId := List.finRange 96
/-- Every lane number. -/
def allLanes : List LaneId := List.finRange 8
/-- The ports of a pod (R16). -/
def portsOfPod (k : PodId) : List PortId := allPorts.filter fun p => podOf p = k
/-- The ports of a lane PLL group (R16). -/
def portsOfGroup (k : PodId) (g : Nat) : List PortId := allPorts.filter fun p => podOf p = k && decide ((groupOf p).val = g)
/-- The ports of a host PLL (R16). -/
def portsOfHostPll (k : PodId) (h : Nat) : List PortId := allPorts.filter fun p => podOf p = k && decide (hostPllOf p = h)

/-- Uptime in nanoseconds (R421). -/
def State.nowNs (s : State) : Nat := s.uptime / 37

/-- Draw a value of the random source (R153). -/
def State.draw (s : State) : Nat × State := (Config.random s.fresh, { s with fresh := s.fresh + 1 })

/-- Draw a free value. -/
def State.freeNat (s : State) : Nat × State := (Config.freeNat s.fresh, { s with fresh := s.fresh + 1 })

/-- A pod is present and its bridge is UP, so its windows are accessible (R515). -/
def State.podOpen (s : State) (k : PodId) : Bool := s.part.hasPod k && (s.pod k).bridge.up

/-- A port is present and its window accessible. -/
def State.portOpen (s : State) (p : PortId) : Bool := s.part.hasPort p && s.podOpen (podOf p)

/-- The lane PLL group of a port (R16). -/
def State.group (s : State) (p : PortId) : LpllGroup := (s.pod (podOf p)).groups[(groupOf p).val]

/-- Change the lane PLL group of a port. -/
def State.modGroup (s : State) (k : PodId) (g : GroupId) (f : LpllGroup → LpllGroup) : State :=
  s.modPod k fun q => { q with groups := updAt q.groups g f }

/-- A PLL of a group is relocking (R19). -/
def LpllGroup.relocking (g : LpllGroup) : Bool := g.target.isSome && !g.lock

/-- POD_LPLL_STATg.RETUNE_PEND (R21, Table 1.6): a written plan, or a frequency that a port needs under AUTO, waits. -/
def LpllGroup.retunePend (g : LpllGroup) : Bool :=
  decide (g.plan ≠ g.planInForce) || g.need.isSome || (decide (g.planInForce = 0) && !g.waiting.isEmpty)

/-- A port of the group needs nothing of it any more. -/
def LpllGroup.leave (g : LpllGroup) (p : PortId) : LpllGroup :=
  { g with waiting := g.waiting.erase p, need := g.need.filter fun x => x.1 ≠ p }

/-- A port's group relocks: its transmitters hold their idle level, its line receivers discard input, and its sounding timers
stand still (R19, R152). -/
def State.relocking (s : State) (p : PortId) : Bool := (s.group p).relocking

/-- The bits of a port staged register that are fields on a part: DUPLEX_EN is RO 0 on the MLB-9620S (R13, Table 5.14). -/
def stMask (p : Part) (r : PortSt) : Word :=
  if r = .sndCtrl && !p.hasDuplex then r.mask &&& 0xFFFFFFF7 else r.mask

/-- The link of a port is enabled (R262). -/
def Port.enabled (q : Port) : Bool := bitOf (q.act .linkCtrl) 0
/-- The port's mode in force is IEEE (LINK_CTRL.MODE, Table 10.9). -/
def Port.ieeeMode (q : Port) : Bool := q.snd.path = .ieee
/-- The port is in DOWN with its link disabled (R308, R297). -/
def Port.idleDown (q : Port) : Bool :=
  decide (q.link.state = .down) && !q.enabled && q.ieee.toList.all fun b => decide (b.state = .down)
/-- The lanes of a port carrying data: in the map and not quarantined (R115). -/
def Port.active (q : Port) : Nat := q.code.map &&& (0xFF ^^^ q.code.quar)
/-- How many lanes a mask names. -/
def popcount8 (m : Nat) : Nat := (List.range 8).countP fun i => m.testBit i

/-! ### Outcomes of register accesses -/

/-- A write that cannot take effect (R523): the initiator's bit, the first address, and the SPI frame flag. -/
def ignored (who : Initiator) (addr : Nat) (s : State) : State :=
  { s with reg := { s.reg with
      wrStat := s.reg.wrStat ||| (1 <<< who.bit),
      wrAddr := if s.reg.wrStat = 0 then addr else s.reg.wrAddr,
      spiWrIgn := s.reg.spiWrIgn || decide (who = .spi), reply := .ignored } }

/-- A write that took effect. -/
def written (s : State) : State := { s with reg := { s.reg with reply := .written } }

/-- A read that answered a value. -/
def readValue (w : Word) (s : State) : State := { s with reg := { s.reg with reply := .value w } }

/-- A bus error (R347, R516, R519). -/
def busError (who : Initiator) (s : State) : State :=
  { s with reg := { s.reg with reply := .busError, spiErr := s.reg.spiErr || decide (who = .spi) } }

/-- Whether an address lies in a region that the part has and that is accessible now (Tables 21.1 and 21.3). -/
def accessible (s : State) (addr : Nat) : Bool :=
  if addr < 0x20000 then true
  else if addr < 0x30000 then bitOf s.clk.gate 10
  else if addr < 0x40000 then
    if 0x30020 ≤ addr && addr < 0x30040 then bitOf s.clk.gate (12 + (addr - 0x30020) / 8)
    else bitOf s.clk.gate 12 || bitOf s.clk.gate 13 || bitOf s.clk.gate 14 || bitOf s.clk.gate 15
  else if addr < 0x50000 then s.part.hasStore && bitOf s.clk.gate 11
  else if addr < 0x60000 then true
  else if addr < 0x80000 then false
  else if addr < 0x100000 then
    if h : (addr - 0x80000) / 0x10000 < 8 then s.podOpen ⟨(addr - 0x80000) / 0x10000, h⟩ else false
  else if addr < 0x1000000 then false
  else if h : (addr - 0x1000000) / 0x10000 < 96 then s.portOpen ⟨(addr - 0x1000000) / 0x10000, h⟩
  else false

/-- A register access: the bus error of an inaccessible address (R516), the writes ignored before CONFIG_DONE (R377), and
otherwise the register's own effect. -/
def regWrite (who : Initiator) (addr : Nat) (s : State) (f : State → State) : State :=
  if !accessible s addr then busError who s
  else if (decide (who = .pcie) || decide (who = .spi) || decide (who = .mdio)) && !s.boot.configDone
      && !(decide (0x50000 ≤ addr) && decide (addr < 0x60000)) then ignored who addr s
  else f s

/-- The hub domains are not all on the root, or one ramps: a read through SPI may take longer than 120 ns (R519). -/
def State.hubSlow (s : State) : Bool := s.clk.dom.toList.any fun d => d.fro || decide (d.ramp ≠ 0)

/-- What the SPI data phase shows of a read (R519): all ones, with LATE, where the data was not ready in time. Whether it was, while
the hub is slow, is a free value (log 133). -/
def spiData (who : Initiator) (s : State) : State :=
  if who = .spi && s.hubSlow then
    let d := s.freeNat
    if d.1 % 2 = 1 then { d.2 with reg := { d.2.reg with spiLate := true, reply := .value 0xFFFFFFFF } } else d.2
  else s

/-- A register read: the bus error of an inaccessible address, and otherwise the register's own effect. -/
def regRead (who : Initiator) (addr : Nat) (s : State) (f : State → State) : State :=
  if accessible s addr then spiData who (f s) else busError who s

/-- The base address of a port window (R515). -/
def portBase (p : PortId) : Nat := 0x1000000 + p.val * 0x10000
/-- The base address of a lane window (R61). -/
def laneBase (p : PortId) (n : LaneId) : Nat := portBase p + 0x8000 + n.val * 0x800
/-- The base address of a pod window (R515). -/
def podBase (k : PodId) : Nat := 0x80000 + k.val * 0x10000

/-! ### Slot memory -/

/-- The byte of slot memory at an address; a byte nothing has written reads 0 (DESIGN CHOICE). -/
def memRead (m : List (Nat × Byte)) (a : Nat) : Byte :=
  match m.find? fun c => c.1 == a with
  | some c => c.2
  | none => 0

/-- Write a byte: addresses stay strictly rising and no zero byte is listed. -/
def memWrite : List (Nat × Byte) → Nat → Byte → List (Nat × Byte)
  | [], a, b => if b = 0 then [] else [(a, b)]
  | c :: m, a, b =>
    if a < c.1 then (if b = 0 then c :: m else (a, b) :: c :: m)
    else if a = c.1 then (if b = 0 then m else (a, b) :: m)
    else c :: memWrite m a b

/-- Write consecutive bytes. -/
def memWriteList (m : List (Nat × Byte)) (a : Nat) : List Byte → List (Nat × Byte)
  | [] => m
  | b :: l => memWriteList (memWrite m a b) (a + 1) l

/-- Read consecutive bytes. -/
def memReadList (m : List (Nat × Byte)) (a n : Nat) : List Byte := (List.range n).map fun i => memRead m (a + i)

/-- The canonical form of slot memory. -/
def memWf : List (Nat × Byte) → Bool
  | [] => true
  | [c] => c.2 != 0
  | c :: d :: m => c.2 != 0 && decide (c.1 < d.1) && memWf (d :: m)

/-! ### Stack messages -/

/-- The class of a message type (Table 18.5); none for a type not listed. -/
def stkClass (t : Nat) : Option Nat :=
  match t with
  | 0x50 | 0x51 => some 1
  | 0x01 | 0x02 | 0x03 | 0x04 => some 2
  | 0x10 => some 3
  | 0x20 => some 4
  | 0x40 => some 5
  | 0x30 | 0x31 => some 6
  | _ => none

/-- HELLO and LINK_ACK are unsequenced (R446). -/
def stkSequenced (t : Nat) : Bool := decide (t ≠ 0x50) && decide (t ≠ 0x51)

/-- A stack port. -/
def State.stk (s : State) (p : StackPortId) : StkPort := s.stack.ports[p.val]
/-- Change a stack port. -/
def State.modStk (s : State) (p : StackPortId) (f : StkPort → StkPort) : State :=
  { s with stack := { s.stack with ports := updAt s.stack.ports p f } }
/-- Every stack port. -/
def allStk : List StackPortId := List.finRange 4
/-- Stack port n is in UP. -/
def State.stackUp (s : State) (n : StackPortId) : Bool := (s.stk n).state = .up
/-- Any stack port is in UP. -/
def State.anyStackUp (s : State) : Bool := allStk.any s.stackUp
/-- The upstream port is in UP. -/
def State.upstreamUp (s : State) : Bool :=
  match s.stack.upstream with
  | some p => s.stackUp p
  | none => false
/-- This device is the stack master (R448). -/
def State.isMaster (s : State) : Bool := bitOf s.boot.straps 0
/-- The ID a message carries as its source (Table 18.4). -/
def State.srcId (s : State) : Nat := s.stack.id.getD 0xFFFF

/-- The messages waiting in the order they are sent: by class, then in order of queueing (R447). -/
def stkNext (q : List StkMsg) : Option StkMsg :=
  q.foldl (fun a m => match a with
    | none => some m
    | some b => if (stkClass m.typ).getD 9 < (stkClass b.typ).getD 9 then some m else some b) none

/-- Queue a sequenced message on a port in UP. -/
def stkSend (p : StackPortId) (m : StkMsg) (s : State) : State :=
  if s.stackUp p then s.modStk p fun x => { x with queue := x.queue ++ [m] } else s

/-- Roles that carry every message type (R443). -/
def StkRole.isTree : StkRole → Bool
  | .upstream | .downstream => true
  | _ => false

/-- The port the routing table gives an ID (R453); none for one that routes upstream. -/
def stkRoute (s : State) (id : Nat) : Option StackPortId :=
  allStk.find? fun p => (s.stk p).route.testBit id

/-- Bytes of a held message. -/
def StkMsg.size (m : StkMsg) : Nat := 20 + m.payload.length

/-- Drop the oldest held messages of a class beyond 64 KiB (R454): what stays, and how many went. -/
def heldTrim (c : Option Nat) : Nat → List StkMsg → List StkMsg × Nat
  | 0, l => (l, 0)
  | n + 1, l =>
    let mine := l.filter fun m => stkClass m.typ = c
    if (mine.map StkMsg.size).sum ≤ 65536 then (l, 0)
    else
      match mine with
      | [] => (l, 0)
      | m :: _ =>
        let r := heldTrim c n (l.erase m)
        (r.1, r.2 + 1)

/-- Send a message upstream; an orphan holds it, up to 64 KiB of each class (R454). -/
def stkUpstream (m : StkMsg) (s : State) : State :=
  if s.stack.orphan then
    let held := s.stack.held ++ [m]
    let r := heldTrim (stkClass m.typ) held.length held
    let s := { s with stack := { s.stack with held := r.1 } }
    s.modStk 0 fun x => { x with msgErr := satAdd 8 x.msgErr r.2 }
  else
    match s.stack.upstream with
    | some p => stkSend p m s
    | none => s

/-- Route a message by its destination (R453); one for the device itself is not sent. -/
def stkDeliver (m : StkMsg) (s : State) : State :=
  match stkRoute s m.dst with
  | some p => stkSend p m s
  | none => stkUpstream m s

/-- A link-local message. -/
def stkLocal (t : Nat) (payload : List Byte) (s : State) : StkMsg :=
  { typ := t, last := false, nak := false, dst := 0xFFFE, src := s.srcId, tag := 0, frag := 0, lseq := 0,
    payload := payload }

/-- Split bytes into chunks of at most k. -/
def chunks (k : Nat) : Nat → List Byte → List (List Byte)
  | 0, _ => []
  | n + 1, l => if l.length ≤ k then [l] else l.take k :: chunks k n (l.drop k)

/-- A packet as fragments of up to 512 bytes under one TAG (R458). -/
def stkFragments (t dst tag : Nat) (packet : List Byte) (s : State) : List StkMsg :=
  let cs := chunks 512 (packet.length + 1) packet
  cs.zipIdx.map fun c =>
    { typ := t, last := decide (c.2 + 1 = cs.length), nak := false, dst := dst, src := s.srcId, tag := tag,
      frag := c.2, lseq := 0, payload := c.1 }

/-! ### Sounding frames -/

/-- Queue a common-mode frame (R149, R150). -/
def queueCm (p : PortId) (t : Nat) (payload : List Byte) (s : State) : State :=
  s.modPort p fun q => { q with snd := { q.snd with queue := q.snd.queue ++ [{ typ := t, payload := payload, resends := 0 }] } }

/-- Make a differential frame due, a reply or one that nothing asked for (R148). -/
def sendDiff (p : PortId) (t sf : Nat) (reply : Bool) (payload : List Byte) (s : State) : State :=
  s.modPort p fun q =>
    { q with snd := { q.snd with diffDue := some ({ typ := t, payload := payload, resends := 0 }, sf, reply) } }

/-- A packet as MGMT frames (type 0x20) of a KIND under one TAG (R498, Table 20.8). -/
def sendMgmt (p : PortId) (kind tag : Nat) (packet : List Byte) (s : State) : State :=
  let q := s.port p
  let only := decide (q.snd.path = .soundingOnly)
  let cs := chunks (if only then 249 else 251) (packet.length + 1) packet
  let pre := if only then beBytes 2 q.snd.session else []
  cs.zipIdx.foldl (fun s c =>
    let flags : Nat := if c.2 + 1 = cs.length then 0x80 else 0
    let body := pre ++ beBytes 1 kind ++ beBytes 1 tag ++ beBytes 1 c.2 ++ beBytes 1 flags ++ c.1
    if only then
      if c.2 = 0 then sendDiff p 0x20 q.snd.sessionSf (decide (kind = 2)) body s else queueCm p 0x20 body s
    else queueCm p 0x20 body s) s

/-! ### The ledger -/

/-- The time counter as SEC (6 bytes), NS (4), FRAC (2); zero while it does not run (R501). -/
def timeBytes (t : TimeSt) : List Byte :=
  if t.run then
    let ns := t.ctr / 2 ^ 40
    beBytes 6 (ns / 1000000000) ++ beBytes 4 (ns % 1000000000) ++ beBytes 2 (t.ctr / 2 ^ 24 % 2 ^ 16)
  else List.replicate 12 0

/-- Seconds of the time counter; zero while it does not run. -/
def timeSec (t : TimeSt) : Nat := if t.run then t.ctr / 2 ^ 40 / 1000000000 else 0

/-- Bytes 0 to 143 of a record (Table 20.9). -/
def LedgerRec.head (r : LedgerRec) : List Byte :=
  beBytes 8 r.accession ++ beBytes 1 r.type ++ beBytes 1 r.flags ++ beBytes 2 r.code ++ beBytes 12 r.time ++ beBytes 6 r.uptime
    ++ beBytes 1 r.tstate ++ [0] ++ (r.body ++ List.replicate 112 0).take 112

/-- All 192 bytes of a record. -/
def LedgerRec.bytes (r : LedgerRec) : List Byte := r.head ++ beBytes 48 r.chain.toNat

/-- Records that take nothing from the allowance (R506). -/
def ledgerFree (t : Nat) : Bool := [0x01, 0x02, 0x23, 0x22, 0x21, 0x20, 0x25, 0x24].contains t

/-- Records the ledger reserve holds: GiB of 192-byte records (R506, R217). -/
def reserveCap (s : State) : Nat := s.store.ledgerGib * 2 ^ 30 / 192

/-- The next record, its CHAIN apart (R501, R504, Table 20.9). -/
def ledgerNew (t code flags : Nat) (body : List Byte) (s : State) : LedgerRec :=
  let l := s.ledger
  { accession := (l.ctr + l.k) * 2 ^ 20 + l.offset, type := t, flags := flags ||| (if l.unanchored then 8 else 0),
    code := code, time := beNat (timeBytes s.time), uptime := s.nowNs / 1000,
    tstate := s.time.state.code + s.time.epoch * 8, body := body, chain := 0 }

/-- Make one record: accession, chain, the copy in the reserve (R503, R504, R506). -/
def ledgerPut (t code flags : Nat) (body : List Byte) (s : State) : State :=
  let l := s.ledger
  let r0 := ledgerNew t code flags body s
  let r := { r0 with chain := Config.sha384 (beBytes 48 l.chain.toNat ++ r0.head) }
  { s with ledger := { l with
      newest := r.accession, offset := l.offset + 1, chain := r.chain, unsealed := l.unsealed ++ [r],
      reserve := if l.reserveOk then (l.reserve ++ [r]).drop (l.reserve.length + 1 - reserveCap s) else l.reserve } }

/-- The header of the booted image (R385, R388). -/
def State.bootedHdr (s : State) : SlotHdr :=
  if s.boot.stream then s.boot.streamHdr else if s.boot.slot = 1 then s.boot.hdr[1] else s.boot.hdr[0]

/-- Body of an ANCHOR (Table 20.10): C, previous accession and CHAIN, records discarded, GEN and SVN, flags. -/
def anchorBody (prev : Nat) (prevChain : BitVec 384) (discarded flags : Nat) (s : State) : List Byte :=
  let h := s.bootedHdr
  beBytes 8 s.ledger.ctr ++ beBytes 8 prev ++ beBytes 48 prevChain.toNat ++ beBytes 4 discarded ++ beBytes 4 h.gen
    ++ beBytes 4 h.svn ++ beBytes 1 flags

/-- Count a record that finds the allowance empty (R506). -/
def ledgerCoalesce (t code : Nat) (s : State) : State :=
  let l := s.ledger
  let now := beNat (timeBytes s.time)
  let hit := l.coalesced.any fun c => c.type == t && c.code == code
  { s with ledger := { l with
      coalCnt := satAdd 16 l.coalCnt 1,
      coalesced := if hit then
          l.coalesced.map fun c => if c.type == t && c.code == code then { c with count := c.count + 1, last := now } else c
        else l.coalesced ++ [{ type := t, code := code, count := 1, first := now, last := now }] } }

/-! ### Faults: the hub's part -/

/-- No action. -/
def React.none : React :=
  { record := false, portSafe := false, podSafe := false, devSafe := false, stack := false, ledger := false }

/-- The actions of two reactions. -/
def React.or (a b : React) : React :=
  { record := a.record || b.record, portSafe := a.portSafe || b.portSafe, podSafe := a.podSafe || b.podSafe,
    devSafe := a.devSafe || b.devSafe, stack := a.stack || b.stack, ledger := a.ledger || b.ledger }

/-- A reaction takes a safe state. -/
def React.anySafe (r : React) : Bool := r.portSafe || r.podSafe || r.devSafe

/-- An instance's state. -/
def fltGet (c : Cause) (i : Inst) (s : State) : FltInst :=
  match i with
  | .lane p n => getNat (s.lane p n).flt (c.code - 1) FltInst.zero
  | .port p => getNat (s.port p).flt (c.code - 0x08) FltInst.zero
  | .pod k => getNat (s.pod k).flt (c.code - 0x18) FltInst.zero
  | .dev => getNat s.flt.dev (c.code - 0x24) FltInst.zero

/-- Change an instance's state. -/
def fltMod (c : Cause) (i : Inst) (f : FltInst → FltInst) (s : State) : State :=
  match i with
  | .lane p n => s.modLane p n fun l => { l with flt := updNat l.flt (c.code - 1) f }
  | .port p => s.modPort p fun q => { q with flt := updNat q.flt (c.code - 0x08) f }
  | .pod k => s.modPod k fun q => { q with flt := updNat q.flt (c.code - 0x18) f }
  | .dev => { s with flt := { s.flt with dev := updNat s.flt.dev (c.code - 0x24) f } }

/-- The record of an instance (R429). -/
def recOf : Inst → Nat
  | .dev => 0
  | .pod k => 1 + k.val
  | .port p | .lane p _ => 9 + p.val

/-- The ports an occurrence concerns (R419). -/
def portsConcerned (c : Cause) (i : Inst) (d : Nat) : List PortId :=
  match i with
  | .lane p _ | .port p => [p]
  | .pod k => if c = .pllUnlock then (if d < 4 then portsOfGroup k d else portsOfHostPll k (d - 4)) else portsOfPod k
  | .dev => allPorts

/-- The scope number of an aggregated entry (Table 18.6). -/
def FltScope.num : FltScope → Nat
  | .lane => 0 | .port => 1 | .pod => 2 | .dev => 3

/-- Merge one entry into those held, by cause code, INJ and window (R456). COUNT counts this device once. -/
def aggMergeInto (e x : AggEntry) : AggEntry :=
  let earlier := decide (e.first < x.first)
  { x with count := if e.own && x.own then x.count else satAdd 16 x.count e.count, own := x.own || e.own, occ := satAdd 16 x.occ e.occ, low := Nat.min x.low e.low,
           high := Nat.max x.high e.high, cls := Nat.max x.cls e.cls, first := if earlier then e.first else x.first,
           mixed := x.mixed || e.mixed || decide (x.inst ≠ e.inst) }

/-- Two entries have one key (R456). -/
def aggSame (e x : AggEntry) : Bool := e.code == x.code && e.inj == x.inj && e.window == x.window

/-- Hold an entry: merged where its key is held, added while the window has fewer than 64 keys, else merged into the
window's OVERFLOW entry (R456). -/
def aggAdd (e : AggEntry) (l : List AggEntry) : List AggEntry :=
  if l.any (aggSame e) then l.map fun x => if aggSame e x then aggMergeInto e x else x
  else if (l.filter fun x => x.window == e.window && x.code != 0x3F).length < 64 then l ++ [e]
  else
    let o := { e with code := 0x3F }
    if l.any (aggSame o) then l.map fun x => if aggSame o x then aggMergeInto o x else x else l ++ [o]

/-- Queue a fault report towards the stack master (R427, R455). -/
def stackReport (o : Occ) (s : State) : State :=
  let f := s.stack.frame
  let e : AggEntry :=
    { code := o.cause.code, inj := o.inj, mixed := false, cls := o.cls.code, scope := o.cause.scope.num,
      inst := o.inst.num, count := 1, occ := 1, low := s.srcId, high := s.srcId, window := f / 10 % 65536,
      first := f % 10 * 100 + (s.uptime - s.stack.sofTime) / 370,
      own := true }
  { s with stack := { s.stack with entries := aggAdd e s.stack.entries } }

/-- Create or merge a record (R429). Two occurrences of one time fell in one CLK_CTRL cycle, and the lower code of them is PRIMARY. -/
def recMerge (o : Occ) (s : State) : State :=
  let f := fun (r : FltRec) =>
    if r.pend then
      let first := decide (o.time = r.time) && decide (o.cause.code < r.primary)
      { r with merge := satAdd 8 r.merge 1,
               secondary := r.secondary ||| BitVec.ofNat 64 (2 ^ (if first then r.primary else o.cause.code)),
               primary := if first then o.cause.code else r.primary,
               detail := if first then o.detail else r.detail,
               inj := if first then o.inj else r.inj,
               cls := some (match r.cls with | some k => FltClass.max k o.cls | none => o.cls),
               real := r.real || o.real, safe := r.safe || o.safe }
    else
      { pend := true, inj := o.inj, real := o.real, safe := o.safe, merge := 0, cls := some o.cls,
        primary := o.cause.code, detail := o.detail, time := o.time, secondary := 0 }
  { s with flt := { s.flt with recs := updNat s.flt.recs (recOf o.inst) f } }

/-- What the hub does with an occurrence, the ledger apart (R421, R423, R426, R429, R431, R435). -/
def hubCore (o : Occ) (s : State) : State :=
  let s := fltMod o.cause o.inst (fun x =>
    { x with count := if o.inj then x.count else satAdd 16 x.count 1,
             injCnt := if o.inj then satAdd 16 x.injCnt 1 else x.injCnt,
             first := if x.seen then Nat.min x.first o.time else o.time, last := Nat.max x.last o.time, seen := true,
             realFlag := x.realFlag || o.real, realCnt := if o.real then satAdd 16 x.realCnt 1 else x.realCnt }) s
  let s := { s with flt := { s.flt with
    lastCls := updNat s.flt.lastCls o.cause.code fun _ => some o.cls,
    nmi := if o.inj then s.flt.nmi else
      match o.cause.nmiBit with
      | some b => s.flt.nmi ||| (1 <<< b)
      | none => s.flt.nmi,
    lastF0 := if o.cls = .f then
        flg true 31 ||| flg o.inj 30 ||| fld o.inst.num 16 10 ||| fld o.cause.code 0 6 else s.flt.lastF0,
    lastF1 := if o.cls = .f then BitVec.ofNat 32 (o.time / 1000000000) else s.flt.lastF1,
    delivered := if o.inj then satAdd 16 s.flt.delivered 1 else s.flt.delivered,
    safe := s.flt.safe.map fun h =>
      if h.cause = o.cause && h.inst = o.inst && h.stage = .waiting then { h with stage := .recorded } else h } }
  let s := if o.react.record || o.safe then recMerge o s else s
  if o.react.stack then stackReport o s else s

/-- The safe-state holds an occurrence takes (R423, R425). -/
def safeScopes (c : Cause) (i : Inst) (d : Nat) (r : React) : List SafeScope :=
  (if r.devSafe then [.dev] else [])
  ++ (if r.podSafe then
        match i with
        | .lane p _ | .port p => [.pod (podOf p)]
        | .pod k => [.pod k]
        | .dev => [.ports allPorts]
      else [])
  ++ (if r.portSafe then [.ports (portsConcerned c i d)] else [])

/-- A scope covers a port. -/
def SafeScope.covers (x : SafeScope) (p : PortId) : Bool :=
  match x with
  | .dev => true
  | .pod k => podOf p = k
  | .ports l => l.contains p

/-- A port is held in the safe state (R426, R412). -/
def State.portSafe (s : State) (p : PortId) : Bool := s.test.scanSafe || s.flt.safe.any fun h => h.scope.covers p
/-- The device safe state is held. -/
def State.devSafe (s : State) : Bool := s.test.scanSafe || s.flt.safe.any fun h => decide (h.scope = .dev)

/-- The line transmitters of a port go to SAFE (R51, R52). -/
def txToSafe (p : PortId) (s : State) : State :=
  s.mapLanes p fun _ l =>
    { l with tx := { l.tx with walk := none, state :=
        match l.tx.state with
        | .idle | .data | .tone => .safe
        | x => x } }

/-- The host transmitters of a port in the safe state: HALT blocks on a native port that was framing, local fault on an
IEEE sub-port (R251). -/
def hostToSafe (p : PortId) (s : State) : State :=
  s.modPort p fun q =>
    { q with host := { q.host with tx :=
        match q.host.tx with
        | .framing => .halt
        | .idle => if q.enabled && decide (q.snd.path ≠ .none) then .halt else .idle
        | x => x } }

/-- Take the safe state on the ports of a hold (R425). -/
def takeSafe (c : Cause) (i : Inst) (d : Nat) (r : React) (s : State) : State :=
  let sc := safeScopes c i d r
  let s := { s with flt := { s.flt with
    safe := s.flt.safe ++ sc.map fun x => { cause := c, inst := i, scope := x, stage := .waiting },
    faultN := s.flt.faultN || r.devSafe } }
  allPorts.foldl (fun s p =>
    if s.part.hasPort p && sc.any fun x => x.covers p then hostToSafe p (txToSafe p s) else s) s

/-- The reaction in force for an occurrence: the register, the fixed actions and a rule's own (R423, R424, R432). -/
def reactInForce (c : Cause) (extra : React) (inj : Bool) (s : State) : React :=
  let w := getNat s.flt.react c.code 0
  let r := ((React.ofWord w).or (React.ofWord (BitVec.ofNat 32 c.fixedReact))).or extra
  if inj && (!bitOf w 8 || c.reportOnly) then { r with portSafe := false, podSafe := false, devSafe := false } else r

/-- One occurrence, detected now (R420, R422, R425, R433): the instance's live and sticky bits, the safe states, and its way to
the hub, at once for a device cause and for BRIDGE_FAIL. The ledger action is passed to a continuation. -/
def occurWith (toLedger : Occ → State → State) (c : Cause) (i : Inst) (d : Nat) (cls : FltClass) (extra : React)
    (inj : Bool) (s : State) : State :=
  let x := fltGet c i s
  let r := reactInForce c extra inj s
  let o : Occ := { cause := c, inst := i, detail := d % 256, cls := cls, time := s.nowNs, inj := inj,
                   real := !inj && x.injPend, react := r, safe := r.anySafe }
  let s := fltMod c i (fun x => if inj then { x with sticky := true, injLive := true, injPend := true }
                                else { x with sticky := true, real := true }) s
  let s := if r.anySafe then takeSafe c i d r s else s
  match i with
  | .dev => toLedger o (hubCore o s)
  | .pod k => if c = .bridgeFail then toLedger o (hubCore o s)
              else s.modPod k fun q => { q with fltQueue := q.fltQueue ++ [o] }
  | .port p | .lane p _ => s.modPod (podOf p) fun q => { q with fltQueue := q.fltQueue ++ [o] }

/-- Make a record within the allowance, or count it (R506). -/
def ledgerTake (t code flags : Nat) (body : List Byte) (s : State) : State :=
  if !ledgerFree t && decide (s.ledger.allowance = 0) then ledgerCoalesce t code s
  else
    let s := if ledgerFree t then s else { s with ledger := { s.ledger with allowance := s.ledger.allowance - 1 } }
    ledgerPut t code flags body s

/-- FLAGS of the FAULT record of an occurrence (Table 20.9). -/
def Occ.recFlags (o : Occ) : Nat := b2n o.inj + 2 * b2n o.real

/-- Body of the FAULT record of an occurrence (Table 20.10). -/
def faultBody (o : Occ) (s : State) : List Byte :=
  let x := fltGet o.cause o.inst s
  beBytes 2 o.inst.num ++ beBytes 1 o.detail ++ beBytes 1 o.cls.code ++ beBytes 2 x.count ++ beBytes 2 x.injCnt

/-- A block has offsets for no more than the SEAL that closes it (R504, R505; DEDUCED: log entry 163). -/
def LedgerSt.blockFull (l : LedgerSt) : Bool := decide (2 ^ 20 ≤ l.offset + 1)

/-- LEDGER_FAULT raised by the ledger itself (R509). Its FAULT record is made like any other; where the block has no offset left
for it, it is counted and becomes a SUMMARY (log entry 163). -/
def ledgerFault (d : Nat) (s : State) : State :=
  occurWith (fun o s =>
    if !o.react.ledger || !s.ledger.run then s
    else if s.ledger.blockFull then ledgerCoalesce 0x10 o.cause.code s
    else ledgerTake 0x10 o.cause.code o.recFlags (faultBody o s) s) .ledgerFault .dev d .u React.none false s

/-- The records since the last SEAL (R505). -/
def openRecs (l : List LedgerRec) : List LedgerRec := (l.reverse.takeWhile fun r => r.type != 2).reverse

/-- Sign the records since the last SEAL (R505): a record is sealed once a SEAL covers it. -/
def ledgerSign (s : State) : State :=
  let l := s.ledger
  let open' := openRecs l.unsealed
  match open' with
  | [] => s
  | r :: _ =>
    let sig := Config.sign (beBytes 4 0x4D4C4253 ++ beBytes 8 Config.uid.toNat ++ (ledgerNew 0x02 0 0 [] s).head.take 32
      ++ beBytes 48 l.chain.toNat ++ beBytes 8 r.accession)
    let body := beBytes 8 r.accession ++ beBytes 4 open'.length ++ beBytes 4 0 ++ beBytes 96 sig.toNat
    let s := ledgerPut 0x02 0 0 body s
    { s with ledger := { s.ledger with newestSealed := l.newest, lastSeal := some (s.ledger.newest, s.ledger.chain),
                                       sealCnt := satAdd 16 l.sealCnt 1 } }

/-- The records in the ring, oldest first. -/
def LedgerSt.ringRecs (l : LedgerSt) : List LedgerRec := l.ring.flatMap LedgerBlock.recs

/-- Program one record into the ring (R506): the newest block takes 341, a new one follows it, and of the region's blocks one is
always kept erased ahead, so the oldest goes. -/
def ringPush (blocks : Nat) (skip : Bool) (ring : List LedgerBlock) (r : LedgerRec) : List LedgerBlock :=
  match ring.getLast? with
  | none => [{ seq := 0, recs := [r] }]
  | some b =>
    if b.recs.length < 341 && !skip then ring.dropLast ++ [LedgerBlock.mk b.seq (b.recs ++ [r])]
    else (ring ++ [LedgerBlock.mk (b.seq + 1) [r]]).drop (ring.length + 2 - blocks)

/-- Program records into the ring in order, the first in a new block where `skip`. -/
def ringProgram (blocks : Nat) (skip : Bool) (ring : List LedgerBlock) : List LedgerRec → List LedgerBlock
  | [] => ring
  | r :: rs => ringProgram blocks false (ringPush blocks skip ring r) rs

/-- Program the sealed records and their SEAL into the ring (R506); where that fails they stay in the working store and the
seal is retried on the next block (R509). Without a ring nothing keeps them but the reserve. -/
def ledgerProgram (ok : Bool) (s : State) : State :=
  let l := s.ledger
  let rest := openRecs l.unsealed
  let done := l.unsealed.take (l.unsealed.length - rest.length)
  if done.isEmpty then s
  else if !l.ringOk then { s with ledger := { l with unsealed := rest } }
  else if ok then
    { s with ledger := { l with ring := ringProgram l.ringBlocks l.ringSkip l.ring done, ringSkip := false, unsealed := rest } }
  else ledgerFault 4 { s with ledger := { l with ringSkip := true } }

/-- Make a SEAL and program it (R505, R506). -/
def ledgerMakeSeal (programOk : Bool) (s : State) : State := ledgerProgram programOk (ledgerSign s)

/-- Why the counter takes no further increment until the next boot (R504, Table 20.10a): all its bits are set, or four bits
failed one after the other. -/
def LedgerSt.stuck (l : LedgerSt) (failed : Nat) : Option Nat :=
  if l.unanchored then none else if 131072 ≤ l.ctr then some 2 else if 4 ≤ failed then some 3 else none

/-- One more counter bit for the next block, passing over the bits that fail; where there is none, one more unanchored rollover
(R504). -/
def LedgerSt.increment (l : LedgerSt) (failed : Nat) : LedgerSt :=
  if l.unanchored || (l.stuck failed).isSome then { l with unanchored := true, k := l.k + 1, offset := 0 }
  else { l with ctr := l.ctr + 1, k := 0, offset := 0 }

/-- Start a block (R504): the increment, the ANCHOR with its reason, and LEDGER_FAULT where the increments have just come to an
end. -/
def ledgerBlock (reason prev : Nat) (prevChain : BitVec 384) (discarded flags failed : Nat) (s : State) : State :=
  let stuck := s.ledger.stuck failed
  let s := { s with ledger := s.ledger.increment failed }
  let s := ledgerPut 0x01 reason 0 (anchorBody prev prevChain discarded flags s) s
  match stuck with
  | some d => ledgerFault d s
  | none => s

/-- The rollover of a block: the SEAL, then the next block (R504, R505). -/
def ledgerRollover (s : State) : State :=
  let s := ledgerMakeSeal true s
  ledgerBlock 2 s.ledger.newest s.ledger.chain 0 (b2n s.ledger.ringOk) (Config.ctrFails s.ledger.ctr) s

/-- Make a record of a type, under the allowance (R501, R504, R506). A rollover that is due takes no allowance (R513). -/
def ledgerAppend (t code flags : Nat) (body : List Byte) (s : State) : State :=
  if !s.ledger.run then s
  else
    let s := if s.ledger.blockFull then ledgerRollover s else s
    let first := !ledgerFree t && decide (s.ledger.allowance = 0) && s.ledger.coalesced.isEmpty
    let s := ledgerTake t code flags body s
    if first then ledgerFault 6 s else s

/-- The FAULT record of an occurrence (Table 20.10). -/
def ledgerFaultRecord (o : Occ) (s : State) : State :=
  if o.react.ledger then ledgerAppend 0x10 o.cause.code o.recFlags (faultBody o s) s else s

/-- What the hub does with an occurrence. -/
def hubApply (o : Occ) (s : State) : State := ledgerFaultRecord o (hubCore o s)

/-- One occurrence, without its effect on the link of a port. -/
def occur (c : Cause) (i : Inst) (d : Nat) (cls : FltClass) (extra : React) (inj : Bool) (s : State) : State :=
  occurWith ledgerFaultRecord c i d cls extra inj s

/-! ### Link state and the guarantee -/

/-- Add the time since the last accrual to the state the port is in (Table 20.10). -/
def PortCtr.accrue (c : PortCtr) (st : LinkState) (idle : Bool) (now : Nat) : PortCtr :=
  let d := now - c.since
  let c := { c with since := now, active := c.active || !idle }
  match st with
  | .up => { c with up := c.up + d }
  | .degraded => { c with degraded := c.degraded + d }
  | .quiet => { c with quiet := c.quiet + d }
  | .wake => { c with wake := c.wake + d }
  | _ => { c with other := c.other + d }

/-- A state from ALIGN onward (R264). -/
def LinkState.fromAlign : LinkState → Bool
  | .align | .up | .degraded | .quiet | .wake => true
  | _ => false

/-- The MODE code and RATE code of the agreed parameters; zero before GO. -/
def Port.modeRate (q : Port) : Nat × Nat :=
  match q.snd.agreed with
  | some o => (o.mode, o.rate)
  | none => (0, 0)

/-- The LINK record of a port (Table 20.10). -/
def linkRecord (p : PortId) (old : LinkState) (s : State) : State :=
  let q := s.port p
  let partner := match q.snd.partner with
    | some c => (c.uid, c.port)
    | none => (0, 0)
  ledgerAppend 0x11 q.link.state.code 0
    (beBytes 1 p.val ++ beBytes 1 old.code ++ beBytes 1 q.link.lastDown ++ beBytes 1 q.modeRate.1
      ++ beBytes 1 q.modeRate.2 ++ beBytes 1 q.active ++ beBytes 8 partner.1 ++ beBytes 1 partner.2) s

/-- Enter a link state, with the LINK record of an entry into UP, DEGRADED or QUIET (Table 20.10). -/
def setLink (p : PortId) (st : LinkState) (s : State) : State :=
  let old := (s.port p).link.state
  let s := s.modPort p fun q =>
    { q with ctr := q.ctr.accrue q.link.state q.idleDown s.uptime, link := { q.link with state := st } }
  if st ≠ old && (decide (st = .up) || decide (st = .degraded) || decide (st = .quiet)) then linkRecord p old s else s

/-- A condition of the class-0 guarantee fails (R236): the reason codes of Table 8.7, ORed since GUAR last fell. -/
def guarFail (p : PortId) (code : Nat) (s : State) : State :=
  let q := s.port p
  if q.cls ≠ 0 then s
  else
    let s := s.modPort p fun q =>
      { q with spill := { q.spill with
          noguar := if q.spill.guar then code else if q.spill.noguar = 0 then 0 else q.spill.noguar ||| code,
          winFail := q.spill.winFail ||| code, guar := false } }
    if q.spill.guar then occur .cls0Noguar (.port p) 0 .u React.none false s else s

/-- MODE of a TX_TONE_CTRL word: 0 OFF, 1 FIXED, 2 RAMP, 3 MODEM (Table 2.17). -/
def toneMode (w : Word) : Nat := bits w 1 0

/-- A TX_TONE_CTRL word comes into force in DOWN (R51, R58): the generator starts at START, and the lane goes from IDLE to
TONE and back as the differential path is on. -/
def Lane.setTone (l : Lane) (w : Word) : Lane :=
  let was := toneMode (l.act .txToneCtrl)
  let l := l.setReg .txToneCtrl fun r => { r with inForce := w }
  let on := decide (toneMode w = 1 || toneMode w = 2)
  let facc := if on && decide (toneMode w ≠ was) then BitVec.ofNat 48 (l.tx.toneStart.toNat * 65536) else l.tx.facc
  let state := match l.tx.state with
    | .idle => if on && bitOf w 4 then .tone else .idle
    | .tone => if on && bitOf w 4 then .tone else .idle
    | x => x
  { l with tx := { l.tx with facc := facc, state := state } }

/-- A lane returns to IDLE at the end of data, a pattern or a tone (R51, R60): with DATA its common-mode injection stops. During the
idle slot of a range change it is what the lane resumes that changes (R49). -/
def TxState.toIdle : TxState → TxState
  | .data | .tone => .idle
  | x => x

/-- Committed windows enter at the start of an ECHO phase (R76, R528). -/
def Lane.enterEc (l : Lane) : Lane :=
  [LaneSt.rxEcWin0, .rxEcWin1, .rxEcWin2, .rxEcWin3].foldl (fun l r => l.setReg r fun x => { x with inForce := x.accepted }) l

/-- RX_EC_WINw in force for window w. -/
def Lane.ecWin (l : Lane) (w : Nat) : Word :=
  match w with
  | 0 => l.act .rxEcWin0 | 1 => l.act .rxEcWin1 | 2 => l.act .rxEcWin2 | _ => l.act .rxEcWin3

/-- The manual windows (R76): START of each used one, none for an AUTO or unused one. -/
def Lane.ecManual (l : Lane) : List (Option Nat) :=
  (List.range 4).map fun w =>
    let v := l.ecWin w
    if !bitOf v 30 && bitOf v 31 then some (bits v 11 0) else none

/-- The FFE at the start of FAR (R74). -/
def ffeCursor : List Int := (List.range 40).map fun i => if i = 8 then 256 else 0

/-- A receiver enters a phase (R73, R74, R76, R83, R87, R89): CONV clears, but holds at 1 in TRACK; a lane that leaves TRACK for another phase
than HOLD loses its anchor, and one in OFF its CDR lock. A lane that leaves TRACK abandons its CTLE check (R290); the SNR window runs
on over HOLD (R266). -/
def Lane.enterPhase (l : Lane) (ph : RxPhase) : Lane :=
  if l.rx.phase = ph then l
  else
    let l := if ph = .echo then l.enterEc else l
    let quiet := (decide (l.rx.phase = .track) && decide (ph = .hold)) || (decide (l.rx.phase = .hold) && decide (ph = .track))
    let run := if quiet then { RxRun.empty with errSum := l.rx.run.errSum, errCnt := l.rx.run.errCnt } else RxRun.empty
    let l := if l.rx.phase = .track then { l with cal := { l.cal with ctleCheck := none } } else l
    let rx := { l.rx with phase := ph, conv := decide (ph = .track), snrHist := [], searched := false, run := run,
                          anchorValid := l.rx.anchorValid && !(decide (l.rx.phase = .track) && decide (ph ≠ .hold)),
                          cdrLock := l.rx.cdrLock && decide (ph ≠ .off) }
    let rx := if ph = .far then { rx with coefs := { rx.coefs with ffe := ffeCursor }, resid := { rx.resid with ffe := List.replicate 40 0 } }
      else rx
    { l with rx := if ph = .echo then { rx with ecStart := l.ecManual } else rx }

/-- A lane's state on the port's entry into DOWN (Table 4.5, R46, R51, R78, R83, R93, R290): the open-pair signature ends with the
echo report. -/
def Lane.toDown (l : Lane) : Lane :=
  let held := decide (l.tx.state = .safe)
  let due := if held then none else some (Taps.ofWords (l.reg .txFfe0).accepted (l.reg .txFfe1).accepted)
  let code := { l.code with state := .off, lock := false, alignedF := false, deskewed := false, idErr := false,
                            excess := false, lastSlot := none, alignMiss := 0, consecUnc := 0, winUnc := 0, joinAt := none,
                            adding := false, framed := false, autoAdd := false, shedCap := false, tries := 0,
                            invalidAt := [], lockDue := false, recvOfs := none, trig := none }
  let tx := { l.tx with state := l.tx.state.toIdle, resume := l.tx.resume.toIdle, walk := none, tapsDue := due, segs := [],
                        pat := none, dac := [] }
  let l := l.enterPhase .off
  let rx := { l.rx with follow := false, snr := 0, anchorValid := false, held := false, revDue := false, uncSince := 0, vgaDue := none,
                        echoLvl := 0, echoPos := 0, echoOpen := false }
  let cal := { l.cal with ctleFrozen := false, ctleDue := none, ctleCheck := none, dacFolios := 0, ctleAge := 0 }
  let l := { l with code := code, tx := tx, rx := rx, cal := cal, test := { l.test with loop := .none },
                    flt := updNat l.flt (Cause.openPair.code - 1) fun x => { x with real := false } }
  if held then l else l.setTone (l.reg .txToneCtrl).accepted

/-- A queue discarded: how many blocks and parcels it held (R231). -/
def SpillQ.discard (x : SpillQ) : SpillQ × Nat :=
  (SpillQ.empty, x.head.length + x.tail.length + ((x.parcels.map fun c => c.blocks.length).sum))

/-- What a sub-port shows outside TRAIN and UP (Table 6.9): no PHY and no precoding. -/
def IeeeSub.rest (b : IeeeSub) : IeeeSub :=
  { b with phy := 0, page := none, able := 0, atLimit := 0, pcsOrder := [], waitGroup := false, precodeTx := false, precodeRx := false,
           toHost := [], toLine := [] }

/-- A sub-port enters DOWN, where RC_OVF clears (Table 6.9). -/
def IeeeSub.toDown (b : IeeeSub) : IeeeSub := { b.rest with state := .down, rcOvf := false }

/-- The effects on a port of its entry into DOWN (R209, R231, Tables 4.5 and 10.3), its records and causes apart. -/
def Port.toDown (q : Port) (cause : Nat) : Port :=
  let d := q.spill.h2l.discard
  { q with
    lanes := mapIdx q.lanes fun _ l => l.toDown,
    link := { q.link with lastDown := cause, downDue := none, downs := satAdd 8 q.link.downs 1, inWindow := false,
                          quietPend := false, quietReq := none, quietHold := false, wakeRole := .none, burst := false,
                          wakeData := false, wakeHeads := 0, restart := false },
    code := { q.code with map := 0, quar := 0, nextMap := 0, chg := none, plan := .none,
                          partner := LaneCtl.zero, lastHead := none, alignPeriods := 0, loaded := false, waitShed := 0,
                          planCap := false, planWait := none, waitBits := 0, planBits := 0, declined := none, addSent := 0, addWait := none, lineOut := [] },
    lre := { q.lre with run := false, replay := [], placeLog := [], naks := [], held := [], cutoff := [],
                        txNext := 0, lastAck := 0, rxNext := 0,
                        disc := satAdd 32 q.lre.disc ((q.lre.held.map fun h => h.blocks.length).sum) },
    snd := { q.snd with path := .none, agreed := none, goDone := false, offer := none, await := [], queue := [],
                        cur := none, diffDue := none, diffCur := none, diffLast := none, train := none, closing := none,
                        step := 0, switchTo := none, tsDue := false, callOfs := none,
                        diff := { q.snd.diff with rx := .none, agcFrozen := false },
                        cm := { q.snd.cm with rx := .none, agcFrozen := false },
                        ctrl := q.act .sndCtrl, diffCtrl := q.act .sndDiffCtrl },
    spill := { q.spill with h2l := d.1, disc := satAdd 32 q.spill.disc d.2 },
    host := { q.host with tx := (match q.host.tx with | .halt => .halt | _ => .idle),
                          rxMap := if q.host.tx = .halt then q.host.rxMap else Vector.replicate 12 15,
                          txMap := if q.host.tx = .halt then q.host.txMap else Vector.replicate 12 15, rxLock := 0, rxFail := 0, txFail := 0,
                          rxNext := none, txNext := none, txAnn := none, failSeen := 0,
                          rxMark := Vector.replicate 12 none, rxMiss := Vector.replicate 12 0,
                          uncAt := Vector.replicate 12 [] },
    ieee := q.ieee.map IeeeSub.toDown,
    st := updAt q.st PortSt.codeCtrl.ix fun r =>
      { r with inForce := setBits r.inForce 3 0 (bits r.accepted 3 0) },
    diag := (if q.diag.running = some .serving then { q.diag with running := none, il := .none, toneSaved := [] } else q.diag),
    ctr := { q.ctr with downs := q.ctr.downs + 1 } }

/-- A port that enters DOWN needs nothing of its lane PLL group (R20, Table 1.6), but for one that stays down because its partner
can meet no mode that the group serves (R21). -/
def endWait (p : PortId) (s : State) : State :=
  fltMod .lpllConflict (.port p) (fun x => { x with real := false })
    (s.modGroup (podOf p) (groupOf p) fun g => g.leave p)

/-- A port enters DOWN (R264): the link-down cause and the LINK record when it was in ALIGN or later. -/
def enterDown (p : PortId) (cause : Nat) (s : State) : State :=
  let q := s.port p
  let old := q.link.state
  let dead := q.link.state = .down && q.ieee.toList.all fun b => decide (b.state = .down)
  if dead then s.modPort p fun q => { q with link := { q.link with downDue := none } }
  else
    let s := s.modPort p fun q => { q with ctr := q.ctr.accrue q.link.state q.idleDown s.uptime }
    let s := guarFail p 0x02 (s.modPort p fun q => { q.toDown cause with link := { (q.toDown cause).link with state := .down } })
    if old.fromAlign then
      occur .linkDown (.port p) 0 .u React.none false (linkRecord p old s)
    else s

/-- Ports that a safe state holds and that are not yet in DOWN enter it with cause 0x8 (R425). -/
def safeDown (s : State) : State :=
  allPorts.foldl (fun s p => if s.part.hasPort p && s.portSafe p then endWait p (enterDown p 8 s) else s) s

/-- Banks under test when a run of BIST is cut short report TRUNCATED and the run ends (R414). -/
def setBank (b : MemBank) (f : BankResult → BankResult) (s : State) : State :=
  let l := s.test.results
  let x := (l.find? fun r => r.bank = b).getD { bank := b, code := 0, kind := 0xFF, fails := [], misr := 0 }
  { s with test := { s.test with results := f x :: l.filter fun r => r.bank ≠ b } }

end Sys2Proof.Machine
end

