-- ==== Sys2Proof/Machine/Raise.lean ====
section
/-!
DEFINITION. Command replies and admission (R495, R496, R347, R377, R486), what a safe-state reaction ends besides the link
(R298, R404, R414, Tables 11.6 and 12.9), raising a cause, ending it, and leaving a safe state (R420 to R435).
-/
namespace Sys2Proof.Machine

/-! ### Replies -/

/-- The base address of a slot in slot memory. -/
def slotBase (n : SlotId) : Nat := n.val * 0x1000

/-- The slot after one. -/
def slotAfter (n : SlotId) : Option SlotId := if h : n.val + 1 < 8 then some ⟨n.val + 1, h⟩ else none

/-- Change a slot. -/
def State.modSlot (s : State) (n : SlotId) (f : Slot → Slot) : State :=
  { s with fw := { s.fw with slots := updAt s.fw.slots n f } }

/-- Set the state of a slot, and of the next one where the packet is LONG (R494). -/
def setSlot (n : SlotId) (st : SlotState) (s : State) : State :=
  let long := s.fw.slots[n.val].long
  let s := s.modSlot n fun x => { x with state := st }
  match slotAfter n with
  | some m => if long then s.modSlot m fun x => { x with state := st } else s
  | none => s

/-- The bytes of a packet (Table 20.4). -/
def packet (opcode tag flags status : Nat) (payload : List Byte) : List Byte :=
  beBytes 2 opcode ++ beBytes 1 tag ++ beBytes 1 flags ++ beBytes 2 payload.length ++ beBytes 1 status ++ [0] ++ payload

/-- The TAG of a running command. -/
def runTag (via : Origin) (opcode : Nat) (s : State) : Nat :=
  match s.fw.running.find? fun r => r.origin = via && r.opcode == opcode with
  | some r => r.tag
  | none => 0

/-- Deliver a reply by the way its packet came (R494, R458, R500, R389). -/
def replyBy (via : Origin) (opcode tag status : Nat) (payload : List Byte) (s : State) : State :=
  match via with
  | .slot n =>
    let a := slotBase n
    let m := s.fw.mem
    let hdr := beBytes 2 opcode ++ [memRead m (a + 2)] ++ [memRead m (a + 3) ||| 0x80] ++ beBytes 2 payload.length
      ++ beBytes 1 status ++ [0]
    let s := { s with fw := { s.fw with mem := memWriteList m a (hdr ++ payload),
                                        msi := if bitOf s.fw.mbxCtrl 0 then s.fw.msi + 1 else s.fw.msi } }
    setSlot n .done s
  | .tunnel member ttag =>
    let bytes := packet opcode tag 0x80 status payload
    (stkFragments 0x31 member ttag bytes s).foldl (fun s m => stkDeliver m s) s
  | .stageC =>
    if status = 0 || status = 8 then s
    else { s with boot := { s.boot with cfgSkip := satAdd 16 s.boot.cfgSkip 1 } }
  | .farEnd p ftag => sendMgmt p 0x02 ftag (packet opcode tag 0x80 status payload) s

/-- A command no longer runs. -/
def endRun (via : Origin) (opcode : Nat) (s : State) : State :=
  let running := s.fw.running.filter fun r => !(r.origin = via && r.opcode == opcode)
  { s with fw := { s.fw with running := running, waiting := s.fw.waiting.filter fun w => w.1 ≠ via } }

/-- Complete a command (R494, R496): the reply goes back by the slot, tunnel or far end that the packet came by. A tunnelled
packet for the device's own ID completes the STK_TUNNEL that carried it (R458). -/
def reply (via : Origin) (opcode status : Nat) (payload : List Byte) (s : State) : State :=
  let tag := runTag via opcode s
  let s := endRun via opcode s
  let s := { s with fw := { s.fw with
    lastReply := some { origin := via, opcode := opcode, status := status, payload := payload } } }
  match via with
  | .tunnel member ttag =>
    match (if s.stack.id = some member then s.stack.tunOut.find? fun t => t.tag == ttag else none) with
    | some t =>
      let outer := runTag t.origin 0x0503 s
      let s := endRun t.origin 0x0503 { s with stack := { s.stack with tunOut := s.stack.tunOut.erase t } }
      replyBy t.origin 0x0503 outer status (packet opcode tag 0x80 status payload) s
    | none => replyBy via opcode tag status payload s
  | _ => replyBy via opcode tag status payload s

/-- Commands the Librarian serves (Table 20.6). -/
def libGroup (opcode : Nat) : Bool :=
  decide (opcode / 256 = 7) || decide (opcode / 256 = 8) || decide (opcode = 0x0A06) || decide (opcode = 0x0A07)
    || decide (opcode = 0x0A08)

/-- Opcodes a part does not support (R8). -/
def partLacks (p : Part) (opcode : Nat) : Bool :=
  !p.hasStore && [0x0401, 0x0402, 0x0403, 0x0405, 0x0406, 0x0310, 0x0311, 0x0312, 0x0313].contains opcode

/-- The block a command reaches is gated (R347, R237, Table 21.1). -/
def cmdGated (s : State) (opcode : Nat) : Bool :=
  match opcode / 256 with
  | 4 => decide (opcode ≠ 0x0403) && decide (opcode ≠ 0x0404) && !bitOf s.clk.gate 11
  | 5 => !(bitOf s.clk.gate 12 || bitOf s.clk.gate 13 || bitOf s.clk.gate 14 || bitOf s.clk.gate 15)
  | 6 => !bitOf s.clk.gate 10
  | _ => false

/-- A bank of the Clerk's or of the general memory is unrepairable: the Librarian alone serves commands (Table 16.2). -/
def State.clerkMemBad (s : State) : Bool :=
  s.test.unrep.any fun b => decide (b.group = .hubClerk) || decide (b.group = .hubGen)

/-- A command's packet is running from now on; one named by slot marks its slot (R494, R495). -/
def startCommand (via : Origin) (opcode : Nat) (port : Option PortId) (s : State) : State :=
  if s.fw.running.any fun r => r.origin = via && r.opcode == opcode then s
  else
    let tag := match via with
      | .slot n => (memRead s.fw.mem (slotBase n + 2)).toNat
      | _ =>
        match s.fw.waiting.find? fun w => w.1 = via with
        | some w => (w.2.getD 2 0).toNat
        | none => 0
    let s := { s with fw := { s.fw with
      running := s.fw.running ++ [{ origin := via, opcode := opcode, tag := tag, port := port }] } }
    match via with
    | .slot n => setSlot n .running s
    | _ => s

/-- A command and the checks before its own: the opcode on this part, the gates, CONFIG_DONE, and the processor that serves
it (R8, R347, R377, R387, R486, R490, R492, R496). -/
def command (via : Origin) (opcode : Nat) (s : State) (body : State → State) : State :=
  if !libGroup opcode && decide (s.fw.clerk = .restarting) then s
  else
    let s := startCommand via opcode none s
    if partLacks s.part opcode then reply via opcode 0x02 [] s
    else if libGroup opcode then
      if s.fw.libDead then reply via opcode 0x09 [] s else body s
    else if decide (s.boot.step = 14) || decide (s.fw.clerk = .givenUp) || cmdGated s opcode || s.clerkMemBad then
      reply via opcode 0x04 [] s
    else if !s.boot.configDone && decide (via ≠ .stageC) then reply via opcode 0x01 [] s
    else body s

/-- The port that a command runs on: a far-end request runs on the port on which it arrived, whatever port it names (R499). -/
def Origin.portFor (via : Origin) (p : PortId) : PortId :=
  match via with
  | .farEnd q _ => q
  | _ => p

/-- A command that names a port: GATED where the part lacks it or its pod's windows are out of reach (R10, R347, R516). -/
def portCommand (via : Origin) (opcode : Nat) (p : PortId) (s : State) (body : State → State) : State :=
  let s := if s.fw.clerk = .restarting then s else startCommand via opcode (some p) s
  command via opcode s fun s => if s.portOpen p then body s else reply via opcode 0x04 [] s

/-! ### What a safe state ends -/

/-- Set the result of a bank (R400). -/
def setBankResult (b : MemBank) (code kind : Nat) (fails : List BitFail) (misr : BitVec 64) (s : State) : State :=
  setBank b (fun r => { r with code := code, kind := kind, fails := fails, misr := misr }) s

/-- BIST_RUN is cut short (R414): the bank under test reports TRUNCATED, those not reached NONE, and the command ABORTED. -/
def abortBist (status : Nat) (s : State) : State :=
  match s.test.bist with
  | none => s
  | some r =>
    let s := match r.left with
      | [] => s
      | b :: rest =>
        let s := setBankResult b 3 (b2n r.diag) [] 0 s
        let s := rest.foldl (fun s b => setBankResult b 0 (b2n r.diag) [] 0 s) s
        { s with test := { s.test with lastTrunc := satAdd 8 s.test.lastTrunc 1 } }
    reply r.origin 0x0A01 status [] { s with test := { s.test with bist := none } }

/-- A run of CAL_RUN is cut short (Table 11.6): nothing changes and the command returns ABORTED. -/
def abortCal (status : Nat) (s : State) : State :=
  match s.cal.run with
  | none => s
  | some r => reply r.origin 0x0201 status [] { s with cal := { s.cal with run := none } }

/-- The opcode of a running diagnostic (Table 12.8). -/
def DiagKind.opcode : DiagKind → Nat
  | .tdr => 0x0301 | .rl => 0x0302 | .next => 0x0303 | .il => 0x0304 | .capture => 0x0310 | .serving => 0

/-- Return the lanes a diagnostic used to IDLE, their tone settings to the committed ones (R309), and the range of those that a partner's
schedule drove (R315). -/
def diagRelease (p : PortId) (s : State) : State :=
  let saved := (s.port p).diag.toneSaved
  let ranges := (s.port p).diag.rangeSaved
  let s := s.mapLanes p fun n l =>
    if saved.any fun x => x.1 == n.val then
      { l.setReg .txToneCtrl (fun r => { r with inForce := r.accepted }) with
        tx := { l.tx with segs := [], state := if l.tx.state = .tone then .idle else l.tx.state } }
    else l
  let s := s.mapLanes p fun n l =>
    match ranges.find? fun x => x.1 == n.val with
    | some x => l.setReg .txCtrl fun r => { r with inForce := setBits r.inForce 1 0 x.2 }
    | none => l
  s.modPort p fun q => { q with diag := { q.diag with running := none, il := .none, toneSaved := [], rangeSaved := [], ilResends := 0 } }

/-- Who waits for the reply of a port's running diagnostic. -/
def diagOrigin (p : PortId) (opcode : Nat) (s : State) : Option Origin :=
  (s.fw.running.find? fun r => r.opcode == opcode && r.port == some p).map fun r => r.origin

/-- A DIAG command of a port ends with a status (R322, Table 12.12). -/
def diagEnd (p : PortId) (status : Nat) (s : State) : State :=
  match (s.port p).diag.running with
  | none => s
  | some k =>
    let s := diagRelease p s
    match diagOrigin p k.opcode s with
    | some via =>
      reply via k.opcode status [] (s.modPort p fun q => { q with diag := { q.diag with lastStatus := status } })
    | none => s

/-- The capture ends with an outcome (R320). -/
def captureEnd (o : CapOutcome) (s : State) : State :=
  if s.cap.outcome ≠ .running then s
  else
    let s := { s with cap := { s.cap with outcome := o, staging := [] } }
    match s.cap.port with
    | some p => diagRelease p s
    | none => s

/-- A near-end loopback or pattern generator ends (R404): the lane returns to IDLE and OFF. -/
def Lane.endNearLoop (l : Lane) : Lane :=
  if l.test.loop = .serial || l.test.loop = .parallel then
    let l := l.enterPhase .off
    { l with test := { l.test with loop := .none, chkLock := false, genOn := false },
             tx := { l.tx with state := if l.tx.state = .data then .idle else l.tx.state } }
  else l

/-- What a safe-state reaction ends on the ports it holds, and the runs that any one ends (Tables 11.6, 12.9, 16.9). -/
def safeEnds (s : State) : State :=
  let s := abortBist 0x09 (abortCal 0x09 s)
  allPorts.foldl (fun s p =>
    if s.portSafe p then
      let s := s.mapLanes p fun _ l => l.endNearLoop
      if s.cap.outcome = .running && s.cap.port = some p then captureEnd .aborted s
      else diagEnd p 0x09 s
    else s) s

/-! ### Raising and ending causes -/

/-- The class a cause takes where a rule decides it and no rule has: its class when injected (R417). -/
def variableClass (c : Cause) (s : State) : FltClass :=
  match c with
  | .refFail =>
    match s.clk.rpllSrc with
    | none => .c
    | some r =>
      let other := match r with | .refclk => s.clk.xa.good | .xa => s.clk.ref.good
      if bitOf s.clk.cfg 5 && other then .u else .f
  | .froFail => if s.clk.dom.toList.any fun d => d.running && (d.fro || (decide (d.ramp ≠ 0) && d.toFro)) then .f else .u
  | _ => .f

/-- A real occurrence with all its effects: the class-0 guarantee (R428), and the entry into DOWN and the ends that a safe
state brings. -/
def raiseOcc (c : Cause) (i : Inst) (d : Nat) (cls : FltClass) (extra : React) (s : State) : State :=
  let r := reactInForce c extra false s
  let s := occur c i d cls extra false s
  let s := if c.c0 then (portsConcerned c i d).foldl (fun s p => guarFail p 0x20 s) s else s
  if r.anySafe then safeEnds (safeDown (safeDown s)) else s

/-- Raise a cause of fixed class: a condition only where it rises (R420). -/
def raise (c : Cause) (i : Inst) (d : Nat) (s : State) : State :=
  if c.isCondition && (fltGet c i s).real then s
  else raiseOcc c i d (c.fixedClass.getD (variableClass c s)) React.none s

/-- Raise a cause whose class a rule decides. -/
def raiseAs (c : Cause) (i : Inst) (d : Nat) (cls : FltClass) (s : State) : State :=
  if c.isCondition && (fltGet c i s).real then s else raiseOcc c i d cls React.none s

/-- Raise a cause with a rule's own actions (R424). -/
def raiseWith (c : Cause) (i : Inst) (d : Nat) (cls : FltClass) (extra : React) (s : State) : State :=
  if c.isCondition && (fltGet c i s).real then s else raiseOcc c i d cls extra s

/-- Raise a cause once more for a further resource of the same instance. -/
def raiseAgain (c : Cause) (i : Inst) (d : Nat) (s : State) : State :=
  raiseOcc c i d (c.fixedClass.getD (variableClass c s)) React.none s

/-- An injected occurrence (R432): never the detecting block's own function; a safe state only under INJ_FULL. -/
def raiseInjected (c : Cause) (i : Inst) (d : Nat) (s : State) : State :=
  let r := reactInForce c React.none true s
  let s := occur c i d (c.fixedClass.getD (variableClass c s)) React.none true s
  if r.anySafe then safeEnds (safeDown (safeDown s)) else s

/-- End the safe-state holds whose cause is not live and whose record has been acknowledged, and release FAULT_N (R426). -/
def settleSafe (s : State) : State :=
  let keep := s.flt.safe.filter fun h => !(decide (h.stage = .acked) && !(fltGet h.cause h.inst s).live)
  let s' := { s with flt := { s.flt with safe := keep } }
  let s' := { s' with flt := { s'.flt with
    faultN := s'.devSafe || (s.flt.fHold && !keep.isEmpty) || !(s.boot.verified && decide (s.boot.step ≠ 14) && decide (6 ≤ s.boot.step)),
    fHold := s.flt.fHold && !keep.isEmpty } }
  if keep.length = s.flt.safe.length then s
  else s'.mapPorts fun p q =>
    if s.portSafe p && !s'.portSafe p then
      if q.host.tx = .halt then
        { q with host := { q.host with tx := .idle, rxMap := Vector.replicate 12 15, txMap := Vector.replicate 12 15 } }
      else q
    else q

/-- A condition ends. -/
def endCond (c : Cause) (i : Inst) (s : State) : State :=
  settleSafe (fltMod c i (fun x => { x with real := false }) s)

/-- A condition as it stands now. -/
def setCond (c : Cause) (i : Inst) (d : Nat) (b : Bool) (s : State) : State :=
  if b then raise c i d s else endCond c i s

/-- A condition that another rule ends. -/
def setCondUp (c : Cause) (i : Inst) (d : Nat) (b : Bool) (s : State) : State := if b then raise c i d s else s

end Sys2Proof.Machine
end

