-- ==== Sys2Proof/Machine/Queue.lean ====
section
/-!
DEFINITION. A port's elastic SRAM and shortfall queues (R206, R229 to R231), hold causes (R232, R233), host egress (R230,
R247) and the class-0 guarantee's conditions (R235, R236).
-/
namespace Sys2Proof.Machine

/-! ### Elastic SRAM -/

/-- Blocks of 32 bytes in KiB of elastic SRAM, rounded up (Table 7.12). -/
def kibOf (blocks : Nat) : Nat := (blocks + 31) / 32

/-- Blocks of elastic SRAM: 512 KiB. -/
def sramBlocks : Nat := 16384

/-- Blocks of a queue's parcels that wait in elastic SRAM. -/
def SpillQ.waitingBlocks (x : SpillQ) : Nat :=
  (x.parcels.map fun c => if c.place = .waiting then c.blocks.length else 0).sum

/-- A queue with all it holds in elastic SRAM in the head, in order, as a class-0 port keeps it (R229). -/
def SpillQ.flatten (x : SpillQ) : SpillQ :=
  { x with head := x.head ++ (x.parcels.flatMap fun c => c.blocks) ++ x.tail, parcels := [], tail := [] }

/-- Blocks of a queue in elastic SRAM. -/
def SpillQ.sram (x : SpillQ) : Nat := x.head.length + x.tail.length + x.waitingBlocks

/-- A parcel is in the store. -/
def Parcel.isStored (c : Parcel) : Bool :=
  match c.place with
  | .stored .. => true
  | _ => false

/-- Parcels of a queue in the store. -/
def SpillQ.stored (x : SpillQ) : Nat := x.parcels.countP Parcel.isStored

/-- The store part of a queue is non-empty. -/
def SpillQ.inStore (x : SpillQ) : Bool := x.parcels.any Parcel.isStored

/-- Blocks held for reorder. -/
def Port.roBlocks (q : Port) : Nat := (q.lre.held.map fun h => h.blocks.length).sum

/-- Shortfall of both directions in elastic SRAM (R206). -/
def Port.shortfall (q : Port) : Nat := q.spill.h2l.sram + q.spill.l2h.sram

/-- Free blocks of elastic SRAM. -/
def Port.freeBlocks (q : Port) : Nat := sramBlocks - q.roBlocks - q.shortfall

/-- Room of a class-0 port's queues: 512 KiB less RES (R206). -/
def Port.classZeroRoom (q : Port) : Nat :=
  Nat.min q.freeBlocks ((512 - q.lre.resKib) * 32 - q.shortfall)

/-- Room of the heads of a port of class 1 to 3: 472 KiB less the reorder pool (R229). -/
def Port.headRoom (q : Port) : Nat :=
  if q.cls = 0 then q.classZeroRoom
  else Nat.min q.freeBlocks (15104 - q.roBlocks - (q.spill.h2l.head.length + q.spill.l2h.head.length))

/-- The queue of a direction. -/
def PortSpill.q (x : PortSpill) (l2h : Bool) : SpillQ := if l2h then x.l2h else x.h2l

/-- Change the queue of a direction. -/
def PortSpill.modQ (x : PortSpill) (l2h : Bool) (f : SpillQ → SpillQ) : PortSpill :=
  if l2h then { x with l2h := f x.l2h } else { x with h2l := f x.h2l }

/-- Change a queue of a port. -/
def Port.modQ (q : Port) (l2h : Bool) (f : SpillQ → SpillQ) : Port := { q with spill := q.spill.modQ l2h f }

/-- Parcels that are not in the store move to the head in queue order while it has room (R229, R234): what moves, and the
parcels that stay. -/
def pullParcels : Nat → List Parcel → List Block × List Parcel × Nat
  | room, [] => ([], [], room)
  | room, c :: cs =>
    if c.isStored then ([], c :: cs, room)
    else if c.blocks.length ≤ room then
      let r := pullParcels (room - c.blocks.length) cs
      (c.blocks ++ r.1, r.2.1, r.2.2)
    else (c.blocks.take room, { c with blocks := c.blocks.drop room } :: cs, 0)

/-- The head takes what may move to it: flushed and waiting parcels ahead of the store part, and the tail when no parcel
stands before it (R229). -/
def SpillQ.pull (room : Nat) (x : SpillQ) : SpillQ :=
  let r := pullParcels room x.parcels
  if r.2.1.isEmpty then
    { x with head := x.head ++ r.1 ++ x.tail.take r.2.2, parcels := [], tail := x.tail.drop r.2.2 }
  else { x with head := x.head ++ r.1, parcels := r.2.1 }

/-- Settle a queue of a port. -/
def Port.pull (q : Port) (l2h : Bool) : Port :=
  if q.cls = 0 then q else q.modQ l2h fun x => x.pull q.headRoom

/-- A block joins a queue (R229): the head while it has room and nothing is behind it, else the tail; none where no room can
be made (R233). -/
def Port.join (q : Port) (l2h : Bool) (b : Block) : Option Port :=
  let x := q.spill.q l2h
  if q.cls = 0 then
    if 0 < q.classZeroRoom then some (q.modQ l2h fun x => { x with head := x.head ++ [b] }) else none
  else if x.parcels.isEmpty && x.tail.isEmpty && decide (0 < q.headRoom) then
    some (q.modQ l2h fun x => { x with head := x.head ++ [b] })
  else if 0 < q.freeBlocks then some (q.modQ l2h fun x => { x with tail := x.tail ++ [b] })
  else none

/-- ERRORED blocks owed for dropped ones join while room lasts (R233). -/
def Port.payOwed : Nat → Port → Port
  | 0, q => q
  | n + 1, q =>
    if q.spill.owed = 0 then q
    else
      match q.join false Block.errored with
      | none => q
      | some q => Port.payOwed n { q with spill := { q.spill with owed := q.spill.owed - 1 } }

/-- A host block enters the host-to-line path (R229, R233): a block that finds no room is dropped, counted, and owed an
ERRORED block in its place. -/
def Port.hostBlock (q : Port) (b : Block) : Port :=
  let q := q.payOwed q.spill.owed
  let drop := fun (q : Port) =>
    { q with spill := { q.spill with drop := satAdd 16 q.spill.drop 1, owed := q.spill.owed + 1 } }
  if q.spill.owed ≠ 0 then drop q
  else (q.join false b).getD (drop q)

/-- Take up to n blocks from the head of a queue. -/
def Port.takeHead (q : Port) (l2h : Bool) (n : Nat) : List Block × Port :=
  let x := q.spill.q l2h
  let h := x.head.drop n
  let q := q.modQ l2h fun x => { x with head := h, returned := Nat.min x.returned h.length }
  (x.head.take n, (q.pull l2h))

/-- The newest blocks of a head, packed into parcels of up to 120 in front of the store part (R206, R229). -/
def packFront (k : Nat) (x : SpillQ) : SpillQ :=
  let keep := x.head.length - k
  let rec cut : Nat → List Block → List Parcel
    | 0, _ => []
    | n + 1, l => if l.isEmpty then [] else { pseq := 0, blocks := l.take 120, place := .waiting } :: cut n (l.drop 120)
  let moved := x.head.drop keep
  { x with head := x.head.take keep, returned := Nat.min x.returned keep, parcels := cut moved.length moved ++ x.parcels }

/-- Make room for n more blocks of reorder (R206); none where it cannot be made. Where both heads hold shortfall, the host-to-line one gives up
its newest blocks first (DESIGN CHOICE: the rule names no order; log entry 127). -/
def Port.reorderRoom (q : Port) (n : Nat) : Option Port :=
  if q.freeBlocks < n then none
  else if q.cls = 0 then some q
  else
    let lim := 15104 - q.roBlocks - n
    let heads := q.spill.h2l.head.length + q.spill.l2h.head.length
    let k := heads - lim
    let a := Nat.min k q.spill.h2l.head.length
    some ((q.modQ false (packFront a)).modQ true (packFront (k - a)))

/-! ### Host egress -/

/-- The symbol rate of a RATE code in units of 0.1 GBd (Table 5.10). -/
def rateTenths : Nat → Nat
  | 1 => 1184
  | 2 => 1036
  | _ => 888

/-- The RATE code in force. -/
def Port.rate (q : Port) : Nat := q.modeRate.2

/-- Logical lanes the device's transmit map carries (R247). -/
def HostSt.txCarried (h : HostSt) : Nat := h.txMap.toList.countP fun l => l != 15

/-- The host block rate of n line lanes is at or below the host egress capacity of m host lanes (R119, R247). -/
def egressFits (rate n m : Nat) : Bool :=
  decide (n * rateTenths rate * 25 * 7680 * 29 * 4095 * (10 * 5440 * 256)
    ≤ m * (2125 * 5120 * 255) * (100 * 8600 * 30 * 4096))

/-- The host block rate arriving from the line exceeds host egress (R230). -/
def Port.egressShort (q : Port) : Bool := !egressFits q.rate (popcount8 q.active) q.host.txCarried

/-- What host egress takes in one folio slot of 3,440 symbols, with what the slots before left over (R31, R247): whole blocks, and the part
of the next one. -/
def Port.egressPerSlot (q : Port) : Nat × Nat :=
  let n := q.host.egress + q.host.txCarried * 19921875 * 3440
  let d := 256 * rateTenths q.rate * 10000
  (n / d, n % d)

/-- Blocks go to the host: HOST_CNT and the COUNTERS period count them; in HALT they are discarded and counted (R251). -/
def Port.toHost (q : Port) (l : List Block) : Port :=
  if l.isEmpty then q
  else if q.host.tx = .halt then
    { q with host := { q.host with haltDisc := satAdd 32 q.host.haltDisc l.length } }
  else
    { q with host := { q.host with out := q.host.out ++ l },
             ctr := { q.ctr with l2h := q.ctr.l2h + l.length,
                                 errored := q.ctr.errored + (l.filter fun b => decide (b = Block.errored)).length } }

/-- Blocks are released in order towards the host (R196, R230): straight through, or behind the line-to-host queue while
egress is short or the queue is non-empty. -/
def Port.release (q : Port) (l : List Block) : Port :=
  let x := q.spill.l2h
  if x.head.isEmpty && x.parcels.isEmpty && x.tail.isEmpty && !q.egressShort then q.toHost l
  else
    l.foldl (fun q b => (q.join true b).getD q) q

/-- The room for released blocks of a folio exists (R230). -/
def Port.releaseRoom (q : Port) (n : Nat) : Bool :=
  let x := q.spill.l2h
  (x.head.isEmpty && x.parcels.isEmpty && x.tail.isEmpty && !q.egressShort)
    || (if q.cls = 0 then decide (n ≤ q.classZeroRoom) else decide (n ≤ q.freeBlocks))

/-- One slot of host egress from the line-to-host queue; an empty queue leaves no room over. -/
def Port.egressSlot (q : Port) : Port :=
  let q := { q with host := { q.host with out := [] } }
  if q.spill.l2h.head.isEmpty then { q with host := { q.host with egress := 0 } }
  else
    let e := q.egressPerSlot
    let r := { q with host := { q.host with egress := e.2 } }.takeHead true e.1
    r.2.toHost r.1

/-! ### Placement in the store -/

/-- A link takes parcels: up, past its 100 ms and not fenced (R216, R218). -/
def CxlLink.takes (l : CxlLink) : Bool := decide (l.state = 2) && !l.qual && !l.fenced

/-- GiB of a region: 0 the common shelf, 1 to 3 the class's own (R217). -/
def SpillStore.regionGib (x : SpillStore) (r : Nat) : Nat := if r = 0 then x.commonGib else getNat x.shelf (r - 1) 0

/-- Slots of a region on a link: its share by mapped capacity (R218). -/
def SpillStore.slots (x : SpillStore) (m r : Nat) : Nat :=
  let total := (x.mx.toList.map CxlLink.capGib).sum
  x.regionGib r * 2 ^ 18 * (getNat x.mx m CxlLink.reset).capGib / (if total = 0 then 1 else total)

/-- Every parcel the store holds, with its port. -/
def allParcels (s : State) : List (PortId × Parcel) :=
  allPorts.flatMap fun p =>
    let x := (s.port p).spill
    ((x.h2l.parcels ++ x.l2h.parcels).filter Parcel.isStored).map fun c => (p, c)

/-- A parcel lies on a link in a region. -/
def Parcel.isAt (c : Parcel) (m r : Nat) : Bool :=
  match c.place with
  | .stored l g _ _ => decide (l.val = m) && g == r
  | _ => false

/-- A parcel lies on a link. -/
def Parcel.onLink (c : Parcel) (m : Nat) : Bool :=
  match c.place with
  | .stored l _ _ _ => decide (l.val = m)
  | _ => false

/-- Free slots of a region on a link. -/
def freeSlots (s : State) (m r : Nat) : Nat :=
  s.store.slots m r - (allParcels s).countP fun c => c.2.isAt m r

/-- Parcels of a port in the store, both directions. -/
def Port.parcelsHeld (q : Port) : Nat := q.spill.h2l.stored + q.spill.l2h.stored

/-- A port of class 1 to 3 may place n more parcels (Table 8.6, R218, R222). -/
def canPlace (s : State) (p : PortId) (n : Nat) : Bool :=
  let q := s.port p
  let cap := (getNat s.store.cls (q.cls - 1) ClassPar.reset).portCap
  let free := ((List.range 8).map fun m =>
    if (getNat s.store.mx m CxlLink.reset).takes then freeSlots s m q.cls + freeSlots s m 0 else 0).sum
  decide (s.store.state = 2) && decide (n ≤ free)
    && (decide (cap = 0) || decide (q.parcelsHeld + n ≤ cap * 2 ^ 18))

/-! ### Holds -/

/-- The causes of Table 8.6 judged again for a port. Cause 0x4 stands whenever the port's next parcel could not be placed, the
store out of RUN included, whether or not one is closed (R215); classes act on native ports alone (R186). -/
def reHold (p : PortId) (s : State) : State :=
  let q := s.port p
  let x := q.spill
  if q.cls = 0 then
    let b := x.h2l.sram
    let up := decide (q.link.state = .up) || decide (q.link.state = .degraded)
    s.modPort p fun q => { q with spill := { q.spill with
      hold1 := x.hold1 && !(decide (b = 0) && up), hold2 := decide (29 < b) || (x.hold2 && decide (b ≠ 0)),
      hold3 := false, hold4 := false } }
  else
    let free := q.freeBlocks
    let stuck := !q.ieeeMode && !canPlace s p (if x.hold4 then 16 else 1)
    s.modPort p fun q => { q with spill := { q.spill with
      hold1 := false, hold2 := false, hold3 := decide (free < 1024) || (x.hold3 && decide (free < 4096)),
      hold4 := stuck } }

/-- The holds of every port judged again. -/
def reHoldAll (s : State) : State := allPorts.foldl (fun s p => reHold p s) s

/-- A fall of a port's line capacity (Table 8.6, cause 0x1). -/
def holdFall (p : PortId) (s : State) : State :=
  if (s.port p).cls = 0 then s.modPort p fun q => { q with spill := { q.spill with hold1 := true } } else s

/-- Cause 0x5 of Table 8.6. -/
def State.holdDown (s : State) (p : PortId) : Bool :=
  s.portSafe p ||
    match (s.port p).link.state with
    | .down | .sound | .parley | .train | .align => true
    | _ => false

/-- HOLD_WHY: the lowest-numbered cause in force (R232). -/
def State.holdWhy (s : State) (p : PortId) : Nat :=
  let x := (s.port p).spill
  if x.hold1 then 1 else if x.hold2 then 2 else if x.hold3 then 3 else if x.hold4 then 4
  else if s.holdDown p then 5 else 0

/-- A port is held. -/
def State.held (s : State) (p : PortId) : Bool := decide (s.holdWhy p ≠ 0)

/-! ### The class-0 guarantee -/

/-- A live fault on the port's class-0 path (R428). -/
def faultOnPath (s : State) (p : PortId) : Bool :=
  Cause.all.any fun c => c.c0 && c.isCondition &&
    match c.scope with
    | .lane => allLanes.any fun n => (fltGet c (.lane p n) s).real
    | .port => (fltGet c (.port p) s).real
    | .pod => (fltGet c (.pod (podOf p)) s).real
    | .dev => (fltGet c .dev s).real

/-- The continuous conditions of Table 8.7 that fail now, as reason codes. -/
def guarNow (s : State) (p : PortId) : Nat :=
  let q := s.port p
  (if q.snd.path = .native then 0 else 0x01)
  ||| (if (q.link.state = .up || q.link.state = .degraded) && decide (6 ≤ popcount8 q.active) then 0 else 0x02)
  ||| (if faultOnPath s p then 0x20 else 0)
  ||| (if q.cls = 0 then 0 else 0x40)

/-- GUAR rises where it has not fallen since reset and every continuous condition holds (R236). -/
def guarRise (p : PortId) (s : State) : State :=
  let x := (s.port p).spill
  if !x.guar && decide (x.noguar = 0) && decide (guarNow s p = 0) then
    s.modPort p fun q => { q with spill := { q.spill with guar := true } }
  else s

/-- The continuous conditions judged again (R236): each that fails now is recorded. -/
def guarJudge (p : PortId) (s : State) : State :=
  let w := guarNow s p
  if w = 0 || (s.port p).cls ≠ 0 then s else guarFail p w s

/-- The per-window conditions of Table 8.7 that failed in the window that ends (R236). -/
def Port.guarWindow (q : Port) : Nat :=
  (if q.spill.winViol then 0x04 else 0)
  ||| (if q.code.winCorr * 1000 ≤ 2 * 860 * q.code.winDecoded then 0 else 0x08)
  ||| (if q.code.winUnc * 1000000 ≤ q.code.winRecv then 0 else 0x10)

/-- A host violation (R233): counted, and the guarantee fails at once. -/
def hostViolation (p : PortId) (s : State) : State :=
  let s := s.modPort p fun q =>
    { q with spill := { q.spill with viol := satAdd 8 q.spill.viol 1, winViol := true } }
  guarFail p 0x04 s

end Sys2Proof.Machine
end

