-- ==== Sys2Proof/Machine/ParcelImage.lean ====
section
/-!
DEFINITION. A parcel as its 4 KiB slot holds it: the image of Tables 8.3 and 8.4, its SECDED words and the check of a read
(R219), and the store slots that the spill index assigns (R217 to R219).
-/
namespace Sys2Proof.Machine

/-! ### The image -/

/-- A block's 258 stored bits: its header and its data (R96, R219). -/
def Block.bits (b : Block) : BitVec 258 := (if b.ctrl then 0b10#2 else 0b01#2) ++ b.data

/-- The block of 258 stored bits. -/
def Block.ofBits (x : BitVec 258) : Block := { ctrl := decide (x.extractLsb' 256 2 = 0b10#2), data := x.extractLsb' 0 256 }

/-- Bytes 0 to 3,869 (Table 8.3): the blocks, contiguous from bit 7 of byte 0, and zeros. -/
def blockArea (l : List Block) : BitVec 30960 :=
  (l.take 120).zipIdx.foldl (fun a c => a ||| BitVec.shiftLeft (c.1.bits.setWidth 30960) (258 * (119 - c.2))) (0#30960)

/-- The block at a position of the area. -/
def areaBlock (a : BitVec 30960) (i : Nat) : Block := Block.ofBits (a.extractLsb' (258 * (119 - i)) 258)

/-- The parcel header (Table 8.4). -/
structure ParcelHeader where
  gen : BitVec 16
  port : BitVec 8
  l2h : Bool
  cls : BitVec 2
  count : BitVec 8
  pseq : BitVec 32
  next : BitVec 32
deriving DecidableEq, Repr

/-- The 32 bytes of a header. -/
def ParcelHeader.bits (h : ParcelHeader) : BitVec 256 :=
  h.gen ++ h.port ++ BitVec.ofBool h.l2h ++ h.cls ++ 0#5 ++ h.count ++ 0#24 ++ h.pseq ++ h.next ++ 0#128

/-- The header that 32 bytes hold. -/
def ParcelHeader.ofBits (x : BitVec 256) : ParcelHeader :=
  { gen := x.extractLsb' 240 16, port := x.extractLsb' 232 8, l2h := x.getLsbD 231, cls := x.extractLsb' 229 2,
    count := x.extractLsb' 216 8, pseq := x.extractLsb' 160 32, next := x.extractLsb' 128 32 }

/-- Word k of the 122 that the ECC covers: the block area and the header, the last word padded with zeros (R219). -/
def eccWord (x : BitVec 31232) (k : Nat) : BitVec 256 := x.extractLsb' (256 * (121 - k)) 256

/-- The check bits of every word. -/
def eccBits (x : BitVec 31232) : BitVec 1220 :=
  (List.range 122).foldl (fun a k => a <<< 10 ||| (Config.secded (eccWord x k)).setWidth 1220) 0#1220

/-- The slot's 4,096 bytes, byte 0 first (Table 8.3). -/
def slotImage (a : BitVec 30960) (h : ParcelHeader) : BitVec 32768 :=
  a ++ h.bits ++ eccBits (a ++ h.bits ++ 0#16) ++ 0#332

/-- A word against its check bits (R219): as read, or with its single-bit error corrected; none where more is wrong. -/
def fixWord (w : BitVec 256) (c : BitVec 10) : Option (BitVec 256 × Bool) :=
  if Config.secded w = c then some (w, false)
  else if (List.range 10).any fun i => decide (Config.secded w = c ^^^ 1#10 <<< i) then some (w, true)
  else ((List.range 256).find? fun i => decide (Config.secded (w ^^^ 1#256 <<< i) = c)).map fun i => (w ^^^ 1#256 <<< i, true)

/-- The words of a slot as read, each against its check bits. -/
def fixWords (x : BitVec 32768) : Option (List (BitVec 256 × Bool)) :=
  (List.range 122).mapM fun k =>
    fixWord (eccWord (x.extractLsb' 1552 31216 ++ 0#16) k) (x.extractLsb' (332 + 10 * (121 - k)) 10)

/-- A slot read back (R219): its header, its blocks, and whether a single-bit error was corrected; none where the ECC
neither passes nor corrects. -/
def readSlot (x : BitVec 32768) : Option (ParcelHeader × List Block × Bool) :=
  (fixWords x).map fun l =>
    let y := l.foldl (fun (a : BitVec 31232) w => a <<< 256 ||| w.1.setWidth 31232) 0#31232
    let h := ParcelHeader.ofBits (y.extractLsb' 16 256)
    (h, (List.range (Nat.min 120 h.count.toNat)).map (areaBlock (y.extractLsb' 272 30960)), l.any Prod.snd)

/-! ### The spill index -/

/-- The store slot of a parcel (R219): the index keeps one for each parcel written. -/
def Parcel.slot (c : Parcel) : Option Nat :=
  match c.place with
  | .stored _ _ _ k => some k
  | _ => none

/-- Where the store part of a queue starts in its list of parcels, and the head and tail slots of the index (R219). -/
def SpillQ.first (x : SpillQ) : Option Nat := x.parcels.findIdx? Parcel.isStored
def SpillQ.headSlot (x : SpillQ) : Option Nat := (x.parcels.filterMap Parcel.slot).head?
def SpillQ.tailSlot (x : SpillQ) : Option Nat := (x.parcels.filterMap Parcel.slot).getLast?

/-- NEXT of the parcel at an index: the slot of the next parcel of the queue, 0xFFFF_FFFF for none (Table 8.4). -/
def SpillQ.next (x : SpillQ) (i : Nat) : BitVec 32 :=
  match ((x.parcels.drop (i + 1)).filterMap Parcel.slot).head? with
  | some k => BitVec.ofNat 32 k
  | none => 0xFFFFFFFF#32

/-- What the store holds in the slot of the parcel at an index of a queue. -/
def Port.slotHolds (q : Port) (p : PortId) (l2h : Bool) (i : Nat) : Option (BitVec 32768) :=
  let x := q.spill.q l2h
  match x.parcels[i]? with
  | none => none
  | some c =>
    match c.place with
    | .stored _ _ gen _ =>
      some (slotImage (blockArea c.blocks)
        { gen := BitVec.ofNat 16 gen, port := BitVec.ofNat 8 p.val, l2h := l2h, cls := BitVec.ofNat 2 q.cls,
          count := BitVec.ofNat 8 c.blocks.length, pseq := BitVec.ofNat 32 c.pseq, next := x.next i })
    | _ => none

/-- A read is the one expected (R219): GEN, PORT, direction and PSEQ. -/
def ParcelHeader.expected (h : ParcelHeader) (p : PortId) (l2h : Bool) (gen pseq : Nat) : Bool :=
  decide (h.gen.toNat = gen) && decide (h.port.toNat = p.val) && h.l2h == l2h && decide (h.pseq.toNat = pseq)

/-! ### Slots and the rotation -/

/-- The first slot of a region: the regions follow the order of Table 8.2 from the lowest store address (R217). -/
def SpillStore.regionBase (x : SpillStore) (r : Nat) : Nat :=
  let n := if r = 0 then 3 else r - 1
  (x.ledgerGib + 1 + x.captureGib + (x.shelf.toList.take n).sum) * 2 ^ 18

/-- The first slot of a link's share of a region: the shares follow link order (DESIGN CHOICE: R218 gives their sizes alone;
log entry 129). -/
def SpillStore.shareBase (x : SpillStore) (m r : Nat) : Nat :=
  x.regionBase r + ((List.range m).map fun k => x.slots k r).sum

/-- The slot that the next parcel of a link and region takes: the lowest free one (DESIGN CHOICE: R218 names none; log entry
129). -/
def freeStoreSlot (s : State) (m r : Nat) : Nat :=
  let used := (allParcels s).filterMap fun c => c.2.slot
  let b := s.store.shareBase m r
  b + ((List.range (used.length + 1)).find? fun k => !used.contains (b + k)).getD 0

/-- The next link of the rotation weighted by D_m among those that may take a parcel, and the credits after it (R218): each
such link gains its D_m, the one with most credit is next, the lowest-numbered of equals, and pays the sum (DESIGN CHOICE:
the rule gives the weights and no order; log entry 129). -/
def SpillStore.rotate (x : SpillStore) (ok : CxlId → Bool) : Option (CxlId × Vector Int 8) :=
  let up := mapIdx x.rot fun m c => if ok m then c + x.mx[m.val].dM else c
  let sum : Int := ((List.finRange 8).map fun m => if ok m then (x.mx[m.val].dM : Int) else 0).sum
  let best := (List.finRange 8).foldl (fun (b : Option CxlId) m =>
    if !ok m then b
    else match b with
      | none => some m
      | some k => if up[k.val] < up[m.val] then some m else b) none
  best.map fun m => (m, updAt up m (· - sum))

/-- Where the next parcel of a port goes (R218): its class's shelf while that has a free slot, else the common shelf; on the
next link of the rotation that is up, past its 100 ms, not fenced and has a free slot of the region. -/
def placeNext (s : State) (p : PortId) : Option (CxlId × Nat × Vector Int 8) :=
  let room := fun (r : Nat) (m : CxlId) => s.store.mx[m.val].takes && decide (0 < freeSlots s m.val r)
  let c := (s.port p).cls
  match s.store.rotate (room c) with
  | some (m, v) => some (m, c, v)
  | none => (s.store.rotate (room 0)).map fun x => (x.1, 0, x.2)

end Sys2Proof.Machine
end

