-- ==== Sys2Proof/Machine/Spill.lean ====
section
/-!
DEFINITION. The spill store and class commands: SPILL_INIT to LINK_UNFENCE, the events of the CXL links, parcels and the
guarantee window (R214 to R237).
-/
namespace Sys2Proof.Machine

/-! ### Bandwidth, admission and reduction -/

/-- The contribution of a link to NOW_D in 1/512 of 0.01 GB/s (R221). -/
def CxlLink.contribution (l : CxlLink) : Nat :=
  if l.takes then
    l.dM * (match l.width with | 0 => 8 | 1 => 4 | _ => 2) * (if l.rate = 0 then 64 else 32)
  else 0

/-- NOW_D from the links (R221), in 0.01 GB/s. -/
def SpillStore.deliverable (x : SpillStore) : Nat :=
  Nat.min ((x.mx.toList.map CxlLink.contribution).sum / 512 - 10) x.cfgD

/-- 0.85 of a bandwidth in 0.01 GB/s, rounded down to 0.1 GB/s (R226). -/
def limit85 (d : Nat) : Nat := 85 * d / 1000

/-- The parameters of a class. -/
def SpillStore.par (x : SpillStore) (c : Nat) : ClassPar := getNat x.cls (c - 1) ClassPar.reset

/-- A quotient rounded to the nearest; which way a half rounds is free. -/
def roundDiv (a b : Nat) : Nat :=
  if a % b * 2 < b then a / b
  else if b < a % b * 2 then a / b + 1
  else if Config.roundTie (a / b : Nat) then a / b + 1 else a / b

/-- The minimums in force under NOW_D (R227): class 3 gives way first, then class 2, then class 1, each to its floor, and
below the floors all are scaled. -/
def minEffs (x : SpillStore) (now : Nat) : Nat × Nat × Nat × Bool :=
  let p1 := x.par 1
  let p2 := x.par 2
  let p3 := x.par 3
  let lim := limit85 now
  let floors := p1.floor + p2.floor + p3.floor
  if lim < floors then
    let f := fun (c : ClassPar) => roundDiv (c.floor * 85 * now) (1000 * floors)
    (f p1, f p2, f p3, true)
  else
    let e3 := Nat.max p3.floor (Nat.min p3.min (lim - p1.min - p2.min))
    let e2 := Nat.max p2.floor (Nat.min p2.min (lim - p1.min - e3))
    let e1 := Nat.max p1.floor (Nat.min p1.min (lim - e2 - e3))
    (e1, e2, e3, false)

/-- The minimums in force set (R227, R228): REDUCED and FLOOR_BREACH as they now apply. -/
def SpillStore.setEffs (x : SpillStore) (e : Nat × Nat × Nat × Bool) : SpillStore :=
  let c1 := { x.par 1 with minEff := e.1 }
  let c2 := { x.par 2 with minEff := e.2.1 }
  let c3 := { x.par 3 with minEff := e.2.2.1 }
  { x with cls := #v[c1, c2, c3], floorBreach := e.2.2.2,
           reduced := decide (c1.minEff < c1.min) || decide (c2.minEff < c2.min) || decide (c3.minEff < c3.min) }

/-- The minimums in force fit NOW_D. -/
def SpillStore.effsFit (x : SpillStore) : Bool :=
  decide ((x.par 1).minEff + (x.par 2).minEff + (x.par 3).minEff ≤ limit85 x.nowD)

/-- Minimums are reduced to fit NOW_D, with the causes of R227. -/
def reduceEffs (s : State) : State :=
  let s := { s with store := s.store.setEffs (minEffs s.store s.store.nowD) }
  let s := if s.store.reduced then raise .spillBwReduced .dev 0 s else s
  if s.store.floorBreach then raise .floorBreach .dev 0 s else s

/-- NOW_D recomputed after a change under R216; minimums that no longer fit are reduced (R221, R227). -/
def recomputeNowD (s : State) : State :=
  let s := { s with store := { s.store with nowD := s.store.deliverable } }
  if s.store.effsFit then s else reduceEffs s

/-- P_p of a pod: the smaller of its two directions, 0.1 GB/s (R220). -/
def SpillStore.podLimit (x : SpillStore) (k : PodId) : Nat :=
  let b := x.podBw[k.val]
  85 * Nat.min b.1 b.2 / 100

/-- A class has a host port in a pod. -/
def classInPod (s : State) (c : Nat) (k : PodId) : Bool := (portsOfPod k).any fun p => decide ((s.port p).cls = c)

/-- Admission of the class configuration that stands (R226). -/
def admitted (s : State) : Bool :=
  let x := s.store
  decide ((x.par 1).min + (x.par 2).min + (x.par 3).min ≤ limit85 x.cfgD)
    && (List.finRange 8).all fun k => !s.part.hasPod k ||
      decide ((([1, 2, 3].filter fun c => classInPod s c k).map fun c => (x.par c).min).sum ≤ x.podLimit k)

/-! ### Layout -/

/-- The mapped GiB of each link in order, 2 TiB in total (Table 8.1). -/
def mapCaps : Nat → List CxlTrain → List Nat
  | _, [] => []
  | left, t :: ts =>
    let c := Nat.min left t.capGib
    c :: mapCaps (left - c) ts

/-- The regions fit the mapped capacity (R217). -/
def layoutFits (total ledger capture sh1 sh2 sh3 : Nat) : Bool := decide (ledger + 1 + capture + sh1 + sh2 + sh3 ≤ total)

/-- Region sizes in range (Table 8.2). -/
def sizesOk (capture sh1 sh2 sh3 : Nat) : Bool :=
  decide (capture ≤ 2047) && decide (sh1 ≤ 1023) && decide (sh2 ≤ 1023) && decide (sh3 ≤ 1023)

/-- The layout put in place. -/
def SpillStore.layout (x : SpillStore) (total ledger capture sh1 sh2 sh3 : Nat) : SpillStore :=
  { x with ledgerGib := ledger, captureGib := capture, shelf := #v[sh1, sh2, sh3],
           commonGib := total - (ledger + 1 + capture + sh1 + sh2 + sh3) }

/-- Any parcel is held in the store. -/
def anyParcel (s : State) : Bool :=
  allPorts.any fun p => (s.port p).spill.h2l.inStore || (s.port p).spill.l2h.inStore

/-- A capture runs. -/
def captureRuns (s : State) : Bool := decide (s.cap.outcome = .running)

/-- The CLASS record of an accepted command (Table 20.10). -/
def classRecord (opcode : Nat) (body : List Byte) (s : State) : State := ledgerAppend 0x25 opcode 0 body s

/-- The pods' bandwidths as measured (R220); an absent pod measures nothing. -/
def podBwOf (s : State) (pods : List (Nat × Nat)) : Vector (Nat × Nat) 8 :=
  Vector.ofFn fun k => if s.part.hasPod k then pods.getD k.val (0, 0) else (0, 0)

/-- A trained link takes part (R214, R215). -/
def CxlTrain.usable (t : CxlTrain) (ideReq : Bool) : Bool :=
  t.present && decide (t.width < 3) && decide (t.rate < 2) && (t.hasIde || !ideReq)

/-- A CXL port after training (R214, R215): a link that takes no part in the measurement keeps its last D_m (R220). -/
def CxlTrain.link (t : CxlTrain) (ideReq : Bool) (cap last : Nat) : CxlLink :=
  let ok := t.usable ideReq
  if !t.present then { CxlLink.reset with dM := last }
  else
    { state := if ok then 2 else 3, width := Nat.min t.width 3, rate := Nat.min t.rate 2, ide := ok && t.hasIde,
      fenced := false, qual := false, dM := if ok then t.d else last, capGib := if ok then cap else 0,
      hasIde := t.hasIde, excluded := ideReq && !t.hasIde }

/-- SPILL_INIT (0x0401, R215, R217, R220). -/
def execSpillInit (via : Origin) (ideReq : Bool) (capture sh1 sh2 sh3 : Nat) (links : List CxlTrain) (w r : Nat)
    (pods : List (Nat × Nat)) (s : State) : Host.Outcome State Fault Refusal :=
  .next (command via 0x0401 s fun s =>
    let ledger := s.boot.ledgerGib
    let caps := mapCaps 2048 (links.map fun t => if t.usable ideReq then t else { t with capGib := 0 })
    let total := (caps.take 8).sum
    if !sizesOk capture sh1 sh2 sh3 then reply via 0x0401 0x03 [] s
    else if anyParcel s || captureRuns s || (s.test.unrep.any fun b => decide (b.group = .hubIndex))
        || (match s.test.bist with | some r => r.all.any (fun b => decide (b.group = .hubIndex)) | none => false) then
      reply via 0x0401 0x07 [] s
    else
      let mx : Vector CxlLink 8 := Vector.ofFn fun m =>
        match links[m.val]? with
        | some t => t.link ideReq (caps.getD m.val 0) s.store.mx[m.val].dM
        | none => { CxlLink.reset with dM := s.store.mx[m.val].dM }
      if !layoutFits total ledger capture sh1 sh2 sh3 then
        let s := if (mx.toList.any fun l => decide (l.state = 2)) then s
          else reHoldAll { s with store := { s.store with mx := mx, state := 3, nowD := 0 } }
        reply via 0x0401 0x03 [] s
      else
        let d := Nat.min w r - 10
        let x := s.store.layout total ledger capture sh1 sh2 sh3
        let x := { x with mx := mx, cfgD := d, nowD := d, gen := (x.gen + 1) % 65536, state := 2,
                          podBw := podBwOf s pods, rot := Vector.replicate 8 0 }
        let x := x.setEffs (minEffs x d)
        let s := { s with store := x, ledger := { s.ledger with reserveOk := true } }
        let s := if x.reduced then reduceEffs s else s
        let s := classRecord 0x0401 (beBytes 1 (b2n ideReq) ++ beBytes 2 capture ++ beBytes 2 sh1 ++ beBytes 2 sh2
          ++ beBytes 2 sh3) s
        reply via 0x0401 (if x.reduced then 0x08 else 0x00) [] (reHoldAll s))

/-- SPILL_MEASURE (0x0402, R220): the links in use are measured again and the classes re-admitted. -/
def execSpillMeasure (via : Origin) (d : List Nat) (w r : Nat) (pods : List (Nat × Nat)) (s : State) :
    Host.Outcome State Fault Refusal :=
  .next (command via 0x0402 s fun s =>
    if s.store.state ≠ 2 || anyParcel s then reply via 0x0402 0x07 [] s
    else
      let x := { s.store with
        mx := mapIdx s.store.mx fun m l => if l.takes then { l with dM := d.getD m.val 0 } else l,
        cfgD := Nat.min w r - 10, podBw := podBwOf s pods }
      let t := { s with store := x }
      if admitted t then reply via 0x0402 0x00 [] (recomputeNowD t) else reply via 0x0402 0x0B [] s)

/-- The parameters of a class in range (Table 8.5). -/
def classParOk (min floor weight ceil portCap : Nat) : Bool :=
  decide (min ≤ 4800) && decide (floor ≤ min) && decide (1 ≤ weight) && decide (weight ≤ 255) && decide (min ≤ ceil)
    && decide (ceil ≤ 4800) && decide (portCap ≤ 2047)

/-- CLASS_SET (0x0403, R226 to R228): the class takes the parameters, and the minimums in force follow R227 at once. -/
def execClassSet (via : Origin) (cls min floor weight ceil portCap : Nat) (s : State) : Host.Outcome State Fault Refusal :=
  .next (command via 0x0403 s fun s =>
    if cls < 1 || 3 < cls || !classParOk min floor weight ceil portCap then reply via 0x0403 0x03 [] s
    else
      let t := { s with store := { s.store with cls := updNat s.store.cls (cls - 1) fun _ =>
        { min := min, floor := floor, weight := weight, ceil := ceil, portCap := portCap, minEff := min } } }
      if !admitted t then reply via 0x0403 0x0B [] s
      else
        let t := if t.store.effsFit then { t with store := t.store.setEffs (minEffs t.store t.store.nowD) } else reduceEffs t
        let t := classRecord 0x0403 (beBytes 1 cls ++ beBytes 2 min ++ beBytes 2 floor ++ beBytes 1 weight
          ++ beBytes 2 ceil ++ beBytes 2 portCap) t
        reply via 0x0403 0x00 [] (reHoldAll t))

/-- The ports of a 96-bit mask. -/
def maskPorts (m : BitVec 96) : List PortId := allPorts.filter fun p => m.getLsbD p.val

/-- A port takes a class (R222): a class-0 port keeps its shortfall in its heads (R229). -/
def Port.setClass (q : Port) (cls : Nat) : Port :=
  if cls = 0 then
    { q with cls := cls, spill := { q.spill with h2l := q.spill.h2l.flatten, l2h := q.spill.l2h.flatten } }
  else { q with cls := cls }

/-- PORT_CLASS (0x0404, R222, R237). -/
def execPortClass (via : Origin) (mask : BitVec 96) (cls : Nat) (s : State) : Host.Outcome State Fault Refusal :=
  .next (command via 0x0404 s fun s =>
    let ps := maskPorts mask
    if (ps.any fun p => !s.part.hasPort p) || 3 < cls || (!s.part.hasStore && cls ≠ 0) then reply via 0x0404 0x03 [] s
    else if !s.part.hasStore then reply via 0x0404 0x00 [] s
    else if ps.any fun p =>
        let q := s.port p
        q.spill.h2l.inStore || q.spill.l2h.inStore
          || (decide (cls = 0) && decide ((512 - q.lre.resKib) * 32 < q.shortfall)) then
      reply via 0x0404 0x07 [] s
    else
      let t := s.mapPorts fun p q => if ps.contains p then { q with cls := cls } else q
      if !admitted t then reply via 0x0404 0x0B [] s
      else
        let s := if cls = 0 then s else ps.foldl (fun s p => guarFail p 0x40 s) s
        let s := s.mapPorts fun p q => if ps.contains p then q.setClass cls else q
        let s := ps.foldl (fun s p => guarRise p (reHold p s)) s
        let s := classRecord 0x0404 (beBytes 12 mask.toNat ++ beBytes 1 cls) s
        reply via 0x0404 0x00 [] s)

/-- SHELF_SET (0x0405, R217). -/
def execShelfSet (via : Origin) (capture sh1 sh2 sh3 : Nat) (s : State) : Host.Outcome State Fault Refusal :=
  .next (command via 0x0405 s fun s =>
    let x := s.store
    let total := (x.mx.toList.map CxlLink.capGib).sum
    if !sizesOk capture sh1 sh2 sh3 || !layoutFits total x.ledgerGib capture sh1 sh2 sh3 then reply via 0x0405 0x03 [] s
    else if anyParcel s || captureRuns s then reply via 0x0405 0x07 [] s
    else
      let s := { s with store := x.layout total x.ledgerGib capture sh1 sh2 sh3 }
      let s := classRecord 0x0405 (beBytes 2 capture ++ beBytes 2 sh1 ++ beBytes 2 sh2 ++ beBytes 2 sh3) s
      reply via 0x0405 0x00 [] (reHoldAll s))

/-- Change a CXL port. -/
def modMx (m : CxlId) (f : CxlLink → CxlLink) (s : State) : State :=
  { s with store := { s.store with mx := updAt s.store.mx m f } }

/-- LINK_UNFENCE (0x0406, R216). -/
def execLinkUnfence (via : Origin) (m : CxlId) (s : State) : Host.Outcome State Fault Refusal :=
  .next (command via 0x0406 s fun s =>
    if s.store.mx[m.val].state ≠ 2 then reply via 0x0406 0x07 [] s
    else reply via 0x0406 0x00 [] (reHoldAll (recomputeNowD (modMx m (fun l => { l with fenced := false }) s))))

/-! ### Losses -/

/-- How long ago a parcel of a queue was written, in parcels (PSEQ is modulo 2^32, Table 8.4). -/
def SpillQ.age (x : SpillQ) (c : Parcel) : Nat := (x.pseq + 2 ^ 32 - c.pseq) % 2 ^ 32

/-- A queue whose parcel at an index is lost (R234): that parcel and every one written to the store after it are flushed,
ERRORED blocks in their place; reads granted of them end. The number of blocks is given beside. -/
def SpillQ.lose (i : Nat) (x : SpillQ) : SpillQ × Nat :=
  let age := (x.parcels[i]?.map x.age).getD 0
  let hit := fun (c : Parcel) => c.isStored && decide (x.age c ≤ age)
  let l := x.parcels.map fun c =>
    if hit c then { c with place := .flushed, blocks := List.replicate c.blocks.length Block.errored } else c
  ({ x with reading := Nat.min x.reading ((x.parcels.takeWhile fun c => !hit c).countP Parcel.isStored), parcels := l },
    ((x.parcels.filter hit).map fun c => c.blocks.length).sum)

/-- A parcel loss of a port and direction (R234). -/
def parcelLoss (p : PortId) (l2h : Bool) (i : Nat) (s : State) : State :=
  let r := ((s.port p).spill.q l2h).lose i
  let s := s.modPort p fun q =>
    let q := q.modQ l2h fun _ => r.1
    { q with spill := { q.spill with flush := satAdd 8 q.spill.flush 1, flushBlk := satAdd 24 q.spill.flushBlk r.2 },
             ctr := { q.ctr with flushes := q.ctr.flushes + 1 } }
  raise .parcelLoss (.port p) 0 (reHold p (s.modPort p fun q => q.pull l2h))

/-- The oldest parcel of a queue among some of those in the store: the one written first (R234). -/
def SpillQ.oldest (x : SpillQ) (ok : Parcel → Bool) : Option Nat :=
  x.parcels.zipIdx.foldl (fun (b : Option (Nat × Nat)) c =>
    if !(c.1.isStored && ok c.1) then b
    else match b with
      | none => some (c.2, x.age c.1)
      | some k => if k.2 < x.age c.1 then some (c.2, x.age c.1) else b) none |>.map Prod.fst

/-- The oldest parcel of a queue on a link. -/
def SpillQ.oldestOn (x : SpillQ) (m : CxlId) : Option Nat := x.oldest fun c => c.onLink m.val

/-- Every queue with a parcel on a link loses it (R234). -/
def loseOnLink (m : CxlId) (s : State) : State :=
  allPorts.foldl (fun s p => [false, true].foldl (fun s d =>
    match ((s.port p).spill.q d).oldestOn m with
    | some i => parcelLoss p d i s
    | none => s) s) s

/-- Every parcel of the store is lost (R219, R412). -/
def loseAllParcels (s : State) : State :=
  allPorts.foldl (fun s p => [false, true].foldl (fun s d =>
    match ((s.port p).spill.q d).oldest fun _ => true with
    | some i => parcelLoss p d i s
    | none => s) s) s

/-- The ledger reserve loses its contents (R506, R509). -/
def reserveLost (s : State) : State :=
  if s.ledger.reserveOk then
    ledgerFault 5 { s with ledger := { s.ledger with reserve := [], reserveOk := s.store.mx.toList.any fun l => l.state = 2 } }
  else s

/-- Captured segments on a link are lost (R321). -/
def loseSegments (m : CxlId) (s : State) : State :=
  { s with cap := { s.cap with stored := s.cap.stored.map fun g => if g.link = m.val then { g with lost := true } else g } }

/-- A CXL link goes down (R216, R234): parcels and captured segments on it are lost. -/
def cxlDrop (m : CxlId) (s : State) : State :=
  if s.store.mx[m.val].state ≠ 2 then s
  else
    let s := modMx m (fun l => { l with state := 3, qual := false, ide := false }) s
    let s := raise .cxlLink .dev m.val s
    let s := loseOnLink m s
    let s := loseSegments m s
    reHoldAll (recomputeNowD (reserveLost s))

/-- Every CXL link in use drops (R342). -/
def dropAllCxl (s : State) : State := (List.finRange 8).foldl (fun s m => cxlDrop m s) s

/-- CXL_LINK_DROP (R216). -/
def execCxlLinkDrop (m : CxlId) (s : State) : Host.Outcome State Fault Refusal := .next (cxlDrop m s)

/-- CXL_LINK_DOWNTRAIN (R216): the link stays in use at a lower width or rate; below ×2 or 32 GT/s it is not used. -/
def execCxlLinkDowntrain (m : CxlId) (width rate : Nat) (s : State) : Host.Outcome State Fault Refusal :=
  if s.store.mx[m.val].state ≠ 2 then .next s
  else if 2 < width || 1 < rate then
    .next (cxlDrop m (modMx m (fun l => { l with width := Nat.min 3 width, rate := Nat.min 2 rate }) s))
  else
    let s := modMx m (fun l => { l with width := width, rate := rate }) s
    .next (recomputeNowD (raise .cxlLink .dev (m.val + 0x10) s))

/-- CXL_LINK_FENCE (R216): no new writes; reads continue. Captured segments on the link are lost (R321). -/
def execCxlLinkFence (m : CxlId) (s : State) : Host.Outcome State Fault Refusal :=
  if s.store.mx[m.val].state ≠ 2 || s.store.mx[m.val].fenced then .next s
  else
    let s := loseSegments m (modMx m (fun l => { l with fenced := true }) s)
    .next (reHoldAll (recomputeNowD (raise .cxlLink .dev (m.val + 0x20) s)))

/-- CXL_RETRAIN_DONE (R216): a dropped link that retrains starts its 100 ms, with IDE where its device supports it (R214); a link
that SPILL_INIT left out for want of IDE stays out (R215). -/
def execCxlRetrainDone (m : CxlId) (width rate : Nat) (s : State) : Host.Outcome State Fault Refusal :=
  let l := s.store.mx[m.val]
  if l.state ≠ 3 || l.excluded || 2 < width || 1 < rate then .next s
  else .next (modMx m (fun l => { l with state := 2, qual := true, width := width, rate := rate, ide := l.hasIde }) s)

/-- CXL_LINK_RETURN (R216): the 100 ms are complete, or full width and rate are back. -/
def execCxlLinkReturn (m : CxlId) (s : State) : Host.Outcome State Fault Refusal :=
  let l := s.store.mx[m.val]
  if l.state ≠ 2 then .next s
  else
    let f := fun (l : CxlLink) => if l.qual then { l with qual := false } else { l with width := 0, rate := 0 }
    .next (reHoldAll (recomputeNowD (modMx m f s)))

/-- MIN_EFF_RESTORE (R228): the minimums rise as far as NOW_D allows, class 1 first. -/
def execMinEffRestore (s : State) : Host.Outcome State Fault Refusal :=
  .next { s with store := s.store.setEffs (minEffs s.store s.store.nowD) }

/-! ### Parcels -/

/-- The parcel that closes (R229): 120 blocks, or what the open parcel holds once 2 µs have passed with the store part
non-empty. -/
def SpillQ.close (x : SpillQ) : SpillQ :=
  if 120 ≤ x.tail.length || (x.inStore && !x.tail.isEmpty) then
    { x with parcels := x.parcels ++ [{ pseq := 0, blocks := x.tail.take 120, place := .waiting }],
             tail := x.tail.drop 120 }
  else x

/-- PARCEL_CLOSE (R229). -/
def execParcelClose (p : PortId) (l2h : Bool) (s : State) : Host.Outcome State Fault Refusal :=
  .next (reHold p (s.modPort p fun q => q.modQ l2h SpillQ.close))

/-- The parcels of the store part that stand next to return: no closed parcel waits in front of them. -/
def SpillQ.nextReads (x : SpillQ) : Nat := (x.parcels.takeWhile Parcel.isStored).length

/-- A read of a queue can be granted: a parcel whose read is not yet granted is next, and the head would take its blocks with those
of the reads granted (R229). -/
def SpillQ.readable (x : SpillQ) (room : Nat) : Bool :=
  decide (x.reading < x.nextReads) && decide ((x.reading + 1) * 120 ≤ room)

/-- Write demand of a queue: a closed parcel not yet written. -/
def SpillQ.wantsWrite (x : SpillQ) : Bool := x.parcels.any fun c => decide (c.place = .waiting)

/-- Read demand of a port (R223): parcels in the store, and less than 64 KiB of returned blocks in elastic SRAM. -/
def Port.wantsRead (q : Port) : Bool :=
  (q.spill.h2l.inStore || q.spill.l2h.inStore) && decide (q.spill.h2l.returned + q.spill.l2h.returned < 2048)

/-- A port has demand in a direction (R223). -/
def Port.demand (q : Port) (read : Bool) : Bool :=
  decide (q.cls ≠ 0) && (if read then q.wantsRead else q.spill.h2l.wantsWrite || q.spill.l2h.wantsWrite)

/-- Parcels granted to a class in the interval. -/
def SpillStore.granted (x : SpillStore) (read : Bool) (c : Nat) : Nat := getNat (if read then x.gR else x.gW) (c - 1) 0

/-- Parcels granted to a port in the interval. -/
def PortSpill.granted (x : PortSpill) (read : Bool) : Nat := if read then x.gR else x.gW

/-- Bytes in 10 µs of a bandwidth in 0.1 GB/s. -/
def bytes10us (d : Nat) : Nat := d * 1000

/-- A new grant interval of 10 µs begins when the current one is over (R223). -/
def grantInterval (s : State) : State :=
  if s.uptime < s.store.grantT + 370000 then s
  else
    let s := { s with store := { s.store with grantT := s.uptime, gW := Vector.replicate 3 0, gR := Vector.replicate 3 0, gC := 0 } }
    s.mapPorts fun _ q => { q with spill := { q.spill with gW := 0, gR := 0 } }

/-- A class is below its minimum in force. -/
def belowMin (s : State) (read : Bool) (c : Nat) : Bool :=
  decide (s.store.granted read c * 4096 < bytes10us (s.store.par c).minEff)

/-- What the grants of the interval leave of a pod's bridge (R26, R223). -/
def podRoom (s : State) (read : Bool) (k : PodId) : Bool :=
  let sent := ((portsOfPod k).map fun r => (s.port r).spill.granted read).sum * 4096
  decide (sent < bytes10us (if read then s.store.podBw[k.val].2 else s.store.podBw[k.val].1))

/-- A port's demand can be served: its pod's bridge has bandwidth left, and its next parcel can be placed, or its head takes a
returning one (R218, R223, R229). Demand that cannot be served holds nobody else back: unused bandwidth goes to whoever has
demand. -/
def servable (s : State) (read : Bool) (p : PortId) : Bool :=
  let q := s.port p
  q.demand read && podRoom s read (podOf p)
    && (if read then q.spill.h2l.readable q.headRoom || q.spill.l2h.readable q.headRoom else canPlace s p 1)

/-- A class has demand in a direction that can be served. -/
def classDemand (s : State) (read : Bool) (c : Nat) : Bool :=
  allPorts.any fun p => decide ((s.port p).cls = c) && servable s read p

/-- The grant of R223: minimums first, then shares in proportion to WEIGHT up to CEIL, then the ports of a class equally, and
no pod beyond its bridge. -/
def grantAllowed (s : State) (read : Bool) (p : PortId) : Bool :=
  let q := s.port p
  let c := q.cls
  let x := s.store
  let others := [1, 2, 3].filter fun d => decide (d ≠ c) && classDemand s read d
  let share := fun (d : Nat) => x.granted read d * 4096 - bytes10us (x.par d).minEff
  let byMin := belowMin s read c
  let byWeight := (others.all fun d => !belowMin s read d)
    && decide (x.granted read c * 4096 < bytes10us (x.par c).ceil)
    && others.all fun d =>
      !decide (x.granted read d * 4096 < bytes10us (x.par d).ceil)
        || decide (share c * (x.par d).weight ≤ share d * (x.par c).weight)
  let all := (x.granted read 1 + x.granted read 2 + x.granted read 3) * 4096
  (byMin || byWeight) && servable s read p && decide (all < x.nowD * 100)
    && allPorts.all fun r => !(decide ((s.port r).cls = c) && servable s read r)
        || decide (q.spill.granted read ≤ (s.port r).spill.granted read)

/-- The classes leave write bandwidth unused for a captured segment (R224): none has demand that could be served, and the
interval's writes stand below NOW_D. -/
def captureRoom (s : State) : Bool :=
  let x := s.store
  !([1, 2, 3].any fun c => classDemand s false c)
    && decide ((x.granted false 1 + x.granted false 2 + x.granted false 3 + x.gC) * 4096 < x.nowD * 100)

/-- A grant is counted. -/
def countGrant (read : Bool) (p : PortId) (s : State) : State :=
  let c := (s.port p).cls
  let s := s.modPort p fun q => { q with spill :=
    if read then { q.spill with gR := q.spill.gR + 1 } else { q.spill with gW := q.spill.gW + 1 } }
  { s with store :=
    if read then { s.store with gR := updNat s.store.gR (c - 1) (· + 1) }
    else { s.store with gW := updNat s.store.gW (c - 1) (· + 1) } }

/-- The first waiting parcel of a queue is written (R219). -/
def SpillQ.writeFirst (x : SpillQ) (m : CxlId) (r gen slot : Nat) : SpillQ :=
  match x.parcels.findIdx? fun c => decide (c.place = .waiting) with
  | none => x
  | some i =>
    { x with pseq := (x.pseq + 1) % 2 ^ 32,
             parcels := listUpd x.parcels i fun c => { c with pseq := x.pseq, place := .stored m r gen slot } }

/-- A granted write (R218, R219): the parcel takes its slot and the rotation moves on. -/
def writeParcel (p : PortId) (l2h : Bool) (s : State) : State :=
  match placeNext s p with
  | none => s
  | some (m, r, v) =>
    let k := freeStoreSlot s m.val r
    let s := s.modPort p fun q => q.modQ l2h fun x => x.writeFirst m r s.store.gen k
    reHold p (countGrant false p { s with store := { s.store with rot := v } })

/-- PARCEL_WRITE_GRANT (R218, R223): a grant to a port with demand whose turn it is. -/
def execParcelWriteGrant (p : PortId) (l2h read : Bool) (s : State) : Host.Outcome State Fault Refusal :=
  let s := grantInterval s
  let q := s.port p
  let x := q.spill.q l2h
  if s.store.state ≠ 2 || !grantAllowed s read p then .next s
  else if read then
    if x.readable q.headRoom then
      .next (countGrant true p (s.modPort p fun q => q.modQ l2h fun x => { x with reading := x.reading + 1 }))
    else .next s
  else if x.wantsWrite then .next (writeParcel p l2h s)
  else .next s

/-- The parcel at an index has come back (R219, R229): its slot is free, and its blocks move to the head as far as that has
room; what does not fit waits in order. -/
def SpillQ.back (room i : Nat) (blocks : List Block) (x : SpillQ) : SpillQ :=
  { x with reading := x.reading - 1, returned := x.returned + Nat.min room blocks.length,
           parcels := listUpd x.parcels i fun c => { c with place := .waiting, blocks := blocks } }

/-- PARCEL_READ_DONE (R219, R234): the slot as read, none where the read fails or returns poison; an accepted parcel enters the
head and its slot is freed, any other is a loss. -/
def execParcelReadDone (p : PortId) (l2h : Bool) (slot : Option (BitVec 32768)) (s : State) :
    Host.Outcome State Fault Refusal :=
  let x := (s.port p).spill.q l2h
  match x.first with
  | none => .next s
  | some i =>
    match x.parcels[i]? with
    | none => .next s
    | some c =>
      match c.place with
      | .stored _ _ g _ =>
        if x.reading = 0 then .next s
        else
          match slot.bind readSlot with
          | none => .next (parcelLoss p l2h i s)
          | some (h, blocks, fixed) =>
            if h.expected p l2h g c.pseq then
              let s := s.modPort p fun q => (q.modQ l2h fun x => x.back q.headRoom i blocks).pull l2h
              let s := if fixed then raise .parcelEccCorr (.port p) 0 s else s
              .next (reHoldAll s)
            else .next (parcelLoss p l2h i s)
      | _ => .next s

/-- GUAR_WINDOW_END (R236, R270): LINK_WIN_STAT is loaded, the window judged, and a new one begins. -/
def execGuarWindowEnd (p : PortId) (s : State) : Host.Outcome State Fault Refusal :=
  let q := s.port p
  if q.snd.path ≠ .native then .next s
  else
    let w := q.guarWindow
    let pfec := if q.code.winDecoded = 0 then 0 else q.code.winCorr * 1000000 / (860 * q.code.winDecoded)
    let s := s.modPort p fun q =>
      { q with link := { q.link with winPfec := Nat.min 0xFFFF pfec, winUnc := Nat.min 0xFFFF q.code.winUnc } }
    let s := if w = 0 then s else guarFail p w s
    let clean := decide (w = 0) && decide (q.spill.winFail = 0) && decide (guarNow s p = 0)
    let s := s.modPort p fun q =>
      let guar := q.spill.guar || clean
      { q with
        spill := { q.spill with guar := guar, noguar := if clean then 0 else q.spill.noguar, winViol := false, winFail := 0,
                                lost := if guar || decide (q.cls ≠ 0) then q.spill.lost else satAdd 8 q.spill.lost 1 },
        ctr := { q.ctr with guarLost := if guar || decide (q.cls ≠ 0) then q.ctr.guarLost else q.ctr.guarLost + 1 },
        code := { q.code with winDecoded := 0, winCorr := 0, winUnc := 0, winRecv := 0 } }
    .next s

end Sys2Proof.Machine
end

