-- ==== Sys2Proof/Machine/Time.lean ====
section
/-!
DEFINITION. The time unit: the counter, its sources and states, timestamps, PPS, link and stack time transfer (R463 to
R481).
-/
namespace Sys2Proof.Machine

/-- One second in units of the counter, 2^-40 ns. -/
def secUnits : Nat := 1000000000 * 2 ^ 40

/-- The counter's modulus: SEC has 48 bits. -/
def timeModulus : Nat := 2 ^ 48 * secUnits

/-- A time in units of 2^-16 ns as a counter value. -/
def timeOf16 (t : Nat) : Nat := t * 2 ^ 24

/-- A counter value in units of 2^-16 ns, as SEC, NS and FRAC show it. -/
def timeTo16 (t : Nat) : Nat := t / 2 ^ 24

/-- SEC, NS and FRAC as 12 bytes, most significant first (R479). -/
def time12 (t : Nat) : List Byte :=
  beBytes 6 (t / secUnits) ++ beBytes 4 (t / 2 ^ 40 % 1000000000) ++ beBytes 2 (t / 2 ^ 24)

/-- Clamp a number. -/
def clampInt (lo hi x : Int) : Int := if x < lo then lo else if hi < x then hi else x

/-- ADJ within ±500 ppm (R464), units of 2^-10 ppb. -/
def clampAdj (x : Int) : Int := clampInt (-512000000) 512000000 x

/-- PPS_OUT may be high (R472). -/
def TimeSt.ppsAllowed (t : TimeSt) : Bool := t.run && t.outEn && !(decide (t.state = .free) && t.reqLock)

/-- The last second boundary the counter has reached, OFS included (R472). -/
def TimeSt.boundary (t : TimeSt) : Nat := (((t.ctr : Int) - t.ppsOfs * 2 ^ 40) / (secUnits : Int)).toNat

/-- After a change of the time unit (R472): PPS_OUT is low where it may not be high, a boundary reached while it might not pulse is
past, and a backward step leaves the next boundary to be reached. -/
def TimeSt.gatePps (was : Bool) (t : TimeSt) : TimeSt :=
  { t with ppsOut := t.ppsOut && t.ppsAllowed, reached := if was then Nat.min t.reached t.boundary else t.boundary }

/-- Change the time unit. -/
def State.modTime (s : State) (f : TimeSt → TimeSt) : State := { s with time := (f s.time).gatePps s.time.ppsAllowed }

/-- The counter loaded (R465): EPOCH advances, and no timestamp of the old EPOCH serves R473. -/
def timeLoad (v : Nat) (s : State) : State :=
  s.modTime fun t => { t with ctr := v % timeModulus, epoch := (t.epoch + 1) % 4, stamps := [] }

/-- The counter stepped by a signed amount in units of 2^-40 ns (R465). -/
def timeAdd (d : Int) (s : State) : State := timeLoad (((s.time.ctr : Int) + d) % (timeModulus : Int)).toNat s

/-- HOLDOVER begins (R468, R469). -/
def timeToHoldover (s : State) : State :=
  if s.time.run then raise .timeHoldover .dev 0 (s.modTime fun t => { t with state := .holdover }) else s

/-- CLK_CTRL runs from the FRO. -/
def State.ctrlOnFro (s : State) : Bool := s.clk.dom[2].fro

/-- A valid sample with its offset, source less counter, in units of 2^-16 ns (R466, R467, TIME_SAMPLE_APPLY). -/
def timeSample (hardware : Bool) (e : Int) (s : State) : State :=
  let big := decide ((s.time.thr : Int) * 65536 ≤ (e.natAbs : Int))
  let good := if e.natAbs < 131072 then s.time.good + 1 else 0
  let st : TimeState := if 16 ≤ good then .locked else .acquire
  let stay := decide (s.time.state = .holdover) && s.ctrlOnFro
  let s := s.modTime fun t =>
    { t with ofs := clampInt (-(2 ^ 26)) (2 ^ 26 - 1) (e / 256), good := good, state := if stay then .holdover else st }
  let s := if stay then s else endCond .timeHoldover .dev s
  if big then timeAdd (e * 2 ^ 24) s
  else if hardware then
    s.modTime fun t =>
      { t with adj := clampAdj (t.adj + e * 15625 / 16),
               ctr := (((t.ctr : Int) + e * 2 ^ 22) % (timeModulus : Int)).toNat }
  else
    let d := clampInt (-10240000) 10240000 (Config.clerkServo s.fresh e)
    { s.modTime (fun t => { t with adj := clampAdj (t.adj + d) }) with fresh := s.fresh + 1 }

/-- A write of TIME_CFG (R463, R466, Table 19.8). -/
def writeTimeCfg (v : Word) (s : State) : State :=
  let run := bitOf v 31
  let src := if bits v 30 28 ≤ 4 then bits v 30 28 else s.time.src
  let fresh := decide (src ≠ s.time.src) || (run && !s.time.run)
  let out := !run || (fresh && decide (s.time.state = .holdover))
  let s := s.modTime fun t =>
    { t with run := run, src := src, port := bits v 27 21, holdS := if bits v 20 16 = 0 then 1 else bits v 20 16,
             thr := if bits v 15 0 = 0 then 1 else bits v 15 0,
             ctr := if run && !t.started then 0 else t.ctr, started := t.started || run,
             good := if fresh then 0 else t.good,
             state := if !run then .off else if fresh then .free else t.state }
  written (if out then endCond .timeHoldover .dev s else s)

/-- TIME_CFG_WRITE (R466). -/
def execTimeCfgWrite (who : Initiator) (v : Word) (s : State) : Host.Outcome State Fault Refusal :=
  .next (regWrite who 0x20000 s (writeTimeCfg v))

/-- A write of TIME_RATE (R464, R465). -/
def writeTimeRate (who : Initiator) (v : Word) (s : State) : State :=
  if s.time.src = 4 then ignored who 0x20008 s
  else written (s.modTime fun t => { t with adj := clampAdj v.toInt })

/-- TIME_RATE_WRITE (R464). -/
def execTimeRateWrite (who : Initiator) (v : Word) (s : State) : Host.Outcome State Fault Refusal :=
  .next (regWrite who 0x20008 s (writeTimeRate who v))

/-- A write of TIME_PPS_CTRL (R472, Table 19.9). -/
def writePpsCtrl (v : Word) (s : State) : State :=
  let w := bits v 19 0
  written (s.modTime fun t =>
    { t with outEn := bitOf v 31, reqLock := bitOf v 30, ppsOfs := signed 10 (bits v 29 20),
             width := if 1 ≤ w && w ≤ 500000 then w else t.width })

/-- TIME_SET (0x0601, R465). -/
def execTimeSet (via : Origin) (sec ns frac : Nat) (s : State) : Host.Outcome State Fault Refusal :=
  .next (command via 0x0601 s fun s =>
    if 2 ^ 48 ≤ sec || 1000000000 ≤ ns || 65536 ≤ frac then reply via 0x0601 0x03 [] s
    else if s.time.src = 4 || !s.time.run then reply via 0x0601 0x07 [] s
    else reply via 0x0601 0x00 [] (timeLoad (sec * secUnits + ns * 2 ^ 40 + frac * 2 ^ 24) s))

/-- TIME_STEP (0x0602, R465). -/
def execTimeStep (via : Origin) (ns : Int) (s : State) : Host.Outcome State Fault Refusal :=
  .next (command via 0x0602 s fun s =>
    if 2 ^ 31 < ns.natAbs then reply via 0x0602 0x03 [] s
    else if s.time.src = 4 || !s.time.run then reply via 0x0602 0x07 [] s
    else reply via 0x0602 0x00 [] (timeAdd (ns * 2 ^ 40) s))

/-- TIME_PTP_SAMPLE (0x0603, R473): its offset drives the Clerk's servo. -/
def execTimePtpSample (via : Origin) (t1 t2 t3 t4 : Nat) (corr : Int) (s : State) : Host.Outcome State Fault Refusal :=
  .next (command via 0x0603 s fun s =>
    if !(s.time.stamps.contains t2) || !(s.time.stamps.contains t3) then reply via 0x0603 0x03 [] s
    else if s.time.src ≠ 1 || !s.time.run then reply via 0x0603 0x07 [] s
    else
      let ofs := (((t2 : Int) - t1) - ((t4 : Int) - t3) - corr) / 2
      reply via 0x0603 0x00 [] (timeSample false (-ofs) s))

/-- TIME_STATUS (0x0604): STATE, SRC, last offset, ADJ and EPOCH. -/
def execTimeStatus (via : Origin) (s : State) : Host.Outcome State Fault Refusal :=
  .next (command via 0x0604 s fun s =>
    let t := s.time
    reply via 0x0604 0x00 (beBytes 1 t.state.code ++ beBytes 1 t.src ++ beBytes 4 (unsigned 32 t.ofs)
      ++ beBytes 4 (unsigned 32 t.adj) ++ beBytes 1 t.epoch) s)

/-- TIME_HOLDOVER_TIMEOUT (R468). -/
def execTimeHoldoverTimeout (s : State) : Host.Outcome State Fault Refusal :=
  if s.time.state = .acquire || s.time.state = .locked then .next (timeToHoldover s) else .next s

/-- PPS_IN_EDGE (R471): the counter is captured, and with SRC = PPS an edge near a second boundary is a sample. -/
def execPpsInEdge (s : State) : Host.Outcome State Fault Refusal :=
  if !bitOf s.clk.gate 10 then .next s
  else
    let now := s.time.ctr
    let s := s.modTime fun t => { t with ppsIn := now, ppsNew := true }
    let f : Int := (now % secUnits / 2 ^ 24 : Nat)
    let lim : Int := 100000 * 65536
    let one : Int := 1000000000 * 65536
    if !s.time.run || s.time.src ≠ 2 || s.fw.clerk ≠ .running then .next s
    else if f ≤ lim then .next (timeSample false (-f) s)
    else if one - lim ≤ f then .next (timeSample false (one - f) s)
    else .next s

/-- PPS_OUT_PULSE (R472): at a boundary not pulsed before, PPS_OUT rises. -/
def execPpsOutPulse (s : State) : Host.Outcome State Fault Refusal :=
  let b := s.time.boundary
  if s.time.ppsAllowed && decide (s.time.reached < b) && !s.time.pulsed.contains b then
    .next (s.modTime fun t => { t with ppsOut := true, reached := b, pulsed := b :: t.pulsed })
  else .next s

/-- PPS_OUT_FALL (R472): WIDTH has passed. -/
def execPpsOutFall (s : State) : Host.Outcome State Fault Refusal :=
  .next (s.modTime fun t => { t with ppsOut := false })

/-- TIME_FRAME_SEND (R474): the latest alignment folios sent and received. -/
def execTimeFrameSend (p : PortId) (s : State) : Host.Outcome State Fault Refusal :=
  let q := s.port p
  if q.snd.path ≠ .native || !bitOf q.time.tsCtrl 2 then .next s
  else
    match q.time.sentAl, q.time.recvAl with
    | a :: _, b :: _ => .next (queueCm p 0x30 (beBytes 4 a.1 ++ time12 a.2 ++ beBytes 4 b.1 ++ time12 b.2) s)
    | _, _ => .next s

/-- TIME_FRAME_RECEIVE (R475): an exchange completes when this side holds its send time of SLOT_RX and its receive time of
SLOT_TX. -/
def execTimeFrameReceive (p : PortId) (slotTx t1 slotRx t2 : Nat) (s : State) : Host.Outcome State Fault Refusal :=
  let q := s.port p
  match q.time.sentAl.find? (fun a => a.1 == slotRx), q.time.recvAl.find? (fun a => a.1 == slotTx) with
  | some a, some b =>
    if q.snd.path ≠ .native || !bitOf q.time.tsCtrl 2 then .next s
    else
      let fwd : Int := (timeTo16 b.2 : Int) - t1
      let back : Int := (t2 : Int) - timeTo16 a.2
      let ofs := (fwd - back) / 2
      let dly := (fwd + back) / 2
      let s := s.modPort p fun q => { q with time := { q.time with ofs := ofs / 256, dly := dly / 256 } }
      if s.time.run && decide (s.time.src = 3) && decide (s.time.port = p.val) && decide (s.fw.clerk = .running) then
        .next (timeSample false (-ofs) s)
      else .next s
  | _, _ => .next s

/-- The mean of a stack port's round trips, units of 2^-16 ns (R476). -/
def rttMean (l : List Nat) : Nat := if l.isEmpty then 0 else l.sum / l.length

/-- The device has a valid time (R477). -/
def State.timeValid (s : State) : Bool := s.time.run && (s.isMaster || decide (s.time.state = .locked))

/-- TIME_SYNC_SEND (R477): F, T and the port's R to each DOWNSTREAM port that has measured one. -/
def execTimeSyncSend (s : State) : Host.Outcome State Fault Refusal :=
  match s.time.lastSof with
  | none => .next s
  | some (f, _, t) =>
    if !s.timeValid || f % 16 ≠ 0 then .next s
    else
      .next (allStk.foldl (fun s p =>
        let x := s.stk p
        let r := s.time.rtt[p.val]
        if x.state = .up && x.role = .downstream && !r.isEmpty then
          stkSend p (stkLocal 0x20 (beBytes 4 f ++ time12 t ++ beBytes 4 (rttMean r)) s) s
        else s) s)

/-- TIME_SYNC_RECEIVE (R477, Table 19.6): the offset of the own SOF of frame F from T + (R + r) / 2. -/
def execTimeSyncReceive (frame t r : Nat) (s : State) : Host.Outcome State Fault Refusal :=
  match s.time.lastSof with
  | none => .next s
  | some (f, res, own) =>
    if f ≠ frame || !s.time.run || s.time.src ≠ 4 || !s.upstreamUp then .next s
    else .next (timeSample true ((t : Int) + ((r + res) / 2 : Nat) - timeTo16 own) s)

/-- Latch the further words of a wide register for an initiator (R38, R525). -/
def setLatch (who : Initiator) (addr upper : Nat) (s : State) : State :=
  { s with reg := { s.reg with
      latches := { who := who, addr := addr, upper := upper }
        :: s.reg.latches.filter fun l => !(decide (l.who = who) && l.addr == addr) } }

/-- The value latched at an address for an initiator. -/
def getLatch (who : Initiator) (addr : Nat) (s : State) : Nat :=
  match s.reg.latches.find? fun l => decide (l.who = who) && l.addr == addr with
  | some l => l.upper
  | none => 0

/-- The word TS_ENTRY0 of a popped entry (Table 19.9). -/
def TsEntry.word0 (e : TsEntry) : Word :=
  flg true 31 ||| flg e.rx 30 ||| fld e.epoch 28 2 ||| flg e.retry 27 ||| fld (e.time / 2 ^ 24) 0 16

/-- A read of TS_ENTRY0 (R470, R481): an entry is popped, its other words stay for TS_ENTRY1 to TS_ENTRY4. -/
def readTsEntry (p : PortId) (s : State) : State :=
  match (s.port p).time.fifo with
  | [] => readValue 0 (s.modPort p fun q => { q with time := { q.time with popped := none } })
  | e :: l => readValue e.word0 (s.modPort p fun q => { q with time := { q.time with fifo := l, popped := some e } })

/-- TS_ENTRY_READ (R481). -/
def execTsEntryRead (who : Initiator) (p : PortId) (s : State) : Host.Outcome State Fault Refusal :=
  .next (regRead who (portBase p + 0xE10) s (readTsEntry p))

/-- A read of TIME_NOW_FRAC (R465): the words above are latched together. -/
def readTimeNow (who : Initiator) (s : State) : State :=
  let t := s.time.ctr
  let ns := t / 2 ^ 40 % 1000000000
  readValue (fld (t / 2 ^ 24) 0 16) (setLatch who 0x20010 (ns + t / secUnits * 2 ^ 32) s)

/-- TIME_NOW_READ (R465). -/
def execTimeNowRead (who : Initiator) (s : State) : Host.Outcome State Fault Refusal :=
  .next (regRead who 0x20010 s (readTimeNow who))

/-- A read of TIME_PPSIN_NS (R471): NEW is cleared. -/
def readPpsin (s : State) : State :=
  readValue (fld (s.time.ppsIn / 2 ^ 40 % 1000000000) 0 32) (s.modTime fun t => { t with ppsNew := false })

/-- PPSIN_READ (R471). -/
def execPpsinRead (who : Initiator) (s : State) : Host.Outcome State Fault Refusal :=
  .next (regRead who 0x20024 s readPpsin)

/-- Bound a log of alignment folios. -/
def alLog (e : Nat × Nat) (l : List (Nat × Nat)) : List (Nat × Nat) := (e :: l).take 16

/-- A timestamp enters a port's FIFO, or is dropped (R470). -/
def tsPush (p : PortId) (e : TsEntry) (s : State) : State :=
  if 64 ≤ (s.port p).time.fifo.length then
    s.modPort p fun q => { q with time := { q.time with drop := satAdd 16 q.time.drop 1 } }
  else
    let s := s.modPort p fun q => { q with time := { q.time with fifo := q.time.fifo ++ [e] } }
    if e.retry then s else s.modTime fun t => { t with stamps := timeTo16 e.time :: t.stamps }

end Sys2Proof.Machine
end

