-- ==== Sys2Proof/Machine/Memory.lean ====
section
/-!
DEFINITION. The memory banks (R395), their boot pass (R396), soft repair (R401), the OTP repair map (R402) and the effect
of an unrepairable bank (Table 16.2).
-/
namespace Sys2Proof.Machine

/-- The banks of a group, absent ones included (Table 16.1). -/
def MemGroup.allBanks (g : MemGroup) : List MemBank :=
  if g.inPod then
    (List.range 8).flatMap fun k => (List.range g.banks).map fun i => { group := g, pod := k, bank := i }
  else (List.range g.banks).map fun i => { group := g, pod := 0, bank := i }

/-- The part has a bank (R395, R400). -/
def MemBank.present (p : Part) (b : MemBank) : Bool :=
  if b.group.inPod then decide (b.pod < p.pods) else b.group ≠ .hubIndex || p.hasStore

/-- The ports a bank serves (Table 16.1). -/
def MemBank.ports (b : MemBank) : List PortId :=
  allPorts.filter fun p => decide ((podOf p).val = b.pod) &&
    match b.group with
    | .podReplay | .podLane => decide (idxOf p = b.bank)
    | .podElastic => decide (idxOf p / 2 = b.bank)
    | _ => false

/-- The check code of a map entry (R402). -/
def mapCheck (w : Word) : Nat := (crc8 (msbBits 26 (w.toNat / 64))).toNat % 64

/-- A map entry that is in force: valid, not all zeros, with its check code. -/
def mapValid (w : Word) : Bool := bitOf w 31 && decide (bits w 5 0 = mapCheck w)

/-- The bank and row a map entry names (R402). -/
def mapNames (b : MemBank) (w : Word) : Bool :=
  decide (bits w 30 28 = b.group.code) && decide (bits w 23 20 = b.bank)
    && decide (bits w 27 24 = if b.group.inPod then b.pod else 0xF)

/-- The map entry that repairs a row of a bank (R402). -/
def mapEntry (b : MemBank) (row : Nat) : Word :=
  let w := fld 1 31 1 ||| fld b.group.code 28 3 ||| fld (if b.group.inPod then b.pod else 0xF) 24 4 ||| fld b.bank 20 4
    ||| fld row 10 10
  w ||| fld (mapCheck w) 0 6

/-- The rows of a bank that the map repairs, each once. -/
def mapRows (s : State) (b : MemBank) : List Nat :=
  ((s.test.map.filter fun w => mapValid w && mapNames b w).map fun w => bits w 19 10).dedup

/-- The spare rows of a bank in use: by the map, then by soft repairs. -/
def sparesUsed (s : State) (b : MemBank) : List Nat :=
  let bad := (s.test.badSpares.filter fun x => x.1 = b).map Prod.snd
  let free := (List.range b.group.spares).filter fun i => !bad.contains i
  free.take (mapRows s b).length ++ ((s.test.soft.filter fun x => x.bank = b).map SoftRepair.spare)

/-- A spare row for each failing row, lowest first (R396 steps 2 and 3): the repairs, and whether the spares sufficed. -/
def giveSpares (b : MemBank) : List Nat → List Nat → List SoftRepair × Bool
  | [], _ => ([], true)
  | _ :: _, [] => ([], false)
  | r :: rs, f :: fs =>
    let x := giveSpares b rs fs
    ({ bank := b, row := r, spare := f } :: x.1, x.2)

/-- Repair failing rows of a bank; spare rows found bad are retired. -/
def repairRows (b : MemBank) (rows bad : List Nat) (s : State) : State × Bool :=
  let s := { s with test := { s.test with
    badSpares := s.test.badSpares ++ ((bad.filter fun i => !(s.test.badSpares.contains (b, i))).map fun i => (b, i)) } }
  let used := sparesUsed s b
  let free := (List.range b.group.spares).filter fun i =>
    !used.contains i && !(s.test.badSpares.contains (b, i))
  let need := rows.dedup.filter fun r => !(mapRows s b).contains r
    && !((s.test.soft.any fun x => decide (x.bank = b) && x.row == r))
  let g := giveSpares b need free
  ({ s with test := { s.test with soft := s.test.soft ++ g.1 } }, g.2)

/-- A bank becomes unrepairable (Table 16.2). -/
def unrepairable (b : MemBank) (s : State) : State :=
  let s := { s with test := { s.test with unrep := if s.test.unrep.contains b then s.test.unrep else s.test.unrep ++ [b] } }
  if h : b.group.inPod ∧ b.pod < 8 then raise .memRepairPod (.pod ⟨b.pod, h.2⟩) 0 s
  else if b.group = .hubIndex then raiseAs .memRepairHub .dev 0 .u s
  else raiseWith .memRepairHub .dev 0 .f { React.none with devSafe := true } s

/-- The boot pass of one bank (R396, R400). -/
def bootPassBank (b : MemBank) (found : List BankPass) (s : State) : State :=
  if !b.present s.part then s
  else
    let f := (found.find? fun x => x.bank = b).getD { bank := b, rows := [], badSpares := [], again := true }
    let s := { s with test := { s.test with soft := s.test.soft.filter fun x => x.bank ≠ b,
                                            badSpares := s.test.badSpares.filter fun x => x.1 ≠ b } }
    let r := repairRows b f.rows f.badSpares s
    if r.2 && f.again then setBankResult b 1 2 [] 0 r.1
    else unrepairable b (setBankResult b 2 2 [] 0 r.1)

/-- The boot pass of groups (Table 16.1). -/
def bootPass (gs : List MemGroup) (found : List BankPass) (s : State) : State :=
  (gs.flatMap MemGroup.allBanks).foldl (fun s b => bootPassBank b found s) s

/-- A bank of the part has been tested since the full reset. -/
def State.tested (s : State) (b : MemBank) : Bool := s.test.results.any fun r => decide (r.bank = b) && r.code != 0

/-- The groups whose pass falls due when CLK_DSP first starts (R395). -/
def dspPass (found : List BankPass) (s : State) : State :=
  if s.tested { group := .podReplay, pod := 0, bank := 0 } then s
  else bootPass [.podReplay, .podElastic, .podLane] found s

/-- The Clerk's memory, when CLK_CORE first starts (R395). -/
def corePass (found : List BankPass) (s : State) : State :=
  if s.tested { group := .hubClerk, pod := 0, bank := 0 } then s else bootPass [.hubClerk] found s

/-- A port is served by an unrepairable bank (Table 16.2). -/
def State.portUnrep (s : State) (p : PortId) : Bool := s.test.unrep.any fun b => b.ports.contains p

/-- A bank of a hub group is unrepairable. -/
def State.groupUnrep (s : State) (g : MemGroup) : Bool := s.test.unrep.any fun b => decide (b.group = g)

end Sys2Proof.Machine
end

