-- ==== Sys2Proof/Machine/Clocks.lean ====
section
/-!
DEFINITION. The clock commands: judging and trimming the sources, the RPLL, domain switching, clock failures and gating
(R324 to R349).
-/
namespace Sys2Proof.Machine

/-- The frequency of a plan: AUTO starts at 59.2 GHz (R20, Table 1.5). -/
def planFreq : Nat → PllFreq
  | 2 => .f518
  | 3 => .f444
  | 4 => .f53125
  | _ => .f592

/-- Every port of the part is in DOWN with its link disabled (R349). -/
def State.allPortsDisabled (s : State) : Bool := allPorts.all fun p => !s.part.hasPort p || (s.port p).idleDown

/-- A CXL link is up. -/
def State.anyCxlUp (s : State) : Bool := s.store.mx.toList.any fun l => decide (l.state = 2)

/-- Ten times the expected FRO count of a monitor window (R340). -/
def nominalCount10 : RefSel → Nat
  | .refclk => 27676
  | .xa => 110703

/-- The other reference. -/
def RefSel.other : RefSel → RefSel
  | .refclk => .xa
  | .xa => .refclk

/-- The judgement of a reference. -/
def ClkSt.judge (c : ClkSt) : RefSel → RefJudge
  | .refclk => c.ref
  | .xa => c.xa

/-- Set whether a reference is judged good. -/
def ClkSt.setGood (c : ClkSt) (r : RefSel) (g : Bool) : ClkSt :=
  match r with
  | .refclk => { c with ref := { c.ref with good := g, windows := 0 } }
  | .xa => { c with xa := { c.xa with good := g, windows := 0 } }

/-- The first source available to the FRO trim (R327): 1 REFCLK, 2 XA, 3 stack marks, 0 none. -/
def trimSource (c : ClkSt) (upstream : Bool) : Nat :=
  if c.ref.good then 1 else if c.xa.good then 2 else if upstream then 3 else 0

/-- Choose the trim source anew; without one TRIMMED clears (R327). -/
def retrim (s : State) : State :=
  let t := trimSource s.clk s.upstreamUp
  { s with clk := { s.clk with trimSrc := t, trimmed := s.clk.trimmed && decide (t ≠ 0) } }

/-- The reference the RPLL may start on now (R330). -/
def rpllChoice (c : ClkSt) : Option RefSel :=
  match bits c.cfg 1 0 with
  | 0 => if c.ref.good then some .refclk else none
  | 1 => if c.xa.good then some .xa else none
  | _ =>
    if c.ref.good then some .refclk
    else if c.xaFirst && c.xa.good then some .xa else none

/-- Start the RPLL if it is enabled, off, not waiting for a recovery and a reference may be used (R330, R343, R349). -/
def rpllTryStart (s : State) : State :=
  if s.clk.rpllEn && s.clk.rpllSrc.isNone && !s.clk.altWait && s.clk.froOk && !s.pwr.trip then
    { s with clk := { s.clk with rpllSrc := rpllChoice s.clk } }
  else s

/-- Whether 16 window counts judge a reference good (R326). -/
def countsGood (r : RefSel) (counts : List Nat) : Bool :=
  let nom := nominalCount10 r
  let first := counts.headD 0
  decide (16 ≤ counts.length) && (counts.take 16).all fun n =>
    decide (absDiff (10 * n) nom * 100 ≤ 4 * nom) && decide (absDiff n first * 1000 ≤ first)

/-- Begin to move every running hub domain to a source; one already moving goes back from where it is (R336, R345). -/
def moveDomains (toFro : Bool) (c : ClkSt) : ClkSt :=
  { c with dom := mapIdx c.dom fun _ d =>
      if !d.running then d
      else if d.fro == toFro then
        if d.ramp = 0 then d
        else if 8 ≤ d.ramp then { d with toFro := toFro, ramp := 15 - d.ramp } else { d with toFro := toFro }
      else if d.ramp = 0 then { d with toFro := toFro, ramp := 15 }
      else if d.ramp < 8 then { d with toFro := toFro, ramp := 15 - d.ramp } else { d with toFro := toFro } }

/-- Every hub domain that runs is on the FRO and none ramps (R343). -/
def ClkSt.allFro (c : ClkSt) : Bool := c.dom.toList.all fun d => !d.running || (d.fro && d.ramp == 0)

/-- Some hub domain is on the FRO or ramping to it (R417). -/
def ClkSt.anyFro (c : ClkSt) : Bool :=
  c.dom.toList.any fun d => d.running && (d.fro || (decide (d.ramp ≠ 0) && d.toFro))

/-- Every PLL of the pods waits to relock at its frequency, with no loss of lock to report. -/
def podsRelock (s : State) : State :=
  s.mapPods fun _ q =>
    { q with groups := mapIdx q.groups fun _ g =>
               { g with lock := false, freq := .none, target := some (if g.freq = .none then g.target.getD (planFreq g.planInForce) else g.freq) },
             hpll := Vector.replicate 2 false }

/-- A clock for the stack PLL arrives from upstream (R333): on the upstream port, or on any port while no port is upstream, since a
device that has no reference must carry its links before a run can name the port. -/
def State.upstreamClock (s : State) : Bool :=
  match s.stack.upstream with
  | some p => (s.stk p).rclk
  | none => allStk.any fun p => (s.stk p).rclk

/-- The stack PLL's reference under STK_REF (R333): 0 none, 1 root, 2 upstream. -/
def stackPllSource (c : ClkSt) (upstream : Bool) : Nat :=
  match bits c.cfg 7 6 with
  | 0 => if c.rpllLock then 1 else 0
  | 1 => if upstream then 2 else 0
  | _ => if c.rpllLock then 1 else if upstream then 2 else 0

/-- The stack PLL takes the reference STK_REF names now; a change makes it relock (R333). -/
def stackPllSettle (s : State) : State :=
  let src := stackPllSource s.clk s.upstreamClock
  if src = s.clk.stkSrc then s else { s with clk := { s.clk with stkSrc := src, stkLock := false } }

/-- The effects of losing the root that are not a fault reaction (R342 steps 3 and 4): CXL links drop, the time unit
enters holdover, the domains move to the FRO, CLK_DSP and every loop that runs from the root stop. -/
def rootLost (s : State) : State :=
  let s := dropAllCxl s
  let s := timeToHoldover s
  let c := moveDomains true s.clk
  podsRelock (stackPllSettle { s with clk := { c with rpllLock := false, dspRun := false, cxlLock := false } })

/-- The reference a recovery under R343 restarts on. -/
def altReference (c : ClkSt) : Option RefSel :=
  match c.rpllSrc with
  | some r => if (c.judge r).good then some r else some r.other
  | none => none

/-- A reference has failed (R340, R342, R344, Table 13.6). -/
def refFailed (r : RefSel) (s : State) : State :=
  let other := s.clk.judge r.other
  let used := decide (s.clk.rpllSrc = some r)
  let abandon := s.clk.altWait && decide (altReference s.clk = some r)
  let c := s.clk.setGood r false
  let c := match r with
    | .refclk => { c with cntRef := satAdd 8 c.cntRef 1 }
    | .xa => { c with cntXa := satAdd 8 c.cntXa 1 }
  let s := retrim { s with clk := c }
  if abandon then
    raiseWith .refFail .dev 0 .f { React.none with devSafe := true }
      { s with clk := { s.clk with altWait := false, rpllSrc := none, rpllLock := false } }
  else if used && !s.clk.altWait then
    let alt := bitOf s.clk.cfg 5 && other.good
    let s := rootLost { s with clk := { s.clk with holdover := s.clk.holdover || s.clk.rpllLock } }
    let s := { s with clk := { s.clk with altWait := alt, rpllSrc := if alt then s.clk.rpllSrc else none } }
    raiseWith .refFail .dev 0 (if alt then .u else .f) { React.none with devSafe := true } s
  else raiseAs .refFail .dev 0 .c s

/-- A flash access that waits for TRIMMED ends in TIMEOUT (R328): nothing of it is programmed. -/
def flashTimeout (s : State) : State :=
  match s.boot.job with
  | none => s
  | some j =>
    let s := { s with boot := { s.boot with
      job := none, writes := if j.op = FlashOp.imgWrite then s.boot.writes.dropLast else s.boot.writes } }
    let s := { s with cal := { s.cal with writing := if j.op = FlashOp.calStore || j.op = FlashOp.calImport then none else s.cal.writing } }
    reply j.origin j.opcode 0x06 [] s

/-- XA_DELAY_EXPIRE (R325): XA may be counted, judged and used. -/
def execXaDelayExpire (s : State) : Host.Outcome State Fault Refusal :=
  .next { s with clk := { s.clk with xaDelay := true } }

/-- REF_JUDGED_GOOD (R326): the counts are checked; a good reference may start the RPLL and trims the FRO. -/
def execRefJudgedGood (r : RefSel) (counts : List Nat) (s : State) : Host.Outcome State Fault Refusal :=
  if countsGood r counts && (decide (r = .refclk) || s.clk.xaDelay) then
    .next (rpllTryStart (retrim { s with clk := s.clk.setGood r true }))
  else .next s

/-- The SRO's trim against XB, or against the FRO while TRIMMED (R329). SRO_CODE reflects it: no rule gives the trim's steps, so the code
is a free value. -/
def sroTrim (s : State) : State :=
  if s.clk.xb || s.clk.trimmed then
    let g := s.freeNat
    { g.2 with clk := { g.2.clk with sroCode := g.1 % 1024 } }
  else s

/-- Ten times the FRO cycles at 400 MHz of an update's 16 windows of the source, or of its 64 marks of 1 µs (R327). -/
def trimNominal (src : Nat) : Nat :=
  match src with
  | 1 => 16 * nominalCount10 .refclk
  | 2 => 16 * nominalCount10 .xa
  | _ => 64 * 4000

/-- FRO_TRIM_UPDATE (R327): the FRO cycles counted over the update's windows or marks; one step of the code against the error, and TRIMMED
within ±0.05 %. A higher code is a faster FRO (DESIGN CHOICE: log entry 73). -/
def execFroTrimUpdate (count : Nat) (s : State) : Host.Outcome State Fault Refusal :=
  if s.clk.trimSrc = 0 then .next s
  else
    let nom := trimNominal s.clk.trimSrc
    let code := if nom < 10 * count then s.clk.froCode - 1
      else if 10 * count < nom then Nat.min 0x3FF (s.clk.froCode + 1) else s.clk.froCode
    .next (sroTrim { s with clk := { s.clk with froCode := code, trimmed := decide (absDiff (10 * count) nom * 2000 ≤ nom) } })

/-- FLASH_ACCESS_TIMEOUT (R328): a flash access that has waited for TRIMMED ends in TIMEOUT. -/
def execFlashAccessTimeout (s : State) : Host.Outcome State Fault Refusal :=
  if s.clk.trimmed && s.clk.froOk then .next s else .next (flashTimeout s)

/-- XB_DETECT (R329): XB is present, trims the SRO, and CLK_SLOW moves to it unless SLOW_REF names the SRO. -/
def execXbDetect (s : State) : Host.Outcome State Fault Refusal :=
  .next (sroTrim { s with clk := { s.clk with xb := true, slowXb := decide (bits s.clk.cfg 3 2 = 0) } })

/-- XB_LOSS (R329): CLK_SLOW moves to the SRO, which the FRO trims while TRIMMED. -/
def execXbLoss (s : State) : Host.Outcome State Fault Refusal :=
  .next (sroTrim { s with clk := { s.clk with xb := false, slowXb := false } })

/-- RPLL_LOCK (R330, R335, R343): the root runs, CLK_DSP starts, with the memory passes that its first start brings (R395),
running domains move to the root, and a failed loop or reference in use is mended. -/
def execRpllLock (pass : List BankPass) (s : State) : Host.Outcome State Fault Refusal :=
  match s.clk.rpllSrc with
  | none => .next s
  | some r =>
    if s.clk.rpllLock || s.pwr.trip || !(s.clk.judge r).good then .next s
    else
      let c := moveDomains false { s.clk with rpllLock := true, holdover := false, refMove := false, altWait := false,
                                              dspRun := true }
      let s := stackPllSettle { s with clk := c, boot := { s.boot with noRoot := false } }
      .next (dspPass pass (endCond .rpllUnlock .dev s))

/-- The RPLL restarts on a newly written reference once every hub domain is on the FRO (R349). -/
def refMoveStep (s : State) : State :=
  if s.clk.refMove && s.clk.allFro && s.clk.rpllLock then
    let s := podsRelock { s with clk := { s.clk with rpllLock := false, dspRun := false, rpllSrc := none } }
    rpllTryStart s
  else s

/-- DOMAIN_RAMP_STEP (R336): seven divider steps up, the switch, seven steps down. -/
def execDomainRampStep (d : Fin 4) (s : State) : Host.Outcome State Fault Refusal :=
  let x := s.clk.dom[d.val]
  if x.ramp = 0 then .next s
  else
    let y := { x with ramp := x.ramp - 1, fro := if x.ramp = 8 then x.toFro else x.fro }
    .next (refMoveStep { s with clk := { s.clk with dom := updAt s.clk.dom d fun _ => y } })

/-- The bank under test when a forced switch falls in its domain (Table 16.9): HUB_INDEX, the one group in CLK_FAB that
R395 tests on demand. -/
def truncateOn (d : Fin 4) (s : State) : State :=
  match s.test.bist with
  | none => s
  | some r =>
    match r.left with
    | b :: rest =>
      if d.val = 1 && b.group = .hubIndex then
        let s := setBankResult b 3 (b2n r.diag) [] 0 s
        let s := { s with test := { s.test with lastTrunc := satAdd 8 s.test.lastTrunc 1 } }
        if rest.isEmpty then reply r.origin 0x0A01 0x08 [] { s with test := { s.test with bist := none } }
        else { s with test := { s.test with bist := some { r with left := rest, partialF := true } } }
      else s
    | [] => s

/-- FORCED_SWITCH (R337): before the switch of step 2 the multiplexer moves at once and the ramp down follows. -/
def execForcedSwitch (d : Fin 4) (s : State) : Host.Outcome State Fault Refusal :=
  let x := s.clk.dom[d.val]
  if x.ramp < 8 then .next s
  else
    .next (refMoveStep (truncateOn d { s with clk := { s.clk with
      dom := updAt s.clk.dom d fun x => { x with fro := x.toFro, ramp := 7 },
      cntForced := satAdd 8 s.clk.cntForced 1 } }))

/-- A deviation in units of 0.001 % of the expected count (R340). -/
def clockDev (r : RefSel) (count : Nat) : Int :=
  ((10 * count : Int) - nominalCount10 r) * 100000 / nominalCount10 r

/-- CLOCK_MONITOR_WINDOW (R340, R342, R344). -/
def execClockMonitorWindow (r : RefSel) (count : Nat) (early : Bool) (s : State) :
    Host.Outcome State Fault Refusal :=
  if !(s.clk.judge r).good || !s.clk.froOk then .next s
  else
    let nom := nominalCount10 r
    let lim := if s.clk.trimmed then 1 else 4
    let c := if early then s.clk else match r with
      | .refclk => { s.clk with refDev := clockDev r count }
      | .xa => { s.clk with xaDev := clockDev r count }
    let s := { s with clk := c }
    let bad := if early then decide (nom * (100 + lim) ≤ 10 * count * 100)
      else decide (nom * lim < absDiff (10 * count) nom * 100)
    .next (if bad then refFailed r s else s)

/-- RPLL_HOLDOVER (R342 step 1, R469): the loop control is frozen and the time unit enters holdover. -/
def execRpllHoldover (s : State) : Host.Outcome State Fault Refusal :=
  if s.clk.rpllLock then .next (timeToHoldover { s with clk := { s.clk with holdover := true } }) else .next s

/-- RPLL_UNLOCK (R342): class F, with the effects of a reference failure. -/
def execRpllUnlock (s : State) : Host.Outcome State Fault Refusal :=
  if !s.clk.rpllLock then .next s
  else
    let s := rootLost { s with clk := { s.clk with cntUnlock := satAdd 8 s.clk.cntUnlock 1 } }
    .next (raiseWith .rpllUnlock .dev 0 .f { React.none with devSafe := true } s)

/-- RPLL_ALT_RESTART (R343): once every hub domain is on the FRO the RPLL restarts on the other reference. -/
def execRpllAltRestart (s : State) : Host.Outcome State Fault Refusal :=
  match s.clk.rpllSrc with
  | none => .next s
  | some r =>
    if s.clk.altWait && s.clk.allFro && !(s.clk.judge r).good && (s.clk.judge r.other).good then
      .next { s with clk := { s.clk with rpllSrc := some r.other, holdover := false } }
    else .next s

/-- FRO_CHECK (R341): a count outside 10,000 to 15,000, or no edge, is an FRO failure. -/
def execFroCheck (count : Option Nat) (s : State) : Host.Outcome State Fault Refusal :=
  let good := match count with
    | none => false
    | some n => decide (10000 ≤ n) && decide (n ≤ 15000)
  if good then .next (endCond .froFail .dev { s with clk := { s.clk with froOk := true } })
  else
    let s := { s with clk := { s.clk with froOk := false } }
    .next (raiseAs .froFail .dev 0 (if s.clk.anyFro then .f else .u) s)

/-- PLL_UNLOCK (R332): each PLL's loss of lock is an occurrence for the ports or links it serves. -/
def execPllUnlock (pll : PllSel) (s : State) : Host.Outcome State Fault Refusal :=
  match pll with
  | .lane k g =>
    if !(s.pod k).groups[g.val].lock then .next s
    else
      let s := s.modPod k fun q => { q with
        pllLost := q.pllLost ||| 1 <<< g.val,
        groups := updAt q.groups g fun x => { x with lock := false, target := some x.freq, freq := .none } }
      .next (raiseAgain .pllUnlock (.pod k) g.val s)
  | .host k h =>
    if !(s.pod k).hpll[h.val] then .next s
    else
      let s := s.modPod k fun q => { q with pllLost := q.pllLost ||| 1 <<< (4 + h.val),
                                            hpll := updAt q.hpll h fun _ => false }
      .next (raiseAgain .pllUnlock (.pod k) (4 + h.val) s)
  | .stack =>
    if !s.clk.stkLock then .next s
    else
      .next (raiseAgain .hubPllUnlock .dev 0
        { s with clk := { s.clk with stkLock := false, pllLost := s.clk.pllLost ||| 1 } })
  | .cxl =>
    if !s.clk.cxlLock then .next s
    else
      .next (raiseAgain .hubPllUnlock .dev 1
        { s with clk := { s.clk with cxlLock := false, pllLost := s.clk.pllLost ||| 2 } })

/-- A PLL of a pod has regained lock: the cause ends with the last one (R332). -/
def podPllBack (k : PodId) (bit : Nat) (s : State) : State :=
  let s := s.modPod k fun q => { q with pllLost := q.pllLost &&& (0x3F ^^^ 1 <<< bit) }
  if (s.pod k).pllLost = 0 then endCond .pllUnlock (.pod k) s else s

/-- A hub PLL has regained lock. -/
def hubPllBack (bit : Nat) (s : State) : State :=
  let s := { s with clk := { s.clk with pllLost := s.clk.pllLost &&& (3 ^^^ 1 <<< bit) } }
  if s.clk.pllLost = 0 then endCond .hubPllUnlock .dev s else s

/-- The conditions under which a reference selection may change (R349, R345). -/
def clkCfgOpen (s : State) : Bool :=
  s.allPortsDisabled && !s.anyStackUp && !s.anyCxlUp

/-- A domain ramps, or the RPLL is in holdover or relocking (Table 13.6). -/
def clkBusy (c : ClkSt) : Bool :=
  c.dom.toList.any (fun d => decide (d.ramp ≠ 0)) || c.holdover || (c.rpllSrc.isSome && !c.rpllLock)

/-- CLK_CFG_WRITE (R349, Table 13.8): reserved values leave their field; a change of RPLL_REF moves the domains to the FRO
and restarts the RPLL on the new reference. -/
def writeClkCfg (who : Initiator) (v : Word) (s : State) : State :=
  let old := s.clk.cfg
  let ref := if bits v 1 0 = 3 then bits old 1 0 else bits v 1 0
  let slow := if bits v 3 2 < 2 then bits v 3 2 else bits old 3 2
  let stk := if bits v 7 6 = 3 then bits old 7 6 else bits v 7 6
  let new := fld ref 0 2 ||| fld slow 2 2 ||| flg (bitOf v 5) 5 ||| fld stk 6 2
  let refChange := decide (ref ≠ bits old 1 0)
  let stkChange := decide (stk ≠ bits old 7 6) &&
    decide (stackPllSource { s.clk with cfg := new } s.upstreamClock ≠ s.clk.stkSrc)
  if clkBusy s.clk || ((refChange || stkChange) && !clkCfgOpen s) then ignored who 0x300 s
  else
    let c := { s.clk with cfg := new, slowXb := s.clk.xb && decide (slow = 0) }
    let s := written (stackPllSettle { s with clk := c })
    let c := s.clk
    if refChange && c.rpllLock then
      refMoveStep (timeToHoldover { s with clk := { moveDomains true c with refMove := true } })
    else if refChange then rpllTryStart { s with clk := { c with rpllSrc := none, altWait := false } }
    else s

/-- CLK_CFG_WRITE (R349). -/
def execClkCfgWrite (who : Initiator) (v : Word) (s : State) : Host.Outcome State Fault Refusal :=
  .next (regWrite who 0x300 s (writeClkCfg who v))

/-- Whether a gate bit names a block in use (R348). -/
def gateInUse (who : Initiator) (s : State) (i : Nat) : Bool :=
  match i with
  | 11 => decide (s.store.state ≠ 0)
  | 12 => s.stackUp 0
  | 13 => s.stackUp 1
  | 14 => s.stackUp 2
  | 15 => s.stackUp 3
  | 10 => s.time.run
  | 6 => decide (who = .pcie) || (bitOf s.boot.straps 3 && decide (s.boot.step < 10))
  | 7 => decide (who = .spi)
  | _ => false

/-- The writable bits of CLK_GATE on a part (Table 13.10). -/
def gateMask (p : Part) : List Nat :=
  [6, 7, 8, 10] ++ (if p.hasStore then [11] else []) ++ [12, 13, 14, 15]

/-- A write of CLK_GATE (R346, R348, R440): a 0 for a block in use is ignored, every other bit takes effect; a stack port
whose gate is set goes to CLOCK, and one whose gate is cleared to OFF. -/
def writeClkGate (who : Initiator) (v : Word) (s : State) : State :=
  let keep := (gateMask s.part).filter fun i => bitOf s.clk.gate i && !bitOf v i && gateInUse who s i
  let new := (gateMask s.part).foldl (fun w i => setBits w i i (b2n (bitOf v i || keep.contains i))) s.clk.gate
  let s := { s with clk := { s.clk with gate := new } }
  let s := allStk.foldl (fun s p =>
    let on := bitOf new (12 + p.val)
    let x := s.stk p
    if on && x.state = .off then s.modStk p fun x => { x with state := .clock }
    else if !on && x.state ≠ .off then s.modStk p fun _ => { StkPort.reset with
      deskew := x.deskew, deskewTo := x.deskewTo, deskewMeas := x.deskewMeas, fails := x.fails, resends := x.resends,
      msgErr := x.msgErr, symErr := x.symErr }
    else s) s
  if keep.isEmpty then written s else ignored who 0x308 s

/-- CLK_GATE_WRITE (R348). -/
def execClkGateWrite (who : Initiator) (v : Word) (s : State) : Host.Outcome State Fault Refusal :=
  .next (regWrite who 0x308 s (writeClkGate who v))

/-- XA_FIRST_JUDGEMENT_END (R376, R330): an AUTO RPLL chooses its reference. -/
def execXaFirstJudgementEnd (s : State) : Host.Outcome State Fault Refusal :=
  .next (rpllTryStart { s with clk := { s.clk with xaFirst := true } })

end Sys2Proof.Machine
end

