-- ==== Sys2Proof/Machine/Device.lean ====
section
/-!
DEFINITION. Lane PLL groups (R18 to R23) and die-to-die bridges (R25 to R30).
-/
namespace Sys2Proof.Machine

/-! ### Lane PLL groups -/

/-- A port is in TRAIN, ALIGN, UP, DEGRADED, QUIET or WAKE, natively or by a sub-port (R19). -/
def Port.usesPll (q : Port) : Bool :=
  decide (q.link.state = .train) || q.link.state.fromAlign
    || q.ieee.toList.any fun b => decide (b.state = .train) || decide (b.state = .up)

/-- A group is retunable (R19). -/
def retunable (s : State) (k : PodId) (g : GroupId) : Bool := (portsOfGroup k g.val).all fun p => !(s.port p).usesPll

/-- A sounding frame, or the probe train that follows one (R160), is being sent or received on a port (R19). -/
def Port.sounding (q : Port) : Bool :=
  q.snd.cur.isSome || q.snd.diffCur.isSome || q.snd.train.isSome || decide (q.snd.diff.rx ≠ .none) || decide (q.snd.cm.rx ≠ .none)

/-- A sounding frame in progress in a group delays its retune (R19). -/
def groupSounding (s : State) (k : PodId) (g : GroupId) : Bool := (portsOfGroup k g.val).any fun p => (s.port p).sounding

/-- A retune of a group starts (R19). -/
def LpllGroup.retune (g : LpllGroup) (f : PllFreq) : LpllGroup :=
  { g with freq := .none, lock := false, target := some f, need := none }

/-- A diagnostic or a capture of a port is stopped (R310, R320). -/
def diagAbort (p : PortId) (s : State) : State :=
  if s.cap.outcome = .running && s.cap.port = some p then captureEnd .aborted s else diagEnd p 0x09 s

/-- A retune of a group starts; the diagnostics and captures of its ports stop (R19, R310). -/
def startRetune (k : PodId) (g : GroupId) (f : PllFreq) (s : State) : State :=
  (portsOfGroup k g.val).foldl (fun s p => diagAbort p s) (s.modGroup k g fun x => x.retune f)

/-- A port waits for a frequency its group cannot provide, or waits no more (R20, R21). -/
def setWaiting (p : PortId) (b : Bool) (s : State) : State :=
  let s := s.modGroup (podOf p) (groupOf p) fun g =>
    if b then { g with waiting := if g.waiting.contains p then g.waiting else g.waiting ++ [p] } else g.leave p
  setCond .lpllConflict (.port p) 0 b s

/-- A port needs a frequency (R18, R20, R21): whether the group provides it now; otherwise a retune starts if the plan is AUTO
and the group is retunable, or the port waits. A need that arises while the group relocks for another port, and is still
retunable, restarts the retune at the later port's frequency (DESIGN CHOICE: R20 names the first port of the group, and does
not say who wins during the relock; log entry 102). -/
def needFreq (p : PortId) (f : PllFreq) (s : State) : State :=
  let k := podOf p
  let g := groupOf p
  let x := s.group p
  if x.lock && decide (x.freq = f) then setWaiting p false s
  else if x.target = some f then setWaiting p false s
  else if x.planInForce ≠ 0 || !retunable s k g then setWaiting p true s
  else if groupSounding s k g then s.modGroup k g fun x => { x with need := some (p, f) }
  else setWaiting p false (startRetune k g f s)

/-- LPLL_RETUNE (R20). -/
def execLpllRetune (p : PortId) (f : PllFreq) (s : State) : Host.Outcome State Fault Refusal :=
  .next (if s.part.hasPort p && decide (f ≠ .none) then needFreq p f s else s)

/-- A plan has taken effect: a port that stayed down under the plan before (R21) waits no more. -/
def planWaitEnd (k : PodId) (g : GroupId) (s : State) : State :=
  (portsOfGroup k g.val).foldl (fun s p =>
    if (s.port p).link.state = .down && (s.group p).waiting.contains p then setWaiting p false s else s) s

/-- LPLL_PLAN_APPLY (R21): a written plan takes effect at a point where the group is retunable. -/
def execLpllPlanApply (k : PodId) (g : GroupId) (s : State) : Host.Outcome State Fault Refusal :=
  .next (
    let x := (s.pod k).groups[g.val]
    if x.plan = x.planInForce || !retunable s k g || groupSounding s k g then s
    else
      let s := planWaitEnd k g (s.modGroup k g fun x => { x with planInForce := x.plan })
      if x.plan = 0 || x.freq = planFreq x.plan then s else startRetune k g (planFreq x.plan) s)

/-- A write of POD_LPLL_CTRLg (R22): a reserved plan leaves the field unchanged. -/
def writeLpllCtrl (k : PodId) (g : GroupId) (v : Word) (s : State) : State :=
  let n := bits v 3 0
  if 4 < n then written s else written (s.modGroup k g fun x => { x with plan := n })

/-- POD_LPLL_CTRL_WRITE (R22). -/
def execPodLpllCtrlWrite (who : Initiator) (k : PodId) (g : GroupId) (v : Word) (s : State) :
    Host.Outcome State Fault Refusal :=
  .next (regWrite who (podBase k + 0x100 + g.val * 4) s (writeLpllCtrl k g v))

/-! ### Bridges -/

/-- One direction of a bridge. -/
def Bridge.dir (b : Bridge) (toHub : Bool) : BridgeDir := if toHub then b.toHub else b.toPod
/-- Change one direction of a bridge. -/
def Bridge.modDir (b : Bridge) (toHub : Bool) (f : BridgeDir → BridgeDir) : Bridge :=
  if toHub then { b with toHub := f b.toHub } else { b with toPod := f b.toPod }

/-- POD_BRIDGE_STAT.CAP_HIT (Table 1.8). -/
def Bridge.capHit (b : Bridge) : Bool := b.toHub.capped || b.toPod.capped
/-- POD_BRIDGE_STAT.SPILL_SAT (Table 1.8). -/
def Bridge.spillSat (b : Bridge) : Bool := b.toHub.sat || b.toPod.sat

/-- A bridge stops carrying traffic. -/
def bridgeDown (k : PodId) (s : State) : State :=
  s.modPod k fun q => { q with bridge := { q.bridge with up := false, toHub := BridgeDir.zero, toPod := BridgeDir.zero } }

/-- A bridge has failed (R25). -/
def bridgeFailed (k : PodId) (s : State) : State := raise .bridgeFail (.pod k) 0 (bridgeDown k s)

/-- BRIDGE_FLIT_RECEIVE (R25): a flit that fails its CRC is replayed and counted; when the eighth replay of one flit fails, the
bridge has failed. -/
def execBridgeFlitReceive (k : PodId) (toHub crcOk : Bool) (s : State) : Host.Outcome State Fault Refusal :=
  .next (
    if !s.podOpen k then s
    else if crcOk then s.modPod k fun q =>
      { q with bridge := q.bridge.modDir toHub fun d => { d with replays := 0 } }
    else if 8 ≤ ((s.pod k).bridge.dir toHub).replays then bridgeFailed k s
    else
      raise .bridgeReplay (.pod k) 0 (s.modPod k fun q =>
        { q with bridge := { q.bridge.modDir toHub (fun d => { d with replays := d.replays + 1 }) with
          replayCnt := satAdd 16 q.bridge.replayCnt 1 } }))

/-- CLK_FAB runs from the FRO, at 200 MHz in place of 740 MHz (R339). -/
def State.fabOnFro (s : State) : Bool := s.clk.dom[1].fro

/-- Bytes a microsecond of the cap on fault and time together, 1 GB/s, and of the cap on management, 2 GB/s (R26), which CLK_FAB on the
FRO scales in proportion (R339). -/
def capFt (fro : Bool) : Nat := if fro then 1000 * 200 / 740 else 1000
/-- The cap on management (R26, R339). -/
def capMg (fro : Bool) : Nat := if fro then 2000 * 200 / 740 else 2000

/-- The kind sent next (R26): strict priority; a capped kind waits once its bytes stand at its cap; capture towards the hub only,
and only when nothing else waits. -/
def nextKind (fro : Bool) (d : BridgeDir) (toHub : Bool) (w : List FlitKind) : Option FlitKind :=
  if w.contains .fault && decide (d.sentFt < capFt fro) then some .fault
  else if w.contains .time && decide (d.sentFt < capFt fro) then some .time
  else if w.contains .mgmt && decide (d.sentMg < capMg fro) then some .mgmt
  else if w.contains .spill then some .spill
  else if toHub && w.contains .capture && w.all fun x => decide (x = .capture) then some .capture
  else none

/-- The account of a direction as a new microsecond begins: what its flits took beyond the cap is owed to the next one, so that
over any run of microseconds no more than the cap is sent but for one flit. The averaging interval of 1 µs is the model's
(DESIGN CHOICE: R26 gives none; log entry 103). -/
def BridgeDir.newUs (fro : Bool) (d : BridgeDir) : BridgeDir :=
  { d with sentFt := d.sentFt - capFt fro, sentMg := d.sentMg - capMg fro, sat := d.satNow, satNow := true }

/-- One sending opportunity of a direction (R26, Table 1.8). -/
def BridgeDir.send (fro : Bool) (d : BridgeDir) (toHub : Bool) (w : List FlitKind) (newUs : Bool) : BridgeDir :=
  let d := if newUs then d.newUs fro else d
  let k := nextKind fro d toHub w
  { d with
    last := k,
    capped := ((w.contains .fault || w.contains .time) && decide (capFt fro ≤ d.sentFt))
      || (w.contains .mgmt && decide (capMg fro ≤ d.sentMg)),
    satNow := d.satNow && w.contains .spill,
    sentFt := if k = some .fault || k = some .time then d.sentFt + 256 else d.sentFt,
    sentMg := if k = some .mgmt then d.sentMg + 256 else d.sentMg }

/-- BRIDGE_FLIT_SEND (R26). -/
def execBridgeFlitSend (k : PodId) (toHub : Bool) (waiting : List FlitKind) (newUs : Bool) (s : State) :
    Host.Outcome State Fault Refusal :=
  .next (
    if !s.podOpen k then s
    else s.modPod k fun q => { q with bridge := q.bridge.modDir toHub fun d => d.send s.fabOnFro toHub waiting newUs })

/-- BRIDGE_TRAINED (R30, R422): the bridge carries traffic, the occurrences that wait in the pod reach the hub, and the bridge
failure ends. -/
def execBridgeTrained (k : PodId) (s : State) : Host.Outcome State Fault Refusal :=
  .next (
    if !s.part.hasPod k || s.boot.inReset || s.pwr.lost.contains (.pod k) || (s.pod k).bridge.up then s
    else
      let l := (s.pod k).fltQueue
      let s := s.modPod k fun q => { q with fltQueue := [], bridge := { q.bridge with up := true } }
      endCond .bridgeFail (.pod k) (l.foldl (fun s o => hubApply o s) s))

end Sys2Proof.Machine
end

