-- ==== Sys2Proof/Machine/StackLine.lean ====
section
/-!
DEFINITION. The line coding of a stack port: the 8b/10b code groups of IEEE 802.3 Clause 36 (R437), columns (R438), frames
(R439), messages as columns (R444, R445), and the order in which a port sends (R446, R447).
-/
namespace Sys2Proof.Machine

/-! ### Code groups -/

/-- The sub-block abcdei of D.x.y and K.x.y from a negative running disparity, a the most significant bit (Clause 36: PRESUMED, log
165). -/
def sixOf (x : Nat) : Nat :=
  [0b100111, 0b011101, 0b101101, 0b110001, 0b110101, 0b101001, 0b011001, 0b111000, 0b111001, 0b100101, 0b010101, 0b110100,
   0b001101, 0b101100, 0b011100, 0b010111, 0b011011, 0b100011, 0b010011, 0b110010, 0b001011, 0b101010, 0b011010, 0b111010,
   0b110011, 0b100110, 0b010110, 0b110110, 0b001110, 0b101110, 0b011110, 0b101011].getD x 0

/-- The sub-block fghj of D.x.y from a negative running disparity. -/
def fourOf (y : Nat) : Nat := [0b1011, 0b1001, 0b0101, 0b1100, 0b1101, 0b1010, 0b0110, 0b1110].getD y 0

/-- The sub-block fghj of K.x.y from a negative running disparity. -/
def fourKOf (y : Nat) : Nat := [0b1011, 0b0110, 0b1010, 0b1100, 0b1101, 0b0101, 0b1001, 0b0111].getD y 0

/-- The ones of a sub-block. -/
def onesOf (n v : Nat) : Nat := (List.range n).countP fun i => v.testBit i

/-- The running disparity after the sub-block abcdei, positive as true. -/
def rdSix (rd : Bool) (v : Nat) : Bool :=
  if 3 < onesOf 6 v || v == 0b000111 then true else if onesOf 6 v < 3 || v == 0b111000 then false else rd

/-- The running disparity after the sub-block fghj. -/
def rdFour (rd : Bool) (v : Nat) : Bool :=
  if 2 < onesOf 4 v || v == 0b0011 then true else if onesOf 4 v < 2 || v == 0b1100 then false else rd

/-- abcdei of a data octet's low five bits under a running disparity. -/
def encSix (rd : Bool) (x : Nat) : Nat :=
  if rd && (onesOf 6 (sixOf x) != 3 || x == 7) then 63 - sixOf x else sixOf x

/-- fghj of a data octet's high three bits under the running disparity that abcdei left. -/
def encFour (rd : Bool) (x y : Nat) : Nat :=
  if y = 7 && (if rd then x == 11 || x == 13 || x == 14 else x == 17 || x == 18 || x == 20) then
    if rd then 0b1000 else 0b0111
  else if rd && (onesOf 4 (fourOf y) != 2 || y == 3) then 15 - fourOf y else fourOf y

/-- The running disparity after a code group. -/
def rdAfter (rd : Bool) (g : Nat) : Bool := rdFour (rdSix rd (g / 16)) (g % 16)

/-- The code group of a data octet (R437). -/
def encData (rd : Bool) (b : Nat) : Nat :=
  let six := encSix rd (b % 32)
  six * 16 + encFour (rdSix rd six) (b % 32) (b / 32)

/-- The code group of a control symbol K.x.y (R438). -/
def encK (rd : Bool) (x y : Nat) : Nat :=
  let six := if x = 28 then (if rd then 0b110000 else 0b001111) else encSix rd x
  six * 16 + (if rdSix rd six then 15 - fourKOf y else fourKOf y)

/-- The symbols of Table 18.1, x and y of K.x.y. -/
def stkK : List (Nat × Nat) := [(28, 1), (28, 5), (27, 7), (29, 7), (30, 7), (28, 0)]

/-- What a code group is read as under the lane's running disparity: an octet, a symbol of Table 18.1, or none, which is an invalid
code group or a disparity error. -/
def decGroup (rd : Bool) (g : Nat) : Option (Nat ⊕ Nat) :=
  match stkK.findIdx? fun k => encK rd k.1 k.2 == g with
  | some i => some (.inr i)
  | none =>
    match (List.range 32).find? fun x => encSix rd x == g / 16 with
    | none => none
    | some x =>
      match (List.range 8).find? fun y => encFour (rdSix rd (g / 16)) x y == g % 16 with
      | none => none
      | some y => some (.inl (y * 32 + x))

/-! ### Columns -/

/-- The four lanes' code groups, lane 0 first. -/
def StkQuad.lanes (q : StkQuad) : List Nat := [q.g0.toNat, q.g1.toNat, q.g2.toNat, q.g3.toNat]

/-- Four code groups as a column. -/
def StkQuad.ofLanes (l : List Nat) : StkQuad :=
  { g0 := BitVec.ofNat 10 (l.getD 0 0), g1 := BitVec.ofNat 10 (l.getD 1 0), g2 := BitVec.ofNat 10 (l.getD 2 0),
    g3 := BitVec.ofNat 10 (l.getD 3 0) }

/-- The symbol of a control column, as its place in Table 18.1. -/
def StkCol.symbol : StkCol → Option Nat
  | .sof => some 0 | .comma => some 1 | .som => some 2 | .eom => some 3 | .error => some 4 | .idle => some 5
  | _ => none

/-- The control column of a symbol. -/
def StkCol.ofSymbol : Nat → StkCol
  | 0 => .sof | 1 => .comma | 2 => .som | 3 => .eom | 4 => .error | _ => .idle

/-- The bytes of a data column, byte 0 first; none of another column (R437). -/
def StkCol.bytes : StkCol → List Byte
  | .data a b c d => [a, b, c, d]
  | _ => []

/-- A column carries data. -/
def StkCol.isData : StkCol → Bool
  | .data _ _ _ _ => true
  | _ => false

/-- The errored code groups of a column. -/
def StkCol.groups : StkCol → Nat
  | .bad n => n
  | _ => 0

/-- A column as code groups, each lane under its own running disparity (R437). An errored column is never sent. -/
def StkCol.encode (rd : List Bool) (c : StkCol) : List Nat :=
  match c.symbol with
  | some i => let k := stkK.getD i (28, 0)
              rd.map fun r => encK r k.1 k.2
  | none => (rd.zip (c.bytes ++ List.replicate 4 0)).map fun x => encData x.1 x.2.toNat

/-- Columns as code groups, and the running disparities they leave (R437). -/
def stkEncode : List Bool → List StkCol → List StkQuad × List Bool
  | rd, [] => ([], rd)
  | rd, c :: l =>
    let g := c.encode rd
    let r := stkEncode ((rd.zip g).map fun x => rdAfter x.1 x.2) l
    (StkQuad.ofLanes g :: r.1, r.2)

/-- What four decoded code groups make (R437): a control column, a data column, or an errored one. One whose code groups are each
valid and do not agree counts one (DESIGN CHOICE, log 165). -/
def stkColumn (l : List (Option (Nat ⊕ Nat))) : StkCol :=
  match l with
  | [some (.inr i), some (.inr j), some (.inr k), some (.inr m)] =>
    if j = i && k = i && m = i then StkCol.ofSymbol i else .bad 1
  | [some (.inl a), some (.inl b), some (.inl c), some (.inl d)] =>
    .data (BitVec.ofNat 8 a) (BitVec.ofNat 8 b) (BitVec.ofNat 8 c) (BitVec.ofNat 8 d)
  | _ => .bad (Nat.max 1 (l.countP fun x => x.isNone))

/-- Code groups as columns under the lanes' running disparities (R437). -/
def stkDecode : List Bool → List (List Nat) → List StkCol
  | _, [] => []
  | rd, g :: l =>
    stkColumn ((rd.zip g).map fun x => decGroup x.1 x.2) :: stkDecode ((rd.zip g).map fun x => rdAfter x.1 x.2) l

/-- The columns a port receives (R437, R441): each lane's polarity as POL_INV has it, and its running disparity the one under which
the first code group given is valid, negative where neither is (DEDUCED, log 165). -/
def stkColumns (inv : BitVec 4) (quads : List StkQuad) : List StkCol :=
  let gs := quads.map fun q => q.lanes.zipIdx.map fun x => if inv.getLsbD x.2 then 1023 - x.1 else x.1
  match gs with
  | [] => []
  | g :: _ => stkDecode (g.map fun x => (decGroup false x).isNone && (decGroup true x).isSome) gs

/-! ### Messages -/

/-- Bytes as data columns, four to a column; a remainder below four is not sent. -/
def dataCols : List Byte → List StkCol
  | a :: b :: c :: d :: l => .data a b c d :: dataCols l
  | _ => []

/-- The header of a message (Table 18.4) and its payload, padded with zeros to whole columns (R444). -/
def StkMsg.bytes (m : StkMsg) : List Byte :=
  beBytes 1 m.typ ++ beBytes 1 (128 * b2n m.last + 64 * b2n m.nak) ++ beBytes 2 m.dst ++ beBytes 2 m.src
    ++ beBytes 2 m.payload.length ++ beBytes 1 m.tag ++ beBytes 1 m.frag ++ beBytes 1 m.lseq ++ [0] ++ m.payload
    ++ List.replicate ((4 - m.payload.length % 4) % 4) 0

/-- The columns of a message (R444): SOM, header and payload, the CRC-32 with its most significant byte on lane 0, EOM. -/
def StkMsg.columns (m : StkMsg) : List StkCol :=
  .som :: dataCols (m.bytes ++ beBytes 4 (crc32 m.bytes).toNat) ++ [.eom]

/-- A receiver removes a frame's four fixed columns wherever they fall (R439). -/
def stripFixed : List StkCol → List StkCol
  | .sof :: _ :: _ :: _ :: l => stripFixed l
  | c :: l => c :: stripFixed l
  | [] => []

/-- Reassembly of a message (R444, R445): header and padded payload where every column is intact, the CRC holds and the message ends
in EOM, not in K30.7. -/
def stkReassemble (cols : List StkCol) : Option (List Byte) :=
  match stripFixed cols with
  | .som :: l =>
    let d := (l.takeWhile StkCol.isData).flatMap StkCol.bytes
    let body := d.take (d.length - 4)
    if l.dropWhile StkCol.isData = [.eom] && decide (16 ≤ d.length) && decide (beNat (d.drop (d.length - 4)) = (crc32 body).toNat) then
      some body
    else none
  | _ => none

/-- The header and payload of a message (Table 18.4). -/
def stkParse (bytes : List Byte) : Option StkMsg :=
  let b := fun (i : Nat) => (bytes.getD i 0).toNat
  let len := b 6 * 256 + b 7
  let dst := b 2 * 256 + b 3
  if 512 < len || bytes.length ≠ 12 + (len + 3) / 4 * 4 || b 1 % 64 ≠ 0 || b 11 ≠ 0 || (1023 < dst && dst < 0xFFFE) then none
  else
    some { typ := b 0, last := decide (128 ≤ b 1), nak := decide (64 ≤ b 1 % 128), dst := dst, src := b 4 * 256 + b 5,
           tag := b 8, frag := b 9, lseq := b 10, payload := (bytes.drop 12).take len }

/-! ### Sending -/

/-- The next message a port sends and the port after it (R446, R447): HELLO and LINK_ACK first, then what is resent, in its order,
then the waiting message of the best class while fewer than 64 are unacknowledged, numbered as it goes. -/
def StkPort.pull (x : StkPort) : Option (StkMsg × StkPort) :=
  match x.queue.find? fun m => !stkSequenced m.typ with
  | some m => some (m, { x with queue := x.queue.erase m })
  | none =>
    match x.again with
    | m :: l => some (m, { x with again := l })
    | [] =>
      if 64 ≤ x.unacked.length then none
      else
        match stkNext x.queue with
        | none => none
        | some m =>
          let n := { m with lseq := x.txSeq }
          some (n, { x with queue := x.queue.erase m, unacked := x.unacked ++ [n], txSeq := (x.txSeq + 1) % 256 })

/-- A message that meets an uncorrectable error as it is sent ends with K30.7 in place of its CRC and EOM (R445). -/
def spoilt (cols : List StkCol) : List StkCol := if cols.length < 2 then cols else cols.take (cols.length - 2) ++ [.error]

/-- Fill n columns with the message in progress, the messages that wait, and idle (R439, R447). -/
def stkFill : Nat → Nat → Bool → StkPort → List StkCol × StkPort
  | 0, n, _, x => (List.replicate n .idle, x)
  | fuel + 1, n, bad, x =>
    if n = 0 then ([], x)
    else
      match x.mid with
      | [] =>
        match x.pull with
        | none => (List.replicate n .idle, x)
        | some (m, y) => stkFill fuel n bad { y with mid := m.columns }
      | cols =>
        let cols := if bad then spoilt cols else cols
        let r := stkFill fuel (n - cols.length) false { x with mid := cols.drop n }
        (cols.take n ++ r.1, r.2)

/-- FRAME or its complement as a column, lane 0 carrying bits [31:24] (R439). -/
def frameCol (f : Nat) : StkCol :=
  .data (BitVec.ofNat 8 (f / 2 ^ 24)) (BitVec.ofNat 8 (f / 2 ^ 16)) (BitVec.ofNat 8 (f / 2 ^ 8)) (BitVec.ofNat 8 f)

/-- A port sends a frame of n columns (R439, R440): the fixed columns, then messages and idle fill. A port in OFF or CLOCK sends
nothing, its lanes being in electrical idle; one in LOCK or ALIGN sends idle fill. -/
def StkPort.sendFrame (f n : Nat) (bad : Bool) (x : StkPort) : StkPort :=
  match x.state with
  | .off | .clock => { x with line := [], txRd := List.replicate 4 false, mid := [] }
  | st =>
    let r := if st = .lock || st = .align then (List.replicate (n - 4) StkCol.idle, { x with mid := [] })
      else stkFill 400 (n - 4) bad x
    let e := stkEncode x.txRd (.sof :: .comma :: frameCol f :: frameCol (2 ^ 32 - 1 - f) :: r.1)
    { r.2 with line := e.1, txRd := e.2 }

end Sys2Proof.Machine
end

