-- ==== Sys2Proof/Machine/Stack.lean ====
section
/-!
DEFINITION. The Oxyen stack links: port bring-up (R440 to R443), messages and link-level delivery (R444 to R447), the tree
and its enumeration (R448 to R454), fault aggregation (R455 to R457), tunnelling and the stack commands (R458 to R461).
-/
namespace Sys2Proof.Machine

/-! ### Tree links and failures -/

/-- The HELLO a port sends (Table 18.3). -/
def helloBytes (p : StackPortId) (s : State) : List Byte :=
  let k := s.stack
  let x := s.stk p
  beBytes 8 Config.uid.toNat ++ beBytes 1 s.part.code ++ beBytes 1 p.val ++ beBytes 1 (b2n s.isMaster)
    ++ beBytes 1 (k.depth.getD 0xFF) ++ beBytes 2 (k.id.getD 0xFFFF) ++ beBytes 2 k.gen ++ beBytes 8 k.master.toNat
    ++ beBytes 8 (match x.partner with | some h => h.uid.toNat | none => 0)

/-- The device has a path to the master (R454). -/
def State.hasPath (s : State) : Bool := s.isMaster || (s.upstreamUp && !s.stack.orphan)

/-- A TOPO_CHANGE towards the master; at the master it is accepted at once and its run waits (R449, R454). -/
def topoChange (s : State) : State :=
  if s.isMaster then { s with stack := { s.stack with wanted := true } }
  else if s.hasPath then
    stkDeliver { typ := 0x04, last := false, nak := false, dst := 0, src := s.srcId, tag := 0, frag := 0, lseq := 0,
                 payload := [] } s
  else s

/-- The payload of a DISCOVER (R450). -/
def discoverBytes (gen depth : Nat) (master : BitVec 64) (renumber : Bool) : List Byte :=
  beBytes 2 gen ++ beBytes 1 depth ++ beBytes 8 master.toNat ++ beBytes 1 (b2n renumber)

/-- Send the ORPHAN notice on the DOWNSTREAM ports (R454). -/
def orphanNotice (s : State) : State :=
  allStk.foldl (fun s p =>
    if (s.stk p).role = .downstream then
      stkSend p (stkLocal 0x01 (discoverBytes s.stack.gen 0xFF s.stack.master false) s) s
    else s) s

/-- A port in UP fails (R440, R446, R454): the cause, the messages queued on it, and what the tree loses. It goes to LOCK, or
to CLOCK where its clock is gone. -/
def stkFail (p : StackPortId) (toClock : Bool) (s : State) : State :=
  let x := s.stk p
  if x.state ≠ .up then s
  else
    let lost := (x.queue.countP fun m => stkSequenced m.typ) + x.unacked.length
    let up := decide (s.stack.upstream = some p)
    let s := s.modStk p fun x =>
      { x with state := if toClock then .clock else .lock, role := .none, rclk := !toClock, lockMask := 0, polInv := 0,
               partner := none, txSeq := 0, rxSeq := 0, unacked := [], queue := [], again := [], mid := [], resendRun := 0, toAck := 0,
               disc := none, fwd := false, report := none, route := 0, fails := satAdd 8 x.fails 1,
               msgErr := if x.role = .downstream then satAdd 8 x.msgErr lost else x.msgErr }
    let s := { s with time := { s.time with rtt := updAt s.time.rtt p fun _ => [],
                                            lastSof := if up then none else s.time.lastSof } }
    let s := raise .stackLink .dev p.val s
    let s := if up then orphanNotice { s with stack := { s.stack with upstream := none, orphan := true } } else s
    let s := stackPllSettle (retrim s)
    if x.role = .upstream || x.role = .downstream || x.role = .standby then topoChange s else s

/-- A port not in UP falls back to LOCK (R441). -/
def stkToLock (p : StackPortId) (s : State) : State :=
  s.modStk p fun x => { x with state := .lock, lockMask := 0, polInv := 0, partner := none }

/-- The role of a port in UP after a HELLO (R443). -/
def judgeRole (p : StackPortId) (h : Hello) (s : State) : State :=
  let x := s.stk p
  let dual := h.root && s.isMaster
  let foreign := decide (h.master ≠ 0) && decide (s.stack.master ≠ 0) && decide (h.master ≠ s.stack.master)
  if dual then
    if x.role = .dualRoot then s
    else raise .stackLink .dev p.val (s.modStk p fun x => { x with role := .dualRoot })
  else if foreign then s.modStk p fun x => { x with role := .foreign }
  else if x.role = .foreign || x.role = .dualRoot then s.modStk p fun x => { x with role := .standby }
  else s

/-- A port reaches UP (R442, R443, R454). -/
def stkUp (p : StackPortId) (h : Hello) (s : State) : State :=
  let s := s.modStk p fun x =>
    { x with state := .up, role := .standby, txSeq := 0, rxSeq := 0, unacked := [], again := [], resendRun := 0, toAck := 0 }
  topoChange (judgeRole p h s)

/-! ### Bring-up -/

/-- STACK_CLOCK_DETECT (R333, R440): SKs_RCLK toggles, and may become the stack PLL's reference. With the stack PLL locked the
transmitter starts and the port goes to LOCK. -/
def execStackClockDetect (p : StackPortId) (s : State) : Host.Outcome State Fault Refusal :=
  if (s.stk p).state = .off then .next s
  else
    let s := stackPllSettle (s.modStk p fun x => { x with rclk := true })
    .next (if (s.stk p).state = .clock && s.clk.stkLock then stkToLock p s else s)

/-- The bit positions of a lane's SOF code groups lock it (R441): three on one 10-bit boundary, 999 to 1,001 code groups apart. -/
def sofsLock (sofs : List Nat) : Bool :=
  decide (3 ≤ sofs.length) && ((sofs.take 3).zip ((sofs.take 3).drop 1)).all fun x =>
    decide (x.2 % 10 = x.1 % 10) && decide (x.1 + 9990 ≤ x.2) && decide (x.2 ≤ x.1 + 10010)

/-- STACK_LANE_LOCK (R441): the fourth lane takes the port to ALIGN. -/
def execStackLaneLock (p : StackPortId) (d : Fin 4) (sofs : List Nat) (inv : Bool) (centre : Int) (s : State) :
    Host.Outcome State Fault Refusal :=
  if (s.stk p).state ≠ .lock || !sofsLock sofs then .next s
  else
    .next (s.modStk p fun x =>
      let m := x.lockMask ||| (1#4 <<< d.val)
      { x with lockMask := m, polInv := if inv then x.polInv ||| (1#4 <<< d.val) else x.polInv,
               deskew := if x.deskewMeas then x.deskew else listUpd x.deskew d.val fun _ => centre,
               state := if m = 0xF then .align else .lock })

/-- STACK_PORT_ALIGN (R441): four SOFs within 4 columns and FRAME agreeing with its complement. -/
def execStackPortAlign (p : StackPortId) (spread : Nat) (frame compl : Word) (s : State) :
    Host.Outcome State Fault Refusal :=
  if (s.stk p).state = .align && decide (spread ≤ 4) && decide (compl = ~~~frame) then
    .next (s.modStk p fun x => { x with state := .hello, laneErr := false })
  else .next s

/-- STACK_ALIGN_TIMEOUT (R441). -/
def execStackAlignTimeout (p : StackPortId) (s : State) : Host.Outcome State Fault Refusal :=
  if (s.stk p).state = .align then
    .next ((stkToLock p s).modStk p fun x => { x with laneErr := true })
  else .next s

/-- STACK_LANE_LOCK_LOSS (R441): after 4 consecutive frames with no SOF, or 64 errored code groups within a frame, the port returns
to LOCK, and a port in UP fails. -/
def execStackLaneLockLoss (p : StackPortId) (d : Fin 4) (missed errored : Nat) (s : State) : Host.Outcome State Fault Refusal :=
  let s := s.modStk p fun x => { x with symErr := Nat.min 4095 (x.symErr + errored) }
  if missed < 4 && errored < 64 then .next s else
  match (s.stk p).state with
  | .up => .next (stkFail p false s)
  | .align | .hello => .next (stkToLock p s)
  | .lock => .next (s.modStk p fun x => { x with lockMask := x.lockMask &&& ~~~(1#4 <<< d.val) })
  | _ => .next s

/-- STACK_SOF_RECEIVE (R439, R476): the upstream FRAME, or the round trip of a DOWNSTREAM port. -/
def execStackSofReceive (p : StackPortId) (frame : Word) (dt : Nat) (s : State) : Host.Outcome State Fault Refusal :=
  let x := s.stk p
  if x.state ≠ .up then .next s
  else if s.stack.upstream = some p then .next { s with stack := { s.stack with frameIn := frame.toNat } }
  else if x.role = .downstream then
    .next { s with time := { s.time with rtt := updAt s.time.rtt p fun l => (dt :: l).take 16 } }
  else .next s

/-- STACK_SOF_SEND (R439, R477): a member follows its upstream FRAME, any other device counts on from 0, and every port sends its
frame, of 1,000 columns, or on a member of the 999 to 1,001 that its upstream SOF leaves. On a port of `spoil` the message in progress
meets an uncorrectable error (R445). -/
def execStackSofSend (residence cols : Nat) (spoil : BitVec 4) (s : State) : Host.Outcome State Fault Refusal :=
  if !s.clk.stkLock then .next s
  else
    let f := if s.upstreamUp && !s.isMaster then s.stack.frameIn else if !s.stack.sofSent then 0 else (s.stack.frame + 1) % 2 ^ 32
    let n := if s.upstreamUp && !s.isMaster then Nat.max 999 (Nat.min 1001 cols) else 1000
    let s := { s with stack := { s.stack with frame := f, sofTime := s.uptime, sofSent := true } }
    let s := allStk.foldl (fun s p => s.modStk p fun x => x.sendFrame f n (spoil.getLsbD p.val)) s
    .next (if f % 16 = 0 then { s with time := { s.time with lastSof := some (f, residence, s.time.ctr) } } else s)

/-- HELLO_SEND (R442). -/
def execHelloSend (p : StackPortId) (s : State) : Host.Outcome State Fault Refusal :=
  match (s.stk p).state with
  | .hello | .up =>
    .next (s.modStk p fun x => { x with lastOut := some (stkLocal 0x50 (helloBytes p s) s), queue := x.queue ++ [stkLocal 0x50 (helloBytes p s) s] })
  | _ => .next s

/-- HELLO_RECEIVE (R442, R443). -/
def execHelloReceive (p : StackPortId) (h : Hello) (s : State) : Host.Outcome State Fault Refusal :=
  match (s.stk p).state with
  | .hello =>
    let s := s.modStk p fun x => { x with partner := some h }
    .next (if h.peer = Config.uid then stkUp p h s else s)
  | .up => .next (judgeRole p h (s.modStk p fun x => { x with partner := some h }))
  | _ => .next s

/-- STACK_LINK_TIMEOUT (R442): a port in UP that accepts no message for 1 ms fails. -/
def execStackLinkTimeout (p : StackPortId) (s : State) : Host.Outcome State Fault Refusal := .next (stkFail p false s)

/-- STACK_LINK_FAIL (R454). -/
def execStackLinkFail (p : StackPortId) (clockLost : Bool) (s : State) : Host.Outcome State Fault Refusal :=
  .next (stkFail p clockLost s)

/-! ### Messages -/

/-- A LINK_ACK naming the next LSEQ expected (R446). -/
def linkAck (p : StackPortId) (nak : Bool) (s : State) : State :=
  let m := { stkLocal 0x51 (beBytes 1 (s.stk p).rxSeq) s with nak := nak }
  s.modStk p fun x => { x with lastOut := some m, queue := x.queue ++ [m], toAck := 0 }

/-- A discard: counted, and a NAK at once (R445, R446). -/
def stkDiscard (p : StackPortId) (s : State) : State :=
  linkAck p true (s.modStk p fun x => { x with msgErr := satAdd 8 x.msgErr 1 })

/-- Routing of an accepted message that is not for this device (R453). -/
def stkRouteOn (p : StackPortId) (m : StkMsg) (s : State) : State :=
  if m.dst = 0xFFFE || s.stack.id = some m.dst || !(s.stk p).role.isTree then s
  else if m.dst = 0xFFFF then
    if s.stack.upstream = some p && decide (m.src = 0) then
      allStk.foldl (fun s r => if (s.stk r).role = .downstream then stkSend r m s else s) s
    else s
  else
    match stkRoute s m.dst with
    | some r => stkSend r m s
    | none =>
      if s.isMaster then s.modStk p fun x => { x with msgErr := satAdd 8 x.msgErr 1 }
      else stkUpstream m s

/-- STACK_MSG_RECEIVE (R445, R446, R453): the checks, the sequence number, and the routing of a message for another
device. What a message for this device does is the row of its type. In HELLO a port takes no sequenced message: its sequence numbers
begin when it enters UP, and the sender resends. -/
def execStackMsgReceive (p : StackPortId) (quads : List StkQuad) (s : State) : Host.Outcome State Fault Refusal :=
  let st := (s.stk p).state
  let cols := stkColumns (s.stk p).polInv quads
  if st ≠ .hello && st ≠ .up then .next s
  else
    let s := s.modStk p fun x => { x with symErr := Nat.min 4095 (x.symErr + (cols.map StkCol.groups).sum) }
    match (stkReassemble cols).bind stkParse with
    | none => .next (stkDiscard p s)
    | some msg =>
      if !stkSequenced msg.typ || st = .hello then .next s
      else if msg.lseq ≠ (s.stk p).rxSeq then .next (linkAck p true s)
      else
        let s := s.modStk p fun x => { x with rxSeq := (x.rxSeq + 1) % 256, toAck := x.toAck + 1 }
        let s := if 8 ≤ (s.stk p).toAck then linkAck p false s else s
        .next (if (stkClass msg.typ).isNone then s.modStk p fun x => { x with msgErr := satAdd 8 x.msgErr 1 }
          else stkRouteOn p msg s)

/-- Resend from the oldest unacknowledged message (R446): after 16 consecutive resends of one LSEQ the link has failed. -/
def stkResend (p : StackPortId) (s : State) : State :=
  let x := s.stk p
  if x.unacked.isEmpty then s
  else if 16 ≤ x.resendRun then stkFail p false s
  else s.modStk p fun x => { x with resendRun := x.resendRun + 1, resends := satAdd 8 x.resends 1, again := x.unacked }

/-- Messages before an LSEQ are acknowledged. -/
def ackUpTo (next : Nat) : List StkMsg → List StkMsg
  | [] => []
  | m :: l => if m.lseq = next then m :: l else ackUpTo next l

/-- LINK_ACK_RECEIVE (R446). -/
def execLinkAckReceive (p : StackPortId) (next : BitVec 8) (nak : Bool) (s : State) : Host.Outcome State Fault Refusal :=
  let x := s.stk p
  if x.state ≠ .up then .next s
  else
    let known := decide (next.toNat = x.txSeq) || x.unacked.any fun m => decide (m.lseq = next.toNat)
    let left := if known then ackUpTo next.toNat x.unacked else x.unacked
    let s := s.modStk p fun x =>
      { x with unacked := left, again := x.again.filter left.contains, resendRun := if left.length < x.unacked.length then 0 else x.resendRun }
    .next (if nak then stkResend p s else s)

/-- LINK_ACK_SEND (R446). -/
def execLinkAckSend (p : StackPortId) (s : State) : Host.Outcome State Fault Refusal :=
  if (s.stk p).state = .up && decide (0 < (s.stk p).toAck) then .next (linkAck p false s) else .next s

/-- STACK_RESEND_TIMEOUT (R446). -/
def execStackResendTimeout (p : StackPortId) (s : State) : Host.Outcome State Fault Refusal := .next (stkResend p s)

/-! ### Enumeration -/

/-- A port takes part in enumeration (R450). -/
def StkPort.enumerable (x : StkPort) : Bool :=
  decide (x.state = .up) && decide (x.role ≠ .foreign) && decide (x.role ≠ .dualRoot)

/-- The ID set of a device as a bit set. -/
def ownBit (s : State) : Nat :=
  match s.stack.id with
  | some i => 2 ^ i
  | none => 0

/-- The reports of the ports that answered without STANDBY, with their ports in ascending index. -/
def childReports (s : State) : List (StackPortId × StkReport) :=
  allStk.filterMap fun p =>
    match (s.stk p).report with
    | some r => if r.standby || !(s.stk p).fwd then none else some (p, r)
    | none => none

/-- Sum of the U figures of children. -/
def sumU (rs : List (StackPortId × StkReport)) (j : Nat) : Nat := (rs.map fun r => r.2.u.getD j 0).sum

/-- The IDs of a child after ASSIGN: those it holds and the ranges given to it (R453). -/
def routeBits (r : StkReport) (b : List Nat) : Nat :=
  (List.range 8).foldl (fun m j =>
    (List.range (r.u.getD j 0)).foldl (fun m i => if b.getD j 1024 + i < 1024 then m ||| 2 ^ (b.getD j 1024 + i) else m) m)
    r.present

/-- The payload of an ASSIGN (R452). -/
def assignBytes (gen : Nat) (b : List Nat) : List Byte := beBytes 2 gen ++ (b.flatMap fun x => beBytes 2 x)

/-- Send ASSIGN to each child, each starting where the one before it ended, and replace the routing table (R452, R453). -/
def assignChildren : List (StackPortId × StkReport) → List Nat → State → State
  | [], _, s => s
  | (p, r) :: rs, b, s =>
    let s := s.modStk p fun x => { x with route := routeBits r b }
    let s := stkSend p (stkLocal 0x03 (assignBytes s.stack.gen b) s) s
    assignChildren rs (b.zipIdx.map fun x => x.1 + r.u.getD x.2 0) s

/-- The run at this device ends (R449, R453). -/
def endEnum (s : State) : State :=
  { s with stack := { s.stack with busy := false } }

/-- The master's assignment of IDs (R452) and the figures of STK_ENUM_STAT. -/
def masterAssign (s : State) : State :=
  let rs := childReports s
  let total := ((List.range 8).map fun j => sumU rs j).sum
  let next := s.stack.nextId
  let bases := ((List.range 8).foldl (fun a j => (a.1 ++ [a.2], a.2 + sumU rs j)) (([] : List Nat), next)).1
  let present := (rs.foldl (fun m r => m ||| r.2.present) (ownBit s))
  let held := (List.range 1024).countP fun i => present.testBit i
  let given := Nat.min total (1024 - next)
  let s := allStk.foldl (fun s p => s.modStk p fun x => { x with route := 0 }) s
  let s := assignChildren rs bases s
  endEnum { s with stack := { s.stack with
    reported := true, nextId := next + given, members := held + given, depthCut := rs.any (fun r => r.2.depthCut),
    tooMany := decide (1024 < next + total) || rs.any fun r => r.2.tooMany } }

/-- The REPORT of a device to its parent (R451). -/
def ownReport (s : State) : StkReport :=
  let rs := childReports s
  { standby := false, u := b2n s.stack.id.isNone :: (List.range 7).map fun j => sumU rs j,
    depthCut := rs.any (fun r => r.2.depthCut) || allStk.any fun p => decide ((s.stk p).role = .cut),
    tooMany := rs.any fun r => r.2.tooMany, present := rs.foldl (fun m r => m ||| r.2.present) (ownBit s) }

/-- The payload of a REPORT (R451). -/
def reportBytes (gen : Nat) (r : StkReport) : List Byte :=
  beBytes 2 gen ++ beBytes 1 (b2n r.standby + 2 * b2n r.depthCut + 4 * b2n r.tooMany) ++ (r.u.flatMap fun x => beBytes 2 x)
    ++ (List.range 128).map fun i => BitVec.ofNat 8 (r.present >>> (8 * i))

/-- Every port on which DISCOVER was forwarded has answered, or shows itself a standby link (R450, R451). -/
def allAnswered (s : State) : Bool :=
  allStk.all fun p => !(s.stk p).fwd || (s.stk p).report.isSome || (s.stk p).disc.isSome

/-- The REPORT falls due (R451): roles are taken and it is sent, or the master assigns. -/
def reportTry (expired : Bool) (s : State) : State :=
  if !s.stack.busy || s.stack.reported || !(s.isMaster || s.stack.parent.isSome) || !(expired || allAnswered s) then s
  else
    let s := allStk.foldl (fun s p =>
      let x := s.stk p
      if !x.fwd then s
      else
        let down := match x.report with
          | some r => !r.standby
          | none => false
        s.modStk p fun x => { x with role := if down then .downstream else .standby }) s
    if s.isMaster then masterAssign s
    else
      match s.stack.parent with
      | none => s
      | some p =>
        let s := allStk.foldl (fun s r =>
          if r ≠ p && (s.stk r).role = .upstream then s.modStk r fun x => { x with role := .standby } else s) s
        let s := s.modStk p fun x => { x with role := .upstream }
        let s := stackPllSettle (retrim { s with stack := { s.stack with upstream := some p, reported := true } })
        stkSend p (stkLocal 0x02 (reportBytes s.stack.gen (ownReport s)) s) s

/-- Forget a run's answers. -/
def clearRun (s : State) : State :=
  allStk.foldl (fun s p => s.modStk p fun x => { x with disc := none, fwd := false, report := none }) s

/-- Send DISCOVER on every port that takes part, except one (R450). -/
def forwardDiscover (skip : Option StackPortId) (depth : Nat) (s : State) : State :=
  let k := s.stack
  allStk.foldl (fun s p =>
    if skip = some p || !(s.stk p).enumerable then s
    else
      stkSend p (stkLocal 0x01 (discoverBytes k.gen depth k.runMaster k.runRenumber) s)
        (s.modStk p fun x => { x with fwd := true, role := if x.role = .cut then .standby else x.role })) s

/-- The master starts a run (R449, R450). -/
def enumStart (s : State) : State :=
  if !s.isMaster || s.stack.busy then s
  else
    let s := clearRun s
    let re := s.stack.wantRenumber
    let s := { s with stack := { s.stack with
      gen := (s.stack.gen + 1) % 65536, busy := true, reported := false, wanted := false, wantCmd := false, wantRenumber := false,
      runMaster := s.stack.master, runRenumber := re, parent := none, nextId := if re then 1 else s.stack.nextId } }
    reportTry false (forwardDiscover none 0 s)

/-- ENUM_RUN_START (R449): a cause that waits starts a run once none is in progress, a command's always and another only while
AUTO_ENUM is set. -/
def execEnumRunStart (s : State) : Host.Outcome State Fault Refusal :=
  if s.stack.busy then .next s
  else if s.stack.wantCmd || (s.stack.wanted && s.stack.autoEnum) then .next (enumStart s)
  else .next { s with stack := { s.stack with wanted := false } }

/-- A GEN is later than another, modulo 2^16. -/
def laterGen16 (a b : Nat) : Bool :=
  let d := (a + 65536 - b) % 65536
  decide (d ≠ 0) && decide (d < 32768)

/-- A standby answer (R450). -/
def answerStandby (p : StackPortId) (s : State) : State :=
  let r : StkReport := { standby := true, depthCut := false, tooMany := false, u := List.replicate 8 0, present := 0 }
  stkSend p (stkLocal 0x02 (reportBytes s.stack.gen r) s) (s.modStk p fun x => { x with role := .standby })

/-- DISCOVER_RECEIVE (R450): the first of a later GEN opens a run at the device; one of the same GEN on another port is an
offer until the parent is chosen, and is answered STANDBY afterwards. -/
def execDiscoverReceive (p : StackPortId) (gen : BitVec 16) (depth : Nat) (master : BitVec 64) (renumber : Bool)
    (s : State) : Host.Outcome State Fault Refusal :=
  let k := s.stack
  if s.isMaster || !(s.stk p).enumerable || 8 ≤ depth then .next s
  else if k.master ≠ 0 && k.master ≠ master then .next s
  else if !k.genSeen || laterGen16 gen.toNat k.gen then
    let s := clearRun s
    let s := { s with stack := { s.stack with
      gen := gen.toNat, genSeen := true, busy := true, reported := false, runMaster := master, runRenumber := renumber, parent := none } }
    .next (s.modStk p fun x => { x with disc := some depth })
  else if gen.toNat = k.gen && k.busy then
    let s := s.modStk p fun x => { x with disc := some depth }
    if k.parent.isSome && decide (k.parent ≠ some p) then .next (reportTry false (answerStandby p s)) else .next s
  else .next s

/-- The best offer: lowest DEPTH, then lowest port (R450). -/
def bestParent (s : State) : Option (StackPortId × Nat) :=
  allStk.foldl (fun a p =>
    match (s.stk p).disc, a with
    | some d, some (q, e) => if d < e then some (p, d) else some (q, e)
    | some d, none => some (p, d)
    | none, _ => a) none

/-- PARENT_CHOOSE (R450): 20 µs after the first DISCOVER the device takes its parent and depth and forwards DISCOVER. -/
def execParentChoose (s : State) : Host.Outcome State Fault Refusal :=
  if !s.stack.busy || s.isMaster || s.stack.parent.isSome then .next s
  else
    match bestParent s with
    | none => .next s
    | some (p, d) =>
      let drop := s.stack.runRenumber
      let s := { s with stack := { s.stack with
        parent := some p, depth := some (d + 1), id := if drop then none else s.stack.id,
        master := if drop then 0 else s.stack.master } }
      let s := if d + 1 ≤ 7 then forwardDiscover (some p) (d + 1) s
        else allStk.foldl (fun s r =>
          if r ≠ p && (s.stk r).enumerable && (s.stk r).disc.isNone then s.modStk r fun x => { x with role := .cut } else s) s
      let s := allStk.foldl (fun s r => if r ≠ p && (s.stk r).disc.isSome then answerStandby r s else s) s
      .next (reportTry false s)

/-- REPORT_RECEIVE (R451). -/
def execReportReceive (p : StackPortId) (gen : BitVec 16) (r : StkReport) (s : State) : Host.Outcome State Fault Refusal :=
  if s.stack.busy && decide (gen.toNat = s.stack.gen) && (s.stk p).fwd then
    .next (reportTry false (s.modStk p fun x => { x with report := some r }))
  else .next s

/-- REPORT_DUE (R451). -/
def execReportDue (expired : Bool) (s : State) : Host.Outcome State Fault Refusal := .next (reportTry expired s)

/-- Messages held while an orphan flow once ASSIGN is in force (R454). -/
def releaseHeld (s : State) : State :=
  let held := s.stack.held
  held.foldl (fun s m => stkUpstream m s) { s with stack := { s.stack with orphan := false, held := [] } }

/-- ASSIGN_RECEIVE (R452, R453): a device without an ID takes B[0], and passes B[1] to B[7] on. -/
def execAssignReceive (p : StackPortId) (gen : BitVec 16) (b : List Nat) (s : State) : Host.Outcome State Fault Refusal :=
  let k := s.stack
  if !k.busy || !k.reported || gen.toNat ≠ k.gen || k.parent ≠ some p then .next s
  else
    let b0 := b.getD 0 1024
    let take := k.id.isNone && decide (b0 < 1024)
    let s := { s with stack := { k with id := if take then some b0 else k.id,
                                        master := if take then k.runMaster else k.master } }
    let rs := childReports s
    let s := allStk.foldl (fun s r => s.modStk r fun x => { x with route := 0 }) s
    let s := assignChildren rs (b.drop 1 ++ [1024]) s
    .next (releaseHeld (endEnum s))

/-- TOPO_CHANGE_RECEIVE (R449, R454): the master accepts it; a run follows while AUTO_ENUM is set. -/
def execTopoChangeReceive (p : StackPortId) (s : State) : Host.Outcome State Fault Refusal :=
  if s.isMaster && s.stackUp p then .next (topoChange s) else .next s

/-- ORPHAN_NOTICE_RECEIVE (R454): on the upstream port, the device is in an orphaned subtree and passes the notice on. -/
def execOrphanNoticeReceive (p : StackPortId) (s : State) : Host.Outcome State Fault Refusal :=
  if s.stack.upstream = some p && !s.isMaster then
    .next (orphanNotice { s with stack := { s.stack with orphan := true } })
  else .next s

/-! ### Fault windows -/

/-- The latest window a device at its depth has closed at a FRAME (R455); none before the first. -/
def closedWindow (frame depth : Nat) : Option Nat := if frame + depth < 18 then none else some ((frame + depth - 18) / 10)

/-- An entry's window, modulo 2^16, is at or before another. -/
def windowClosed (w : Nat) (e : AggEntry) : Bool := decide ((w % 65536 + 65536 - e.window) % 65536 < 32768)

/-- An aggregated entry's 16 bytes (Table 18.6). -/
def AggEntry.bytes (e : AggEntry) : List Byte :=
  beBytes 1 (e.code + 64 * b2n e.inj + 128 * b2n e.mixed) ++ beBytes 1 (e.cls + 4 * e.scope) ++ beBytes 2 e.inst
    ++ beBytes 2 e.count ++ beBytes 2 e.occ ++ beBytes 2 e.low ++ beBytes 2 e.high ++ beBytes 2 e.window ++ beBytes 2 e.first

/-- A stack fault record at the master (R457). -/
def stackRecord (e : AggEntry) (s : State) : State :=
  let k := s.stack
  let full := decide (256 ≤ k.recs.length)
  let s := { s with stack := { k with recs := (if full then k.recs.drop 1 else k.recs) ++ [e],
                                      lost := if full then satAdd 8 k.lost 1 else k.lost } }
  raise .stackReport .dev 0 s

/-- FAULT_REPORT messages of up to 32 entries each (R455). -/
def sendReports : Nat → List AggEntry → State → State
  | 0, _, s => s
  | n + 1, l, s =>
    if l.isEmpty then s
    else
      sendReports n (l.drop 32)
        (match s.stack.upstream with
         | some p => stkSend p (stkLocal 0x10 ((l.take 32).flatMap AggEntry.bytes) s) s
         | none => s)

/-- Beyond 256 queued entries the oldest window's fold into its OVERFLOW entry (R456). -/
def foldOldest : Nat → List AggEntry → List AggEntry
  | 0, l => l
  | n + 1, l =>
    if l.length ≤ 256 then l
    else
      match l with
      | [] => []
      | e :: _ =>
        let (mine, rest) := l.partition fun x => x.window == e.window
        match mine with
        | [] => l
        | m :: ms =>
          if ms.isEmpty then foldOldest n (rest ++ [m])
          else { ms.foldl (fun a x => aggMergeInto x a) m with code := 0x3F } :: rest

/-- FAULT_WINDOW_CLOSE (R455 to R457). -/
def execFaultWindowClose (s : State) : Host.Outcome State Fault Refusal :=
  match closedWindow s.stack.frame (s.stack.depth.getD 8) with
  | none => .next s
  | some w =>
    let due := s.stack.entries.filter (windowClosed w)
    let rest := s.stack.entries.filter fun e => !windowClosed w e
    if s.isMaster then
      .next (due.foldl (fun s e => stackRecord e s)
        { s with stack := { s.stack with entries := rest, closedTo := w + 1 } })
    else if s.hasPath then
      .next (sendReports due.length due { s with stack := { s.stack with entries := rest, closedTo := w + 1 } })
    else .next { s with stack := { s.stack with entries := foldOldest 256 due ++ rest, closedTo := w + 1 } }

/-- FAULT_REPORT_RECEIVE (R455, R456): entries merge by key; the master counts those of a window it has closed. -/
def execFaultReportReceive (p : StackPortId) (entries : List AggEntry) (s : State) : Host.Outcome State Fault Refusal :=
  if (s.stk p).role ≠ .downstream || !s.stackUp p then .next s
  else
    let late := if s.stack.closedTo = 0 then 0 else entries.countP (windowClosed (s.stack.closedTo - 1))
    let k := s.stack
    .next { s with stack := { k with entries := (entries.map fun e => { e with own := false }).foldl (fun l e => aggAdd e l) k.entries,
                                     late := if s.isMaster then satAdd 8 k.late late else k.late } }

/-! ### Tunnelling and commands -/

/-- A fragment joins its buffer; the packet once LAST arrives in order (R458). -/
def tunnelAdd (peer tag frag : Nat) (last : Bool) (data : List Byte) (l : List TunnelBuf) :
    List TunnelBuf × Option (List Byte) :=
  let mine := fun (b : TunnelBuf) => b.peer == peer && b.tag == tag
  let rest := l.filter fun b => !mine b
  let old := if frag = 0 then some { peer := peer, tag := tag, next := 0, bytes := [] } else l.find? mine
  match old with
  | none => (rest, none)
  | some b =>
    if b.next ≠ frag then (rest, none)
    else if last then (rest, some (b.bytes ++ data))
    else ({ b with next := frag + 1, bytes := b.bytes ++ data } :: rest, none)

/-- A packet that came without a slot waits to start, or is answered at once (R458, R499): BUSY with no slot free. -/
def acceptPacket (via : Origin) (allowed : Bool) (bytes : List Byte) (s : State) : State :=
  let op := beNat (bytes.take 2)
  let tag := beNat ((bytes.drop 2).take 1)
  if !allowed then replyBy via op tag 0x05 [] s
  else if s.fw.slots.toList.all fun x => decide (x.state ≠ .free) then replyBy via op tag 0x01 [] s
  else { s with fw := { s.fw with waiting := s.fw.waiting ++ [(via, bytes)] } }

/-- MGMT_REQ_RECEIVE (R458). -/
def execMgmtReqReceive (src tag frag : Nat) (last : Bool) (data : List Byte) (s : State) :
    Host.Outcome State Fault Refusal :=
  let r := tunnelAdd src tag frag last data s.stack.tunIn
  let s := { s with stack := { s.stack with tunIn := r.1 } }
  match r.2 with
  | none => .next s
  | some bytes => .next (acceptPacket (.tunnel src tag) s.stack.acceptTunnel bytes s)

/-- MGMT_RESP_RECEIVE (R458): the complete reply returns the remote status. -/
def execMgmtRespReceive (src tag frag : Nat) (last : Bool) (data : List Byte) (s : State) :
    Host.Outcome State Fault Refusal :=
  match s.stack.tunOut.find? fun t => t.tag == tag && t.dst == src with
  | none => .next s
  | some t =>
    let r := tunnelAdd src tag frag last data s.stack.respIn
    let s := { s with stack := { s.stack with respIn := r.1 } }
    match r.2 with
    | none => .next s
    | some bytes =>
      let s := { s with stack := { s.stack with tunOut := s.stack.tunOut.erase t } }
      .next (reply t.origin 0x0503 (beNat ((bytes.drop 6).take 1)) bytes s)

/-- TUNNEL_TIMEOUT (R458). -/
def execTunnelTimeout (tag : Nat) (s : State) : Host.Outcome State Fault Refusal :=
  match s.stack.tunOut.find? fun t => t.tag == tag with
  | none => .next s
  | some t =>
    let s := { s with stack := { s.stack with tunOut := s.stack.tunOut.erase t,
                                              respIn := s.stack.respIn.filter fun b => b.tag != tag } }
    .next (reply t.origin 0x0503 0x06 [] s)

/-- LEDGER_ANCHOR_RECEIVE (R507): the master enters a WITNESS record. -/
def execLedgerAnchorReceive (member : Nat) (uid : BitVec 64) (accession : Nat) (chain : BitVec 384) (s : State) :
    Host.Outcome State Fault Refusal :=
  if s.isMaster then
    .next (ledgerAppend 0x28 member 0 (beBytes 8 uid.toNat ++ beBytes 8 accession ++ beBytes 48 chain.toNat) s)
  else .next s

/-- STK_ENUM (0x0501, R449). -/
def execStkEnum (via : Origin) (s : State) : Host.Outcome State Fault Refusal :=
  .next (command via 0x0501 s fun s =>
    if !s.isMaster then reply via 0x0501 0x07 [] s
    else reply via 0x0501 0x00 [] (if s.stack.busy then { s with stack := { s.stack with wantCmd := true } } else enumStart s))

/-- STK_RENUMBER (0x0502, R449, R452). -/
def execStkRenumber (via : Origin) (s : State) : Host.Outcome State Fault Refusal :=
  .next (command via 0x0502 s fun s =>
    if !s.isMaster then reply via 0x0502 0x07 [] s
    else
      let s := { s with stack := { s.stack with wantRenumber := true } }
      reply via 0x0502 0x00 [] (if s.stack.busy then { s with stack := { s.stack with wantCmd := true } } else enumStart s))

/-- A destination is held in the session as far as this device can tell (R458). -/
def dstHeld (s : State) (dst : Nat) : Bool :=
  decide (dst < 1024) && (s.stack.id = some dst || (stkRoute s dst).isSome || (!s.isMaster && s.stack.id.isSome))

/-- STK_TUNNEL (0x0503, R458): the reply follows with the remote status. -/
def execStkTunnel (via : Origin) (dst : Nat) (packet : List Byte) (s : State) : Host.Outcome State Fault Refusal :=
  .next (command via 0x0503 s fun s =>
    if packet.length < 8 || 4096 < packet.length || !dstHeld s dst then reply via 0x0503 0x03 [] s
    else
      let tag := s.stack.tunTag
      let s := { s with stack := { s.stack with
        tunTag := (tag + 1) % 256, tunOut := s.stack.tunOut ++ [{ tag := tag, dst := dst, origin := via }] } }
      if s.stack.id = some dst then
        { s with fw := { s.fw with waiting := s.fw.waiting ++ [(.tunnel dst tag, packet)] } }
      else (stkFragments 0x30 dst tag packet s).foldl (fun s m => stkDeliver m s) s)

/-- STK_PORT_INFO (0x0504): for S0 to S3, STATE, ROLE, partner UID, ID, port and depth. -/
def execStkPortInfo (via : Origin) (s : State) : Host.Outcome State Fault Refusal :=
  .next (command via 0x0504 s fun s =>
    reply via 0x0504 0x00 (allStk.flatMap fun p =>
      let x := s.stk p
      let h := x.partner
      beBytes 1 x.state.code ++ beBytes 1 x.role.code ++ beBytes 8 (match h with | some h => h.uid.toNat | none => 0)
        ++ beBytes 2 (match h with | some h => h.id | none => 0xFFFF) ++ beBytes 1 (match h with | some h => h.port | none => 0xFF)
        ++ beBytes 1 (match h with | some h => h.depth | none => 0xFF)) s)

/-- STK_FREC_READ (0x0505): records are returned oldest first and removed. -/
def execStkFrecRead (via : Origin) (count : Nat) (s : State) : Host.Outcome State Fault Refusal :=
  .next (command via 0x0505 s fun s =>
    if count < 1 || 32 < count then reply via 0x0505 0x03 [] s
    else if !s.isMaster then reply via 0x0505 0x07 [] s
    else
      let l := s.stack.recs.take count
      reply via 0x0505 0x00 (beBytes 1 l.length ++ l.flatMap AggEntry.bytes)
        { s with stack := { s.stack with recs := s.stack.recs.drop count } })

end Sys2Proof.Machine
end

