-- ==== Sys2Proof/Machine/Calibration.lean ====
section
/-!
DEFINITION. Calibration (R283 to R307): the limits record, the judging of data-path and timing-path results, DAC cell
selection, CTLE steps, the calibration commands and the stored set.
-/
namespace Sys2Proof.Machine

/-! ### The limits record -/

/-- The defaults of Table 11.2 and of R288, R289 and R294, in the units of Table 15.9a, with the record's own design values. -/
def Limits.defaults (l : Limits) : Limits :=
  { l with sliceOfs := (32, 4), sliceGain := (80, 10), sliceSkew := (40, 6), compNoise := 60, dacInUse := 30, ctlePeak := 3,
           ctleTrim := 12, distRef := 150, tsLat := 300, skDeskew := 600, dacHyst := 3, ctlePer := 8, ctleHi := 350,
           ctleLo := 80, quiet := 3 }

/-- A number lies within a span. -/
def within (lo hi x : Nat) : Bool := decide (lo ≤ x) && decide (x ≤ hi)

/-- Every limit of the record lies in the span Table 11.2 allows (R285). -/
def Limits.inSpan (l : Limits) : Bool :=
  within 8 127 l.sliceOfs.1 && within 20 127 l.sliceGain.1 && within 10 127 l.sliceSkew.1 && within 30 120 l.compNoise
    && within 10 60 l.dacInUse && within 1 8 l.ctlePeak && within 4 31 l.ctleTrim && within 50 500 l.distRef
    && within 100 1000 l.tsLat && within 200 2000 l.skDeskew

/-- The limits put in force: the record, or as a whole the defaults (R285). -/
def Limits.inForce (l : Limits) : Limits := if l.inSpan then l else l.defaults

/-- The record as its 64 bytes (Table 15.9a). -/
def Limits.bytes (l : Limits) : List Byte :=
  beBytes 2 l.sliceOfs.1 ++ beBytes 2 l.sliceOfs.2 ++ beBytes 2 l.sliceGain.1 ++ beBytes 2 l.sliceGain.2
    ++ beBytes 2 l.sliceSkew.1 ++ beBytes 2 l.sliceSkew.2 ++ beBytes 2 l.compNoise ++ beBytes 2 l.dacInUse
    ++ beBytes 1 l.ctlePeak ++ beBytes 1 l.ctleTrim ++ beBytes 2 l.distRef ++ beBytes 2 l.tsLat ++ beBytes 2 l.skDeskew
    ++ beBytes 2 l.distDesign ++ beBytes 2 l.tsTxDesign ++ beBytes 2 l.tsRxDesign ++ beBytes 2 (unsigned 16 l.skDesign)
    ++ beBytes 1 l.dacHyst ++ beBytes 1 l.ctlePer ++ beBytes 2 l.ctleHi ++ beBytes 2 l.ctleLo ++ beBytes 1 l.quiet
    ++ List.replicate 25 0

/-! ### Judging results -/

/-- The last result of a lane, a rejection counted in CAL_LANE_CNT.REJECT (R284, Table 11.16). -/
def Lane.calResult (l : Lane) (item result : Nat) : Lane :=
  { l with cal := { l.cal with lastItem := item, lastResult := result,
                               cntReject := if result = 2 || result = 3 then satAdd 8 l.cal.cntReject 1 else l.cal.cntReject } }

/-- A slice result within the absolute limits, its comparator's noise too (R284, R70). -/
def Limits.sliceOk (l : Limits) (ofs gain skew : Int) (noise : Nat) : Bool :=
  decide (ofs.natAbs ≤ l.sliceOfs.1) && decide (gain.natAbs ≤ l.sliceGain.1) && decide (skew.natAbs ≤ l.sliceSkew.1)
    && decide (noise ≤ l.compNoise)

/-- A slice result within the step limits of its previous accepted result (R284). -/
def Limits.sliceStepOk (l : Limits) (old new : Int × Int × Int) : Bool :=
  decide ((new.1 - old.1).natAbs ≤ l.sliceOfs.2) && decide ((new.2.1 - old.2.1).natAbs ≤ l.sliceGain.2)
    && decide ((new.2.2 - old.2.2).natAbs ≤ l.sliceSkew.2)

/-- Slices not retired (Table 3.3). -/
def Slices.usable (x : Slices) : Nat := 68 - x.retired.length

/-- Rotation stops at 64 usable slices (Table 3.3, RX_ROT_STAT.STOPPED). -/
def Slices.stopped (x : Slices) : Bool := decide (x.usable ≤ 64)

/-- A failed calibration of a slice is counted; the third in a row retires it, if it is out of service (R71). -/
def Slices.countFail (x : Slices) (k : Nat) : Slices × Bool :=
  let n := x.fails.getD k 0 + 1
  let x := { x with fails := listUpd x.fails k fun _ => n }
  if 3 ≤ n && !x.pos.contains k then
    ({ x with retired := x.retired ++ [k], reserve := x.reserve.erase k }, true)
  else (x, false)

/-- The slice in calibration fails (R71): it goes to reserve or is retired, and a reserve slice takes its place. The reserve is a queue: the
slice longest in it is taken (DESIGN CHOICE: R71 does not say which reserve slice; log entry 116). -/
def Slices.failInCal (x : Slices) : Slices :=
  let k := x.inCal
  let r := x.countFail k
  let y := { r.1 with calDone := false }
  match y.reserve with
  | [] => y
  | m :: rest => { y with inCal := m, reserve := if r.2 then rest else rest ++ [k] }

/-- A slice fails a foreground calibration (R71, R291): in calibration as above; in service, a reserve slice takes its position
if there is one; in reserve, it stays there. -/
def Slices.failForeground (x : Slices) (k : Nat) : Slices :=
  if x.inCal = k then x.failInCal
  else if x.pos.contains k then
    match x.reserve with
    | [] => (x.countFail k).1
    | m :: rest =>
      let y := ({ x with pos := x.pos.map fun j => if j = k then m else j, reserve := rest } : Slices).countFail k
      if y.2 then y.1 else { y.1 with reserve := y.1.reserve ++ [k] }
  else (x.countFail k).1

/-- A slice's accepted values are put in force (R69, R70, R284): the calibrated ones cal, its trims t and its comparator. -/
def Slices.accept (x : Slices) (k : Nat) (cal t : Int × Int × Int) (c : Nat) : Slices :=
  { x with trims := listUpd x.trims k fun _ => t, results := listUpd x.results k fun _ => cal, comparator := listUpd x.comparator k fun _ => c % 4,
           fails := listUpd x.fails k fun _ => 0 }

/-- ADC_SPARE is live while the rotation of a lane is stopped (Table 3.3). -/
def checkSpare (p : PortId) (n : LaneId) (s : State) : State :=
  setCondUp .adcSpare (.lane p n) n.val ((s.lane p n).rx.slices.stopped) s

/-- The larger of two DAC cell errors: by size, and of equal sizes the higher index (R288). -/
def worseCell (e : List Int) (a b : Nat) : Bool :=
  let x := (e.getD a 0).natAbs
  let y := (e.getD b 0).natAbs
  decide (y < x) || (decide (x = y) && decide (b < a))

/-- The cells of a list from the worst to the best. -/
def cellsByError (e : List Int) (l : List Nat) : List Nat := sortBy (fun a b => worseCell e a b) l

/-- The candidate retires the two cells with the largest error (R288). -/
def dacCandidate (e : List Int) : List Nat := (cellsByError e (List.range 9)).take 2

/-- The largest error of the cells in use when two are retired. -/
def dacWorst (e : List Int) (retired : List Nat) : Nat :=
  ((List.range 9).filter fun i => !retired.contains i).foldl (fun a i => Nat.max a (e.getD i 0).natAbs) 0

/-- Replace one retired cell by another (R47). -/
def swapCell (sel : Nat × Nat) (back out : Nat) : Nat × Nat :=
  (if sel.1 = back then out else sel.1, if sel.1 ≠ back && sel.2 = back then out else sel.2)

/-- The exchanges that lead to a candidate, one cell each (R288). -/
def dacExchanges (e : List Int) (sel : Nat × Nat) (cand : List Nat) : List (Nat × Nat) :=
  let out := cellsByError e (cand.filter fun c => c ≠ sel.1 && c ≠ sel.2)
  let back := sortBy (fun a b => decide (a ≤ b)) ([sel.1, sel.2].filter fun c => !cand.contains c)
  match out, back with
  | [o], b :: _ => [swapCell sel b o]
  | o :: o2 :: _, b :: b2 :: _ =>
    let first := swapCell sel b o
    [first, swapCell first b2 o2]
  | _, _ => []

/-- How a DAC cell measurement is judged (R288): rejected by plausibility, by exhaustion, or accepted. -/
inductive DacVerdict where
  | sense | exhausted | kept (worst : Nat) | adopted (worst : Nat) (steps : List (Nat × Nat))
deriving DecidableEq, Repr

/-- Steps 1 to 4 of R288. -/
def dacJudge (l : Limits) (hyst : Nat) (sel : Nat × Nat) (e : List Int) : DacVerdict :=
  let cand := dacCandidate e
  let now := dacWorst e [sel.1, sel.2]
  let new := dacWorst e cand
  if e.any fun x => decide (100 < x.natAbs) then .sense
  else if l.dacInUse < new then .exhausted
  else if new + hyst ≤ now && !(dacExchanges e sel cand).isEmpty then .adopted new (dacExchanges e sel cand)
  else .kept now

/-- The mean of two runs, rounded to the unit (R292); which way a half goes is a free value. -/
def meanRound (a b : Int) : Int :=
  if (a + b) % 2 = 0 then (a + b) / 2 else (a + b) / 2 + (if Config.roundTie (a + b) then 1 else 0)

/-- A pair of timing-path runs: 0x3 where they disagree, 0x2 where the mean is implausible, 0x1 with the mean (R292). -/
def timingJudge (tol lim : Nat) (design a b : Int) : Nat × Int :=
  if tol < (a - b).natAbs then (3, 0)
  else
    let m := meanRound a b
    if lim < (m - design).natAbs then (2, 0) else (1, m)

/-! ### CAL_RUN -/

/-- The port items of Table 11.1: ADC_FG, DAC_FG, CTLE_TRIM, DIST_REF, TS_LAT. -/
def calPortItems (items : Nat) : List Nat := [2, 4, 6, 7, 8].filter fun i => items.testBit i

/-- The ports a mask names. -/
def maskPortList (m : Nat) : List PortId := allPorts.filter fun p => m.testBit p.val

/-- A port is held by a CAL_RUN (R297). -/
def State.calHolds (s : State) (p : PortId) : Bool :=
  match s.cal.run with
  | some r => r.ports.contains p && !(calPortItems r.items).isEmpty
  | none => false

/-- A diagnostic tone or a capture uses one of the lanes of a mask (R297). -/
def diagUses (s : State) (p : PortId) (lanes : Nat) : Bool :=
  ((s.port p).diag.toneSaved.any fun x => lanes.testBit x.1)
    || (decide (s.cap.outcome = .running) && decide (s.cap.port = some p) && decide (s.cap.laneMask &&& lanes ≠ 0))

/-- CAL_RUN (0x0201, R297). -/
def execCalRun (via : Origin) (ports : BitVec 96) (lanes : BitVec 8) (stk : BitVec 4) (items : BitVec 16) (s : State) :
    Host.Outcome State Fault Refusal :=
  .next (command via 0x0201 s fun s =>
    let ps := maskPortList ports.toNat
    let its := calPortItems items.toNat
    let portWork := !its.isEmpty && !ps.isEmpty && (decide (lanes ≠ 0) || its.contains 8)
    let sk := items.getLsbD 9
    if ps.any fun p => s.part.hasPort p && !s.portOpen p then reply via 0x0201 0x04 [] s
    else if (!portWork && !sk) || (ps.any fun p => !s.part.hasPort p) || (sk && decide (stk = 0)) then
      reply via 0x0201 0x03 [] s
    else if !its.isEmpty && ps.any fun p => !(s.port p).idleDown || diagUses s p lanes.toNat then reply via 0x0201 0x07 [] s
    else if s.cal.run.isSome then reply via 0x0201 0x01 [] s
    else
      let r : CalRunning :=
        { origin := via, ports := ps, laneMask := lanes.toNat, stkMask := if sk then stk.toNat else 0, items := items.toNat }
      { s with cal := { s.cal with run := some r } })

/-- The counts of results a CAL_RUN replies: accepted, implausible, disagreeing, skipped; and those aborted, which the reply does not
count and which keep its status from OK (R297). -/
structure CalTally where
  ok : Nat
  bad : Nat
  differ : Nat
  skip : Nat
  cut : Nat
deriving DecidableEq, Repr

/-- One more result. -/
def CalTally.add (t : CalTally) (r : Nat) : CalTally :=
  match r with
  | 1 => { t with ok := t.ok + 1 }
  | 2 => { t with bad := t.bad + 1 }
  | 3 => { t with differ := t.differ + 1 }
  | 6 => { t with skip := t.skip + 1 }
  | 5 => { t with cut := t.cut + 1 }
  | _ => t

/-- The input was active (R294): a detection, an RMS above CAL_QUIET, or a detector more than 6 dB above its level at the start
(10^0.6 in power). -/
def Listen.active (x : Listen) (quiet : Nat) : Bool :=
  x.detected || decide (quiet * quiet * x.codes.length < (x.codes.map fun c => (c * c).natAbs).sum)
    || x.power.any fun w => decide (1000 * w.1 ^ 5 < w.2 ^ 5)

/-- The item code of a measurement. -/
def CalMeas.item : CalMeas → Nat
  | .adcFg .. => 2 | .dacFg .. => 4 | .ctleTrim .. => 6 | .distRef .. => 7 | .tsLat .. => 8 | .skDeskew .. => 9
  | .listen _ _ i _ => i

/-- A CAL_RUN names the resource of a measurement. -/
def CalRunning.names (r : CalRunning) (m : CalMeas) : Bool :=
  r.items.testBit m.item &&
    match m with
    | .adcFg p n _ | .dacFg p n _ | .ctleTrim p n _ | .distRef p n .. | .listen p n _ _ =>
      r.ports.contains p && r.laneMask.testBit n.val
    | .tsLat p .. => r.ports.contains p
    | .skDeskew q _ => r.stkMask.testBit q.val

/-- The reference check of a port's pod has failed, so its slice calibrations are rejected (R408). -/
def refCheckBad (s : State) (p : PortId) : Bool := (fltGet .refCheckPod (.pod (podOf p)) s).real

/-- The comparator of R70 among (residual offset, noise): the smallest residual within the noise limit, ties to the lower index. -/
def chooseComparator (limit : Nat) (l : List (Int × Nat)) : Option Nat :=
  ((l.take 4).zipIdx.filter fun x => decide (x.1.2 ≤ limit)).foldl (fun b x =>
    match b with
    | none => some (x.2, x.1.1.natAbs)
    | some y => if x.1.1.natAbs < y.2 then some (x.2, x.1.1.natAbs) else some y) none |>.map fun x => x.1

/-- ADC_FG of a lane (R291): each slice that passes takes its values, each that fails goes to reserve. -/
def applyAdcFg (p : PortId) (n : LaneId) (slices : List (Int × Int × Int × List (Int × Nat))) (s : State) : State × Nat :=
  let lim := s.boot.limits
  let old := (s.lane p n).rx.slices
  let step := fun (acc : Slices × Nat) (c : (Int × Int × Int × List (Int × Nat)) × Nat) =>
    let v := c.1
    let k := c.2
    if old.retired.contains k || 68 ≤ k then acc
    else if (chooseComparator lim.compNoise v.2.2.2).isSome && lim.sliceOk v.1 v.2.1 v.2.2.1 0 && !refCheckBad s p then
      (acc.1.accept k (v.1, v.2.1, v.2.2.1) (v.1, v.2.1, v.2.2.1) ((chooseComparator lim.compNoise v.2.2.2).getD 0), acc.2)
    else (acc.1.failForeground k, acc.2 + 1)
  let r := slices.zipIdx.foldl step (old, 0)
  let res := if r.2 = 0 then 1 else 2
  let s := s.modLane p n fun l =>
    let l := { l with rx := { l.rx with slices := r.1 } }
    let l := l.calResult 2 res
    { l with cal := { l.cal with cntReject := satAdd 8 l.cal.cntReject (r.2 - 1) } }
  (checkSpare p n s, res)

/-- DAC_FG of a lane (R291): no hysteresis, and the selection in force at once, in place of an exchange that waited. -/
def applyDacFg (p : PortId) (n : LaneId) (e : List Int) (s : State) : State × Nat :=
  let l := s.lane p n
  match dacJudge s.boot.limits 0 (l.tx.retireA, l.tx.retireB) e with
  | .sense => (s.modLane p n fun l => l.calResult 4 2, 2)
  | .exhausted => (raise .dacCell (.lane p n) n.val (s.modLane p n fun l => l.calResult 4 2), 2)
  | .kept w => (s.modLane p n fun l =>
      let l := l.calResult 4 1
      { l with cal := { l.cal with dacErr := e, dacWorst := w } }, 1)
  | .adopted w steps =>
    let sel := steps.getLastD (l.tx.retireA, l.tx.retireB)
    (s.modLane p n fun l =>
      let l := l.calResult 4 1
      { l with cal := { l.cal with dacErr := e, dacWorst := w, cntDac := satAdd 8 l.cal.cntDac steps.length,
                                     dacNext := none },
               tx := { l.tx with retireA := sel.1, retireB := sel.2, cellNext := none } }, 1)

/-- The result that a lane records of several (R292): a disagreement, else a rejection by plausibility, else accepted. -/
def worstResult (l : List Nat) : Nat := if l.contains 3 then 3 else if l.contains 2 then 2 else 1

/-- One measurement is judged and, accepted, put in force (R291, R292, R293), with its results. Each pair of DIST_REF and each data lane of
SK_DESKEW is a resource of its own (Table 11.4). -/
def applyMeas (m : CalMeas) (s : State) : State × List Nat :=
  let lim := s.boot.limits
  match m with
  | .adcFg p n slices => let x := applyAdcFg p n slices s; (x.1, [x.2])
  | .dacFg p n e => let x := applyDacFg p n e s; (x.1, [x.2])
  | .ctleTrim p n v =>
    let r := if v.natAbs ≤ lim.ctleTrim then 1 else 2
    (s.modLane p n fun l =>
      let l := l.calResult 6 r
      if r = 1 then { l with cal := { l.cal with ctleTrim := v, trimMeas := true } } else l, [r])
  | .distRef p n tx1 rx1 tx2 rx2 =>
    let a := timingJudge 20 lim.distRef lim.distDesign tx1 tx2
    let b := timingJudge 20 lim.distRef lim.distDesign rx1 rx2
    (s.modLane p n fun l =>
      let l := l.calResult 7 (worstResult [a.1, b.1])
      { l with cal := { l.cal with distTx := if a.1 = 1 then a.2.toNat else l.cal.distTx,
                                   distRx := if b.1 = 1 then b.2.toNat else l.cal.distRx,
                                   distMeas := l.cal.distMeas || decide (a.1 = 1) || decide (b.1 = 1) } }, [a.1, b.1])
  | .tsLat p tx1 rx1 tx2 rx2 =>
    let a := timingJudge 10 lim.tsLat lim.tsTxDesign tx1 tx2
    let b := timingJudge 10 lim.tsLat lim.tsRxDesign rx1 rx2
    let r := worstResult [a.1, b.1]
    let s := s.modLane p 0 fun l => l.calResult 8 r
    (if r = 1 then s.modPort p fun q =>
      { q with time := { q.time with latTx := a.2.toNat, latRx := b.2.toNat, latMeas := true } } else s, [r])
  | .skDeskew q runs =>
    match runs with
    | none => (s, [5])
    | some (x, y) =>
      let js := (List.range 4).map fun d => timingJudge 5 lim.skDeskew lim.skDesign (x.getD d 0) (y.getD d 0)
      (s.modStk q fun z =>
        { z with deskewTo := js.zipIdx.map fun j => if j.1.1 = 1 then j.1.2 else z.deskewTo.getD j.2 0,
                 deskewMeas := z.deskewMeas || js.any fun j => decide (j.1 = 1) }, js.map Prod.fst)
  | .listen .. => (s, [])

/-- The stack ports of an SK_DESKEW item that are not up (R297). -/
def skippedStk (r : CalRunning) (s : State) : Nat :=
  allStk.countP fun q => r.stkMask.testBit q.val && decide ((s.stk q).state ≠ .up)

/-- CAL_RUN_DONE (R291 to R298): the measurements are judged in ascending item code, what is accepted is applied, and the command
replies; an active input changes nothing but the lanes' last result (R295). -/
def execCalRunDone (meas : List CalMeas) (us : Nat) (s : State) : Host.Outcome State Fault Refusal :=
  .next (
    match s.cal.run with
    | none => s
    | some r =>
      let ms := sortBy (fun a b => decide (a.item ≤ b.item)) (meas.filter r.names)
      let act := ms.filter fun m => match m with | .listen _ _ _ x => x.active s.boot.limits.quiet | _ => false
      let s := { s with cal := { s.cal with run := none } }
      if !act.isEmpty then
        let s := act.foldl (fun s m => match m with
          | .listen p n i _ => s.modLane p n fun l => l.calResult i 4
          | _ => s) s
        reply r.origin 0x0201 0x0A [] s
      else
        let ms := ms.filter fun m => match m with | .skDeskew q _ => decide ((s.stk q).state = .up) | _ => true
        let skip := skippedStk r s
        let out := ms.foldl (fun (acc : State × CalTally) m =>
          let x := applyMeas m acc.1
          (x.1, x.2.foldl CalTally.add acc.2)) (s, { ok := 0, bad := 0, differ := 0, skip := skip, cut := 0 })
        let t := out.2
        let st := if t.bad = 0 && t.differ = 0 && t.skip = 0 && t.cut = 0 then 0x00 else 0x08
        reply r.origin 0x0201 st
          (beBytes 2 t.ok ++ beBytes 2 t.bad ++ beBytes 2 t.differ ++ beBytes 2 t.skip ++ beBytes 4 us) out.1)

/-! ### Background results -/

/-- DAC_MEASURE_DONE (R287, R288): the measurement of a lane in DATA is judged; an adopted selection goes in one exchange at a
time under R47. -/
def execDacMeasureDone (p : PortId) (n : LaneId) (e : List Int) (s : State) : Host.Outcome State Fault Refusal :=
  .next (
    let q := s.port p
    let l := s.lane p n
    if l.tx.state ≠ .data || q.link.state = .quiet || !bitOf (l.act .calLaneCtrl) 0 || decide (l.cal.dacFolios < 16) then s
    else if l.tx.cellNext.isSome || l.cal.dacNext.isSome then
      s.modLane p n fun l => { l with cal := { l.cal with dacFolios := 0 } }
    else
      let s := s.modLane p n fun l => { l with cal := { l.cal with dacFolios := 0 } }
      match dacJudge s.boot.limits s.boot.limits.dacHyst (l.tx.retireA, l.tx.retireB) e with
      | .sense => s.modLane p n fun l => l.calResult 3 2
      | .exhausted => raise .dacCell (.lane p n) n.val (s.modLane p n fun l => l.calResult 3 2)
      | .kept w => s.modLane p n fun l =>
          let l := l.calResult 3 1
          { l with cal := { l.cal with dacErr := e, dacWorst := w } }
      | .adopted w steps => s.modLane p n fun l =>
          let l := l.calResult 3 1
          { l with cal := { l.cal with dacErr := e, dacWorst := w, dacNext := steps[1]? },
                   tx := { l.tx with cellNext := steps.head? } })

/-- A live change of a lane in TRACK may take effect at the next folio boundary (R92, R93): 16 slots after the last one, not
within 16 slots of a pending exchange of the lane's transmitter in native duplex, and in QUIET only inside a window. -/
def liveAllowed (s : State) (p : PortId) (n : LaneId) : Bool :=
  let q := s.port p
  let l := s.lane p n
  let toAlign := (4096 - q.code.slotCnt % 4096) % 4096
  decide (16 ≤ l.rx.sinceChange) && !(decide (q.modeRate.1 = 2) && l.tx.cellNext.isSome && decide (toAlign < 16))
    && (decide (q.link.state ≠ .quiet) || q.link.inWindow)

/-- A slice swap is due on a lane (R68). -/
def swapDue (l : Lane) : Bool :=
  bitOf (l.act .rxRotCtrl) 16 && l.rx.slices.calDone && !l.rx.slices.stopped
    && decide (bits (l.act .rxRotCtrl) 15 0 ≤ l.rx.slices.sinceSwap)

/-- The CTLE steps by one, within 0 to 31 (R64). -/
def stepPeak (peak : Nat) (d : Int) : Nat := (((peak : Int) + d).toNat).min 31

/-- CTLE_STEP_APPLY (R90, R92, R289, R290): the decided step takes effect and sets HELD, which suppresses a reversion that was due. -/
def execCtleStepApply (p : PortId) (n : LaneId) (s : State) : Host.Outcome State Fault Refusal :=
  .next (
    let l := s.lane p n
    match l.cal.ctleDue with
    | none => s
    | some (d, _) =>
      if l.rx.phase ≠ .track || !liveAllowed s p n || swapDue l then s
      else s.modLane p n fun l =>
        { l with rx := { l.rx with peak := stepPeak l.rx.peak d, held := true, revDue := false, sinceChange := 0 },
                 cal := { l.cal with ctleDue := none, cntCtle := satAdd 8 l.cal.cntCtle 1 } })

/-- A step is reverted (R290): the opposite step falls due, and evaluation is suppressed. -/
def Lane.ctleRevert (l : Lane) (d : Int) : Lane :=
  { l with cal := { l.cal with ctleDue := some (-d, true), ctleCheck := none, ctleFrozen := true,
                               cntRevert := satAdd 8 l.cal.cntRevert 1 } }

/-- CTLE_CHECK_TIMEOUT (R290): four alignment periods without a verified-good point revert the step. -/
def execCtleCheckTimeout (p : PortId) (n : LaneId) (s : State) : Host.Outcome State Fault Refusal :=
  .next (
    let l := s.lane p n
    match l.cal.ctleCheck with
    | some (_, d) => if l.cal.ctleDue.isNone && decide (l.rx.phase = .track) then s.modLane p n fun l => l.ctleRevert d else s
    | none => s)

/-- CTLE_FREEZE_END (R290): 64 alignment periods after a reversion evaluation runs again. -/
def execCtleFreezeEnd (p : PortId) (n : LaneId) (s : State) : Host.Outcome State Fault Refusal :=
  .next (s.modLane p n fun l => { l with cal := { l.cal with ctleFrozen := false } })

/-! ### The stored set -/

/-- The values of a lane as a set stores them (Table 11.8). -/
def Lane.calValues (l : Lane) : CalLane :=
  { slices := (List.range 68).map fun k =>
      let t := l.rx.slices.trims.getD k (0, 0, 0)
      (t.1, t.2.1, t.2.2, l.rx.slices.comparator.getD k 0),
    retireA := l.tx.retireA, retireB := l.tx.retireB, trim := l.cal.ctleTrim, distTx := l.cal.distTx, distRx := l.cal.distRx,
    distMeas := l.cal.distMeas, trimMeas := l.cal.trimMeas }

/-- SEQ_X + 1, skipping 0 and 0xFFFF_FFFF (R303); 1 with no set in force. -/
def nextSeq (c : CalSt) : Nat :=
  if c.inForce = 0 then 1
  else
    let n := (c.seq + 1) % 2 ^ 32
    if n = 0 || n = 2 ^ 32 - 1 then 1 else n

/-- The snapshot of step 1 of R303. -/
def calSnapshot (s : State) : CalSet :=
  { seq := nextSeq s.cal, source := 2, origin := 2, part := s.part.code, uid := Config.uid,
    stored := timeSec s.time,
    deskew := allStk.flatMap fun q => (s.stk q).deskewTo,
    skMeas := maskOf 4 fun i => getNat (s.stack.ports.map StkPort.deskewMeas) i false,
    ports := allPorts.map fun p => ((s.port p).time.latTx, (s.port p).time.latRx, (s.port p).time.latMeas),
    lanes := allPorts.flatMap fun p => allLanes.map fun n => (s.lane p n).calValues }

/-- The bytes of a lane record (Table 11.8). -/
def CalLane.bytes (c : CalLane) : List Byte :=
  (c.slices.flatMap fun x =>
    beBytes 1 (unsigned 8 x.1) ++ beBytes 1 (unsigned 8 x.2.1) ++ beBytes 1 (unsigned 8 x.2.2.1) ++ beBytes 1 (x.2.2.2 % 4))
  ++ beBytes 1 (c.retireB % 16 * 16 + c.retireA % 16) ++ beBytes 1 (unsigned 8 c.trim) ++ beBytes 2 c.distTx
  ++ beBytes 2 c.distRx ++ beBytes 1 (b2n c.distMeas + 2 * b2n c.trimMeas) ++ List.replicate 41 0

/-- The body of a set, offsets 0x40 to 0x3_C7FF (Table 11.8). -/
def CalSet.body (c : CalSet) : List Byte :=
  let on := fun (p : Nat) => c.part ≠ 3 || decide (p < 48)
  (c.deskew.flatMap fun d => beBytes 2 (unsigned 16 d)) ++ beBytes 1 c.skMeas ++ List.replicate 159 0
  ++ (c.ports.zipIdx.flatMap fun x =>
    if on x.2 then beBytes 2 x.1.1 ++ beBytes 2 x.1.2.1 ++ beBytes 1 (b2n x.1.2.2) ++ List.replicate 11 0
    else List.replicate 16 0)
  ++ List.replicate 256 0
  ++ (c.lanes.zipIdx.flatMap fun x => if on (x.2 / 8) then x.1.bytes else List.replicate 320 0)

/-- The header of a committed set (Table 11.9a). -/
def CalSet.header (c : CalSet) : List Byte :=
  beBytes 4 0x4D4C4243 ++ beBytes 2 1 ++ beBytes 1 (c.origin * 16 + c.source) ++ beBytes 1 c.part ++ beBytes 8 c.uid.toNat
    ++ beBytes 4 c.seq ++ beBytes 4 0x0003C7C0 ++ beBytes 4 (crc32 c.body).toNat ++ beBytes 6 c.stored
    ++ List.replicate 26 0xFF ++ beBytes 4 0x5A3C96E1

/-- A whole sector of a committed set. -/
def CalSet.bytes (c : CalSet) : List Byte := c.header ++ c.body ++ List.replicate 14336 0xFF

/-- A signed field of bytes. -/
def beInt (l : List Byte) : Int := signed (8 * l.length) (beNat l)

/-- A lane record read back. -/
def calLaneParse (l : List Byte) : CalLane :=
  { slices := (chunks 4 68 (l.take 272)).map fun x =>
      (beInt (x.take 1), beInt ((x.drop 1).take 1), beInt ((x.drop 2).take 1), beNat ((x.drop 3).take 1) % 4),
    retireA := beNat ((l.drop 272).take 1) % 16, retireB := beNat ((l.drop 272).take 1) / 16,
    trim := beInt ((l.drop 273).take 1), distTx := beNat ((l.drop 274).take 2), distRx := beNat ((l.drop 276).take 2),
    distMeas := (beNat ((l.drop 278).take 1)).testBit 0, trimMeas := (beNat ((l.drop 278).take 1)).testBit 1 }

/-- A staged set checked and read (R301, R305): MAGIC, FORMAT, LENGTH, the CRC over the body, and the device's own UID. -/
def calParse (l : List Byte) : Option CalSet :=
  let body := (l.drop 0x40).take 0x3C7C0
  let f := fun (a n : Nat) => beNat ((l.drop a).take n)
  if f 0 4 = 0x4D4C4243 && f 4 2 = 1 && f 20 4 = 0x0003C7C0 && decide (f 24 4 = (crc32 body).toNat)
      && decide (f 8 8 = Config.uid.toNat) then
    some { seq := f 16 4, source := f 6 1 % 16, origin := f 6 1 / 16, part := f 7 1, uid := Config.uid, stored := f 28 6,
           deskew := (chunks 2 16 (body.take 32)).map beInt, skMeas := f 0x60 1 % 16,
           ports := (chunks 16 96 ((l.drop 0x100).take 0x600)).map fun x =>
             (beNat (x.take 2), beNat ((x.drop 2).take 2), (beNat ((x.drop 4).take 1)).testBit 0),
           lanes := (chunks 320 768 ((l.drop 0x800).take 0x3C000)).map calLaneParse }
  else none

/-- The sector of a number: 1 A, 2 B. -/
def CalSt.sector (c : CalSt) (n : Nat) : CalSector := if n = 1 then c.secA else c.secB
/-- Replace a sector. -/
def CalSt.setSector (c : CalSt) (n : Nat) (x : CalSector) : CalSt := if n = 1 then { c with secA := x } else { c with secB := x }
/-- The sector a store writes: the other one, or A with none in force (R303). -/
def CalSt.otherSector (c : CalSt) : Nat := if c.inForce = 1 then 2 else 1
/-- CAL_STAT.OLD_VALID: the other sector still holds a valid set (R302, R303). -/
def CalSt.oldValid (c : CalSt) : Bool := decide (c.inForce ≠ 0) && (c.sector c.otherSector).set.isSome

/-- A store or an import is writing the flash (CAL_STAT.STORE_BUSY). -/
def State.storeBusy (s : State) : Bool :=
  match s.boot.job with
  | some j => decide (j.op = FlashOp.calStore) || decide (j.op = FlashOp.calImport)
  | none => false

/-- A set starts on its way to the other sector: an erase unless the sector is blank (R303 steps 2 and 3). -/
def startStore (op : FlashOp) (via : Origin) (opcode : Nat) (c : CalSet) (s : State) : State :=
  let y := s.cal.otherSector
  let j : FlashJob := { op := op, stage := if (s.cal.sector y).blank then 3 else 2, origin := via, opcode := opcode }
  { s with cal := { s.cal with writing := some c, target := y }, boot := { s.boot with job := some j } }

/-- CAL_STORE (0x0202, R303). -/
def execCalStore (via : Origin) (s : State) : Host.Outcome State Fault Refusal :=
  .next (command via 0x0202 s fun s =>
    if s.boot.job.isSome then reply via 0x0202 0x01 [] s
    else startStore FlashOp.calStore via 0x0202 (calSnapshot s) s)

/-- CAL_EXPORT (0x0203, R305). -/
def execCalExport (via : Origin) (chunk : Nat) (s : State) : Host.Outcome State Fault Refusal :=
  .next (command via 0x0203 s fun s =>
    if 127 < chunk then reply via 0x0203 0x03 [] s
    else
      match (if s.cal.inForce = 0 then none else (s.cal.sector s.cal.inForce).set) with
      | none => reply via 0x0203 0x07 [] s
      | some c =>
        if s.storeBusy then reply via 0x0203 0x01 [] s
        else reply via 0x0203 0x00 ((c.bytes.drop (chunk * 2048)).take 2048) s)

/-- The staging buffer with a chunk added, one copy of each. -/
def stageChunk (l : List (Nat × List Byte)) (chunk : Nat) (data : List Byte) : List (Nat × List Byte) :=
  (chunk, data) :: l.filter fun c => c.1 ≠ chunk

/-- The bytes of the staging buffer when all 128 chunks have arrived. -/
def stagedBytes (l : List (Nat × List Byte)) : Option (List Byte) :=
  if (List.range 128).all fun i => l.any fun c => decide (c.1 = i) then
    some ((List.range 128).flatMap fun i => ((l.find? fun c => decide (c.1 = i)).map fun c => c.2).getD [])
  else none

/-- CAL_IMPORT (0x0204, R305). -/
def execCalImport (via : Origin) (chunk : Nat) (data : List Byte) (last : Bool) (s : State) :
    Host.Outcome State Fault Refusal :=
  .next (command via 0x0204 s fun s =>
    if 127 < chunk || data.length ≠ 2048 then reply via 0x0204 0x03 [] s
    else if s.boot.job.isSome then reply via 0x0204 0x01 [] s
    else
      let l := stageChunk s.cal.staged chunk data
      if !last then reply via 0x0204 0x00 [] { s with cal := { s.cal with staged := l } }
      else
        let s := { s with cal := { s.cal with staged := [] } }
        match (stagedBytes l).bind calParse with
        | none => reply via 0x0204 0x03 [] s
        | some c =>
          let c := { c with seq := nextSeq s.cal, source := 3, stored := timeSec s.time }
          startStore FlashOp.calImport via 0x0204 c s)

/-- The end of a store or import with a reply (R303, R305). -/
def storeEnd (j : FlashJob) (status : Nat) (s : State) : State :=
  let seq := match s.cal.writing with | some c => c.seq | none => 0
  let body := if j.op = FlashOp.calStore && (status = 0x00 || status = 0x08) then beBytes 4 seq ++ beBytes 1 s.cal.target else []
  reply j.origin j.opcode status body { s with boot := { s.boot with job := none }, cal := { s.cal with writing := none } }

/-- One operation of a store or import ends, well or not (R303 steps 2 to 6). -/
def storeStep (j : FlashJob) (ok : Bool) (s : State) : State :=
  let y := s.cal.target
  let go := fun (n : Nat) (s : State) => { s with boot := { s.boot with job := some { j with stage := n } } }
  match j.stage with
  | 2 => if ok then go 3 { s with cal := s.cal.setSector y { set := none, blank := true } } else storeEnd j 0x09 s
  | 3 => go 4 { s with cal := s.cal.setSector y { set := none, blank := false } }
  | 4 => if ok then go 5 s else storeEnd j 0x09 s
  | 5 =>
    match (if ok then s.cal.writing else none) with
    | none => storeEnd j 0x09 s
    | some c =>
      let x := s.cal.inForce
      let s := { s with cal := { (s.cal.setSector y { set := some c, blank := false }) with
        inForce := y, source := c.source, seq := c.seq } }
      let s := ledgerAppend 0x20 c.source 0 (beBytes 4 c.seq ++ beBytes 1 y) s
      if x = 0 then storeEnd j 0x00 s else go 6 s
  | _ =>
    if ok then storeEnd j 0x00 { s with cal := s.cal.setSector (3 - y) { set := none, blank := true } }
    else storeEnd j 0x08 s

/-! ### Reading -/

/-- Values of one stage of a lane (Table 11.7): the anchor's where asked and covered. -/
def coefStage (s : State) (p : PortId) (n : LaneId) (stage : Nat) (anchor : Bool) : List Int :=
  let l := s.lane p n
  let c := if anchor then l.rx.anchor else l.rx.coefs
  match stage with
  | 0x0 => c.ffe
  | 0x1 => c.echo.take 384
  | 0x2 => (List.range 4).flatMap fun w =>
      ((l.rx.ecStart.getD w none).getD 0 : Int) :: ((c.echo.drop (384 + 64 * w)).take 64)
  | 0x3 => c.next
  | 0x4 => c.dfe
  | 0x5 => l.calValues.slices.flatMap fun x => [x.1, x.2.1, x.2.2.1, (x.2.2.2 : Int)]
  | 0x6 => l.cal.dacErr
  | 0x7 => [(l.rx.peak : Int), (l.rx.lf : Int), l.cal.ctleTrim, (l.cal.ctleTrained : Int)]
  | 0x8 => [(l.cal.distTx : Int), (l.cal.distRx : Int)]
  | 0x9 => [((s.port p).time.latTx : Int), ((s.port p).time.latRx : Int)]
  | _ => []

/-- Whether a stage is in use in the port's mode (R75, R79, R299). -/
def stageInUse (q : Port) (n : LaneId) (stage : Nat) : Bool :=
  match stage with
  | 0x1 | 0x2 => decide (q.modeRate.1 = 2)
  | 0x3 => !q.ieeeMode && bitOf (q.lanes[n.val].act .rxCtrl) 4
  | _ => true

/-- CAL_COEF_READ (0x0205, R299). -/
def execCalCoefRead (via : Origin) (port : Nat) (n : LaneId) (stage first count : Nat) (anchor : Bool) (s : State) :
    Host.Outcome State Fault Refusal :=
  .next (command via 0x0205 s fun s =>
    let send := fun (slot : Nat) (l : List Int) =>
      if l.length < first + count || 1024 < count then reply via 0x0205 0x03 [] s
      else reply via 0x0205 0x00
        (beBytes 2 slot ++ ((l.drop first).take count).flatMap fun v => beBytes 2 (unsigned 16 v)) s
    if stage = 0xA then
      if h : port < 4 then send 0 (s.stk ⟨port, h⟩).deskew else reply via 0x0205 0x03 [] s
    else if h : port < 96 then
      let p : PortId := ⟨port, h⟩
      if !s.part.hasPort p || 0x9 < stage then reply via 0x0205 0x03 [] s
      else if !s.portOpen p then reply via 0x0205 0x04 [] s
      else if !stageInUse (s.port p) n stage then reply via 0x0205 0x03 [] s
      else send ((s.port p).code.slotCnt % 65536) (coefStage s p n stage anchor)
    else reply via 0x0205 0x03 [] s)

/-- CAL_LIMITS_READ (0x0206, R285). -/
def execCalLimitsRead (via : Origin) (s : State) : Host.Outcome State Fault Refusal :=
  .next (command via 0x0206 s fun s => reply via 0x0206 0x00 s.boot.limits.bytes s)

end Sys2Proof.Machine
end

