-- ==== Sys2Proof/Machine/SelfTest.lean ====
section
/-!
DEFINITION. Self-test and repair (R395 to R416): memory BIST, fuse repair, loopbacks, pattern checkers, reference checks,
boundary scan and the authorisation of internal scan.
-/
namespace Sys2Proof.Machine

/-! ### Memory BIST -/

/-- Another packet of an opcode runs (R413). -/
def otherRuns (via : Origin) (opcode : Nat) (s : State) : Bool :=
  s.fw.running.any fun r => decide (r.opcode = opcode) && decide (r.origin ≠ via)

/-- The group of a code (Table 16.1). -/
def MemGroup.ofCode (n : Nat) : Option MemGroup := MemGroup.all.find? fun g => decide (g.code = n)

/-- The banks BIST_RUN names, in ascending group, pod and bank (R397). -/
def bistScope (pods : Nat) (hub : Bool) (groups banks : Nat) : List MemBank :=
  (MemGroup.all.filter fun g => groups.testBit g.code).flatMap fun g => g.allBanks.filter fun b =>
    banks.testBit b.bank && (if g.inPod then pods.testBit b.pod else hub)

/-- A bank may be tested now (Table 16.1, R397). -/
def bankFree (s : State) (b : MemBank) : Bool :=
  if b.group.inPod then b.ports.all fun p => (s.port p).idleDown
  else decide (b.group = .hubIndex) && decide (s.store.state = 0)

/-- A present bank of a pod whose windows are out of reach (R347). -/
def bankGated (s : State) (b : MemBank) : Bool :=
  b.present s.part && b.group.inPod && (if h : b.pod < 8 then !s.podOpen ⟨b.pod, h⟩ else false)

/-- A tested bank's contents come back to their reset contents (R397): the queues of elastic SRAM, the folios of replay SRAM,
the coefficients of lane memory. -/
def clearBank (b : MemBank) (s : State) : State :=
  b.ports.foldl (fun s p => s.modPort p fun q =>
    match b.group with
    | .podElastic => { q with spill := { q.spill with h2l := SpillQ.empty, l2h := SpillQ.empty }, lre := { q.lre with held := [] } }
    | .podReplay => { q with lre := { q.lre with replay := [] } }
    | .podLane => { q with lanes := mapIdx q.lanes fun _ l =>
        { l with rx := { l.rx with coefs := Coefs.zero, resid := Coefs.zero, anchor := Coefs.zero, anchorValid := false } } }
    | _ => q) s

/-- A port is held by a BIST_RUN (R397). -/
def State.bistHolds (s : State) (p : PortId) : Bool :=
  match s.test.bist with
  | some r => r.all.any fun b => b.ports.contains p
  | none => false

/-- The run goes on to its next bank, or ends with its reply. -/
def bistNext (r : BistRun) (s : State) : State :=
  match r.left with
  | [] => reply r.origin 0x0A01 (if r.partialF then 0x08 else 0x00) [] { s with test := { s.test with bist := none } }
  | b :: _ => clearBank b { s with test := { s.test with bist := some r } }

/-- BIST_RUN (0x0A01, R397 to R401). -/
def execBistRun (via : Origin) (pods : BitVec 8) (hub : Bool) (groups : BitVec 8) (banks : BitVec 16)
    (diag raw repair : Bool) (s : State) : Host.Outcome State Fault Refusal :=
  .next (command via 0x0A01 s fun s =>
    let scope := bistScope pods.toNat hub groups.toNat banks.toNat
    let here := scope.filter fun b => b.present s.part
    if here.any (bankGated s) then reply via 0x0A01 0x04 [] s
    else if groups &&& 0xE1 ≠ 0 || scope.isEmpty then reply via 0x0A01 0x03 [] s
    else if here.any fun b => !bankFree s b then reply via 0x0A01 0x07 [] s
    else if s.test.bist.isSome || otherRuns via 0x0A01 s then reply via 0x0A01 0x01 [] s
    else
      let r : BistRun :=
        { origin := via, left := here, all := here, diag := diag, raw := raw, repair := repair, partialF := false }
      bistNext r { s with test := { s.test with lastMode := diag, lastFail := 0, lastTrunc := 0 } })

/-- The entries kept of the failing bits found: 32 in ascending row, word and bit, MORE on the last when there were more
(R399). -/
def keepFails (l : List BitFail) : List BitFail :=
  let key := fun (f : BitFail) => (f.row * 16 + f.word) * 1024 + f.bit
  let srt := sortBy (fun a b => decide (key a ≤ key b)) l
  let k := (srt.take 32).map fun f => { f with count := Nat.min 255 f.count, more := false }
  if 32 < l.length then
    match k.getLast? with
    | some f => k.dropLast ++ [{ f with more := true }]
    | none => k
  else k

/-- The result of a bank (R398): TRUNCATED whatever the signature where the cycle count is not the ROM's, then PASS or FAIL by the
signature. -/
def bistCode (b : MemBank) (f : BistFound) : Nat :=
  if f.cycles ≠ Config.bistCycles b.group.code then 3 else if f.misr = Config.bistSignature b.group.code then 1 else 2

/-- BIST_BANK_DONE (R398, R399, R401): the bank under test is judged. -/
def execBistBankDone (found : BistFound) (s : State) : Host.Outcome State Fault Refusal :=
  .next (
    match s.test.bist with
    | none => s
    | some r =>
      match r.left with
      | [] => s
      | b :: rest =>
        let code := bistCode b found
        let s := setBankResult b code (b2n r.diag) (if r.diag then keepFails found.fails else []) found.misr s
        let s := { s with test := { s.test with
          lastFail := if code = 2 then satAdd 8 s.test.lastFail 1 else s.test.lastFail,
          lastTrunc := if code = 3 then satAdd 8 s.test.lastTrunc 1 else s.test.lastTrunc } }
        let s :=
          if r.repair && !r.raw then
            let x := repairRows b found.rows found.badSpares s
            if x.2 then x.1 else unrepairable b x.1
          else s
        match s.test.bist with
        | some _ => bistNext { r with left := rest, partialF := r.partialF || decide (code = 3) } s
        | none => s)

/-- A failing-bit entry as BIST_READ returns it (Table 16.3). -/
def BitFail.bytes (f : BitFail) : List Byte :=
  beBytes 2 f.row ++ beBytes 1 f.word ++ [0] ++ beBytes 2 f.bit ++ beBytes 1 f.count ++ beBytes 1 (b2n f.spare + 2 * b2n f.more)

/-- The bank a pod or the hub, a group and an index name; none beyond Table 16.1. -/
def namedBank (pod : Option PodId) (group bank : Nat) : Option MemBank :=
  match MemGroup.ofCode group, pod with
  | some g, some k => if g.inPod && decide (bank < g.banks) then some { group := g, pod := k.val, bank := bank } else none
  | some g, none => if !g.inPod && decide (bank < g.banks) then some { group := g, pod := 0, bank := bank } else none
  | none, _ => none

/-- BIST_READ (0x0A02, R400): the 12-byte header and the entries. -/
def execBistRead (via : Origin) (pod : Option PodId) (group bank : Nat) (s : State) : Host.Outcome State Fault Refusal :=
  .next (command via 0x0A02 s fun s =>
    match namedBank pod group bank with
    | none => reply via 0x0A02 0x03 [] s
    | some b =>
      let r : BankResult := (s.test.results.find? fun r => r.bank = b).getD
        { bank := b, code := 0, kind := 0xFF, fails := [], misr := 0 }
      let r := if b.present s.part then r else { r with code := 4, kind := 0xFF, fails := [], misr := 0 }
      reply via 0x0A02 0x00 (beBytes 1 r.code ++ beBytes 1 r.kind ++ beBytes 2 r.fails.length ++ beBytes 8 r.misr.toNat
        ++ r.fails.flatMap BitFail.bytes) s)

/-- REPAIR_READ (0x0A05, R413): the soft repairs in force, then the map entries, of a group. -/
def execRepairRead (via : Origin) (pod : Option PodId) (group : Nat) (s : State) : Host.Outcome State Fault Refusal :=
  .next (command via 0x0A05 s fun s =>
    match namedBank pod group 0 with
    | none => reply via 0x0A05 0x03 [] s
    | some b0 =>
      let mine := fun (b : MemBank) => decide (b.group = b0.group) && decide (b.pod = b0.pod)
      let soft := s.test.soft.filter fun x => mine x.bank
      let map := s.test.map.filter fun w => mapValid w && (b0.group.allBanks.any fun b => mine b && mapNames b w)
      reply via 0x0A05 0x00 (beBytes 2 soft.length
        ++ (soft.flatMap fun x => beBytes 1 x.bank.bank ++ beBytes 2 x.row ++ beBytes 1 x.spare)
        ++ beBytes 2 map.length ++ (map.flatMap fun w => beBytes 4 w.toNat)) s)

/-! ### Fuse repair -/

/-- Program entries one after another (R403 step 2): each takes the next unused map entry; one that reads back wrongly is left
and the next is used, up to four such failures. The entries written, and whether all were. -/
def programMap : Nat → List Word → List Bool → Nat → State → List Word × Bool × State
  | 0, _, _, _, s => ([], false, s)
  | _ + 1, [], _, _, s => ([], true, s)
  | n + 1, w :: ws, good, bad, s =>
    if 512 ≤ s.test.map.length then ([], false, s)
    else
      match good with
      | false :: gs =>
        let f := s.freeNat
        let s := { f.2 with test := { f.2.test with map := f.2.test.map ++ [BitVec.ofNat 32 f.1] } }
        if bad = 3 then ([], false, s) else programMap n (w :: ws) gs (bad + 1) s
      | gs =>
        let r := programMap n ws gs.tail bad { s with test := { s.test with map := s.test.map ++ [w] } }
        (w :: r.1, r.2.1, r.2.2)

/-- Split a list into groups of at most k, one empty group for an empty list. -/
def groupsOf (k : Nat) (l : List Word) : List (List Word) :=
  (List.range (Nat.max 1 ((l.length + k - 1) / k))).map fun i => (l.drop (k * i)).take k

/-- The FUSE records of a command (R403 step 3, Table 20.10). -/
def fuseRecords (l : List Word) (s : State) : State :=
  let gs := groupsOf 24 l
  gs.zipIdx.foldl (fun s g =>
    let body := (g.1.flatMap fun w => beBytes 4 w.toNat) ++ List.replicate (96 - 4 * g.1.length) 0
    ledgerAppend 0x22 g.1.length 0 (body ++ beBytes 1 (g.2 + 1) ++ beBytes 1 gs.length) s) s

/-- FUSE_REPAIR (0x0A06, R403). -/
def execFuseRepair (via : Origin) (pods : BitVec 8) (hub vppOk : Bool) (good : List Bool) (s : State) :
    Host.Outcome State Fault Refusal :=
  .next (command via 0x0A06 s fun s =>
    let need := (s.test.soft.filter fun x =>
      (if x.bank.group.inPod then pods.toNat.testBit x.bank.pod else hub)
        && !(mapRows s x.bank).contains x.row).take 64
    if 512 ≤ s.test.map.length then reply via 0x0A06 0x07 [] s
    else if otherRuns via 0x0A06 s || otherRuns via 0x0A08 s then reply via 0x0A06 0x01 [] s
    else if !vppOk then reply via 0x0A06 0x06 [] s
    else
      let r := programMap (need.length + 5) (need.map fun x => mapEntry x.bank x.row) good 0 s
      reply via 0x0A06 (if r.2.1 then 0x00 else 0x08) [] (fuseRecords r.1 r.2.2))

/-! ### Loopbacks -/

/-- The payload of a LOOPBACK frame (Table 16.5). -/
def loopPayload (sub : Nat) (n : LaneId) (reason : Nat) : List Byte := beBytes 1 sub ++ beBytes 1 n.val ++ beBytes 1 reason

/-- A lane change is pending on a port (R117, R126, R128). -/
def Port.changePending (q : Port) : Bool :=
  q.code.chg.isSome || decide (q.code.plan ≠ .none) || q.lanes.toList.any fun l => l.code.adding

/-- A lane may be in a far-end loopback (R404, R405): native UP or DEGRADED, the lane in SHED. -/
def farAllowed (q : Port) (n : LaneId) : Bool :=
  (decide (q.link.state = .up) || decide (q.link.state = .degraded)) && decide (q.lanes[n.val].code.state = .shed)

/-- Far-end loopback is in the agreed FEATURES (Table 5.10). -/
def Port.loopFeature (q : Port) : Bool :=
  match q.snd.agreed with
  | some o => o.features.testBit 1
  | none => false

/-- Change the loopback of a lane. -/
def setLoop (p : PortId) (n : LaneId) (k : LoopKind) (s : State) : State :=
  s.modLane p n fun l => { l with test := { l.test with loop := k } }

/-- A near-end loopback starts (R404): the transmitter reads DATA and the receiver enters FAR. -/
def Lane.startNearLoop (l : Lane) (k : LoopKind) : Lane :=
  let l := l.enterPhase .far
  { l with test := { l.test with loop := k, chkLock := false }, tx := { l.tx with state := if l.tx.state = .idle then .data else l.tx.state } }

/-- A far-end loopback ends on a lane (R405): back to IDLE and HOLD. -/
def Lane.endFarLoop (l : Lane) : Lane :=
  let l := l.enterPhase .hold
  { l with test := { l.test with loop := .none, chkLock := false, genOn := false },
           tx := { l.tx with state := if l.tx.state = .data then .idle else l.tx.state } }

/-- The waiting request of a lane is answered. -/
def takeLoopReq (p : PortId) (n : LaneId) (s : State) : Option Origin × State :=
  match s.test.loopReqs.find? fun r => decide (r.1 = p) && decide (r.2.1 = n) with
  | some r => (some r.2.2, { s with test := { s.test with loopReqs := s.test.loopReqs.erase r } })
  | none => (none, s)

/-- A request ends without a loopback (R405): DENIED, or TIMEOUT when its resends are exhausted. -/
def loopReqFails (p : PortId) (n : LaneId) (status : Nat) (s : State) : State :=
  let s := setLoop p n .none s
  let s := s.modPort p fun q =>
    { q with snd := { q.snd with await := q.snd.await.filter fun f => !(f.typ == 0x21 && f.payload == loopPayload 1 n 0) } }
  let r := takeLoopReq p n s
  match r.1 with
  | some via => reply via 0x0A03 status [] r.2
  | none => r.2

/-- LOOP_SET (0x0A03, R404, R405): kind 0 NONE, 1 SERIAL, 2 PARALLEL, 3 FAR. -/
def execLoopSet (via : Origin) (p : PortId) (lanes : BitVec 8) (kind : Nat) (heard : List Listen) (s : State) :
    Host.Outcome State Fault Refusal :=
  .next (portCommand via 0x0A03 p s fun s =>
    let q := s.port p
    let named := allLanes.filter fun n => lanes.toNat.testBit n.val
    if 3 < kind || (kind = 3 && decide (named.length ≠ 1)) then reply via 0x0A03 0x03 [] s
    else if (kind = 1 || kind = 2) && (!q.idleDown || s.portSafe p || s.calHolds p || diagUses s p lanes.toNat) then
      reply via 0x0A03 0x07 [] s
    else if kind = 3 && named.any fun n =>
        !farAllowed q n || !q.loopFeature || q.changePending || decide (q.lanes[n.val].test.loop ≠ .none) then
      reply via 0x0A03 0x07 [] s
    else if otherRuns via 0x0A03 s then reply via 0x0A03 0x01 [] s
    else if kind = 2 && heard.any (fun x => x.active s.boot.limits.quiet) then reply via 0x0A03 0x0A [] s
    else
      match kind with
      | 0 =>
        let s := named.foldl (fun s n =>
          let k := (s.lane p n).test.loop
          if k = .far || k = .farAcked then queueCm p 0x21 (loopPayload 4 n 0) (setLoop p n .farEnding s)
          else s.modLane p n Lane.endNearLoop) s
        reply via 0x0A03 0x00 [] s
      | 3 => named.foldl (fun s n =>
          let s := queueCm p 0x21 (loopPayload 1 n 0) (setLoop p n .farAsked s)
          { s with test := { s.test with loopReqs := s.test.loopReqs ++ [(p, n, via)] } }) s
      | k =>
        reply via 0x0A03 0x00 []
          (named.foldl (fun s n => s.modLane p n fun l => l.startNearLoop (if k = 1 then .serial else .parallel)) s))

/-- LOOPBACK_REQ_RECEIVE (R405, Tables 16.5 and 16.9): ACK, or DECLINE with its reason. -/
def execLoopbackReqReceive (p : PortId) (n : LaneId) (s : State) : Host.Outcome State Fault Refusal :=
  .next (
    let q := s.port p
    let k := q.lanes[n.val].test.loop
    let granted := decide (k = .farGranted)
    let why := if !q.loopFeature then 1 else if !farAllowed q n then 2
      else if q.changePending || (decide (k ≠ .none) && !granted) then 3 else 0
    if why = 0 then queueCm p 0x21 (loopPayload 2 n 0) (setLoop p n .farGranted s)
    else queueCm p 0x21 (loopPayload 3 n why) s)

/-- LOOPBACK_ACK_RECEIVE (R405): the request is answered; the loop starts 100 µs later. -/
def execLoopbackAckReceive (p : PortId) (n : LaneId) (s : State) : Host.Outcome State Fault Refusal :=
  .next (
    if (s.lane p n).test.loop ≠ .farAsked then s
    else
      let s := setLoop p n .farAcked s
      s.modPort p fun q =>
        { q with snd := { q.snd with await := q.snd.await.filter fun f => !(f.typ == 0x21 && f.payload == loopPayload 1 n 0) } })

/-- LOOPBACK_DECLINE_RECEIVE (R405): LOOP_SET returns DENIED. -/
def execLoopbackDeclineReceive (p : PortId) (n : LaneId) (_reason : Nat) (s : State) : Host.Outcome State Fault Refusal :=
  .next (if (s.lane p n).test.loop ≠ .farAsked then s else loopReqFails p n 0x05 s)

/-- FAR_LOOPBACK_START (R405): the requester sends PRBS31, the partner its decisions; both receivers go from HOLD to JOINT. -/
def execFarLoopbackStart (p : PortId) (n : LaneId) (s : State) : Host.Outcome State Fault Refusal :=
  .next (
    let k := (s.lane p n).test.loop
    let start := fun (k : LoopKind) (s : State) => s.modLane p n fun l =>
      let l := l.enterPhase .joint
      { l with test := { l.test with loop := k, genOn := decide (k = .far), chkLock := false }, tx := { l.tx with state := .data } }
    if k = .farAcked then
      let r := takeLoopReq p n (start .far s)
      match r.1 with
      | some via => reply via 0x0A03 0x00 [] r.2
      | none => r.2
    else if k = .farGranted then start .farServe s
    else s)

/-- LOOPBACK_END_RECEIVE (R405): at the end of END both lanes return to IDLE and HOLD. -/
def execLoopbackEndReceive (p : PortId) (n : LaneId) (s : State) : Host.Outcome State Fault Refusal :=
  .next (
    match (s.lane p n).test.loop with
    | .far | .farServe | .farEnding | .farGranted => s.modLane p n Lane.endFarLoop
    | _ => s)

/-! ### Pattern generators and checkers -/

/-- A pattern: native PRBS31, PRBS31Q or PRBS13Q (Table 16.11). -/
def prbsTaps (pattern : Nat) : List Nat := if pattern = 2 then [1, 2, 12, 13] else [28, 31]

/-- The bit a pattern predicts from those before it, newest first (R406; PRBS13Q PRESUMED from IEEE 802.3). -/
def prbsNext (pattern : Nat) (reg : List Bool) : Bool :=
  (prbsTaps pattern).foldl (fun a i => xor a (reg.getD (i - 1) false)) false

/-- The number of bits a pattern is predicted from. -/
def prbsLen (pattern : Nat) : Nat := if pattern = 2 then 13 else 31

/-- Feed received bits to a checker that is not locked: its register, and the run of consecutive matches at the end. -/
def prbsHunt (pattern : Nat) (reg : List Bool) (run : Nat) : List Bool → List Bool × Nat
  | [] => (reg, run)
  | b :: l =>
    let ok := decide (prbsLen pattern ≤ reg.length) && (prbsNext pattern reg == b)
    prbsHunt pattern ((b :: reg).take (prbsLen pattern)) (if ok then run + 1 else 0) l

/-- Feed received bits to a locked checker, which runs on by its own prediction: its register and which bits were wrong. -/
def prbsCompare (pattern : Nat) (reg : List Bool) : List Bool → List Bool × List Bool
  | [] => (reg, [])
  | b :: l =>
    let e := prbsNext pattern reg
    let r := prbsCompare pattern ((e :: reg).take (prbsLen pattern)) l
    (r.1, (e != b) :: r.2)

/-- 1,024 or more errors within some 8,192 consecutive bits (R407). -/
def prbsLost (errs : List Bool) : Bool :=
  (List.range (errs.length + 1)).any fun i => decide (1024 ≤ ((errs.drop i).take 8192).countP id)

/-- The next n bits of a pattern's generator, and its register after them (R406). -/
def prbsRun (pattern : Nat) : Nat → List Bool → List Bool × List Bool
  | 0, reg => ([], reg)
  | n + 1, reg =>
    let b := prbsNext pattern reg
    let r := prbsRun pattern n ((b :: reg).take 31)
    (b :: r.1, r.2)

/-- The register a lane's generator starts from. -/
def prbsStart (n : LaneId) : List Bool := (List.range 31).map fun i => (Config.prbsSeed n.val).getLsbD i

/-- The pattern and enables of ST_PRBS_CTRL (Table 16.11). -/
def LaneTest.pattern (t : LaneTest) : Nat := bits t.prbsCtrl 1 0
/-- CHK_EN. -/
def LaneTest.chkEn (t : LaneTest) : Bool := bitOf t.prbsCtrl 8

/-- The checker runs (R404, R406): in a loopback, or with the port in DOWN and its link disabled. -/
def prbsAllowed (s : State) (p : PortId) (n : LaneId) : Bool :=
  decide ((s.lane p n).test.loop ≠ .none) || (s.port p).idleDown

/-- The checker may lock (R404): in a near-end loopback it starts with the receiver's CONV. -/
def prbsStarts (s : State) (p : PortId) (n : LaneId) : Bool :=
  let l := s.lane p n
  prbsAllowed s p n && (l.rx.conv || !(decide (l.test.loop = .serial) || decide (l.test.loop = .parallel)))

/-- The frequency of the port's group carries a pattern (R406). -/
def prbsCarried (s : State) (p : PortId) (pattern : Nat) : Bool :=
  match (s.group p).freq with
  | .none => false
  | .f53125 => decide (pattern = 1) || decide (pattern = 2)
  | _ => decide (pattern = 0)

/-- PRBS_LOCK (R407): 256 consecutive bits that match lock the checker. -/
def execPrbsLock (p : PortId) (n : LaneId) (rx : List Bool) (s : State) : Host.Outcome State Fault Refusal :=
  .next (
    let t := (s.lane p n).test
    if !t.chkEn || t.chkLock || !prbsStarts s p n then s
    else
      let r := prbsHunt t.pattern t.chkReg 0 rx
      s.modLane p n fun l => { l with test := { l.test with chkReg := r.1, chkLock := decide (256 ≤ r.2) } })

/-- PRBS_LOCK_LOSS (R407): bits compared and wrong are counted; 1,024 errors within 8,192 bits lose lock. -/
def execPrbsLockLoss (p : PortId) (n : LaneId) (rx : List Bool) (s : State) : Host.Outcome State Fault Refusal :=
  .next (
    let t := (s.lane p n).test
    if !t.chkEn || !t.chkLock || !prbsAllowed s p n then s
    else
      let r := prbsCompare t.pattern t.chkReg rx
      let lost := prbsLost r.2
      s.modLane p n fun l => { l with test := { l.test with
        chkReg := if lost then [] else r.1, chkLock := !lost, bitCnt := wrapAdd 48 l.test.bitCnt rx.length,
        errs := wrapAdd 48 l.test.errs (r.2.countP id),
        lockLoss := if lost then satAdd 16 l.test.lockLoss 1 else l.test.lockLoss } })

/-- The counts of ST_PRBS_CTRL.CLR (Table 16.11). -/
def LaneTest.clear (t : LaneTest) : LaneTest := { t with errs := 0, bitCnt := 0, lockLoss := 0 }

/-- GEN_EN as written (R51): the pattern generator of a lane in DOWN takes it from IDLE to DATA, and back when it ends. -/
def Lane.genSet (on down : Bool) (l : Lane) : Lane :=
  let was := bitOf l.test.prbsCtrl 4
  if !down || l.test.loop ≠ .none || on = was then l
  else { l with tx := { l.tx with state :=
    if on then (if l.tx.state = .idle then .data else l.tx.state) else (if l.tx.state = .data then .idle else l.tx.state) } }

/-- A write of ST_PRBS_CTRL (R51, R406, Table 16.11). -/
def writePrbsCtrl (who : Initiator) (p : PortId) (n : LaneId) (v : Word) (s : State) : State :=
  let enables := bitOf v 4 || bitOf v 8
  let pat := bits v 1 0
  if pat = 3 || (enables && (!prbsAllowed s p n || !prbsCarried s p pat)) then ignored who (laneBase p n + 0x500) s
  else
    written (s.modLane p n fun l =>
      let l := l.genSet (bitOf v 4) (decide ((s.port p).link.state = .down))
      let t := if bitOf v 31 then l.test.clear else l.test
      let keep := bitOf v 8 && l.test.chkEn && decide (pat = l.test.pattern)
      { l with test := { t with prbsCtrl := v &&& 0x0000011B, chkLock := t.chkLock && keep,
                                chkReg := if keep then t.chkReg else [] } })

/-- ST_PRBS_CTRL_WRITE (R406). -/
def execStPrbsCtrlWrite (who : Initiator) (p : PortId) (n : LaneId) (v : Word) (s : State) : Host.Outcome State Fault Refusal :=
  .next (regWrite who (laneBase p n + 0x500) s (writePrbsCtrl who p n v))

/-- PRBS_CLEAR (R415): CLR alone, the fields as they are. -/
def execPrbsClear (who : Initiator) (p : PortId) (n : LaneId) (s : State) : Host.Outcome State Fault Refusal :=
  .next (regWrite who (laneBase p n + 0x500) s fun s => written (s.modLane p n fun l => { l with test := l.test.clear }))

/-! ### Reference checks -/

/-- A pod's reference-check condition as its bandgap and ramp stand (R408). -/
def podRefCond (k : PodId) (s : State) : State :=
  setCond .refCheckPod (.pod k) 0 (decide (3 ≤ (s.pod k).bgBad) || decide (0 < (s.pod k).rampBad)) s

/-- One comparison of a die's bandgaps, in 0.1 % (R408): three bad samples in a row are a failure. -/
def bandgapSample (die : Option PodId) (diff : Int) (s : State) : State :=
  let next := fun (n : Nat) => if 10 < diff.natAbs then Nat.min 3 (n + 1) else 0
  match die with
  | some k =>
    if s.part.hasPod k then podRefCond k (s.modPod k fun q => { q with bgBad := next q.bgBad }) else s
  | none =>
    let s := { s with test := { s.test with hubBg := next s.test.hubBg } }
    setCond .refCheckHub .dev 0 (decide (3 ≤ s.test.hubBg)) s

/-- A check of a pod's ramp reference: slope in 0.1 %, nonlinearity in 0.1 code (R408). -/
def rampSample (k : PodId) (slope inl : Int) (s : State) : State :=
  if s.part.hasPod k then
    podRefCond k (s.modPod k fun q => { q with rampBad := if 15 < slope.natAbs || 5 < inl.natAbs then 1 else 0 })
  else s

/-- BANDGAP_CHECK (R408). -/
def execBandgapCheck (die : Option PodId) (diff : Int) (s : State) : Host.Outcome State Fault Refusal :=
  .next (bandgapSample die diff s)

/-- REF_CHECK (0x0A04, R408): every check of the device at once, and the values measured. -/
def execRefCheck (via : Origin) (bandgap slope inl : List Int) (s : State) : Host.Outcome State Fault Refusal :=
  .next (command via 0x0A04 s fun s =>
    let s := (List.finRange 8).foldl (fun s k =>
      rampSample k (slope.getD k.val 0) (inl.getD k.val 0) (bandgapSample (some k) (bandgap.getD k.val 0) s)) s
    let s := bandgapSample none (bandgap.getD 8 0) s
    let send := fun (l : List Int) (n : Nat) => (List.range n).flatMap fun i => beBytes 2 (unsigned 16 (l.getD i 0))
    reply via 0x0A04 0x00 (send bandgap 9 ++ send slope 8 ++ send inl 8) s)

/-! ### Boundary scan and internal scan -/

/-- IDCODE (R409, Table 16.6). -/
def Part.idcode : Part → Word
  | .a => 0x19620A75 | .s => 0x19621A75 | .b48 => 0x19648A75

/-- The instructions that give the scan cells the pins (R410). -/
def JtagInstr.takesPins : JtagInstr → Bool
  | .extest | .extestPulse | .extestTrain | .clamp | .highz => true
  | _ => false

/-- JTAG_INSTRUCTION (R409, R410). -/
def execJtagInstruction (opcode : BitVec 8) (s : State) : Host.Outcome State Fault Refusal :=
  .next (
    if s.pwr.lost.contains .io then s
    else
      let j := JtagInstr.ofOpcode opcode.toNat
      let s := { s with test := { s.test with jtag := j } }
      if j.takesPins then (if s.boot.inReset then s else raise .bscanCtrl .dev 0 s)
      else
        match j with
        | .idcode | .samplePreload | .bypass => endCond .bscanCtrl .dev s
        | .iscan => if s.test.scanEnabled then s else endCond .bscanCtrl .dev s
        | _ => s)

/-- Random bytes (R411, R149). -/
def State.randomBytes : Nat → State → List Byte × State
  | 0, s => ([], s)
  | n + 1, s =>
    let d := s.draw
    let r := State.randomBytes n d.2
    (BitVec.ofNat 8 d.1 :: r.1, r.2)

/-- A scan challenge: UID, PART and a nonce (R411). -/
def issueChallenge (pods : Nat) (hub : Bool) (s : State) : List Byte × State :=
  let r := s.randomBytes 48
  let c := beBytes 8 Config.uid.toNat ++ beBytes 2 s.part.code ++ r.1
  let t := r.2.test
  (c, { r.2 with test := { t with challenge := some c, scanPods := pods, scanHub := hub } })

/-- SCAN_CHALLENGE (0x0A07, or a request shifted into AUTH; R411). -/
def execScanChallenge (via : Option Origin) (pods : BitVec 8) (hub : Bool) (s : State) : Host.Outcome State Fault Refusal :=
  .next (
    match via with
    | some via => command via 0x0A07 s fun s =>
        if s.test.scanLocked then reply via 0x0A07 0x05 [] s
        else if otherRuns via 0x0A07 s then reply via 0x0A07 0x01 [] s
        else
          let r := issueChallenge pods.toNat hub s
          reply via 0x0A07 0x00 r.1 r.2
    | none =>
      if s.test.jtag ≠ .auth || s.test.scanLocked || s.fw.libDead then s else (issueChallenge pods.toNat hub s).2)

/-- The device-wide safe state of step 1 of R412, which no acknowledgement ends. -/
def takeScanSafe (s : State) : State :=
  let s := { s with test := { s.test with scanSafe := true }, flt := { s.flt with faultN := true } }
  let s := allPorts.foldl (fun s p => if s.part.hasPort p then hostToSafe p (txToSafe p s) else s) s
  safeEnds (safeDown (safeDown s))

/-- The last SEAL in the ring: its accession and CHAIN. -/
def lastSeal (l : LedgerSt) : Nat × BitVec 384 :=
  match (l.ringRecs.filter fun r => r.type = 2).getLast? with
  | some r => (r.accession, r.chain)
  | none => (0, 0)

/-- Steps 2 and 3 of R412 on the ledger (R510): the working state is zeroised; a new block starts with an ANCHOR, takes the
SCAN record and is sealed at once. -/
def scanLedger (scope response : List Byte) (s : State) : State :=
  if !s.ledger.run then s
  else
    let gone := s.ledger.unsealed.length
    let last := lastSeal s.ledger
    let s := { s with ledger := { s.ledger with unsealed := [], chain := last.2 } }
    let flags := b2n (last.1 != 0) + 2 * b2n (last.1 = 0)
    let s := ledgerBlock 3 last.1 last.2 gone flags (Config.ctrFails s.ledger.ctr) s
    let s := ledgerAppend 0x23 0 0 (scope ++ beBytes 48 (Config.sha384 response).toNat) s
    let s := if gone = 0 then s else ledgerFault 7 s
    ledgerMakeSeal true s

/-- The open records and the chain are lost with the ledger's working copy (R412). -/
def dropUnsealed (s : State) : State := { s with ledger := { s.ledger with unsealed := [], chain := 0 } }

/-- A response to a scan challenge (R411, R412): its status and the state after it. -/
def scanResponse (response : List Byte) (stepsOk : Bool) (s : State) : Nat × State :=
  match (if s.test.scanLocked then none else s.test.challenge) with
  | none => (0x05, s)
  | some c =>
    let scope := beBytes 1 s.test.scanPods ++ beBytes 1 (b2n s.test.scanHub)
    let s := { s with test := { s.test with challenge := none } }
    if !Config.verifyScan (c ++ scope) response then
      let n := s.test.scanFails + 1
      (0x05, { s with test := { s.test with scanFails := Nat.min 3 n, scanLocked := decide (3 ≤ n) } })
    else
      let s := dropAllCxl (loseAllParcels (takeScanSafe s))
      if !stepsOk then
        (0x09, dropUnsealed s)
      else
        let s := scanLedger scope response s
        (0x00, { s with test := { s.test with scanEnabled := true } })

/-- SCAN_AUTH (0x0A08, or a shift of AUTH; R411, R412). -/
def execScanAuth (via : Option Origin) (response : List Byte) (stepsOk : Bool) (s : State) :
    Host.Outcome State Fault Refusal :=
  .next (
    match via with
    | some via => command via 0x0A08 s fun s =>
        if s.test.scanLocked || s.test.challenge.isNone then reply via 0x0A08 0x05 [] s
        else if response.length ≠ 96 then reply via 0x0A08 0x03 [] s
        else if otherRuns via 0x0A06 s || otherRuns via 0x0A08 s || s.test.bist.isSome then reply via 0x0A08 0x01 [] s
        else
          let r := scanResponse response stepsOk s
          reply via 0x0A08 r.1 [] r.2
    | none =>
      if s.test.jtag ≠ .auth || s.fw.libDead || s.test.bist.isSome then s else (scanResponse response stepsOk s).2)

/-- SCAN_CHALLENGE_EXPIRE (R411): the challenge is void. -/
def execScanChallengeExpire (s : State) : Host.Outcome State Fault Refusal :=
  .next { s with test := { s.test with challenge := none } }

end Sys2Proof.Machine
end

