-- ==== Sys2Proof/Machine/Power.lean ====
section
/-!
DEFINITION. The full reset and the first two boot steps (R371 to R375), and the power commands: adaptive pod voltage (R360,
R361), region checks (R363, R364), supplies (R359) and temperature (R366 to R368).
-/
namespace Sys2Proof.Machine

/-! ### Resets -/

/-- A full reset (R371): what stays is the part, the always-on record, OTP, the flash, the TAP, the rails, the commands that wait
and the count of free values; a thermal trip and a scan lock stay until PORST_N (R368, R411). -/
def fullReset (porst : Bool) (s : State) : State :=
  let r := State.reset
  { r with
    part := s.part, fresh := s.fresh, pending := s.pending,
    boot := { r.boot with cause := s.boot.cause, hdr := s.boot.hdr, singleSlot := s.boot.singleSlot, erased := s.boot.erased,
                          writes := s.boot.writes, peReset := s.boot.peReset, slot := s.boot.slot },
    flt := { r.flt with lastF0 := s.flt.lastF0, lastF1 := s.flt.lastF1 },
    cal := { r.cal with secA := s.cal.secA, secB := s.cal.secB },
    ledger := { r.ledger with ring := s.ledger.ring, ringBlocks := s.ledger.ringBlocks, ctr := s.ledger.ctr },
    fw := { r.fw with revoked := s.fw.revoked, svnMin := s.fw.svnMin },
    test := { r.test with map := s.test.map, jtag := s.test.jtag, scanLocked := s.test.scanLocked && !porst },
    pwr := { r.pwr with lost := s.pwr.lost, trip := s.pwr.trip && !porst } }

/-- The management gates that MGMT_SEL and BOOT_SRC enable (R373). -/
def mgmtGates (straps gate : Word) : Word :=
  let m := bits straps 5 4
  setBits (setBits gate 6 6 (b2n (decide (m = 0) || decide (m = 1) || bitOf straps 3))) 7 7 (b2n (decide (m = 0) || decide (m = 2)))

/-- A rail whose loss holds the device in reset (Table 14.6). -/
def Rail.resets : Rail → Bool
  | .hub | .aon | .io => true
  | _ => false

/-- The straps are sampled and the boot runs to step 2 (R373 to R375): the ROM tests its own SRAM, then the spill index and the
general memory, sets the stack gates, and a device strapped as stack master takes its place. -/
def startBoot (straps : BitVec 6) (pass : List BankPass) (s : State) : State :=
  let w : Word := straps.setWidth 32
  let s := { s with boot := { s.boot with straps := w, inReset := false },
                    clk := { s.clk with gate := mgmtGates w s.clk.gate } }
  let s := if bitOf w 0 then
      { s with stack := { s.stack with id := some 0, depth := some 0, master := Config.uid } }
    else s
  if s.pwr.trip then s
  else
    let s := bootPass [.hubLib] pass s
    if s.groupUnrep .hubLib then s
    else
      let s := bootPass [.hubIndex, .hubGen] pass s
      let s := { s with boot := { s.boot with step := 1 }, clk := { s.clk with gate := setBits s.clk.gate 15 12 0xF } }
      allStk.foldl (fun s p => s.modStk p fun x => { x with state := .clock }) s

/-- Held in reset by a lost rail (R359, R371, R372). -/
def holdInReset (r : Rail) (s : State) : State :=
  let prior := s.pwr.trip
  let s := fullReset false s
  let s := if r = .aon then { s with boot := { s.boot with cause := 0 }, flt := { s.flt with lastF0 := 0, lastF1 := 0 } } else s
  { s with boot := { s.boot with inReset := true, cause := s.boot.cause ||| 0x04 ||| flg prior 4 } }

/-- Every line transmitter goes to OFF (R51), and its compliance monitor stops (R54). -/
def allTxOff (s : State) : State :=
  settleSafe (s.mapPorts fun _ q => q.mapLanes fun _ l =>
    { l with tx := { l.tx with state := .off, rangeIdle := false, compRun := Vector.replicate 5 0, compCur := 0 },
             flt := updNat l.flt (Cause.compliance.code - 1) fun x => { x with real := false } })

/-- The conditions under which the AVS controller holds the target (R360, Table 14.8). -/
def avsHeld (s : State) (k : PodId) : Bool :=
  let q := s.pods[k.val]
  !s.clk.dspRun || s.clk.holdover || !s.clk.rpllLock || q.region.fault || q.avs.busErr || s.pwr.trip

/-- The target after one examination of a margin in units of 0.5 % (R360). -/
def avsTarget (a : PodAvs) (margin : Int) : Nat :=
  let lo := bits a.ctrl 14 8
  let hi := bits a.ctrl 22 16
  let t := if margin < 12 then a.target + 1 else if 20 < margin then a.target - 1 else a.target
  Nat.max lo (Nat.min hi t)

/-- A target in force from now on, to be written over AVSBus where it is new (R360, R361). -/
def PodAvs.setTarget (a : PodAvs) (t now : Nat) : PodAvs :=
  if t = a.target then a else { a with target := t, prev := a.target, setAt := now, writePend := true }

/-- The smallest slack of the monitors, in units of 0.5 % of the CLK_DSP period (R360); 0 for none. -/
def minSlack : List Int → Int
  | [] => 0
  | x :: l => l.foldl min x

/-- AVS_EXAMINE (R360): the smallest slack of the 16 monitors is the margin. The target moves by 5 mV against it, within VMIN and VMAX;
four examinations below 3 % at VMAX raise the pod-timing-margin cause. -/
def execAvsExamine (k : PodId) (slacks : List Int) (s : State) : Host.Outcome State Fault Refusal :=
  if !s.part.hasPod k then .next s
  else
    let margin := minSlack slacks
    let a := s.pods[k.val].avs
    let auto := decide (bits a.ctrl 31 30 = 0)
    let t := if avsHeld s k then a.target else if auto then avsTarget a margin else bits a.ctrl 6 0
    let atTop := decide (margin < 6) && decide (a.target = bits a.ctrl 22 16)
    let run := if atTop then a.lowRun + 1 else 0
    let atMax := decide (4 ≤ run)
    let s := s.modPod k fun q => { q with avs :=
      ({ a with margin := unsigned 8 margin, lowRun := run, atMax := atMax } : PodAvs).setTarget t s.uptime }
    .next (setCond .podTiming (.pod k) 0 atMax s)

/-- AVS_WRITE_RETRY (R361): at most three retries, then BUS_ERR and the AVSBus-failure cause. -/
def execAvsWriteRetry (k : PodId) (ok : Bool) (s : State) : Host.Outcome State Fault Refusal :=
  if !s.part.hasPod k then .next s
  else
    let a := s.pods[k.val].avs
    if !a.writePend then .next s
    else if ok then
      .next (s.modPod k fun q => { q with avs := { a with retries := 0, writePend := false } })
    else if a.retries < 2 then
      .next (s.modPod k fun q => { q with avs := { a with retries := a.retries + 1 } })
    else
      .next (raise .avsBus (.pod k) 0
        (s.modPod k fun q => { q with avs := { a with retries := 0, busErr := true } }))

/-- AVS_STATUS_POLL (R361): IOUT is loaded; a Status with no alert ends BUS_ERR. -/
def execAvsStatusPoll (k : PodId) (alert : Bool) (iout : Nat) (s : State) : Host.Outcome State Fault Refusal :=
  if !s.part.hasPod k then .next s
  else
    let s := s.modPod k fun q =>
      { q with avs := { q.avs with iout := iout % 256, busErr := q.avs.busErr && alert } }
    .next (if alert then s else endCond .avsBus (.pod k) s)

/-- A write of POD_AVS_CTRL (R370, Table 14.14). -/
def writePodAvs (who : Initiator) (k : PodId) (v : Word) (s : State) : State :=
  let inRange := fun (x : Nat) => decide (24 ≤ x) && decide (x ≤ 64)
  if inRange (bits v 22 16) && inRange (bits v 14 8) && inRange (bits v 6 0) && decide (bits v 14 8 ≤ bits v 22 16) then
    let old := (s.pod k).avs.ctrl
    let mode := if bits v 31 30 < 2 then bits v 31 30 else bits old 31 30
    let new := fld mode 30 2 ||| fld (bits v 22 16) 16 7 ||| fld (bits v 14 8) 8 7 ||| fld (bits v 6 0) 0 7
    let t := if mode = 1 && !avsHeld s k then bits v 6 0 else (s.pod k).avs.target
    written (s.modPod k fun q => { q with avs := ({ q.avs with ctrl := new } : PodAvs).setTarget t s.uptime })
  else ignored who (podBase k + 0x200) s

/-- POD_AVS_CTRL_WRITE (R370). -/
def execPodAvsCtrlWrite (who : Initiator) (k : PodId) (v : Word) (s : State) : Host.Outcome State Fault Refusal :=
  .next (regWrite who (podBase k + 0x200) s (writePodAvs who k v))

/-- Tolerance of an element, 75 % of it and the samples it takes (Table 14.7): mV, 0.125 °C, and for the clock millionths of the nominal
count of cycles. -/
def regionLimit : RegionElem → Nat × Nat × Nat
  | .supply => (80, 60, 4)
  | .temp => (160, 120, 4)
  | .clock => (200 * 131072, 150 * 131072, 2)

/-- One sample of an element. -/
def RegionEl.sample (e : RegionEl) (lim : Nat × Nat × Nat) (dev : Nat) : RegionEl :=
  let bad := if lim.1 < dev then e.bad + 1 else 0
  { bad := bad, live := e.live || decide (lim.2.2 ≤ bad), quiet := decide (dev ≤ lim.2.1) }

/-- The pair after a sample of one element. -/
def RegionPair.sample (p : RegionPair) (el : RegionElem) (dev : Nat) : RegionPair :=
  let p := match el with
    | .supply => { p with supply := p.supply.sample (regionLimit .supply) dev }
    | .temp => { p with temp := p.temp.sample (regionLimit .temp) dev }
    | .clock => { p with clock := p.clock.sample (regionLimit .clock) dev }
  { p with fault := p.fault || p.supply.live || p.temp.live || p.clock.live }

/-- The element a measurement is of. -/
def RegionMeas.elem : RegionMeas → RegionElem
  | .supply _ _ => .supply | .temp => .temp | .clock _ => .clock

/-- The distance of two integers. -/
def intDist (a b : Int) : Nat := (a - b).natAbs

/-- A target of VDD_PODk in mV (Table 14.15). -/
def targetMv (t : Nat) : Int := 500 + 5 * t

/-- The supply error of a pod's rail (Table 14.7): against its target, and within 20 µs of a new one against whichever of the old and the
new target is nearer the measurement (Table 14.8). -/
def podSupplyError (a : PodAvs) (now : Nat) (mv : Nat) : Int :=
  let new := (mv : Int) - targetMv a.target
  let old := (mv : Int) - targetMv a.prev
  if now < a.setAt + 740000 && decide (old.natAbs < new.natAbs) then old else new

/-- The hotter valid sensor of a pod (Table 14.7); none where neither is valid. -/
def hotterSensor (q : Pod) : Option Int :=
  match q.sensors[0].valid, q.sensors[1].valid with
  | true, true => some (max q.sensors[0].reading q.sensors[1].reading)
  | true, false => some q.sensors[0].reading
  | false, true => some q.sensors[1].reading
  | false, false => none

/-- The deviation a sample of a pod's pair shows (Table 14.7), and none where the element is not evaluated (Table 14.8). CLK_DSP makes
2^17 cycles while the CLK_FAB that the bridge returns makes 2^16 (Table 13.2). DEDUCED: with hub sensor k invalid there is nothing to take the
pod's reading against, so the temperature element is not evaluated. -/
def podDeviation (s : State) (k : PodId) (x : RegionMeas) : Option Nat :=
  let q := s.pods[k.val]
  if !q.bridge.up then none
  else
    match x with
    | .supply mv hub => some (intDist (podSupplyError q.avs s.uptime mv) ((hub : Int) - 750))
    | .temp =>
      match hotterSensor q with
      | some t => if s.pwr.hubSensors[k.val].valid then some (intDist t s.pwr.hubSensors[k.val].reading) else none
      | none => none
    | .clock n =>
      if s.clk.rpllLock && s.clk.dspRun && !s.clk.dom[1].fro then some (intDist n 131072 * 1000000) else none

/-- REGION_SAMPLE (R363, R364): an element out of tolerance raises the region fault of its pair, HUB–PODk or HUB–AON. -/
def execRegionSample (pair : Option PodId) (x : RegionMeas) (s : State) : Host.Outcome State Fault Refusal :=
  match pair with
  | some k =>
    if !s.part.hasPod k then .next s
    else
      match podDeviation s k x with
      | some dev =>
        let p := s.pods[k.val].region.sample x.elem dev
        .next (setCondUp .region (.pod k) 0 p.fault (s.modPod k fun q => { q with region := p }))
      | none =>
        .next (s.modPod k fun q => { q with region :=
          match x with
          | .clock _ => { q.region with clock := { q.region.clock with bad := 0 } }
          | _ => q.region })
  | none =>
    match x with
    | .supply mv hub =>
      let p := s.pwr.aon.sample .supply (intDist ((mv : Int) - 800) ((hub : Int) - 750))
      .next (setCondUp .regionAon .dev 0 p.fault { s with pwr := { s.pwr with aon := p } })
    | _ => .next s

/-- Every element within 75 % of its tolerance (R363). -/
def RegionPair.quiet (p : RegionPair) : Bool := p.supply.quiet && p.temp.quiet && p.clock.quiet

/-- REGION_FAULT_CLEAR (R363). -/
def execRegionFaultClear (pair : Option PodId) (s : State) : Host.Outcome State Fault Refusal :=
  match pair with
  | some k =>
    if s.pods[k.val].region.quiet then
      .next (endCond .region (.pod k) (s.modPod k fun q => { q with region := RegionPair.zero }))
    else .next s
  | none =>
    if s.pwr.aon.quiet then .next (endCond .regionAon .dev { s with pwr := { s.pwr with aon := RegionPair.zero } })
    else .next s

/-- The falling power-good threshold of a rail in mV (Table 14.4). -/
def Rail.falling : Rail → Nat
  | .hub => 670 | .pod _ => 550 | .vddaLine => 800 | .vddhLine => 1080 | .vddaHost => 750 | .aon => 700 | .io => 1550

/-- The operating range of a rail in units of 0.1 mV (Table 14.4); that of VDD_PODk lies 20 mV about its set point. -/
def Rail.range (s : State) : Rail → Nat × Nat
  | .hub => (7275, 7725)
  | .pod k => (4800 + 50 * s.pods[k.val].avs.target, 5200 + 50 * s.pods[k.val].avs.target)
  | .vddaLine => (8730, 9270) | .vddhLine => (11400, 12600) | .vddaHost => (8245, 8755)
  | .aon => (7600, 8400) | .io => (17100, 18900)

/-- What a port's host transmitters drive (R359, R251): nothing while VDDA_HOST is lost. -/
def State.hostDrive (s : State) (p : PortId) : Option HostTx :=
  if s.pwr.lost.contains .vddaHost then none else some (s.port p).host.tx

/-- SUPPLY_LOSS (R359, Table 14.6): the rail has been at a voltage below its falling threshold for a number of ns, 100 at least. -/
def execSupplyLoss (r : Rail) (mv ns : Nat) (s : State) : Host.Outcome State Fault Refusal :=
  if r.falling ≤ mv || ns < 100 then .next s else
  let s := { s with pwr := { s.pwr with lost := r :: s.pwr.lost.filter (fun x => x ≠ r) } }
  match r with
  | .hub | .aon | .io => .next (holdInReset r s)
  | .pod k =>
    if !s.part.hasPod k then .next s
    else
      .next (bridgeFailed k ((portsOfPod k).foldl (fun s p => txToSafe p s) s))
  | .vddaLine | .vddaHost => .next (raise .supplyLoss .dev 0 s)
  | .vddhLine => .next (raise .supplyLoss .dev 0 (allTxOff s))

/-- SUPPLY_RESTORE (R359): the rail, in units of 0.1 mV, is back within its operating range; the internal reset ends 1 ms after every
rail is, and SUPPLY_LOSS with the last of its rails. -/
def execSupplyRestore (r : Rail) (level : Nat) (straps : BitVec 6) (pass : List BankPass) (s : State) :
    Host.Outcome State Fault Refusal :=
  .next (
    let was := s.pwr.lost.contains r && decide ((r.range s).1 ≤ level) && decide (level ≤ (r.range s).2)
    if !was then s
    else
    let s := { s with pwr := { s.pwr with lost := s.pwr.lost.filter (fun x => x ≠ r) } }
    if r.resets then (if s.pwr.lost.any Rail.resets then s else startBoot straps pass s)
    else if s.pwr.lost.any fun x => x = .vddaLine || x = .vddhLine || x = .vddaHost then s
    else endCond .supplyLoss .dev s)

/-- One conversion of a sensor (R366, R367): it is invalid until it passes 16 checks in a row after a failure; fails counts
the checks still to pass. -/
def Sensor.convert (x : Sensor) (ok : Bool) (reading : Int) : Sensor :=
  if ok && decide (-320 ≤ reading) && decide (reading ≤ 1200) then
    let left := x.fails - 1
    { valid := decide (left = 0), reading := reading, fails := left,
      tripRun := if left = 0 && decide (1000 ≤ reading) then x.tripRun + 1 else 0 }
  else { x with valid := false, fails := 16, tripRun := 0 }

/-- Every present sensor with its THERM_MAX index (R366). -/
def sensors (s : State) : List (Nat × Sensor) :=
  (List.range 16).filterMap (fun i =>
    if h : i / 2 < 8 then
      if i / 2 < s.part.pods then some (i, s.pods[i / 2].sensors[i % 2]'(by omega)) else none
    else none)
  ++ s.pwr.hubSensors.toList.zipIdx.map fun x => (16 + x.2, x.1)

/-- The hottest valid sensor: its index and reading (R366). -/
def hottest (s : State) : Option (Nat × Int) :=
  (sensors s).foldl (fun a x =>
    if x.2.valid then
      match a with
      | none => some (x.1, x.2.reading)
      | some b => if b.2 < x.2.reading then some (x.1, x.2.reading) else some b
    else a) none

/-- The thresholds of Table 14.11 over every valid sensor. -/
def judgeTemps (d : Nat) (s : State) : State :=
  let v := ((sensors s).filter fun x => x.2.valid).map fun x => x.2.reading
  let warn : Int := s.pwr.thermWarn * 8
  let s := if v.any fun t => decide (warn ≤ t) then raise .thermWarn .dev d s
    else if v.all fun t => decide (t ≤ warn - 40) then endCond .thermWarn .dev s else s
  let s := if v.any fun t => decide (840 ≤ t) then raise .thermOver .dev d s
    else if v.all fun t => decide (t < 824) then endCond .thermOver .dev s else s
  if v.any fun t => decide (t < -40) then raise .thermUnder .dev d s
  else if v.all fun t => decide (0 ≤ t) then endCond .thermUnder .dev s else s

/-- The thermal trip (R368): device safe state, THERMTRIP_N, CLK_DSP and every PLL but the RPLL stop. -/
def thermalTrip (d : Nat) (s : State) : State :=
  let s := raise .thermTrip .dev d s
  let s := { s with pwr := { s.pwr with trip := true },
                    clk := { s.clk with dspRun := false, stkLock := false, cxlLock := false } }
  s.mapPods fun _ q => { q with groups := mapIdx q.groups fun _ g => { g with lock := false, freq := .none },
                                hpll := Vector.replicate 2 false }

/-- The sensor causes of R367 after a conversion of sensor d. -/
def judgeSensors (d : Nat) (bad : Bool) (s : State) : State :=
  let all := sensors s
  let s := if bad then raiseAgain .sensorFault .dev d s
    else if all.all fun x => x.2.fails = 0 then endCond .sensorFault .dev s else s
  let s := (List.finRange 8).foldl (fun s k =>
    if s.part.hasPod k then
      setCond .podSensorLoss (.pod k) d
        (decide (s.pods[k.val].sensors[0].fails ≠ 0) && decide (s.pods[k.val].sensors[1].fails ≠ 0)) s
    else s) s
  setCond .hubSensorLoss .dev d
    (decide ((s.pwr.hubSensors.toList.filter fun x => x.fails = 0).length < 4)) s

/-- SENSOR_CONVERSION (R366 to R368). -/
def execSensorConversion (i : Fin 24) (ok : Bool) (reading : Int) (s : State) : Host.Outcome State Fault Refusal :=
  if h : i.val < 16 then
    if s.part.pods ≤ i.val / 2 then .next s
    else
      let k : PodId := ⟨i.val / 2, by omega⟩
      let j : Fin 2 := ⟨i.val % 2, by omega⟩
      let x := s.pods[k.val].sensors[j.val].convert ok reading
      let was := s.pods[k.val].sensors[j.val].fails
      let s := s.modPod k fun q => { q with sensors := updAt q.sensors j fun _ => x }
      let s := judgeSensors i.val (decide (x.fails = 16) && decide (was = 0)) s
      let s := judgeTemps i.val s
      .next (if 2 ≤ x.tripRun && !s.pwr.trip then thermalTrip i.val s else s)
  else
    let j : Fin 8 := ⟨i.val - 16, by omega⟩
    let x := s.pwr.hubSensors[j.val].convert ok reading
    let was := s.pwr.hubSensors[j.val].fails
    let s := { s with pwr := { s.pwr with hubSensors := updAt s.pwr.hubSensors j fun _ => x } }
    let s := judgeSensors i.val (decide (x.fails = 16) && decide (was = 0)) s
    let s := judgeTemps i.val s
    .next (if 2 ≤ x.tripRun && !s.pwr.trip then thermalTrip i.val s else s)

end Sys2Proof.Machine
end

