-- ==== Sys2Proof/Machine/Image.lean ====
section
/-!
DEFINITION. The format of an image: its header, its section table, its sections, and the device configuration section (R383,
R384, R389, Tables 15.5 to 15.9a). Multi-byte fields are most significant byte first.
-/
namespace Sys2Proof.Machine

/-- n bytes from an offset. -/
def bytesAt (b : List Byte) (a n : Nat) : List Byte := (b.drop a).take n
/-- A field of n bytes at an offset. -/
def natAt (b : List Byte) (a n : Nat) : Nat := beNat (bytesAt b a n)
/-- A signed field of n bytes at an offset. -/
def intAt (b : List Byte) (a n : Nat) : Int := signed (8 * n) (natAt b a n)

/-! ### Sections -/

/-- The section is a placement (Table 15.6). -/
def Section.placement (x : Section) : Bool := x.flags.testBit 1
/-- The section is stored encrypted (Table 15.6). -/
def Section.encrypted (x : Section) : Bool := x.flags.testBit 0
/-- Bytes of the section once decrypted: an IV of 12 and a tag of 16 go (R384). -/
def Section.plainSize (x : Section) : Nat := if x.encrypted then x.size - 28 else x.size

/-- A section entry (Table 15.6). -/
def parseSection (e : List Byte) : Section :=
  { typ := natAt e 0 1, flags := natAt e 1 1, ofs := natAt e 4 4, size := natAt e 8 4, digest := BitVec.ofNat 384 (natAt e 16 48) }

/-- The section of a type. -/
def SlotHdr.section? (h : SlotHdr) (typ : Nat) : Option Section := h.sections.find? fun x => x.typ == typ

/-- A section is of the kind and within the size that Table 15.7 gives its type. -/
def Section.kindOk (x : Section) : Bool :=
  match x.typ with
  | 0x01 => !x.placement && decide (x.plainSize ≤ 0x10000)
  | 0x02 => !x.placement && decide (x.plainSize ≤ 0x400000)
  | 0x03 => !x.placement && x.encrypted && decide (x.plainSize ≤ 0x200000)
  | 0x04 | 0x05 => x.placement && decide (x.size = 0x40000)
  | 0x06 => x.placement && decide (0x100000 ≤ x.size) && decide (x.size ≤ 0x4000000) && decide (x.size % 0x10000 = 0)
  | 0x07 => !x.placement
  | _ => false

/-- Two byte ranges do not overlap. -/
def apart (a n b m : Nat) : Bool := decide (a + n ≤ b) || decide (b + m ≤ a)

/-- A placement lies aligned and outside both slots (R382). -/
def Section.placedOk (x : Section) : Bool := decide (x.ofs % 0x10000 = 0) && apart x.ofs x.size 0 0x2000000

/-- The section table is as R384 and Tables 15.6 and 15.7 require: types in order with every required one, each of its kind;
contained sections after the header in that order, without overlap and within LENGTH; placements aligned and apart. -/
def SlotHdr.tableOk (h : SlotHdr) : Bool :=
  let cs := h.sections.filter fun x => !x.placement
  let ps := h.sections.filter Section.placement
  decide ((h.sections.map Section.typ).Pairwise (· < ·))
    && [1, 2, 3, 4, 5, 6].all (fun t => (h.section? t).isSome)
    && h.sections.all Section.kindOk
    && decide (cs.Pairwise fun x y => x.ofs + x.size ≤ y.ofs)
    && cs.all (fun x => decide (0x1000 ≤ x.ofs) && decide (x.ofs + x.size ≤ h.length))
    && decide (h.length ≤ 0x1000000)
    && ps.all Section.placedOk
    && decide (ps.Pairwise fun x y => apart x.ofs x.size y.ofs y.size = true)

/-- The placements of a header: type, address and size (R382, R391). -/
def SlotHdr.placements (h : SlotHdr) : List (Nat × Nat × Nat) :=
  (h.sections.filter Section.placement).map fun x => (x.typ, x.ofs, x.size)

/-- The plaintext of a section as stored, or the check that fails: 5 the digest, 6 the tag (R384, Table 15.13). -/
def SlotHdr.read (h : SlotHdr) (typ : Nat) (stored : List Byte) : Except Nat (List Byte) :=
  match h.section? typ with
  | none => .error 5
  | some x =>
    if !x.kindOk || x.placement || decide (h.length < x.ofs + x.size) || stored.length ≠ x.size || Config.sha384 stored ≠ x.digest
    then .error 5
    else if !x.encrypted then .ok stored
    else
      match Config.gcm (stored.take 12) (bytesAt stored 12 (x.size - 28)) (stored.drop (x.size - 16)) with
      | some p => .ok p
      | none => .error 6

/-- The user area, when the image has one, has its digest (R374 step 10): it is read by the Clerk later, so no tag is judged. -/
def SlotHdr.userOk (h : SlotHdr) (stored : List Byte) : Bool :=
  match h.section? 7 with
  | none => true
  | some x => decide (stored.length = x.size) && decide (Config.sha384 stored = x.digest)

/-! ### The header -/

/-- The OTP key slot whose content is a digest; 4 where none is (R383). -/
def keySlot (d : BitVec 384) : Nat := ((List.range 4).find? fun n => Config.imgKey n = d).getD 4

/-- The 4 KiB header of a slot (Table 15.5). -/
def parseHeader (b : List Byte) : SlotHdr :=
  let count := natAt b 7 1
  let key := bytesAt b 0x500 97
  let k := keySlot (Config.sha384 key)
  { formatOk := natAt b 0 4 = 0x4D4C4249 && natAt b 4 2 = 1 && decide (1 ≤ count) && decide (count ≤ 16) && decide (b.length = 4096)
    written := natAt b 0xFF8 4
    parts := natAt b 6 1
    svn := natAt b 0xC 4
    gen := natAt b 8 4
    state := natAt b 0xFFC 4
    sigOk := decide (k < 4) && Config.ecdsa key (b.take 0xF00) (bytesAt b 0xF00 96)
    key := k
    version := bytesAt b 0x14 44
    digest := Config.sha384 (b.take 0xF00)
    length := natAt b 0x10 4
    sections := (List.range (Nat.min count 16)).map fun i => parseSection (bytesAt b (0x100 + 64 * i) 64) }

/-- A whole slot, read and checked as a boot would (R391): the first failure's status, if any. DENIED for a signature, digest,
tag or SVN failure goes before BAD_PARAM for a format or PARTS failure (R496). -/
def slotCheck (p : Part) (revoked svnMin : Nat) (slot : List Byte) : Option Nat :=
  let h := parseHeader (slot.take 4096)
  let body := fun (t : Nat) => match h.section? t with | some x => bytesAt slot x.ofs x.size | none => []
  let bad := [1, 2, 3].any fun t => match h.read t (body t) with | .error _ => true | .ok _ => false
  if !h.sigOk || revoked.testBit h.key || decide (h.svn < svnMin) || (h.tableOk && (bad || !h.userOk (body 7))) then some 0x05
  else if !h.formatOk || !h.tableOk || !h.parts.testBit p.code then some 0x03
  else none

/-! ### The device configuration section -/

/-- The limits record (Table 15.9a). -/
def parseLimits (b : List Byte) : Limits :=
  let u := natAt b
  { sliceOfs := (u 0 2, u 2 2), sliceGain := (u 4 2, u 6 2), sliceSkew := (u 8 2, u 10 2), compNoise := u 12 2, dacInUse := u 14 2,
    ctlePeak := u 16 1, ctleTrim := u 17 1, distRef := u 18 2, tsLat := u 20 2, skDeskew := u 22 2, distDesign := u 24 2,
    tsTxDesign := u 26 2, tsRxDesign := u 28 2, skDesign := intAt b 30 2, dacHyst := u 32 1, ctlePer := u 33 1, ctleHi := u 34 2,
    ctleLo := u 36 2, quiet := u 38 1 }

/-- An entry of the host equaliser table: PRE3, PRE2, PRE1, MAIN and POST1 (Table 15.8). -/
def parseHeq (b : List Byte) : List Int := (List.range 5).map fun i => intAt b i 1

/-- The parameter block, with the limits record and the host equaliser table it places (Table 15.8). -/
def parseParams (b : List Byte) : DevParams :=
  let lim := natAt b 4 4
  let heq := natAt b 8 4
  { txIdle := natAt b 12 1, prtad := natAt b 13 1, ledgerGib := natAt b 14 1, limits := parseLimits (bytesAt b lim 64),
    heq := (List.range 1152).map fun i => parseHeq (bytesAt b (heq + 8 * i) 8) }

/-- The records from a byte, two 32-bit words each, to the end of the section (R389). -/
def parseRecords (b : List Byte) (ofs : Nat) : List (BitVec 32 × Word) :=
  (List.range ((b.length - ofs) / 8)).map fun i => (BitVec.ofNat 32 (natAt b (ofs + 8 * i) 4), BitVec.ofNat 32 (natAt b (ofs + 8 * i + 4) 4))

/-- The stage C list of the section. -/
def parseStageC (b : List Byte) : List Byte := b.drop (natAt b 0 4)

/-- The record of a stage C list at an offset, and the offset of the next (R389): a CMD's packet is padded to a multiple of 8
bytes. The end of the section ends the list. -/
def stageCAt (b : List Byte) (pos : Nat) : StageC × Nat :=
  let a : Word := BitVec.ofNat 32 (natAt b pos 4)
  let v := natAt b (pos + 4) 4
  if b.length < pos + 8 then (.ends, pos)
  else
    match bits a 1 0 with
    | 0 => (.write (a &&& 0xFFFFFFFC) (BitVec.ofNat 32 v), pos + 8)
    | 1 => (.ends, pos)
    | 2 => (.cmd (bytesAt b (pos + 8) v), pos + 8 + (v + 7) / 8 * 8)
    | _ => (.truncated, pos)

end Sys2Proof.Machine
end

