-- ==== Sys2Proof/Machine/Boot.lean ====
section
/-!
DEFINITION. Resets, boot steps and the image commands (R371 to R393). The steps that write registers from the image are
in BootConfig.lean.
-/
namespace Sys2Proof.Machine

/-- POWER_ON_RESET (R371, R372): a full reset that clears the always-on logic too. -/
def execPowerOnReset (s : State) : Host.Outcome State Fault Refusal :=
  let s := fullReset true s
  .next { s with boot := { s.boot with cause := 0x01, inReset := true },
                 flt := { s.flt with lastF0 := 0, lastF1 := 0 } }

/-- PORST_N_ASSERT (R371, R51): a full reset that keeps the always-on logic; every line transmitter goes to OFF. -/
def execPorstNAssert (s : State) : Host.Outcome State Fault Refusal :=
  let prior := s.pwr.trip
  let s := fullReset true s
  .next { s with boot := { s.boot with cause := s.boot.cause ||| 0x02 ||| flg prior 4, inReset := true } }

/-- PORST_N_RELEASE (R373, R374, R375): the straps are sampled and the boot runs to step 2; a lost rail still holds the reset. -/
def execPorstNRelease (straps : BitVec 6) (pass : List BankPass) (s : State) : Host.Outcome State Fault Refusal :=
  .next (if s.boot.step ≠ 0 || s.pwr.lost.any Rail.resets then s else startBoot straps pass s)

/-- PE_PERST_N_ASSERT (R371): the PCIe endpoint alone is reset, with its latches of wide registers. -/
def execPePerstNAssert (s : State) : Host.Outcome State Fault Refusal :=
  .next { s with boot := { s.boot with peReset := true },
                 reg := { s.reg with latches := s.reg.latches.filter fun l => l.who ≠ .pcie } }

/-- PE_PERST_N_RELEASE (R545): the endpoint leaves reset. -/
def execPePerstNRelease (s : State) : Host.Outcome State Fault Refusal :=
  .next { s with boot := { s.boot with peReset := false } }

/-- TRST_N_ASSERT (R371, R410): the TAP is reset, which selects its reset instruction and ends boundary-scan control. -/
def execTrstNAssert (s : State) : Host.Outcome State Fault Refusal :=
  let s := { s with test := { s.test with jtag := .idcode } }
  .next (endCond .bscanCtrl .dev s)

/-- Whether a slot is a candidate (R385): an image whose KEY hashes to a revoked slot is none (R488). -/
def candidate (p : Part) (revoked svnMin : Nat) (h : SlotHdr) : Bool :=
  h.formatOk && decide (h.written = 0x5A3CA5C3) && h.parts.testBit p.code && decide (svnMin ≤ h.svn) && !revoked.testBit h.key

/-- Whether generation a is later than b: the comparison of SEQ in R302, serial arithmetic over 32 bits. -/
def laterGen (a b : Nat) : Bool :=
  let d := (a + 2 ^ 32 - b) % 2 ^ 32
  decide (d ≠ 0) && decide (d < 2 ^ 31)

/-! ### Calibration set, ledger and image records at boot -/

/-- A stored lane record is put in force (R302, R47): a selection that names one cell twice, or a cell above M8, is discarded. -/
def Lane.loadCal (l : Lane) (c : CalLane) : Lane :=
  let okSel := decide (c.retireA ≠ c.retireB) && decide (c.retireA ≤ 8) && decide (c.retireB ≤ 8)
  let sl := { l.rx.slices with
    trims := c.slices.map fun x => (x.1, x.2.1, x.2.2.1), results := c.slices.map fun x => (x.1, x.2.1, x.2.2.1), comparator := c.slices.map fun x => x.2.2.2 }
  { l with
    rx := { l.rx with slices := sl },
    tx := if okSel then { l.tx with retireA := c.retireA, retireB := c.retireB } else l.tx,
    cal := { l.cal with ctleTrim := c.trim, trimMeas := c.trimMeas, distTx := c.distTx, distRx := c.distRx, distMeas := c.distMeas } }

/-- A set is put in force while every lane is OFF (R302, R286). -/
def loadCalSet (c : CalSet) (s : State) : State :=
  let s := s.mapPorts fun p q =>
    let t := c.ports.getD p.val (0, 0, false)
    { q with lanes := mapIdx q.lanes fun n l =>
               match c.lanes[p.val * 8 + n.val]? with
               | some x => l.loadCal x
               | none => l,
             time := { q.time with latTx := t.1, latRx := t.2.1, latMeas := t.2.2 } }
  allStk.foldl (fun s p => s.modStk p fun x =>
    let d := (c.deskew.drop (4 * p.val)).take 4
    { x with deskew := d, deskewTo := d, deskewMeas := c.skMeas.testBit p.val }) s

/-- A calibration sector as the Librarian judges it at boot (R302): what R305 checks, and COMMIT. -/
def calSector (b : List Byte) : CalSector :=
  { set := if natAt b 60 4 = 0x5A3C96E1 then calParse b else none, blank := !b.isEmpty && b.all fun x => decide (x = 0xFF) }

/-- The calibration set is chosen (R302): the one valid sector, the later SEQ of two, or none and the defaults. -/
def chooseCalSet (secA secB : Option CalSet) (s : State) : State :=
  let pick : Nat × Option CalSet := match secA, secB with
    | some a, some b => if laterGen a.seq b.seq then (1, some a) else (2, some b)
    | some a, none => (1, some a)
    | none, some b => (2, some b)
    | none, none => (0, none)
  match pick.2 with
  | some c => loadCalSet c { s with cal := { s.cal with inForce := pick.1, source := c.source, seq := c.seq, defaults := false } }
  | none => raise .calSetInvalid .dev 0
      { s with cal := { s.cal with inForce := 0, source := 0, seq := 0, defaults := true } }

/-- The timing-path values of a device that runs on defaults (R302). -/
def timingDefaults (s : State) : State :=
  if !s.cal.defaults then s
  else
    let l := s.boot.limits
    let s := s.mapPorts fun _ q =>
      { q with lanes := mapIdx q.lanes fun _ x => { x with cal := { x.cal with distTx := l.distDesign, distRx := l.distDesign } },
               time := { q.time with latTx := l.tsTxDesign, latRx := l.tsRxDesign } }
    allStk.foldl (fun s p => s.modStk p fun x =>
      { x with deskew := List.replicate 4 l.skDesign, deskewTo := List.replicate 4 l.skDesign }) s

/-- The ring up to the last SEAL whose programming is complete; what follows is ignored (R508). The blocks newest first. -/
def sealedBlocks : List LedgerBlock → List LedgerBlock
  | [] => []
  | b :: bs =>
    match (b.recs.reverse.dropWhile fun r => r.type ≠ 2).reverse with
    | [] => sealedBlocks bs
    | rs => { b with recs := rs } :: bs

/-- 64 KiB blocks of the ring: the ledger anchor placement of the booted image (R382, R506). -/
def ringBlocks (h : SlotHdr) : Nat := match h.section? 6 with | some x => x.size / 0x10000 | none => 0

/-- The ledger at boot step 9 (R504, R506, R508), its first block apart: the ring as found, and a chain that goes on from the
last complete SEAL. Records go on in a new block of the ring (DESIGN CHOICE: log entry 164). -/
def ledgerAtBoot (ring : Option (List LedgerBlock)) (s : State) : LedgerSt :=
  let found := match ring with | some l => (sealedBlocks l.reverse).reverse | none => []
  let prev := ((found.flatMap LedgerBlock.recs).getLast?).map fun r => (r.accession, r.chain)
  { s.ledger with
    run := true, ringOk := ring.isSome, reserveOk := false, unanchored := false, k := 0, offset := 0, newest := 0, newestSealed := 0,
    ringBlocks := ringBlocks s.bootedHdr, ringSkip := true, chain := match prev with | some x => x.2 | none => 0,
    lastSeal := prev, unsealed := [], reserve := [], ring := found }

/-- The first block of a boot (R503, R504, R508): the ANCHOR names the last complete SEAL found, or sets FRESH. -/
def ledgerBootAnchor (ring : Option (List LedgerBlock)) (failedBits : Nat) (s : State) : State :=
  let s := { s with ledger := ledgerAtBoot ring s }
  let prev := s.ledger.lastSeal.getD (0, 0)
  let flags := b2n s.ledger.lastSeal.isSome + 2 * b2n s.ledger.lastSeal.isNone
  let s := ledgerBlock 1 prev.1 prev.2 0 flags failedBits s
  if ring.isSome then s else ledgerFault 1 s

/-- An IMAGE record (Table 20.10): the slot, and the GEN, SVN and digest of a header. -/
def imageRecord (code slot : Nat) (h : SlotHdr) (s : State) : State :=
  ledgerAppend 0x21 code 0 (beBytes 1 slot ++ beBytes 4 h.gen ++ beBytes 4 h.svn ++ beBytes 48 h.digest.toNat) s

/-- STATE is tried (R386). -/
def triedState (st : Nat) : Bool := decide (st ≠ 0xFFFFFFFF) && decide (st ≠ 0)

/-- The candidates, best first (R385). -/
def rankSlots (p : Part) (revoked svnMin : Nat) (h0 h1 : SlotHdr) (single : Bool) : List (Fin 2) :=
  let c0 := candidate p revoked svnMin h0
  let c1 := candidate p revoked svnMin h1 && !single
  match c0, c1 with
  | false, false => []
  | true, false => [0]
  | false, true => [1]
  | true, true =>
    let t0 := triedState h0.state
    let t1 := triedState h1.state
    if t0 && !t1 then [1, 0] else if t1 && !t0 then [0, 1]
    else if laterGen h1.gen h0.gen then [1, 0] else [0, 1]

/-- The boot has failed (R387): every line transmitter stays in OFF, FAULT_N stays low, and the management interfaces that the
straps enabled are up. -/
def bootFailed (why : Nat) (s : State) : State :=
  let s := { s with boot := { s.boot with step := 14, fail := why, cands := [], verified := false },
                    clk := { s.clk with gate := mgmtGates s.boot.straps s.clk.gate },
                    flt := { s.flt with faultN := true } }
  allTxOff s

/-- A streamed boot discards what it received and waits for its stream from offset 0 (R388). -/
def streamRestart (s : State) : State := { s with boot := { s.boot with step := 15, streamBuf := [] } }

/-- Try the next candidate from step 3 (R385, R387): the first whose signature verifies is booted. A failure before step 6 or
after it leaves what the earlier steps put in force. -/
def tryCandidates (why : Nat) : List (Fin 2) → State → State
  | [], s => if s.boot.stream then streamRestart s else bootFailed why s
  | c :: cs, s =>
    if s.boot.hdr[c.val].sigOk then
      { s with boot := { s.boot with step := 3, slot := c.val, cands := cs, stream := false } }
    else tryCandidates 4 cs s

/-- The flash describes the commands the Librarian needs (R552). -/
def Sfdp.fit (x : Sfdp) : Bool := x.quadRead && x.addr4 && x.page256 && x.erase64k

/-- BOOT_STAT.FAIL where no slot is a candidate (R387, Table 15.13): of the last slot that holds a committed image of valid format,
PARTS or else SVN where one of them keeps it from being a candidate; otherwise no candidate. DEDUCED: log 131. -/
def noCandidate (p : Part) (svnMin : Nat) (hs : List SlotHdr) : Nat :=
  match (hs.filter fun h => h.formatOk && decide (h.written = 0x5A3CA5C3)).getLast? with
  | none => 3
  | some h => if !h.parts.testBit p.code then 8 else if h.svn < svnMin then 7 else 3

/-- BOOT_TRIMMED (R374 step 3, R385, R552): the SFDP table is read, the slot chosen and its header verified; a streamed boot waits
for its bytes. -/
def execBootTrimmed (h0 h1 : List Byte) (flash : Option Sfdp) (s : State) : Host.Outcome State Fault Refusal :=
  let a := parseHeader h0
  let b := parseHeader h1
  let single := match flash with | some x => decide (x.mib < 32) | none => true
  .next (
    if s.boot.step ≠ 1 || !s.clk.trimmed || s.pwr.trip then s
    else if bitOf s.boot.straps 3 then
      { s with boot := { s.boot with step := 15, stream := true, streamBuf := [], singleSlot := single, hdr := #v[a, b] } }
    else if !(flash.any Sfdp.fit) then bootFailed 2 s
    else
      let s := { s with boot := { s.boot with hdr := #v[a, b], singleSlot := single } }
      let hs := if single then [a] else [a, b]
      tryCandidates (noCandidate s.part s.fw.svnMin hs) (rankSlots s.part s.fw.revoked s.fw.svnMin a b single) s)

/-- The bytes of a contained section as stored: read from the flash, or of what the stream has brought (R374, R388); none while
the stream has not brought the whole of it, or while the flash access waits for TRIMMED (R328, R393). -/
def State.sectionStored (s : State) (typ : Nat) (stored : List Byte) : Option (List Byte) :=
  if !s.boot.stream then (if s.clk.trimmed then some stored else none)
  else
    match s.boot.streamHdr.section? typ with
    | none => some []
    | some x => if x.ofs + x.size ≤ s.boot.streamOfs then some (bytesAt s.boot.streamBuf x.ofs x.size) else none

/-- A boot step reads a section (R374, R384, R385): a failed check moves to the next candidate, and a streamed boot waits for the
bytes it lacks. -/
def withSection (typ : Nat) (stored : List Byte) (s : State) (f : List Byte → State) : State :=
  match s.sectionStored typ stored with
  | none => s
  | some b =>
    match s.bootedHdr.read typ b with
    | .error why => tryCandidates why s.boot.cands s
    | .ok plain => f plain

/-- BOOT_TRIM_TIMEOUT (R375, R393): it bounds the wait for TRIMMED in steps 2 to 6. -/
def execBootTrimTimeout (s : State) : Host.Outcome State Fault Refusal :=
  if s.boot.step = 0 || 5 < s.boot.step || s.clk.trimmed || s.pwr.trip then .next s else .next (bootFailed 1 s)

/-- A parameter within its range, or its default (R489). -/
def inRangeOr (lo hi d v : Nat) : Nat := if lo ≤ v && v ≤ hi then v else d

/-- The Librarian configuration of a section (Table 20.3). -/
def LibConfig.ofList (l : List Nat) : LibConfig :=
  { wdogMs := inRangeOr 10 2000 200 (l.getD 0 0), giveUp := inRangeOr 1 15 3 (l.getD 1 0),
    sealN := inRangeOr 16 256 256 (l.getD 2 0), sealMs := inRangeOr 100 10000 1000 (l.getD 3 0),
    ctrS := inRangeOr 60 86400 900 (l.getD 4 0), witnessS := inRangeOr 10 3600 60 (l.getD 5 0),
    rate := inRangeOr 10 100 100 (l.getD 6 0), burst := inRangeOr 256 4096 4096 (l.getD 7 0) }

/-- The eight parameters of the section (Table 20.3). -/
def LibConfig.ofBytes (b : List Byte) : LibConfig := LibConfig.ofList ((List.range 8).map fun i => natAt b (4 * i) 4)

/-- BOOT_LIB_CONFIG_READ (R374 steps 4 and 5, R489, R302): parameters in force and the calibration set chosen. -/
def execBootLibConfigRead (stored secA secB : List Byte) (s : State) : Host.Outcome State Fault Refusal :=
  .next (
    if s.boot.step ≠ 3 then s
    else withSection 1 stored s fun plain =>
      let par := LibConfig.ofBytes plain
      let a := calSector secA
      let b := calSector secB
      let s := { s with fw := { s.fw with config := par }, ledger := { s.ledger with allowance := par.burst },
                        cal := { s.cal with secA := a, secB := b } }
      let s := chooseCalSet a.set b.set s
      { s with boot := { s.boot with step := 5 } })

/-- BOOT_RPLL_TIMEOUT (R376): the boot goes on without the root. -/
def execBootRpllTimeout (s : State) : Host.Outcome State Fault Refusal :=
  if s.boot.step = 6 && !s.clk.rpllLock then
    .next { s with boot := { s.boot with step := 7, noRoot := true } }
  else .next s

/-- BOOT_CLERK_FW_READ (R374 step 8, R490): the section is checked and decrypted; of a streamed image a copy is kept. -/
def execBootClerkFwRead (stored : List Byte) (s : State) : Host.Outcome State Fault Refusal :=
  .next (
    if s.boot.step = 7 || (s.boot.step = 6 && s.clk.rpllLock) then
      withSection 3 stored s fun _ =>
        let copy := if s.boot.stream then (s.sectionStored 3 stored).getD [] else []
        { s with boot := { s.boot with step := 8 }, fw := { s.fw with imageStore := copy } }
    else s)

/-- BOOT_LEDGER_ANCHOR (R374 step 9, R504, R508): a new block begins with a boot ANCHOR and the IMAGE record. -/
def execBootLedgerAnchor (ring : Option (List LedgerBlock)) (failedBits : Nat) (s : State) : Host.Outcome State Fault Refusal :=
  .next (
    if s.boot.step = 8 then
      let s := ledgerBootAnchor ring failedBits s
      let s := imageRecord 1 s.boot.slot s.bootedHdr s
      { s with boot := { s.boot with step := 9 } }
    else s)

/-- BOOT_USER_AREA_READ (R374 steps 10 and 11, R386, Table 16.2): a failed digest ends the boot (R374; R385 names no step 10), or
restarts the stream; an untried slot is marked tried, TRIAL is set, and the Clerk is
released on CLK_CORE, which ramps down from ÷16 (R335, R377), unless a bank of its memory or of the general memory is
unrepairable. -/
def execBootUserAreaRead (stored : List Byte) (pass : List BankPass) (s : State) : Host.Outcome State Fault Refusal :=
  .next (
    if s.boot.step ≠ 9 || s.pwr.trip || (s.sectionStored 7 stored).isNone then s
    else if !s.bootedHdr.userOk ((s.sectionStored 7 stored).getD []) then (if s.boot.stream then streamRestart s else bootFailed 5 s)
    else
      let slot : Fin 2 := if s.boot.slot = 1 then 1 else 0
      let untried := decide (s.boot.hdr[slot.val].state = 0xFFFFFFFF) && !s.boot.stream
      let hdr := if untried then updAt s.boot.hdr slot fun h => { h with state := 0xFFFF0000 } else s.boot.hdr
      let s := { s with boot := { s.boot with trial := untried, hdr := hdr } }
      let s := corePass pass s
      if s.clerkMemBad then s
      else
        let core : DomainClk := { fro := !s.clk.rpllLock, ramp := 7, toFro := !s.clk.rpllLock, running := true }
        { s with boot := { s.boot with step := 10 },
                 clk := { s.clk with gate := setBits s.clk.gate 9 9 1, dom := updAt s.clk.dom 0 fun _ => core },
                 fw := { s.fw with clerk := .starting, violSeen := false } })

/-- The slot that is not booted (R390); a single-slot flash holds SLOT0 only (R382, R392). -/
def inactiveSlot (s : State) : Fin 2 := if s.boot.singleSlot || decide (s.boot.slot = 1) then 0 else 1

/-- IMG_INFO (0x0701): for each slot GEN, SVN, VERSION, WRITTEN and STATE, then which slot booted. -/
def execImgInfo (via : Origin) (s : State) : Host.Outcome State Fault Refusal :=
  .next (command via 0x0701 s fun s =>
    let one := fun (h : SlotHdr) => beBytes 4 h.gen ++ beBytes 4 h.svn ++ h.version ++ beBytes 4 h.written
      ++ beBytes 4 h.state
    reply via 0x0701 0x00 (one s.boot.hdr[0] ++ one s.boot.hdr[1] ++ beBytes 1 s.boot.slot) s)

/-- IMG_ERASE (0x0702, R390, R392). -/
def execImgErase (via : Origin) (blocks : Nat) (s : State) : Host.Outcome State Fault Refusal :=
  .next (command via 0x0702 s fun s =>
    if blocks < 1 || 256 < blocks then reply via 0x0702 0x03 [] s
    else if s.boot.singleSlot && (s.fw.clerk = .running || s.fw.clerk = .starting) then reply via 0x0702 0x07 [] s
    else if s.boot.job.isSome then reply via 0x0702 0x01 [] s
    else
      let j : FlashJob := { op := .imgErase, stage := 0, origin := via, opcode := 0x0702 }
      let hdr := updAt s.boot.hdr (inactiveSlot s) fun _ => SlotHdr.blank
      reply via 0x0702 0x00 []
        { s with boot := { s.boot with job := some j, left := blocks, erased := 0, writes := [], hdr := hdr } })

/-- IMG_ERASE_BLOCK_DONE (R390): LEFT falls; the last block ends the erase. -/
def execImgEraseBlockDone (s : State) : Host.Outcome State Fault Refusal :=
  match s.boot.job with
  | some j =>
    if j.op = FlashOp.imgErase && decide (0 < s.boot.left) then
      .next { s with boot := { s.boot with left := s.boot.left - 1, erased := s.boot.erased + 1,
                                           job := if s.boot.left = 1 then none else some j } }
    else .next s
  | none => .next s

/-- Bytes ofs to ofs + n − 1 of the inactive slot are erased and not written since (R390). -/
def erasedRange (b : BootSt) (ofs n : Nat) : Bool :=
  decide (ofs + n ≤ b.erased * 65536) &&
    b.writes.all fun w => decide (ofs + n ≤ w.1) || decide (w.1 + w.2.length ≤ ofs)

/-- IMG_WRITE (0x0703, R390): the bytes are programmed; the reply follows at FLASH_OPERATION_DONE. -/
def execImgWrite (via : Origin) (ofs : Nat) (data : List Byte) (s : State) : Host.Outcome State Fault Refusal :=
  .next (command via 0x0703 s fun s =>
    if data.length < 1 || 2048 < data.length || 0x1000000 < ofs + data.length
        || !erasedRange s.boot ofs data.length then reply via 0x0703 0x03 [] s
    else if s.boot.job.isSome then reply via 0x0703 0x01 [] s
    else
      let j : FlashJob := { op := .imgWrite, stage := 0, origin := via, opcode := 0x0703 }
      { s with boot := { s.boot with job := some j, writes := s.boot.writes ++ [(ofs, data)] } })

/-- The check of a streamed image's header (R388): DENIED for its signature, BAD_PARAM otherwise; none where it passes. -/
def streamHeader (h : SlotHdr) (s : State) : Option Nat :=
  if !h.sigOk || s.fw.revoked.testBit h.key then some 0x05
  else if !h.formatOk || !h.tableOk || !h.parts.testBit s.part.code || decide (h.svn < s.fw.svnMin) then some 0x03
  else none

/-- The check of the contained sections that end with the bytes after old, up to the end of what was received (R388). -/
def streamSections (h : SlotHdr) (old : Nat) (buf : List Byte) : Option Nat :=
  (h.sections.filter fun x => !x.placement && decide (old < x.ofs + x.size) && decide (x.ofs + x.size ≤ buf.length)).findSome? fun x =>
    let b := bytesAt buf x.ofs x.size
    if x.typ = 7 then (if h.userOk b then none else some 0x03)
    else
      match h.read x.typ b with
      | .ok _ => none
      | .error why => some (if why = 6 then 0x05 else 0x03)

/-- IMG_WRITE with TARGET = STREAM (R388): offsets run from 0; the header is judged once it is there, and every section as it
ends; a failed check discards what was received. -/
def execImgWriteStream (via : Origin) (ofs : Nat) (data : List Byte) (s : State) : Host.Outcome State Fault Refusal :=
  .next (command via 0x0703 s fun s =>
    if !s.boot.stream || s.boot.configDone || data.length < 1 || 2048 < data.length || ofs ≠ s.boot.streamOfs then
      reply via 0x0703 0x03 [] s
    else
      let buf := s.boot.streamBuf ++ data
      let now := decide (ofs < 4096) && decide (4096 ≤ buf.length)
      let h := if now then parseHeader (buf.take 4096) else s.boot.streamHdr
      let bad := if buf.length < 4096 then none
        else match (if now then streamHeader h s else none) with
          | some x => some x
          | none => streamSections h ofs buf
      match bad with
      | some x => reply via 0x0703 x [] (streamRestart s)
      | none => reply via 0x0703 0x00 [] { s with boot := { s.boot with
          streamBuf := buf, streamHdr := h, step := if now then 3 else s.boot.step } })

/-- What the inactive slot holds: the bytes written since its erase, all ones elsewhere in the erased blocks, and then what else
the flash holds (R390, R391). -/
def slotContent (b : BootSt) (rest : List Byte) : List Byte :=
  (List.range (b.erased * 65536)).map (fun a =>
    match b.writes.find? fun w => decide (w.1 ≤ a) && decide (a < w.1 + w.2.length) with
    | some w => w.2.getD (a - w.1) 0xFF
    | none => 0xFF) ++ rest

/-- IMG_COMMIT (0x0704, R391): the full check; on success WRITTEN is programmed and the reply follows. After a failed boot no slot
is booted to compare with. -/
def execImgCommit (via : Origin) (rest : List Byte) (s : State) : Host.Outcome State Fault Refusal :=
  .next (command via 0x0704 s fun s =>
    let slot := slotContent s.boot rest
    let h := parseHeader (slot.take 4096)
    let differs := decide (h.placements ≠ s.bootedHdr.placements) || !laterGen h.gen s.bootedHdr.gen
    match slotCheck s.part s.fw.revoked s.fw.svnMin slot with
    | some x => reply via 0x0704 x [] s
    | none =>
      if decide (s.boot.step ≠ 14) && differs then reply via 0x0704 0x07 [] s
      else if s.boot.job.isSome then reply via 0x0704 0x01 [] s
      else
        let j : FlashJob := { op := .imgCommit, stage := 0, origin := via, opcode := 0x0704 }
        let hdr := updAt s.boot.hdr (inactiveSlot s) fun _ => { h with written := 0xFFFFFFFF }
        { s with boot := { s.boot with job := some j, hdr := hdr } })

/-- IMG_CONFIRM (0x0705, R391, R487): STATE is cleared to confirmed and the minimum SVN optionally raised. -/
def execImgConfirm (via : Origin) (raiseSvn : Bool) (s : State) : Host.Outcome State Fault Refusal :=
  .next (command via 0x0705 s fun s =>
    let slot : Fin 2 := if s.boot.slot = 1 then 1 else 0
    let h := s.boot.hdr[slot.val]
    if raiseSvn && 256 < h.svn then reply via 0x0705 0x03 [] s
    else if s.boot.stream || !triedState h.state then reply via 0x0705 0x07 [] s
    else if s.boot.job.isSome then reply via 0x0705 0x01 [] s
    else
      let s := { s with boot := { s.boot with hdr := updAt s.boot.hdr slot fun h => { h with state := 0 } } }
      let s := imageRecord 3 slot.val s.bootedHdr s
      let s := if raiseSvn then
          imageRecord 4 slot.val s.bootedHdr { s with fw := { s.fw with svnMin := Nat.max s.fw.svnMin h.svn } }
        else s
      reply via 0x0705 0x00 [] s)

/-- DEV_RESET (0x0706, R371): the reply is sent before the delay ends. -/
def execDevReset (via : Origin) (delay : Nat) (s : State) : Host.Outcome State Fault Refusal :=
  .next (command via 0x0706 s fun s =>
    if delay < 10 || 1000 < delay then reply via 0x0706 0x03 [] s
    else if s.boot.job.isSome then reply via 0x0706 0x01 [] s
    else reply via 0x0706 0x00 [] { s with boot := { s.boot with devReset := some delay } })

/-- DEV_RESET_EXPIRE (R371, R372): the internal reset, then the same as a release of PORST_N. -/
def execDevResetExpire (straps : BitVec 6) (pass : List BankPass) (s : State) : Host.Outcome State Fault Refusal :=
  .next (
    if s.boot.devReset.isNone then s
    else
      let prior := s.pwr.trip
      let s := fullReset false s
      startBoot straps pass { s with boot := { s.boot with cause := s.boot.cause ||| 0x08 ||| flg prior 4 } })

end Sys2Proof.Machine
end

