-- ==== Sys2Proof/Machine/Faults.lean ====
section
/-!
DEFINITION. Fault messages, sticky bits, records, instance access, reactions and fault injection (R417 to R436).
-/
namespace Sys2Proof.Machine

/-- The class sent first among the occurrences a pod holds (R422). -/
def topClass (l : List Occ) : Option FltClass :=
  l.foldl (fun a o => some (match a with | some k => FltClass.max k o.cls | none => o.cls)) none

/-- The next message of a pod (R422): of the instances that may send, the one whose occurrence of the highest class has waited
longest, all its occurrences in time order, and what stays. -/
def nextMessage (may : Occ → Bool) (l : List Occ) : List Occ × List Occ :=
  let ready := l.filter may
  match ready.find? fun o => some o.cls = topClass ready with
  | none => ([], l)
  | some o => l.partition fun x => decide (x.cause = o.cause) && decide (x.inst = o.inst)

/-- The instances of a pod whose last message is less than 1 µs old (R422). -/
def recentMessages (k : PodId) (s : State) : List (Cause × Inst × Nat) :=
  (s.pod k).msgAt.filter fun x => decide (s.uptime < x.2.2 + 37000)

/-- An occurrence's instance may send a message now (R422). -/
def maySend (recent : List (Cause × Inst × Nat)) (o : Occ) : Bool :=
  !recent.any fun x => x.1 == o.cause && decide (x.2.1 = o.inst)

/-- The state once a pod's next message has left it: the occurrences it carries are no longer held, and its instance waits 1 µs (R422). -/
def messageLeaves (k : PodId) (s : State) : State :=
  let recent := recentMessages k s
  let m := nextMessage (maySend recent) (s.pod k).fltQueue
  s.modPod k fun q =>
    { q with fltQueue := m.2, msgAt := (m.1.take 1).map (fun o => (o.cause, o.inst, s.uptime)) ++ recent }

/-- FAULT_MESSAGE (R422): while the bridge is down the occurrences wait in the pod. -/
def execFaultMessage (k : PodId) (s : State) : Host.Outcome State Fault Refusal :=
  if !s.podOpen k then .next s
  else
    let m := nextMessage (maySend (recentMessages k s)) (s.pod k).fltQueue
    .next (settleSafe (m.1.foldl (fun s o => hubApply o s) (messageLeaves k s)))

/-- EVENT_CAUSE_EXPIRE (R418): an event is live for 1 µs after each occurrence. -/
def execEventCauseExpire (c : Cause) (i : Inst) (s : State) : Host.Outcome State Fault Refusal :=
  .next (if c.isCondition then s
    else settleSafe (fltMod c i (fun x => { x with real := false, injLive := false }) s))

/-- The scope of an instance. -/
def Inst.scope : Inst → FltScope
  | .lane _ _ => .lane | .port _ => .port | .pod _ => .pod | .dev => .dev

/-- The first cause code of a scope's registers (Table 17.5). -/
def FltScope.base : FltScope → Nat
  | .lane => 0 | .port => 0x08 | .pod => 0x18 | .dev => 0x24

/-- The causes of a scope that a register word names (Table 17.5). -/
def scopeCauses (i : Inst) (v : Word) : List Cause :=
  Cause.all.filter fun c => decide (c.scope = i.scope) && v.getLsbD (c.code - i.scope.base)

/-- The live, sticky and enable registers of an instance's scope start here (Table 17.4). -/
def fltBase : Inst → Nat
  | .lane p n => laneBase p n + 0x600
  | .port p => portBase p + 0x100
  | .pod k => 0x10040 + k.val * 0x10
  | .dev => 0x10020

/-- A write of a sticky register (R420, R433): a bit written as 1 clears unless the instance is live, and ends a pending
injection in either case. -/
def clearSticky (i : Inst) (v : Word) (s : State) : State :=
  (scopeCauses i v).foldl (fun s c => fltMod c i (fun x => { x with sticky := x.sticky && x.live, injPend := false }) s) s

/-- STICKY_CLEAR (R420, R433). -/
def execStickyClear (who : Initiator) (i : Inst) (v : Word) (s : State) : Host.Outcome State Fault Refusal :=
  .next (regWrite who (fltBase i + 4) s fun s => written (clearSticky i v s))

/-- A record is acknowledged (R426, R429): it is freed, and the safe-state holds of the occurrences in it wait only for their
causes to end. -/
def ackRecord (r : Nat) (s : State) : State :=
  settleSafe { s with flt := { s.flt with
    recs := updNat s.flt.recs r fun _ => FltRec.free,
    safe := s.flt.safe.map fun h =>
      if recOf h.inst = r && decide (h.stage = .recorded) then { h with stage := .acked } else h } }

/-- A write of REC_ACK (Table 17.9). -/
def writeRecAck (who : Initiator) (v : Word) (s : State) : State :=
  if bitOf v 31 then written ((List.range 105).foldl (fun s r => ackRecord r s) s)
  else
    let r := bits v 6 0
    if (getNat s.flt.recs r FltRec.free).pend then written (ackRecord r s) else ignored who 0x10318 s

/-- REC_ACK (R429): WR_IGNORED where the record is not pending. -/
def execRecAck (who : Initiator) (index : BitVec 7) (s : State) : Host.Outcome State Fault Refusal :=
  .next (regWrite who 0x10318 s (writeRecAck who (index.setWidth 32)))

/-- REC_ACK_ALL (R429). -/
def execRecAckAll (who : Initiator) (s : State) : Host.Outcome State Fault Refusal :=
  .next (regWrite who 0x10318 s (writeRecAck who 0x80000000))

/-- An instance that the part has (Table 0.1). -/
def Inst.present (p : Part) : Inst → Bool
  | .lane n _ | .port n => p.hasPort n
  | .pod k => p.hasPod k
  | .dev => true

/-- The present instance a code and a number name; none for a reserved code or an absent instance (R432, Table 17.8). -/
def namedInst (p : Part) (code n : Nat) : Option (Cause × Inst) :=
  match Cause.ofCode code with
  | none => none
  | some c =>
    match Inst.ofNum c.scope n with
    | some i => if i.present p then some (c, i) else none
    | none => none

/-- A write of FLT_SEL (R421, R433, Table 17.8): the snapshot, and after it the clearing that CLR asks for. -/
def writeFltSel (v : Word) (s : State) : State :=
  let code := bits v 5 0
  let n := bits v 25 16
  let sel := fld n 16 10 ||| fld code 0 6
  match namedInst s.part code n with
  | none => written { s with flt := { s.flt with sel := sel, snapCnt := 0, snapFirst := 0, snapLast := 0, snapFlags := 0 } }
  | some (c, i) =>
    let x := fltGet c i s
    let s := { s with flt := { s.flt with
      sel := sel ||| flg true 31, snapCnt := fld x.count 16 16 ||| fld x.injCnt 0 16, snapFirst := x.first, snapLast := x.last,
      snapFlags := flg x.live 31 ||| flg x.sticky 30 ||| flg x.injPend 29 ||| flg x.realFlag 28 ||| fld x.realCnt 0 16 } }
    let clear := fun (x : FltInst) =>
      { x with count := 0, injCnt := 0, first := 0, last := 0, seen := false, realFlag := false, realCnt := 0 }
    written (if bitOf v 30 then fltMod c i clear s else s)

/-- FLT_SEL_WRITE (R421). -/
def execFltSelWrite (who : Initiator) (v : Word) (s : State) : Host.Outcome State Fault Refusal :=
  .next (regWrite who 0x10200 s (writeFltSel (v &&& 0xBFFFFFFF)))

/-- FLT_SEL_CLEAR (R433). -/
def execFltSelClear (who : Initiator) (v : Word) (s : State) : Host.Outcome State Fault Refusal :=
  .next (regWrite who 0x10200 s (writeFltSel (v ||| 0x40000000)))

/-- What FLT_REACTc holds after a write (R424, R432, Table 17.7). -/
def reactWord (c : Cause) (v : Word) : Word :=
  ((if c.reportOnly then v &&& 0x7E else v &&& 0x17E) ||| BitVec.ofNat 32 c.fixedReact)

/-- A write of FLT_REACTc. -/
def writeFltReact (c : Cause) (v : Word) (s : State) : State :=
  written { s with flt := { s.flt with react := updNat s.flt.react c.code fun _ => reactWord c v } }

/-- FLT_REACT_WRITE (R424). -/
def execFltReactWrite (who : Initiator) (c : Cause) (v : Word) (s : State) : Host.Outcome State Fault Refusal :=
  .next (regWrite who (0x10100 + 4 * c.code) s (writeFltReact c v))

/-- An armed injection is one of a cause at an instance. -/
def Armed.is (a : Armed) (c : Cause) (i : Inst) : Bool := decide (a.cause = c) && decide (a.inst = i)

/-- The parameters of FI_ARM as the ledger and FI_ARM's payload hold them. -/
def fiBytes (code inst delay : Nat) (rep : Bool) (period count hold : Nat) : List Byte :=
  beBytes 1 code ++ beBytes 2 inst ++ beBytes 4 delay ++ beBytes 1 (b2n rep) ++ beBytes 4 period ++ beBytes 2 count ++ beBytes 4 hold

/-- FI_ARM, 0x0901 (R432, Table 17.2). -/
def execFiArm (via : Origin) (code inst delay : Nat) (rep : Bool) (period count hold : Nat) (s : State) :
    Host.Outcome State Fault Refusal :=
  .next (command via 0x0901 s fun s =>
    if !s.flt.fiEn then reply via 0x0901 0x05 [] s
    else
      match namedInst s.part code inst with
      | none => reply via 0x0901 0x03 [] s
      | some (c, i) =>
        if 1000000 < delay || (rep && (period = 0 || 1000000 < period || count = 0 || 65535 < count)) || hold = 0
            || 1000000 < hold then reply via 0x0901 0x03 [] s
        else if (s.flt.armed.any fun a => a.is c i) || 16 ≤ s.flt.armed.length then reply via 0x0901 0x07 [] s
        else
          let a : Armed := { cause := c, inst := i, delay := delay, repeatMode := rep, period := period,
                             left := if rep then count else 1, hold := hold }
          let s := { s with flt := { s.flt with armed := s.flt.armed ++ [a] } }
          reply via 0x0901 0x00 [] (ledgerAppend 0x24 code 0 (fiBytes code inst delay rep period count hold) s))

/-- FI_STOP, 0x0902 (Table 17.2). -/
def execFiStop (via : Origin) (what : Option (Nat × Nat)) (s : State) : Host.Outcome State Fault Refusal :=
  .next (command via 0x0902 s fun s =>
    if !s.flt.fiEn then reply via 0x0902 0x05 [] s
    else
      let named := fun (a : Armed) => match what with
        | none => true
        | some (code, n) => a.cause.code == code && a.inst.num == n
      if s.flt.armed.any named then
        reply via 0x0902 0x00 [] { s with flt := { s.flt with armed := s.flt.armed.filter fun a => !named a } }
      else reply via 0x0902 0x03 [] s)

/-- FI_LIST, 0x0903 (Table 17.2): code, instance and remaining count of each armed injection. -/
def execFiList (via : Origin) (s : State) : Host.Outcome State Fault Refusal :=
  .next (command via 0x0903 s fun s =>
    if !s.flt.fiEn then reply via 0x0903 0x05 [] s
    else reply via 0x0903 0x00
      (s.flt.armed.flatMap fun a => beBytes 1 a.cause.code ++ beBytes 2 a.inst.num ++ beBytes 2 a.left) s)

/-- The detail of an occurrence whose rule names no other (R419). -/
def Inst.detail : Inst → Nat
  | .lane _ n => n.val
  | _ => 0

/-- INJECTION_DELIVER (R432): one occurrence with the INJ flag; ONCE and the last of COUNT disarm the injection. -/
def execInjectionDeliver (c : Cause) (i : Inst) (s : State) : Host.Outcome State Fault Refusal :=
  .next (if s.flt.armed.any fun a => a.is c i then
      let armed := s.flt.armed.filterMap fun a =>
        if a.is c i then (if a.left ≤ 1 then none else some { a with left := a.left - 1 }) else some a
      raiseInjected c i i.detail { s with flt := { s.flt with armed := armed } }
    else s)

/-- INJECT_HOLD_END (R432): an injected condition stops being live unless the real one holds. -/
def execInjectHoldEnd (c : Cause) (i : Inst) (s : State) : Host.Outcome State Fault Refusal :=
  .next (settleSafe (fltMod c i (fun x => { x with injLive := false }) s))

end Sys2Proof.Machine
end

