-- ==== Sys2Proof/Machine/Firmware.lean ====
section
/-!
DEFINITION. Mailbox, command starts, far-end management, the Clerk and the Librarian (R482 to R500, R514).
-/
namespace Sys2Proof.Machine

/-! ### Mailbox -/

/-- A slot is the second of a LONG pair, which follows the first (R494). -/
def secondOfLong (s : State) (n : SlotId) : Bool :=
  if h : 0 < n.val then
    let f := s.fw.slots[n.val - 1]
    f.long && decide (f.state ≠ .free)
  else false

/-- Post one slot (R494): none where the doorbell is ignored. -/
def postSlot (who : Initiator) (n : SlotId) (s : State) : Option State :=
  let long := bitOf ((memRead s.fw.mem (slotBase n + 3)).setWidth 32) 0
  let post := fun (s : State) => { s with fw := { s.fw with nextOrder := s.fw.nextOrder + 1 } }
  let mark := fun (long : Bool) (x : Slot) =>
    { x with state := .posted, spi := decide (who = .spi), long := long, order := s.fw.nextOrder }
  if s.fw.slots[n.val].state ≠ .free then none
  else if !long then some (post (s.modSlot n (mark false)))
  else if n.val % 2 = 1 then none
  else
    match slotAfter n with
    | none => none
    | some m =>
      if s.fw.slots[m.val].state ≠ .free then none
      else some (post ((s.modSlot n (mark true)).modSlot m (mark false)))

/-- The slots a word names, in ascending order. -/
def slotsOf (v : Word) : List SlotId := (List.finRange 8).filter fun n => bitOf v n.val

/-- A write of a W1S register of the mailbox, slot by slot: any that is ignored sets WR_IGNORED (R494, R523). -/
def mailboxWrite (who : Initiator) (addr : Nat) (v : Word) (one : SlotId → State → Option State) (s : State) : State :=
  let r := (slotsOf v).foldl (fun (r : State × Bool) n =>
    match one n r.1 with
    | some t => (t, r.2)
    | none => (r.1, true)) (s, false)
  if r.2 then ignored who addr r.1 else written r.1

/-- A write of MBX_DOORBELL. -/
def writeDoorbell (who : Initiator) (v : Word) (s : State) : State := mailboxWrite who 0x58000 v (postSlot who) s

/-- MBX_DOORBELL (R494). -/
def execMbxDoorbell (who : Initiator) (v : Word) (s : State) : Host.Outcome State Fault Refusal :=
  .next (regWrite who 0x58000 s (writeDoorbell who v))

/-- Free one slot, and the second of its LONG pair (R494). -/
def freeSlot (n : SlotId) (s : State) : Option State :=
  if s.fw.slots[n.val].state ≠ .done || secondOfLong s n then none
  else
    let s := setSlot n .free s
    some (s.modSlot n fun x => { x with long := false })

/-- A write of MBX_RELEASE. -/
def writeRelease (who : Initiator) (v : Word) (s : State) : State := mailboxWrite who 0x58004 v freeSlot s

/-- MBX_RELEASE (R494). -/
def execMbxRelease (who : Initiator) (v : Word) (s : State) : Host.Outcome State Fault Refusal :=
  .next (regWrite who 0x58004 s (writeRelease who v))

/-! ### Starting and timing out -/

/-- The opcodes of Table 20.6. -/
def opcodeListed (op : Nat) : Bool :=
  let r := fun (lo hi : Nat) => decide (lo ≤ op) && decide (op ≤ hi)
  r 0x0101 0x0102 || r 0x0201 0x0206 || r 0x0301 0x0306 || r 0x0310 0x0313 || r 0x0401 0x0406 || r 0x0501 0x0505
    || r 0x0601 0x0604 || r 0x0701 0x0706 || r 0x0801 0x0807 || r 0x0901 0x0903 || r 0x0A01 0x0A08

/-- A posted packet that waits before another in doorbell order, served by the same processor (R490, R495). -/
def postedBefore (s : State) (n : SlotId) (lib : Bool) : Bool :=
  (List.finRange 8).any fun m =>
    let x := s.fw.slots[m.val]
    decide (x.state = .posted) && !secondOfLong s m && decide (x.order < s.fw.slots[n.val].order)
      && libGroup (beNat (memReadList s.fw.mem (slotBase m) 2)) == lib

/-- A command may start under the ordering rules (R377, R490, R495). -/
def mayStart (op : Nat) (port : Option PortId) (s : State) : Bool :=
  let lib := libGroup op
  let portFree := match port with
    | some p => !s.fw.running.any fun r => r.port == some p
    | none => true
  let groupFree := !(decide (op / 256 = 7) || decide (op / 256 = 8)) || !s.fw.running.any fun r => decide (r.opcode / 256 = op / 256)
  portFree && groupFree && (if lib then decide (2 ≤ s.boot.step) else decide (s.fw.clerk ≠ .restarting))

/-- A packet starts, or is answered at once where the device cannot interpret it (R495). -/
def startPacket (via : Origin) (op : Nat) (port : Option PortId) (lengthOk : Bool) (s : State) : State :=
  let s := startCommand via op port s
  if !opcodeListed op || partLacks s.part op then reply via op 0x02 [] s
  else
    let longOk := match via with
      | .slot n => decide (op ≠ 0x0503) || s.fw.slots[n.val].long
      | _ => true
    if lengthOk && longOk then s else reply via op 0x03 [] s

/-- COMMAND_START (R495). A packet that cannot start yet stays where it is. -/
def execCommandStart (via : Origin) (port : Option PortId) (lengthOk : Bool) (s : State) : Host.Outcome State Fault Refusal :=
  .next (match via with
    | .slot n =>
      let op := beNat (memReadList s.fw.mem (slotBase n) 2)
      if decide (s.fw.slots[n.val].state = .posted) && !secondOfLong s n && !postedBefore s n (libGroup op) && mayStart op port s then
        startPacket via op port lengthOk s
      else s
    | _ =>
      match s.fw.waiting.find? fun w => w.1 = via with
      | none => s
      | some w =>
        let op := beNat (w.2.take 2)
        if mayStart op port s then
          let tag := beNat ((w.2.drop 2).take 1)
          let s := { s with fw := { s.fw with waiting := s.fw.waiting.erase w } }
          let s := startPacket via op port lengthOk s
          let running := s.fw.running.map fun r => if r.origin = via && r.opcode == op then { r with tag := tag } else r
          { s with fw := { s.fw with running := running } }
        else s)

/-- What a command leaves behind when it ends before its own completion (R490, R495). -/
def dropCommand (r : RunCmd) (s : State) : State :=
  let s := if r.opcode = 0x0201 then { s with cal := { s.cal with run := none } } else s
  let s := if r.opcode = 0x0102 then
      { s with fw := { s.fw with far := s.fw.far.filter fun f => f.2.2 ≠ r.origin } } else s
  let s := if r.opcode = 0x0503 then
      { s with stack := { s.stack with tunOut := s.stack.tunOut.filter fun t => t.origin ≠ r.origin } } else s
  let s := match s.boot.job with
    | some j => if j.origin = r.origin && j.opcode == r.opcode then { s with boot := { s.boot with job := none } } else s
    | none => s
  let s := { s with test := { s.test with loopReqs := s.test.loopReqs.filter fun l => l.2.2 ≠ r.origin } }
  match r.port with
  | some p =>
    if 0x0301 ≤ r.opcode && r.opcode ≤ 0x0304 && ((s.port p).diag.running.map DiagKind.opcode) = some r.opcode
    then diagRelease p s else s
  | none => s

/-- A running command ends with a status in place of its own. -/
def endCommand (r : RunCmd) (status : Nat) (s : State) : State :=
  if r.opcode = 0x0A01 && s.test.bist.isSome then abortBist status s
  else reply r.origin r.opcode status [] (dropCommand r s)

/-- COMMAND_TIMEOUT (R495). -/
def execCommandTimeout (via : Origin) (s : State) : Host.Outcome State Fault Refusal :=
  .next (match s.fw.running.find? fun r => r.origin = via with
    | none => s
    | some r => endCommand r 0x06 s)

/-! ### Far-end management -/

/-- The transport of far-end management (R498): a native port in a data state or in sounding-only PARLEY. -/
def Port.farOpen (q : Port) : Bool :=
  (decide (q.snd.path = .native) && q.link.state.isData)
    || (decide (q.snd.path = .soundingOnly) && decide (q.link.state = .parley))

/-- A MGMT frame of a SESSION is taken (R138, R157): where the path carries management, and on the sounding-only path only with the
session's own. -/
def Port.farTakes (q : Port) (session : Nat) : Bool :=
  q.farOpen && (decide (q.snd.path ≠ .soundingOnly) || decide (session = q.snd.session))

/-- FAR_CMD, 0x0102 (R498, R500). -/
def execFarCmd (via : Origin) (p : PortId) (packet : List Byte) (s : State) : Host.Outcome State Fault Refusal :=
  .next (portCommand via 0x0102 p s fun s =>
    if 1016 < packet.length then reply via 0x0102 0x03 [] s
    else if !(s.port p).farOpen then reply via 0x0102 0x07 [] s
    else if s.fw.far.any fun f => f.1 = p then reply via 0x0102 0x01 [] s
    else
      let tag := s.fw.farTag
      let s := { s with fw := { s.fw with far := s.fw.far ++ [(p, tag, via)], farTag := (tag + 1) % 256 } }
      sendMgmt p 0x01 tag packet s)

/-- Add a fragment to the packet being assembled (R498): what stays, and the packet once it is complete. A fragment that was
already taken changes nothing, since fragments are resent (R149); one out of order drops the packet. -/
def farAdd (p : PortId) (tag frag : Nat) (last : Bool) (data : List Byte) (l : List FarBuf) : List FarBuf × Option (List Byte) :=
  let rest := l.filter fun b => !(b.port = p && b.tag == tag)
  let have' : Option (List Byte) :=
    if frag = 0 then some []
    else (l.find? fun b => b.port = p && b.tag == tag && b.next == frag).map FarBuf.bytes
  match have' with
  | none => (if l.any fun b => b.port = p && b.tag == tag && decide (frag < b.next) then l else rest, none)
  | some bs =>
    if last then (rest, some (bs ++ data))
    else ({ port := p, tag := tag, next := frag + 1, bytes := bs ++ data } :: rest, none)

/-- The opcodes a far end may run (R499). -/
def farPermits (op : Nat) : Bool :=
  decide (op = 0x0101) || decide (op = 0x0305) || decide (op = 0x0801) || decide (op = 0x0805) || decide (op = 0x0806)

/-- FAR_REQUEST_RECEIVE (R498, R499). A request received again while it waits or runs starts no second time. -/
def execFarRequestReceive (p : PortId) (session tag frag : Nat) (last : Bool) (data : List Byte) (s : State) :
    Host.Outcome State Fault Refusal :=
  let r := farAdd p tag frag last data s.fw.farIn
  let s₀ := s
  let s := { s with fw := { s.fw with farIn := r.1 } }
  .next (if !(s₀.port p).farTakes session then s₀ else match r.2 with
    | none => s
    | some bytes =>
      let op := beNat (bytes.take 2)
      let via : Origin := .farEnd p tag
      if s.fw.waiting.any (fun w => w.1 = via) || s.fw.running.any (fun r => r.origin = via) then s
      else if bitOf s.fw.mbxCtrl 1 && farPermits op then { s with fw := { s.fw with waiting := s.fw.waiting ++ [(via, bytes)] } }
      else replyBy via op (beNat ((bytes.drop 2).take 1)) 0x05 [] s)

/-- FAR_REPLY_RECEIVE (R500): the partner's reply packet is the payload of this side's reply. -/
def execFarReplyReceive (p : PortId) (session tag frag : Nat) (last : Bool) (data : List Byte) (s : State) :
    Host.Outcome State Fault Refusal :=
  .next (if !(s.port p).farTakes session then s else match s.fw.far.find? fun f => f.1 = p && f.2.1 == tag with
    | none => s
    | some f =>
      let r := farAdd p tag frag last data s.fw.farResp
      let s := { s with fw := { s.fw with farResp := r.1 } }
      match r.2 with
      | none => s
      | some bytes => reply f.2.2 0x0102 0x00 bytes { s with fw := { s.fw with far := s.fw.far.erase f } })

/-- FAR_CMD_TIMEOUT (R498). -/
def execFarCmdTimeout (p : PortId) (s : State) : Host.Outcome State Fault Refusal :=
  .next (match s.fw.far.find? fun f => f.1 = p with
    | none => s
    | some f =>
      let resp := s.fw.farResp.filter fun b => b.port ≠ p
      reply f.2.2 0x0102 0x06 [] { s with fw := { s.fw with far := s.fw.far.erase f, farResp := resp } })

/-! ### The Clerk and the Librarian -/

/-- The commands the Clerk runs end with a status; what each leaves behind goes with it. -/
def endClerkCommands (status : Nat) (s : State) : State :=
  (s.fw.running.filter fun r => !libGroup r.opcode).foldl (fun s r => endCommand r status s) s

/-- The Clerk executes: released and not restarting. -/
def State.clerkRuns (s : State) : Bool := s.fw.clerk = .running || s.fw.clerk = .starting

/-- CLERK_WATCHDOG_EXPIRE (R490 to R492): CLERK_WDOG, the Clerk's commands end with ABORTED, and the cores are held to be
reloaded; the (GIVE_UP + 1)-th restart within 60 s stops the Clerk instead. Ports in PARLEY or TRAIN send CMD hold. -/
def execClerkWatchdogExpire (s : State) : Host.Outcome State Fault Refusal :=
  .next (if !s.clerkRuns then s
    else
      let s := endClerkCommands 0x09 (raise .clerkWdog .dev 0 s)
      let now := s.nowNs
      let recent := s.fw.restartTimes.filter fun t => now < t + 60000000000
      let s := s.mapPorts fun _ q =>
        if q.link.state = .parley || q.link.state = .train then
          { q with snd := { q.snd with tapReq := List.replicate 8 0 } } else q
      if s.fw.config.giveUp ≤ recent.length then
        { s with fw := { s.fw with clerk := .givenUp, restartTimes := recent }, clk := { s.clk with gate := setBits s.clk.gate 9 9 0 } }
      else
        { s with fw := { s.fw with clerk := .restarting, restarts := satAdd 8 s.fw.restarts 1,
                                   restartTimes := now :: recent } })

/-- The Clerk firmware passes its checks for a restart (R490): that of the booted slot as read again, or the copy of a streamed
image. -/
def restartFwOk (stored : List Byte) (s : State) : Bool :=
  match s.bootedHdr.read 3 (if s.boot.stream then s.fw.imageStore else stored) with
  | .ok _ => true
  | .error _ => false

/-- CLERK_RESTART_DONE (R377, R490): before CONFIG_DONE the stage C records start again from the first. Firmware that fails
its checks leaves the cores held. -/
def execClerkRestartDone (stored : List Byte) (s : State) : Host.Outcome State Fault Refusal :=
  .next (if s.fw.clerk ≠ .restarting || !restartFwOk stored s then s
    else if s.boot.configDone then { s with fw := { s.fw with clerk := .running, violSeen := false } }
    else { s with fw := { s.fw with clerk := .starting, violSeen := false }, 
                  boot := { s.boot with stageCEnd := false, stageCPos := 0, step := if s.boot.step = 11 then 10 else s.boot.step } })

/-- FIREWALL_VIOLATION (R485): the first after each start of the Clerk is entered in the ledger. -/
def execFirewallViolation (addr : BitVec 64) (core : Fin 4) (s : State) : Host.Outcome State Fault Refusal :=
  .next (if !s.clerkRuns then s
    else
      let first := !s.fw.violSeen
      let s := { s with fw := { s.fw with viol := satAdd 16 s.fw.viol 1, violSeen := true } }
      if first then ledgerAppend 0x26 0 0 (beBytes 8 addr.toNat ++ beBytes 1 core.val) s else s)

/-- LIB_INTEGRITY (R486): no signature and no seal from now on; the commands of 0x07xx and 0x08xx answer ABORTED. -/
def libIntegrity (d : Nat) (s : State) : State :=
  if s.fw.libDead then s
  else
    let s := raise .libIntegrity .dev d s
    let s := { s with fw := { s.fw with libDead := true }, ledger := { s.ledger with run := false } }
    (s.fw.running.filter fun r => decide (r.opcode / 256 = 7) || decide (r.opcode / 256 = 8)).foldl
      (fun s r => endCommand r 0x09 s) s

/-- LIB_ROM_CHECK (R486, Table 20.2). -/
def execLibRomCheck (ok : Bool) (s : State) : Host.Outcome State Fault Refusal :=
  .next (if ok || s.boot.inReset then s else libIntegrity 1 s)

/-- LIB_FIREWALL_CHECK (R484, R486). -/
def execLibFirewallCheck (ok : Bool) (s : State) : Host.Outcome State Fault Refusal :=
  .next (if ok || s.boot.inReset then s else libIntegrity 3 s)

/-- LIB_WATCHDOG_EXPIRE (R486). -/
def execLibWatchdogExpire (s : State) : Host.Outcome State Fault Refusal :=
  .next (if s.boot.inReset then s else libIntegrity 5 s)

end Sys2Proof.Machine
end

