-- ==== Sys2Proof/Machine/Ledger.lean ====
section
/-!
DEFINITION. The commands and events of the ledger, attestation and key revocation (R488, R501 to R511).
-/
namespace Sys2Proof.Machine

/-- LEDGER_STAT (Table 20.17). -/
def LedgerSt.stat (l : LedgerSt) : Word :=
  flg l.run 31 ||| flg l.ringOk 30 ||| flg l.reserveOk 29 ||| flg l.unanchored 28 ||| flg (l.run && decide (l.allowance = 0)) 27
    ||| fld (Nat.min 256 (openRecs l.unsealed).length) 0 9

/-- LEDGER_INFO, 0x0801 (Table 20.11). An empty ring reads 0, and a reserve that is absent or empty all ones. -/
def execLedgerInfo (via : Origin) (s : State) : Host.Outcome State Fault Refusal :=
  .next (command via 0x0801 s fun s =>
    let l := s.ledger
    let oldest := fun (d : Nat) (r : List LedgerRec) => match r with | [] => d | x :: _ => x.accession
    reply via 0x0801 0x00
      (beBytes 8 (oldest 0 l.ringRecs) ++ beBytes 8 (if l.reserveOk then oldest (2 ^ 64 - 1) l.reserve else 2 ^ 64 - 1)
        ++ beBytes 8 l.newest ++ beBytes 8 l.newestSealed ++ beBytes 8 l.ctr ++ beBytes 4 (131072 - l.ctr)
        ++ beBytes 4 l.stat.toNat) s)

/-- The records of an accession range that the ring or the reserve holds, in accession order (R506). -/
def ledgerFind (l : LedgerSt) (first count : Nat) : List LedgerRec :=
  (List.range count).filterMap fun i =>
    match l.ringRecs.find? fun r => r.accession == first + i with
    | some r => some r
    | none => if l.reserveOk then l.reserve.find? fun r => r.accession == first + i else none

/-- LEDGER_READ, 0x0802 (R506). -/
def execLedgerRead (via : Origin) (first count : Nat) (s : State) : Host.Outcome State Fault Refusal :=
  .next (command via 0x0802 s fun s =>
    if count < 1 || 21 < count then reply via 0x0802 0x03 [] s
    else
      let rs := ledgerFind s.ledger first count
      reply via 0x0802 0x00 (beBytes 1 rs.length ++ rs.flatMap LedgerRec.bytes) s)

/-- Accession of the latest SEAL. -/
def LedgerSt.sealAcc (l : LedgerSt) : Nat := match l.lastSeal with | some x => x.1 | none => 0

/-- LEDGER_SEAL, 0x0803 (R505). -/
def execLedgerSeal (via : Origin) (programOk : Bool) (s : State) : Host.Outcome State Fault Refusal :=
  .next (command via 0x0803 s fun s =>
    if !s.ledger.run then reply via 0x0803 0x07 [] s
    else
      let s := ledgerMakeSeal programOk s
      reply via 0x0803 0x00 (beBytes 8 s.ledger.sealAcc) s)

/-- LEDGER_NOTE, 0x0804 (R502, R506): the record carries HOST. -/
def execLedgerNote (via : Origin) (text : List Byte) (s : State) : Host.Outcome State Fault Refusal :=
  .next (command via 0x0804 s fun s =>
    if text.length < 1 || 96 < text.length then reply via 0x0804 0x03 [] s
    else if !s.ledger.run then reply via 0x0804 0x07 [] s
    else if s.ledger.allowance = 0 then reply via 0x0804 0x01 [] s
    else
      let s := ledgerAppend 0x27 0 4 text s
      reply via 0x0804 0x00 (beBytes 8 s.ledger.newest) s)

/-- Bytes 0 to 207 of a quote (Table 20.12). -/
def quoteHead (nonce : List Byte) (s : State) : List Byte :=
  let h := s.bootedHdr
  let flags := b2n (decide (s.boot.slot = 1)) + 2 * b2n s.boot.stream + 4 * b2n (decide (s.fw.clerk = .givenUp))
    + 8 * b2n s.ledger.unanchored
  beBytes 4 0x4D4C4251 ++ beBytes 8 Config.uid.toNat ++ beBytes 1 s.part.code ++ beBytes 1 flags ++ beBytes 2 0 ++ beBytes 4 h.gen
    ++ beBytes 4 h.svn ++ beBytes 48 h.digest.toNat ++ beBytes 4 s.cal.seq ++ beBytes 8 s.ledger.ctr ++ beBytes 8 s.ledger.newest
    ++ beBytes 48 s.ledger.chain.toNat ++ timeBytes s.time ++ beBytes 8 (s.nowNs / 1000) ++ nonce

/-- ATTEST_QUOTE, 0x0805 (R511). -/
def execAttestQuote (via : Origin) (nonce : List Byte) (s : State) : Host.Outcome State Fault Refusal :=
  .next (command via 0x0805 s fun s =>
    if nonce.length ≠ 48 then reply via 0x0805 0x03 [] s
    else
      let q := quoteHead nonce s
      reply via 0x0805 0x00 (q ++ beBytes 96 (Config.sign q).toNat) s)

/-- CERT_READ, 0x0806 (R511): 2,048 bytes; what follows the 3,072 bytes of CERTS is a free value. -/
def execCertRead (via : Origin) (chunk : Nat) (s : State) : Host.Outcome State Fault Refusal :=
  .next (command via 0x0806 s fun s =>
    if 1 < chunk then reply via 0x0806 0x03 [] s
    else
      let bytes := (List.range 2048).map fun i =>
        let a := chunk * 2048 + i
        if a < 3072 then Config.certByte a else Config.freeByte (s.fresh + i)
      reply via 0x0806 0x00 bytes { s with fresh := s.fresh + 2048 })

/-- The message that revokes a key slot (R488): UID, the bytes "REVOKE", the slot byte. -/
def revokeMessage (slot : Nat) : List Byte :=
  beBytes 8 Config.uid.toNat ++ beBytes 6 0x5245564F4B45 ++ beBytes 1 slot

/-- KEY_REVOKE, 0x0807 (R488, R403): signed with the key of another slot that is not revoked. -/
def execKeyRevoke (via : Origin) (slot : Nat) (sig : List Byte) (vppOk : Bool) (s : State) : Host.Outcome State Fault Refusal :=
  .next (command via 0x0807 s fun s =>
    let others := (List.range 4).filter fun k => decide (k ≠ slot) && !s.fw.revoked.testBit k
    if !others.any fun k => Config.verifyKey k (revokeMessage slot) sig then reply via 0x0807 0x05 [] s
    else if 3 < slot || sig.length ≠ 96 then reply via 0x0807 0x03 [] s
    else if s.fw.revoked.testBit slot then reply via 0x0807 0x07 [] s
    else if !vppOk then reply via 0x0807 0x06 [] s
    else
      let s := { s with fw := { s.fw with revoked := s.fw.revoked ||| (1 <<< slot) } }
      reply via 0x0807 0x00 [] (imageRecord 5 slot s.bootedHdr s))

/-- SEAL_DUE (R505, R509): a seal whose programming failed is retried first. -/
def execSealDue (programOk : Bool) (s : State) : Host.Outcome State Fault Refusal :=
  .next (if !s.ledger.run then s
    else if (openRecs s.ledger.unsealed).length < s.ledger.unsealed.length then ledgerProgram programOk s
    else ledgerMakeSeal programOk s)

/-- The lowest MARGIN of a port's active lanes; 0x800 with no lane (Table 20.10). -/
def Port.lowMargin (q : Port) : Int :=
  (allLanes.filter fun n => q.active.testBit n.val).foldl
    (fun m n => min m (signed 12 q.lanes[n.val].qual.margin)) (if q.active = 0 then signed 12 0x800 else 2047)

/-- The body of a COUNTERS record (Table 20.10). -/
def countersBody (q : Port) : List Byte :=
  let sec := fun (u : Nat) => beBytes 4 (u / 37000000000)
  let c := q.ctr
  beBytes 1 q.modeRate.1 ++ beBytes 1 q.cls ++ sec c.up ++ sec c.degraded ++ sec c.quiet ++ sec c.wake ++ sec c.other
    ++ beBytes 2 c.downs ++ beBytes 2 c.sheds ++ beBytes 8 c.h2l ++ beBytes 8 c.l2h ++ beBytes 8 c.errored ++ beBytes 4 c.retried
    ++ beBytes 4 c.abandoned ++ beBytes 2 c.guarLost ++ beBytes 2 c.flushes ++ beBytes 2 (unsigned 16 q.lowMargin)
    ++ beBytes 1 c.hostFails

/-- COUNTERS_RECORD_DUE (R501, Table 20.10). -/
def execCountersRecordDue (s : State) : Host.Outcome State Fault Refusal :=
  .next (if !s.ledger.run then s
    else allPorts.foldl (fun s p =>
      let s := s.modPort p fun q => { q with ctr := q.ctr.accrue q.link.state q.idleDown s.uptime }
      let s := if s.part.hasPort p && (s.port p).ctr.active then ledgerAppend 0x12 p.val 0 (countersBody (s.port p)) s else s
      s.modPort p fun q => { q with ctr := { PortCtr.zero with since := s.uptime } }) s)

/-- WITNESS_SEND (R507): a member with an ID sends its latest SEAL to the master, ID 0. -/
def execWitnessSend (s : State) : Host.Outcome State Fault Refusal :=
  .next (match s.stack.id, s.ledger.lastSeal with
    | some _, some (acc, chain) =>
      if s.isMaster then s
      else
        let body := beBytes 8 Config.uid.toNat ++ beBytes 8 acc ++ beBytes 48 chain.toNat
        stkDeliver { typ := 0x40, last := false, nak := false, dst := 0, src := s.srcId, tag := 0, frag := 0, lseq := 0,
                     payload := body } s
    | _, _ => s)

/-- The SUMMARY record of a coalesced count (Table 20.10): CODE holds the TYPE above the code. -/
def summaryRecord (c : Coalesced) (s : State) : State :=
  ledgerAppend 0x13 (c.type * 256 + c.code % 256) 0 (beBytes 4 c.count ++ beBytes 12 c.first ++ beBytes 12 c.last) s

/-- Coalesced counts become SUMMARY records while the allowance has room (R506). -/
def summaries : Nat → State → State
  | 0, s => s
  | n + 1, s =>
    match s.ledger.coalesced with
    | [] => s
    | c :: rest =>
      if s.ledger.allowance = 0 then s
      else summaries n (summaryRecord c { s with ledger := { s.ledger with coalesced := rest } })

/-- ALLOWANCE_REFILL (R506): one record of the RATE per second falls due. -/
def execAllowanceRefill (s : State) : Host.Outcome State Fault Refusal :=
  let l := s.ledger
  let s := { s with ledger := { l with allowance := Nat.min s.fw.config.burst (l.allowance + 1) } }
  .next (if l.run then summaries l.coalesced.length s else s)

end Sys2Proof.Machine
end

