-- ==== Sys2Proof/Machine/Transmit.lean ====
section
/-!
DEFINITION. The line transmitter (R40 to R61, R555): symbol mapping, FFE taps and their walk, DAC cells, swing range, output
states, compliance monitor and tone generator.
-/
namespace Sys2Proof.Machine

/-! ### Symbols and DAC codes -/

/-- Magnitudes of A and B for a label b2b1b0 (Table 2.1). -/
def pam6Mag (label : Nat) : Int × Int :=
  match label with
  | 0 => (1, 1) | 1 => (1, 3) | 3 => (1, 5) | 4 => (3, 1) | 5 => (3, 3) | 7 => (3, 5) | 6 => (5, 1) | _ => (5, 3)

/-- The symbol pair of a group of five bits, b4 first (R41). -/
def pam6Pair (b4 b3 b2 b1 b0 : Bool) : Int × Int :=
  let m := pam6Mag (b2n b2 * 4 + b2n b1 * 2 + b2n b0)
  (if b4 then -m.1 else m.1, if b3 then -m.2 else m.2)

/-- The symbols of a folio's bits in order (R41); POLARITY negates every symbol (R44). -/
def pam6Symbols (invert : Bool) : List Bool → List Int
  | b4 :: b3 :: b2 :: b1 :: b0 :: rest =>
    let x := pam6Pair b4 b3 b2 b1 b0
    let sign : Int := if invert then -1 else 1
    sign * x.1 :: sign * x.2 :: pam6Symbols invert rest
  | _ => []

/-- A quotient rounded to the nearest integer; which way a half rounds is free (R42, R59). -/
def roundInt (a : Int) (b : Nat) : Int :=
  let f := a / b
  let r := a - f * b
  if 2 * r < b then f else if (b : Int) < 2 * r then f + 1 else if Config.roundTie f then f + 1 else f

/-- The sum of the tap magnitudes (R45). -/
def Taps.sum (t : Taps) : Nat :=
  t.pre3.natAbs + t.pre2.natAbs + t.pre1.natAbs + t.main.natAbs + t.post1.natAbs + t.post2.natAbs

/-- The checks of R45. -/
def Taps.ok (t : Taps) : Bool :=
  decide (t.sum ≤ 64) && decide (32 ≤ t.main)
    && [t.pre3, t.pre2, t.pre1, t.main, t.post1, t.post2].all fun c => decide (-64 ≤ c) && decide (c ≤ 64)

/-- The DAC code of the symbols s[n+3] to s[n−2] (R42): 127 × Σ c s / (64 × full), full 5 for PAM6 and 3 for PAM4 (R43). -/
def dacCode (t : Taps) (full : Nat) (sp3 sp2 sp1 s0 sm1 sm2 : Int) : Int :=
  128 + roundInt (127 * (t.pre3 * sp3 + t.pre2 * sp2 + t.pre1 * sp1 + t.main * s0 + t.post1 * sm1 + t.post2 * sm2)) (64 * full)

/-- The DAC codes of a run of symbols from the last five before it (R42): a code leaves with the symbol s[n+3]. -/
def firCodes (t : Taps) (full : Nat) : List Int → List Int → List Int × List Int
  | h, [] => ([], h)
  | h, s :: l =>
    let at' := fun (i : Nat) => (h ++ [s]).getD i 0
    let r := firCodes t full ((h ++ [s]).drop 1) l
    (dacCode t full (at' 5) (at' 4) (at' 3) (at' 2) (at' 1) (at' 0) :: r.1, r.2)

/-- A code in the segmented DAC (R47): the mask of the MSB cells that are on, the first of the seven in use in ascending order, and
the five bits of the binary cells. -/
def dacSplit (retireA retireB code : Nat) : Nat × Nat :=
  let inUse := (List.range 9).filter fun i => i ≠ retireA && i ≠ retireB
  (((inUse.take (code / 32)).map fun i => 2 ^ i).sum, code % 32)

/-- The PAM4 symbols of bits in order, two a symbol, Gray coded: 00, 01, 11, 10 from the lowest level up (R43; PRESUMED of the
clause's Gray coding; log entry 104). -/
def pam4Gray : List Bool → List Nat
  | a :: b :: rest => (match a, b with | false, false => 0 | false, true => 1 | true, true => 2 | true, false => 3) :: pam4Gray rest
  | _ => []

/-- The clause's precoder (R43): each symbol less the precoded one before it, modulo 4 (PRESUMED; log entry 104). -/
def pam4Precode : Nat → List Nat → List Nat × Nat
  | p, [] => ([], p)
  | p, g :: l =>
    let x := (g + 4 - p % 4) % 4
    let r := pam4Precode x l
    (x :: r.1, r.2)

/-- The PAM4 level of a symbol (R43). -/
def pam4Level (g : Nat) : Int := 2 * (g : Int) - 3

/-- The differential idle voltage at a code and range, in 0.1 mV as numerator and denominator (R50). -/
def idleVolts (code rangeTenths : Nat) : Int × Nat := (((code : Int) - 128) * rangeTenths, 254)

/-! ### Taps -/

/-- The taps in force. -/
def Lane.taps (l : Lane) : Taps := Taps.ofWords (l.act .txFfe0) (l.act .txFfe1)
/-- The taps last accepted by a commit. -/
def Lane.tapsAccepted (l : Lane) : Taps := Taps.ofWords (l.reg .txFfe0).accepted (l.reg .txFfe1).accepted
/-- Put taps in force. -/
def Lane.setTaps (l : Lane) (t : Taps) : Lane :=
  (l.setReg .txFfe0 fun r => { r with inForce := t.word0 }).setReg .txFfe1 fun r => { r with inForce := t.word1 }

/-- A tap moves towards zero on its way to a target: it shrinks, or it crosses zero (R46). -/
def tapIn (v target : Int) : Bool := decide (v ≠ target) && ((decide (0 < v) && decide (target < v)) || (decide (v < 0) && decide (v < target)))

/-- A tap after the moves towards zero. -/
def tapShrink (v target : Int) : Int := if tapIn v target then (if 0 < v then v - 1 else v + 1) else v

/-- A tap one step away from zero. -/
def tapGrow (v target : Int) : Int := if v < target then v + 1 else if target < v then v - 1 else v

/-- One of the six taps, in the order of the moves away from zero: MAIN, POST1, PRE1, POST2, PRE2, PRE3 (R46). -/
def Taps.get (t : Taps) (i : Fin 6) : Int :=
  match i with
  | 0 => t.main | 1 => t.post1 | 2 => t.pre1 | 3 => t.post2 | 4 => t.pre2 | 5 => t.pre3
/-- Replace one of the six taps. -/
def Taps.set (t : Taps) (i : Fin 6) (v : Int) : Taps :=
  match i with
  | 0 => { t with main := v } | 1 => { t with post1 := v } | 2 => { t with pre1 := v }
  | 3 => { t with post2 := v } | 4 => { t with pre2 := v } | 5 => { t with pre3 := v }

/-- One step of a walk (R46). -/
def Taps.step (t target : Taps) : Taps :=
  let was := t
  let t : Taps := { pre3 := tapShrink t.pre3 target.pre3, pre2 := tapShrink t.pre2 target.pre2, pre1 := tapShrink t.pre1 target.pre1,
                    main := tapShrink t.main target.main, post1 := tapShrink t.post1 target.post1,
                    post2 := tapShrink t.post2 target.post2 }
  (List.finRange 6).foldl (fun (x : Taps) i =>
    if tapIn (was.get i) (target.get i) then x
    else
      let y := x.set i (tapGrow (x.get i) (target.get i))
      if y.sum ≤ 64 then y else x) t

/-- A native port that carries data: its taps walk (R46). -/
def Port.walks (q : Port) : Bool := decide (q.snd.path = .native) && q.link.state.isData

/-- One walk step of a lane; the walk ends when every tap has arrived. -/
def Lane.walkStep (l : Lane) : Lane :=
  match l.tx.walk with
  | none => l
  | some target =>
    let t := l.taps.step target
    let l := l.setTaps t
    { l with tx := { l.tx with walk := if t = target then none else some target, walkLeft := 64 } }

/-- Symbols enter the FFE of a lane at a full-scale level, and the DAC takes its codes (R42, R43). -/
def Lane.sendSymbols (full : Nat) (syms : List Int) (l : Lane) : Lane :=
  let r := firCodes l.taps full l.tx.fir syms
  { l with tx := { l.tx with fir := r.2, dac := r.1 } }

/-- Committed taps take effect (R46, R52): a lane in SAFE holds them staged; a native port carrying data walks, with its first step
at the commit boundary unless a walk is in progress; otherwise they take effect at this boundary. -/
def Lane.applyTaps (walks : Bool) (l : Lane) : Lane :=
  let target := l.tapsAccepted
  if l.tx.state = .safe then l
  else if !walks then
    let l := l.setTaps target
    { l with tx := { l.tx with walk := none, tapsDue := none, walkLeft := 0 } }
  else if l.tx.walk.isSome then { l with tx := { l.tx with walk := if l.taps = target then none else some target } }
  else if l.taps = target then l
  else ({ l with tx := { l.tx with walk := some target } }).walkStep

/-- FFE_WALK_STEP (R46): 64 folios after the last step. -/
def execFfeWalkStep (p : PortId) (n : LaneId) (s : State) : Host.Outcome State Fault Refusal :=
  .next (if (s.port p).walks && decide ((s.lane p n).tx.walkLeft = 0) && decide ((s.lane p n).tx.state ≠ .safe) then
      s.modLane p n Lane.walkStep
    else s)

/-! ### DAC cells and range -/

/-- A cell exchange may take place now (R47, R52): 64 slots after the last, in native data modes at an alignment folio; a lane in
SAFE waits. -/
def exchangeDue (s : State) (p : PortId) (n : LaneId) : Bool :=
  let q := s.port p
  decide (64 ≤ (s.lane p n).tx.cellAge) && decide ((s.lane p n).tx.state ≠ .safe)
    && (!q.walks || (decide (q.code.slotCnt % 4096 = 0) && (decide (q.link.state ≠ .quiet) || q.link.inWindow)))

/-- The port runs native duplex (R55). -/
def Port.duplex (q : Port) : Bool := decide (q.snd.path = .native) && decide (q.modeRate.1 = 2)

/-- DAC_CELL_EXCHANGE (R47, R92): one cell for another; a selection that names one cell twice, or a cell above M8, is discarded. -/
def execDacCellExchange (p : PortId) (n : LaneId) (s : State) : Host.Outcome State Fault Refusal :=
  .next (match (s.lane p n).tx.cellNext with
    | none => s
    | some (a, b) =>
      if !exchangeDue s p n then s
      else
        let ok := decide (a ≠ b) && decide (a ≤ 8) && decide (b ≤ 8)
        s.modLane p n fun l =>
          { l with
            tx := { l.tx with retireA := if ok then a else l.tx.retireA, retireB := if ok then b else l.tx.retireB,
                              cellNext := l.cal.dacNext, cellAge := if ok then 0 else l.tx.cellAge },
            cal := { l.cal with dacNext := none },
            rx := { l.rx with sinceChange := if ok && (s.port p).walks && (s.port p).duplex then 0 else l.rx.sinceChange } })

/-- A sounding frame or probe burst is being sent on a lane (R49): the differential one on lane 0, a burst on its own lane. -/
def Port.soundsOn (q : Port) (n : LaneId) : Bool :=
  (decide (n.val = 0) && q.snd.diffCur.isSome) || decide (q.snd.train = some n.val) || !(q.lanes[n.val]).tx.segs.isEmpty

/-- RANGE_IDLE_START (R49): one slot at the idle level, after a sounding frame in progress has ended. -/
def execRangeIdleStart (p : PortId) (n : LaneId) (s : State) : Host.Outcome State Fault Refusal :=
  .next (
    let l := s.lane p n
    if l.tx.rangeNext.isNone || l.tx.rangeIdle || (s.port p).soundsOn n || l.tx.state = .safe then s
    else s.modLane p n fun l =>
      { l with tx := { l.tx with rangeIdle := true, resume := l.tx.state, state := l.tx.state.toIdle } })

/-- Put a swing range in force. -/
def Lane.setRange (l : Lane) (r : Nat) : Lane :=
  l.setReg .txCtrl fun x => { x with inForce := setBits x.inForce 1 0 r }

/-- RANGE_TAKE_EFFECT (R49, R52): the new range, and the lane resumes what it was sending. A lane that SAFE took during its idle slot
keeps the range it has. -/
def execRangeTakeEffect (p : PortId) (n : LaneId) (s : State) : Host.Outcome State Fault Refusal :=
  .next (match (s.lane p n).tx.rangeNext with
    | none => s
    | some r =>
      if !(s.lane p n).tx.rangeIdle || (s.lane p n).tx.state = .safe then s
      else s.modLane p n fun l =>
        let l := l.setRange r
        { l with tx := { l.tx with rangeNext := none, rangeIdle := false,
                                   state := if l.tx.state = .idle then l.tx.resume else l.tx.state } })

/-! ### Compliance monitor -/

/-- A range in 0.1 mV, full-scale differential (R48). -/
def rangeTenths (code : Nat) : Nat := match code with | 0 => 6000 | 1 => 9000 | _ => 12000

/-- The flags whose condition held in an interval (Tables 2.5 and 2.6): P_HIGH, P_LOW, N_HIGH, N_LOW, SWING_LOW. -/
def compFlags (duplex swingOn : Bool) (range vcm pMax pMin nMax nMin swing : Nat) : BitVec 5 :=
  let w := rangeTenths range * 3 / 8
  let hi : Int := if duplex then 13500 else vcm + w
  let lo : Int := if duplex then 500 else (vcm : Int) - w
  let sl := swingOn && decide (4 * swing < rangeTenths range)
  BitVec.ofNat 5 (b2n (decide (hi < pMax)) + 2 * b2n (decide ((pMin : Int) < lo)) + 4 * b2n (decide (hi < nMax))
    + 8 * b2n (decide ((nMin : Int) < lo)) + 16 * b2n sl)

/-- The monitor runs (R54). -/
def LaneTx.monitored (t : LaneTx) : Bool := t.compEn && decide (t.state ≠ .off)

/-- The flags whose runs stand at 100 or more. -/
def LaneTx.compAt (t : LaneTx) : BitVec 5 :=
  BitVec.ofNat 5 (maskOf 5 fun i => decide (100 ≤ getNat t.compRun i 0))

/-- The monitor stops (R54): every run is set to 0 and a live fault ends; LATCHED keeps its content. -/
def compStop (p : PortId) (n : LaneId) (s : State) : State :=
  endCond .compliance (.lane p n)
    (s.modLane p n fun l => { l with tx := { l.tx with compRun := Vector.replicate 5 0, compCur := 0 } })

/-- COMPLIANCE_INTERVAL (R54, R55). -/
def execComplianceInterval (p : PortId) (n : LaneId) (vcm pMax pMin nMax nMin swing : Nat) (s : State) :
    Host.Outcome State Fault Refusal :=
  .next (
    let l := s.lane p n
    if !l.tx.monitored then s
    else
      let swingOn := decide (l.tx.state = .data) || (decide (l.tx.state = .tone) && bitOf (l.act .txToneCtrl) 4)
      let v := compFlags (s.port p).duplex swingOn (bits (l.act .txCtrl) 1 0) vcm pMax pMin nMax nMin swing
      let runs := mapIdx l.tx.compRun fun i r => if v.getLsbD i.val then Nat.min 100 (r + 1) else 0
      let live := (fltGet .compliance (.lane p n) s).real
      let s := s.modLane p n fun l => { l with tx := { l.tx with compRun := runs, compCur := v } }
      let now := (s.lane p n).tx.compAt
      if now = 0 then endCond .compliance (.lane p n) s
      else
        let s := s.modLane p n fun l => { l with tx := { l.tx with compLatched := if live then l.tx.compLatched ||| now else now } }
        raise .compliance (.lane p n) n.val s)

/-- A write of TX_COMP_CTRL (Table 2.15). -/
def writeTxComp (p : PortId) (n : LaneId) (v : Word) (s : State) : State :=
  let s := s.modLane p n fun l => { l with tx := { l.tx with compEn := bitOf v 0 } }
  written (if bitOf v 0 then s else compStop p n s)

/-- A lane transmitter goes to OFF (R51, R54). -/
def txOff (p : PortId) (n : LaneId) (s : State) : State :=
  compStop p n (s.modLane p n fun l => { l with tx := { l.tx with state := .off, rangeIdle := false } })

/-! ### Tone generator -/

/-- A lane leaves TONE (R51); within the idle slot of a range change it is what follows the slot that changes (R49). -/
def Lane.toneOff (l : Lane) : Lane :=
  { l with tx := { l.tx with state := if l.tx.state = .tone then .idle else l.tx.state,
                             resume := if l.tx.rangeIdle && decide (l.tx.resume = .tone) then .idle else l.tx.resume } }
/-- A lane enters TONE (R51); within the idle slot of a range change it waits for the slot's end (R49). -/
def Lane.toneOn (l : Lane) : Lane :=
  if l.tx.rangeIdle then { l with tx := { l.tx with resume := if l.tx.resume = .idle then .tone else l.tx.resume } }
  else { l with tx := { l.tx with state := if l.tx.state = .idle then .tone else l.tx.state } }

/-- The largest FTW (R57). -/
def ftwLimit : Nat := 0x79200000

/-- An FTW as it is written (R57). -/
def ftwWrite (v : Word) : Word := if ftwLimit < v.toNat then BitVec.ofNat 32 ftwLimit else v

/-- The frequency accumulator after a sample, within the limits (R56, R57), in units of 2^-16 FTW. -/
def toneFreq (facc : Nat) (ramp : Int) : Nat :=
  Nat.min (ftwLimit * 65536) ((facc : Int) + ramp).toNat

/-- Samples of a generator in RAMP mode (R56, R58): the phase advances by the integer FTW; an FTW that reaches or passes STOP
is reloaded with START, and the phase stays continuous. -/
def toneRun (start stop : Nat) (ramp : Int) : Nat → Nat × Nat → Nat × Nat
  | 0, x => x
  | k + 1, (facc, phase) =>
    let phase := (phase + facc / 65536) % 2 ^ 32
    let f := toneFreq facc ramp
    let reached := (decide (0 < ramp) && decide (stop * 65536 ≤ f)) || (decide (ramp < 0) && decide (f ≤ stop * 65536))
    toneRun start stop ramp k (if reached then start * 65536 else f, phase)

/-- The modem loads a chirp (R58, R133): START, RAMP and STOP, and the frequency accumulator at the chirp's first FTW. -/
def Lane.loadSeg (g : ToneSeg) (l : Lane) : Lane :=
  { l with tx := { l.tx with toneStart := BitVec.ofNat 32 g.start, toneRamp := BitVec.ofInt 32 g.ramp,
                             toneStop := BitVec.ofNat 32 g.stop, facc := BitVec.ofNat 48 (g.first * 65536) } }

/-- The generator runs for a number of samples (R56, R58): FIXED at START, RAMP and MODEM along the ramp, OFF not at all. -/
def Lane.toneAdvance (samples : Nat) (l : Lane) : Lane :=
  let mode := toneMode (l.act .txToneCtrl)
  let r := if mode = 0 then (l.tx.facc.toNat, l.tx.phase.toNat)
    else toneRun l.tx.toneStart.toNat l.tx.toneStop.toNat (if mode = 1 then 0 else signed 32 l.tx.toneRamp.toNat) samples
      (l.tx.facc.toNat, l.tx.phase.toNat)
  { l with tx := { l.tx with facc := BitVec.ofNat 48 r.1, phase := BitVec.ofNat 32 r.2 } }

/-- The modem loads the chirp that comes next, if one does (R58, R133). -/
def Lane.nextSeg (l : Lane) : Lane :=
  match l.tx.segs with
  | g :: rest =>
    let l := l.loadSeg g
    { l with tx := { l.tx with segs := rest } }
  | [] => l

/-- TONE_RAMP_RELOAD (R56, R58, R133): a number of samples pass, up to a reload of the generator. A ramp that reaches STOP wraps to
START within them; in MODEM the chirp boundary follows them, and the next chirp is loaded. -/
def execToneRampReload (p : PortId) (n : LaneId) (samples : Nat) (s : State) : Host.Outcome State Fault Refusal :=
  .next (s.modLane p n fun l =>
    let l := l.toneAdvance samples
    if toneMode (l.act .txToneCtrl) = 3 then l.nextSeg else l)

/-- sin x in units of 2^-60 by its series to x^19, x in the same units, 0 ≤ x ≤ π/2 (R56). -/
def sineFix (x : Nat) : Int :=
  let one : Int := 2 ^ 60
  let term := fun (a : Int) (k : Nat) => -(a * x / one * x / one) / ((2 * k * (2 * k + 1) : Nat) : Int)
  ((List.range 9).foldl (fun (r : Int × Int) i => let t := term r.2 (i + 1); (r.1 + t, t)) ((x : Int), (x : Int))).1

/-- The sine table (R56): 4,096 entries, 2,047 sin(2π i / 4,096) to the nearest integer (DEDUCED from its range and width; log
entry 105). -/
def sineTable (i : Nat) : Int :=
  let i := i % 4096
  let q := i % 2048
  let m := if q ≤ 1024 then q else 2048 - q
  let v := roundInt (2047 * sineFix (m * 3622009729038561421 / 2048)) (2 ^ 60)
  if i < 2048 then v else -v

/-- The table's output at the phase that stands (R56). -/
def Lane.toneOut (l : Lane) : Int := sineTable (bits l.tx.phase 31 20)

/-- The DAC's input (Table 2.3, R59): none in OFF; the idle code in IDLE and SAFE, and while the lane's PLL group relocks (R19);
the tone code in TONE; the FFE's codes in DATA. Each code with its cells (R47). -/
def Lane.dacInput (idle : Nat) (relocking : Bool) (l : Lane) : List (Nat × Nat) :=
  let split := fun (c : Int) => dacSplit l.tx.retireA l.tx.retireB c.toNat
  match l.tx.state with
  | .off => []
  | .idle | .safe => [split idle]
  | .tone => if relocking then [split idle] else [split (128 + roundInt (bits (l.act .txToneCtrl) 14 8 * l.toneOut) 2047)]
  | .data => if relocking then [split idle] else l.tx.dac.map split

/-- The common-mode injection at the balls, in units of 1 mV / 2,047 (R59): off in SAFE and OFF (Table 2.3). -/
def Lane.cmInjects (relocking : Bool) (l : Lane) : Int :=
  let w := l.act .txToneCtrl
  if l.tx.state = .off || l.tx.state = .safe || relocking || !bitOf w 5 || toneMode w = 0 then 0 else bits w 20 16 * l.toneOut

/-- What the DAC of a lane takes now (Table 2.3). -/
def State.dacInput (s : State) (p : PortId) (n : LaneId) : List (Nat × Nat) :=
  (s.lane p n).dacInput s.boot.txIdle (s.relocking p)

/-- A write of TX_TONE_START, TX_TONE_RAMP or TX_TONE_STOP (R57, R60, Table 2.18). -/
def writeToneReg (who : Initiator) (p : PortId) (n : LaneId) (reg : Fin 3) (v : Word) (s : State) : State :=
  if (s.port p).link.state ≠ .down then ignored who (laneBase p n + 0x58 + 4 * reg.val) s
  else written (s.modLane p n fun l =>
    match reg with
    | 0 =>
      let fixed := toneMode (l.act .txToneCtrl) = 1
      { l with tx := { l.tx with toneStart := ftwWrite v,
                                 facc := if fixed then BitVec.ofNat 48 ((ftwWrite v).toNat * 65536) else l.tx.facc } }
    | 1 => { l with tx := { l.tx with toneRamp := v } }
    | 2 => { l with tx := { l.tx with toneStop := ftwWrite v } })

/-- TX_TONE_REG_WRITE (R60). -/
def execTxToneRegWrite (who : Initiator) (p : PortId) (n : LaneId) (reg : Fin 3) (v : Word) (s : State) :
    Host.Outcome State Fault Refusal :=
  .next (regWrite who (laneBase p n + 0x58 + 4 * reg.val) s (writeToneReg who p n reg v))

/-- Link control takes the tone generators as the port leaves DOWN (R60): MODEM is in force, with no commit, and both paths are off
until the modem sends. -/
def Lane.toneModem (l : Lane) : Lane :=
  (l.setReg .txToneCtrl fun r => { r with inForce := setBits (setBits r.inForce 1 0 3) 5 4 0 }).toneOff

/-- A sounding transmission starts on a lane (R51, R58, R59): the modem's path and amplitude, and its first chirp. -/
def Lane.startChirps (cm : Bool) (amp : Nat) (segs : List ToneSeg) (l : Lane) : Lane :=
  let l := l.setReg .txToneCtrl fun r =>
    let w := setBits r.inForce 1 0 3
    { r with inForce := if cm then setBits w 20 16 amp ||| 0x20 else setBits w 14 8 amp ||| 0x10 }
  let l := ({ l with tx := { l.tx with segs := segs } } : Lane).nextSeg
  if cm then l else l.toneOn

/-- It ends (R51, R60); the port's committed settings stand again where it is in DOWN. -/
def Lane.endChirps (cm down : Bool) (l : Lane) : Lane :=
  let l := l.setReg .txToneCtrl fun r =>
    { r with inForce := if down then r.accepted else if cm then setBits r.inForce 5 5 0 else setBits r.inForce 4 4 0 }
  let l := { l with tx := { l.tx with segs := [] } }
  if cm then l else l.toneOff

/-! ### Commits of the transmitter's registers -/

/-- A commit that a lane's TX_CTRL refuses (R48, Table 2.9). -/
def txCtrlRefused (q : Port) (old new : Word) : Bool :=
  decide (bits new 1 0 = 3)
    || (decide (bits new 1 0 ≠ bits old 1 0)
        && !(decide (q.link.state = .down) || decide (q.link.state = .sound) || decide (q.link.state = .parley)))

/-- The taps belong to a clause's link training: IEEE modes from TRAIN onwards (R46). -/
def Port.ieeeTraining (q : Port) : Bool :=
  q.ieeeMode && q.ieee.toList.any fun b => decide (b.state = .train) || decide (b.state = .up)

/-- A committed TX_CTRL comes into force (R44, R49, R51, R52): POLARITY and LANE_OFF at this boundary, RANGE by R49. A lane in
SAFE holds them. -/
def applyTxCtrl (p : PortId) (n : LaneId) (s : State) : State :=
  let l := s.lane p n
  if l.tx.state = .safe then s
  else
    let w := (l.reg .txCtrl).accepted
    let old := l.act .txCtrl
    let s := s.modLane p n fun l =>
      let l := l.setReg .txCtrl fun r => { r with inForce := setBits w 1 0 (bits old 1 0) }
      { l with tx := { l.tx with rangeNext := if bits w 1 0 = bits old 1 0 then none else some (bits w 1 0) } }
    if bitOf w 12 then txOff p n s
    else if l.tx.state = .off && s.boot.verified && bitOf old 12 && !s.pwr.lost.contains .vddhLine then
      s.modLane p n fun l => { l with tx := { l.tx with state := .idle } }
    else s

/-- A lane leaves SAFE (R51, R52): what was committed meanwhile comes into force from the point at which it reads IDLE. -/
def leaveSafe (p : PortId) (n : LaneId) (s : State) : State :=
  let s := s.modLane p n fun l => { l with tx := { l.tx with state := .idle, rangeIdle := false, resume := .idle } }
  let s := applyTxCtrl p n s
  s.modLane p n fun l => (l.applyTaps false).setTone (l.reg .txToneCtrl).accepted

/-- What a slot boundary does to a lane (R40, R46, R47, R65, R68, R92, R287): the counts of slots advance, and taps that wait for a
boundary take effect. -/
def Lane.txSlot (align quiet : Bool) (l : Lane) : Lane :=
  let swap := Nat.min 65535 (l.rx.slices.sinceSwap + 1)
  let measuring := decide (l.tx.state = .data) && !quiet && bitOf (l.act .calLaneCtrl) 0
  let folios := if !measuring then 0 else if align then l.cal.dacFolios + 1 else l.cal.dacFolios
  let l := { l with tx := { l.tx with slots := (l.tx.slots + 1) % 2 ^ 32, walkLeft := l.tx.walkLeft - 1,
                                      cellAge := Nat.min 64 (l.tx.cellAge + 1) },
                    rx := { l.rx with sinceChange := Nat.min 16 (l.rx.sinceChange + 1), vgaAge := Nat.min 64 (l.rx.vgaAge + 1),
                                      slices := { l.rx.slices with sinceSwap := swap } },
                    cal := { l.cal with dacFolios := folios } }
  match l.tx.tapsDue with
  | some t => if l.tx.state = .safe then l
    else
      let l := l.setTaps t
      { l with tx := { l.tx with tapsDue := none } }
  | none => l

end Sys2Proof.Machine
end

