-- ==== Sys2Proof/Machine/Folio.lean ====
section
/-!
DEFINITION. Blocks, heads and folios as bits (R96 to R105): the scrambler, head whitening, the calibration pattern, the
head's layout and CRC, the RS(860,774) parity, and what a received folio decodes to (R106).
-/
namespace Sys2Proof.Machine

/-! ### Scrambler -/

/-- One step of the scrambler (R104): k = s[57] XOR s[38] enters at s[0] and is the output. -/
def ksStep (s : BitVec 58) : BitVec 58 := (s <<< 1) ||| (((s >>> 57) ^^^ (s >>> 38)) &&& 1)

/-- Steps of the scrambler. -/
def ksRun : Nat → BitVec 58 → BitVec 58
  | 0, s => s
  | n + 1, s => ksRun n (ksStep s)

/-- The next outputs of the scrambler, first output most significant. -/
def ksBits : Nat → BitVec 256 → BitVec 58 → BitVec 256 × BitVec 58
  | 0, a, s => (a, s)
  | n + 1, a, s =>
    let s := ksStep s
    ksBits n ((a <<< 1) ||| (s &&& 1).setWidth 256) s

/-- The seed from a key (R104). -/
def ksSeed (key : BitVec 16) : BitVec 58 := key ++ ~~~key ++ key ++ (~~~key).extractLsb' 6 10

/-- The fixed seed W (R104). -/
def seedW : BitVec 58 := BitVec.allOnes 58

/-- The first n words of 256 keystream bits from a seed, 64 outputs discarded. -/
def ksWords (seed : BitVec 58) (n : Nat) : List (BitVec 256) :=
  let rec go : Nat → BitVec 58 → List (BitVec 256)
    | 0, _ => []
    | k + 1, s =>
      let r := ksBits 256 0 s
      r.1 :: go k r.2
  go n (ksRun 64 seed)

/-- Head whitening: keystream bits 0 to 255 of W (R105). -/
def headWhite : BitVec 256 := (ksBits 256 0 (ksRun 64 seedW)).1

/-- The 29 blocks of the calibration pattern: keystream bits 256 to 7,679 of W (R105). -/
def alignPattern : List (BitVec 256) := (ksWords seedW 30).drop 1

/-- Scramble or descramble the data bits of blocks 1 to 29 under a key (R105). -/
def scramble (key : Nat) (l : List (BitVec 256)) : List (BitVec 256) :=
  List.zipWith (fun a b => a ^^^ b) l (ksWords (ksSeed (BitVec.ofNat 16 key)) l.length)

/-! ### Heads -/

/-- A field of a head. -/
def headPut (v hi lo : Nat) : BitVec 256 := BitVec.ofNat 256 ((v % 2 ^ (hi + 1 - lo)) <<< lo)
/-- Bits hi..lo of a head. -/
def headGet (d : BitVec 256) (hi lo : Nat) : Nat := (d.toNat >>> lo) % 2 ^ (hi + 1 - lo)

/-- One bit into the CRC-16 of R102. -/
def crc16Bit (c : BitVec 16) (b : Bool) : BitVec 16 :=
  if c.msb != b then (c <<< 1) ^^^ 0x1021#16 else c <<< 1

/-- The CRC over D[255:16], starting with D[255], initial value 0xFFFF (R102). -/
def headCrc (d : BitVec 256) : BitVec 16 :=
  (List.range 240).foldl (fun c i => crc16Bit c (d.getLsbD (255 - i))) 0xFFFF#16

/-- A head's fields (Tables 4.2 and 7.1); slot is the SLOT of an alignment head. -/
structure Head where
  type : Nat
  key : Nat
  lane : Nat
  ctl : LaneCtl
  ack : Nat
  attempt : Nat
  prevLane : Nat
  prevSlot : Nat
  /-- NAK0 to NAK6, the 16 bits of each -/
  naks : List Nat
  slot : Nat
deriving DecidableEq, Repr

/-- The data bits of a head with its CRC, before whitening. -/
def Head.bits (h : Head) : BitVec 256 :=
  let common := headPut h.type 255 248 ||| headPut h.key 247 232 ||| headPut h.lane 231 228 ||| headPut h.ctl.map 223 216
    ||| headPut h.ctl.quar 215 208 ||| headPut h.ctl.nextMap 207 200 ||| headPut h.ctl.chgEpoch 199 184
    ||| headPut h.ctl.ready 183 176
  let rest := if h.type = 0xF0 then
      headPut h.ack 175 160 ||| headPut h.attempt 159 158 ||| headPut h.prevLane 157 155 ||| headPut h.prevSlot 153 143
        ||| (h.naks.take 7).zipIdx.foldl (fun a x => a ||| headPut x.1 (127 - 16 * x.2) (112 - 16 * x.2)) 0
    else if h.type = 0xF1 then headPut h.slot 175 144 else 0
  let d := common ||| rest
  d ||| (headCrc d).setWidth 256

/-- The fields of a head's data bits. -/
def Head.ofBits (d : BitVec 256) : Head :=
  { type := headGet d 255 248, key := headGet d 247 232, lane := headGet d 231 228,
    ctl := { map := headGet d 223 216, quar := headGet d 215 208, nextMap := headGet d 207 200,
             chgEpoch := headGet d 199 184, ready := headGet d 183 176 },
    ack := headGet d 175 160, attempt := headGet d 159 158, prevLane := headGet d 157 155, prevSlot := headGet d 153 143,
    naks := (List.range 7).map fun i => headGet d (127 - 16 * i) (112 - 16 * i), slot := headGet d 175 144 }

/-- A NAK entry: BUSY, LANE and SLOT [10:0], with V = 1 (Table 7.2). -/
def nakWord (busy : Bool) (lane slot : Nat) : Nat := 2 ^ 15 + b2n busy * 2 ^ 14 + lane % 8 * 2 ^ 11 + slot % 2048

/-! ### The folio code -/

/-- Multiplication by α in GF(2^10), field polynomial x^10 + x^3 + 1 (R100). -/
def gfTwice (a : Nat) : Nat := if 512 ≤ a then (2 * a) ^^^ 0x409 else 2 * a

/-- Multiplication in GF(2^10). -/
def gfMul (a b : Nat) : Nat :=
  ((List.range 10).foldl (fun (x : Nat × Nat) i => (if b.testBit i then x.1 ^^^ x.2 else x.1, gfTwice x.2)) (0, a)).1

/-- Powers of α. -/
def gfPow : Nat → Nat
  | 0 => 1
  | n + 1 => gfTwice (gfPow n)

/-- The generator's coefficients below its leading one, highest first, for the roots α^0 to α^(n−1) (R100). -/
def rsGen : Nat → List Nat
  | 0 => []
  | n + 1 =>
    let g := rsGen n
    List.zipWith (fun a b => a ^^^ b) (g ++ [0]) ((1 :: g).map (gfMul (gfPow n)))

/-- One message symbol into the division by the generator. -/
def rsStep (gen r : List Nat) (m : Nat) : List Nat :=
  let f := m ^^^ r.headD 0
  List.zipWith (fun a b => a ^^^ b) (r.drop 1 ++ [0]) (gen.map (gfMul f))

/-- The parity symbols of a message, r of them (R100). -/
def rsParity (r : Nat) (message : List Nat) : List Nat :=
  let gen := rsGen r
  message.foldl (rsStep gen) (List.replicate r 0)

/-- Bits of a number, most significant first. -/
def bitsOf (w v : Nat) : List Bool := (List.range w).map fun i => v.testBit (w - 1 - i)

/-- A number from bits, most significant first. -/
def ofBits (l : List Bool) : Nat := l.foldl (fun a b => 2 * a + b2n b) 0

/-- Groups of ten bits as symbols. -/
def symbols10 : Nat → List Bool → List Nat
  | 0, _ => []
  | n + 1, l => ofBits (l.take 10) :: symbols10 n (l.drop 10)

/-- A block's 258 bits: H[1], H[0], D[255] to D[0] (R96). -/
def blockBits (b : BitVec 2 × BitVec 256) : List Bool := bitsOf 2 b.1.toNat ++ bitsOf 256 b.2.toNat

/-- The 8,600 bits of a folio: 30 blocks and the parity of R100 (R99). -/
def folioBits (blocks : List (BitVec 2 × BitVec 256)) : List Bool :=
  let m := blocks.flatMap blockBits
  m ++ (rsParity 86 (symbols10 774 m)).flatMap (bitsOf 10)

/-- The header of a block (R96). -/
def Block.header (b : Block) : BitVec 2 := if b.ctrl then 0b10#2 else 0b01#2

/-- The 30 blocks of a data or void folio as sent: the head whitened, blocks 1 to 29 scrambled under its KEY (R105). -/
def sentBlocks (h : Head) (body : List Block) : List (BitVec 2 × BitVec 256) :=
  (0b10#2, h.bits ^^^ headWhite) :: List.zip (body.map Block.header) (scramble h.key (body.map Block.data))

/-- The 30 blocks of an alignment folio as sent (R101, R105). -/
def sentAlign (h : Head) : List (BitVec 2 × BitVec 256) :=
  (0b10#2, h.bits ^^^ headWhite) :: alignPattern.map fun d => (0b10#2, d)

/-- The line symbols of a folio (R41, R44). -/
def folioSymbols (invert : Bool) (blocks : List (BitVec 2 × BitVec 256)) : List Int := pam6Symbols invert (folioBits blocks)

/-! ### Decoding -/

/-- The erasure set of R106: symbols at or below the threshold, lowest reliability first, ties to the lower index. -/
def eraseSet (thr cap : Nat) (rel : List Nat) : List Nat :=
  (((List.range 16).filter fun r => decide (r ≤ thr)).flatMap fun r =>
    (rel.zipIdx.filter fun x => x.1 == r && decide (x.2 < 860)).map fun x => x.2).take cap

/-- The reliability of each RS symbol (R81): the least of its four line symbols'. -/
def rsReliability : List Nat → List Nat
  | a :: b :: c :: d :: l => Nat.min (Nat.min a b) (Nat.min c d) :: rsReliability l
  | _ => []

/-- The two attempts of R106: symbols changed and erasures used, or none where the folio is uncorrectable. -/
def decodeFolio (eraseEn : Bool) (thr cap : Nat) (f : RxFolio) : Option (Nat × Nat) :=
  let errs := (f.errs.filter fun i => decide (i < 860)).eraseDups
  let e := eraseSet thr cap (rsReliability f.rel)
  let t := errs.countP fun i => !e.contains i
  if eraseEn && decide (cap ≠ 0) && decide (2 * t + e.length ≤ 86) then some (errs.length, e.length)
  else if errs.length ≤ 43 then some (errs.length, 0)
  else none

/-- The head of a decoded folio, whitening removed. -/
def RxFolio.headBits (f : RxFolio) : BitVec 256 :=
  match f.blocks with
  | [] => 0
  | b :: _ => b.2 ^^^ headWhite

/-- The head's CRC matches (R102). -/
def crcOk (d : BitVec 256) : Bool := headCrc d == d.setWidth 16

/-- Blocks 1 to 29 of a decoded data folio, descrambled: none for one with an invalid header (R96, R98). -/
def RxFolio.body (f : RxFolio) (key : Nat) : List (Option Block) :=
  let b := (f.blocks.drop 1).take 29
  List.zipWith (fun h d => if h = 0b01#2 then some { ctrl := false, data := d }
      else if h = 0b10#2 then some { ctrl := true, data := d } else none)
    (b.map fun x => x.1) (scramble key (b.map fun x => x.2))

/-- A block as delivered (R98): a reserved line-owned type or an invalid header as ERRORED; the flag says it is to be
counted in BAD_BLK. Types that appear in no position 1 to 29 are treated alike (DEDUCED). -/
def lineBlock (b : Option Block) : Block × Bool :=
  match b with
  | none => (Block.errored, true)
  | some b => if b.lineOwned && decide (b.type ≠ 0xF8) && decide (b.type ≠ 0xF9) then (Block.errored, true) else (b, false)

end Sys2Proof.Machine
end

