-- ==== Sys2Proof/Machine/Modem.lean ====
section
/-!
DEFINITION. The sounding modem (R132 to R137, R151, R160): the chirps of a frame, a probe burst and a wake burst, as the tone
generator is given them.
-/
namespace Sys2Proof.Machine

/-- One chirp-long symbol of a transmission (R133, R135). -/
inductive Chirp where
  | up (v : Nat)
  | down
  | quarter
deriving DecidableEq, Repr

/-- f_lo, f_hi and the chip rate of an instance in kHz (Table 5.1). -/
def sndBand (cm : Bool) : Nat × Nat × Nat := if cm then (20000, 70000, 50000) else (750000, 1750000, 1000000)

/-- The DAC sample rate of a lane PLL frequency in kHz: twice the frequency (R18); zero while there is none. -/
def sampleKhz : PllFreq → Nat
  | .f592 => 118400000
  | .f518 => 103600000
  | .f444 => 88800000
  | .f53125 => 106250000
  | .none => 0

/-- A chirp as the modem loads it (R133, R60): START and STOP at the ends of the band, RAMP the FTW per sample in units of 2^-16, and
the symbol's start frequency; a down-chirp has the negated RAMP and the reload reversed. -/
def Chirp.seg (cm : Bool) (fs sf : Nat) (c : Chirp) : ToneSeg :=
  let b := sndBand cm
  let span := b.2.1 - b.1
  let ftw := fun (num den : Nat) => (roundInt (num * 2 ^ 32 : Nat) (den * fs)).toNat
  let lo := ftw b.1 1
  let hi := ftw b.2.1 1
  let ramp := roundInt (span * b.2.2 * 2 ^ 48 : Nat) (2 ^ sf * fs * fs)
  match c with
  | .up v => { first := ftw (b.1 * 2 ^ sf + v * span) (2 ^ sf), start := lo, ramp := ramp, stop := hi }
  | .down | .quarter => { first := hi, start := hi, ramp := -ramp, stop := lo }

/-- Bits in groups of k, the last padded with zeros (R136, R137). -/
def bitGroups (k : Nat) : Nat → List Bool → List Nat
  | 0, _ => []
  | _, [] => []
  | n + 1, b :: l =>
    let g := (b :: l).take k
    bitsNat (g ++ List.replicate (k - g.length) false) :: bitGroups k n ((b :: l).drop k)

/-- The header of a frame (Table 5.3). -/
def sndHeader (typ len psf : Nat) : Nat :=
  let h := typ % 256 * 2 ^ 16 + len % 256 * 2 ^ 8 + psf % 16 * 2 ^ 4
  h * 256 + (crc8 (msbBits 24 h)).toNat

/-- The CRC of a frame (R137). -/
def sndCrc (typ len psf : Nat) (payload : List Byte) : Nat :=
  (crc32 (beBytes 1 typ ++ beBytes 1 len ++ beBytes 1 (16 * psf) ++ payload)).toNat

/-- Payload and CRC of a frame as sent (R137). -/
def sndBody (typ psf : Nat) (payload : List Byte) : List Byte :=
  whiten (payload ++ beBytes 4 (sndCrc typ payload.length psf payload))

/-- The symbols of a frame in the order sent (R135 to R137). The payload goes at the base SF (DEDUCED from the durations of the worked
bring-up; log entry 106). -/
def frameChirps (sf : Nat) (f : SndFrame) : List Chirp :=
  let sym := fun (m : Nat) (b : Nat) => Chirp.up (m * (b ^^^ (b / 2)))
  let body := (sndBody f.typ sf f.payload).flatMap fun b => msbBits 8 b.toNat
  List.replicate 10 (.up 0) ++ [.down, .down, .quarter]
    ++ (bitGroups (sf - 2) 32 (msbBits 32 (sndHeader f.typ f.payload.length sf))).map (sym 4)
    ++ (bitGroups sf body.length body).map (sym 1)

/-- A burst of a probe train (R160). -/
def probeChirps : List Chirp := List.replicate 16 (.up 0)

/-- A wake burst (R151): 25 sweeps of 16 chips each, 320 ns, for 8 µs. -/
def wakeChirps : List Chirp := List.replicate 25 (.up 0)
/-- The SF at which an up-chirp of the common-mode band lasts 320 ns (R151). -/
def wakeSf : Nat := 4

/-- The lanes that carry the common-mode instance (R140): the training set until data flows, then the active lanes. -/
def Port.cmLanes (q : Port) : Nat :=
  if q.link.state = .train || q.link.state = .align then q.snd.set else if q.link.state.isData then q.active else 0

/-- The agreed common-mode SF (Table 5.10). -/
def Port.cmSf (q : Port) : Nat :=
  match q.snd.agreed with
  | some o => o.cmSf
  | none => 7

/-- A differential transmission starts on a lane (R59, R139): AMP of SND_DIFF_CTRL as read. -/
def Port.diffChirps (q : Port) (fs sf : Nat) (n : LaneId) (l : List Chirp) : Port :=
  q.modLane n fun x => x.startChirps false (bits q.snd.diffCtrl 14 8) (l.map (Chirp.seg false fs sf))

/-- A common-mode transmission starts on the lanes that carry it, with the same chirp on each (R60, R140). -/
def Port.cmChirps (q : Port) (fs sf : Nat) (l : List Chirp) : Port :=
  q.mapLanes fun n x =>
    if q.cmLanes.testBit n.val then x.startChirps true (bits q.snd.cmCtrl 20 16) (l.map (Chirp.seg true fs sf)) else x

/-- The common-mode transmission of a port ends. -/
def Port.cmEnd (q : Port) : Port := q.mapLanes fun _ x => x.endChirps true (decide (q.link.state = .down))

end Sys2Proof.Machine
end

