-- ==== Sys2Proof/Machine/Chain.lean ====
section
/-!
DEFINITION. The receive chain of a lane (R62 to R65, R73 to R81, R84 to R87): from the samples of the pair it receives on through the
FFE, the echo and NEXT subtraction and the sequence estimator to decisions with reliabilities, the sign-error LMS of every
coefficient, and the sums that the SNR, the AGC, the epochs and the convergence are judged on.
-/
namespace Sys2Proof.Machine

/-! ### Powers and decibels -/

/-- The square of a number. -/
def sqr (x : Int) : Nat := (x * x).toNat

/-- The largest k up to cap with small^m · 10^k ≤ big^m: m·log10(big/small), rounded down. -/
def logSteps (m cap small big : Nat) : Nat :=
  ((List.range (cap + 1)).countP fun k => decide (small ^ m * 10 ^ k ≤ big ^ m)) - 1

/-- The SNR of R86 in 0.1 dB, at most the field's 511: P/E with P = 10 or 5 squared units of level, and E = sum/count; rounded down (DESIGN
CHOICE: the rounding is not stated; log entry 117). -/
def snrOf (ieee : Bool) (unit sum count : Nat) : Nat := logSteps 100 511 sum ((if ieee then 5 else 10) * unit ^ 2 * count)

/-! ### AGC -/

/-- An RMS of samples lies within 4 % of the target (R65): sq is the sum of their squares. -/
def agcOk (target sq count : Nat) : Bool :=
  decide (9216 * target ^ 2 * count ≤ 10000 * sq) && decide (10000 * sq ≤ 10816 * target ^ 2 * count)

/-- The lane's signal is active (R85): the RMS is not below half the target. -/
def agcActive (target sq count : Nat) : Bool := decide (target ^ 2 * count ≤ 4 * sq)

/-- A step of the gain, one towards the target within 0 to 96 (R65). -/
def agcMove (target sq count vga : Nat) : Nat := if sq < target ^ 2 * count then Nat.min 96 (vga + 1) else vga - 1

/-- Symbols of an AGC interval before TRACK, and of an epoch of 64 folio slots (R65, R85). -/
def agcSymbols : Nat := 1024
def epochSymbols : Nat := 64 * 3440

/-- A tap's magnitude times or over the gain ratio of a 0.25 dB step, 10^(1/80), to the nearest LSB (R65; the rounding is a DESIGN
CHOICE, log entry 117). -/
def stepScale (up : Bool) (m : Nat) : Nat :=
  (List.range (m + 20)).countP fun k =>
    if up then decide ((2 * k + 1) ^ 80 * 10 ≤ (2 * m) ^ 80) else decide ((2 * k + 1) ^ 80 ≤ 10 * (2 * m) ^ 80)

/-- A number within a signed width. -/
def clampTo (w : Nat) (x : Int) : Int := max (-(2 ^ (w - 1) : Nat)) (min ((2 ^ (w - 1) : Nat) - 1) x)

/-- An FFE tap after a VGA step (R65, R74): times the inverse of the step's gain ratio. -/
def rescaleTap (up : Bool) (c : Int) : Int := clampTo 10 (c.sign * (stepScale up c.natAbs : Nat))

/-! ### What runs -/

/-- The sum of products of two lists. -/
def dot (a b : List Int) : Int := (List.zipWith (fun x y => x * y) a b).sum

/-- The sub-port a line lane belongs to (R175). -/
def Port.laneSub (q : Port) (n : LaneId) : IeeeSub := q.ieee[(n.val / (8 / 2 ^ bits (q.act .ieeeCfg) 2 0)) % 8]'(Nat.mod_lt _ (by decide))

/-- The PHY on a lane runs at 53.125 GBd, two samples a symbol (R173). -/
def Port.halfRate (q : Port) (n : LaneId) : Bool := q.ieeeMode && decide ((q.laneSub n).phy ≤ 4)

/-- The echo canceller runs (R75); the NEXT cancellers run (R79). -/
def Port.echoRuns (q : Port) : Bool := q.duplex
def Port.nextRuns (q : Port) (n : LaneId) : Bool := !q.ieeeMode && bitOf (q.lanes[n.val].act .rxCtrl) 4

/-- Sparse window w is in use (R76). -/
def LaneRx.windowUsed (x : LaneRx) (w : Nat) : Bool := (x.ecStart.getD w none).isSome

/-- Taps of unused blocks at zero (R75, R76, R79): the echo canceller outside native duplex, the unused windows, and the NEXT cancellers
while they do not run. -/
def LaneRx.zeroUnused (echoOn nextOn : Bool) (x : LaneRx) : LaneRx :=
  let win := fun (l : List Int) => l.take 384 ++ (List.range 4).flatMap fun w =>
    if x.windowUsed w then (l.drop (384 + 64 * w)).take 64 else List.replicate 64 0
  let zero := fun (c : Coefs) =>
    { c with echo := if echoOn then win c.echo else List.replicate 640 0, next := if nextOn then c.next else List.replicate 336 0 }
  { x with coefs := zero x.coefs, resid := zero x.resid, anchor := zero x.anchor }

/-- The receiver of lane n with the blocks that its port's mode does not use at zero. -/
def Port.zeroUnused (q : Port) : Port :=
  q.mapLanes fun n l => { l with rx := l.rx.zeroUnused q.echoRuns (q.nextRuns n) }

/-- The LMS step field v of each adapting block (R84, Tables 3.6 and 3.12); none does not adapt. -/
structure Steps where
  ffe : Option Nat
  echo : Option Nat
  next : Option Nat
  dfe : Option Nat
deriving DecidableEq, Repr

/-- Whether a phase adapts the FFE and the estimator's taps, and the cancellers (Table 3.6). -/
def RxPhase.adapts : RxPhase → Bool × Bool
  | .echo => (false, true) | .far => (true, false) | .joint | .track => (true, true) | .off | .hold => (false, false)

/-- The step sizes in force of lane n (R84): AUTO takes FAST up to CONV in JOINT, and TRACK in TRACK; the mode TRACK takes TRACK
throughout; FREEZE stops every update. -/
def Port.steps (q : Port) (n : LaneId) : Steps :=
  let l := q.lanes[n.val]
  let mode := bits (l.act .rxCtrl) 13 12
  let a := l.act .rxAdapt
  let track := decide (mode = 1) || decide (l.rx.phase = .track) || (decide (l.rx.phase = .joint) && l.rx.conv)
  let v := fun (b : Nat) => if track then bits a (b + 19) (b + 16) else bits a (b + 3) b
  let on := fun (c : Bool) (b : Nat) => if c && decide (mode ≠ 2) then some (v b) else none
  let ph := l.rx.phase.adapts
  { ffe := on ph.1 0, echo := on (ph.2 && q.echoRuns) 4, next := on (ph.2 && q.nextRuns n) 8, dfe := on ph.1 12 }

/-- The lanes whose NEXT canceller adapts (R79): not while that lane's transmitter is IDLE, OFF or SAFE. -/
def Port.nextLive (q : Port) (n : LaneId) : List Bool :=
  (allLanes.filter fun m => m ≠ n).map fun m =>
    match q.lanes[m.val].tx.state with | .idle | .off | .safe => false | _ => true

/-! ### LMS -/

/-- One sign-error LMS update of a tap (R84): 2^−(v+6) of the input, in the direction given, gathered exactly below the LSB (DESIGN CHOICE:
no rounding is stated; log entry 117) and held within the tap's width. -/
def lmsTap (w v : Nat) (dir : Int) (c r x : Int) : Int × Int :=
  let t := r + dir * x * (2 ^ (14 - v) : Nat)
  (clampTo w (c + t / (2 ^ 20 : Nat)), t % (2 ^ 20 : Nat))

/-- The update of a block of taps (R84): the taps c and their fractions r by the inputs x. -/
def lmsBlock (w : Nat) (v : Option Nat) (dir : Int) (c r x : List Int) : List Int × List Int :=
  match v with
  | none => (c, r)
  | some v =>
    let l := (List.zip c (List.zip r (x ++ List.replicate c.length 0))).map fun y => lmsTap w v dir y.1 y.2.1 y.2.2
    (l.map fun y => y.1, l.map fun y => y.2)

/-- The inputs of the echo taps at a symbol (R75, R76): the own codes from lag 0, newest first, for the dense taps and each used window. -/
def echoInputs (x : LaneRx) (own : List Int) : List Int :=
  let pad : List Int → Nat → List Int := fun l k => (l ++ List.replicate k 0).take k
  pad own 384 ++ (List.range 4).flatMap fun w =>
    match x.ecStart.getD w none with
    | some st => pad (own.drop st) 64
    | none => List.replicate 64 0

/-- The inputs of the NEXT taps at a symbol (R79): 48 lags of each other lane; zero for one whose canceller is live no more where only
those that adapt count. -/
def nextInputs (live : List Bool) (near : List (List Int)) : List Int :=
  (List.zip near live).flatMap fun x => if x.2 then (x.1 ++ List.replicate 48 0).take 48 else List.replicate 48 0

/-! ### The sequence estimator -/

/-- The levels of a symbol (R80). -/
def lineLevels (ieee : Bool) : List Int := if ieee then [-3, -1, 1, 3] else [-5, -3, -1, 1, 3, 5]

/-- What the estimator works on: the level unit and the two post-cursors in 1/65,536 code, the levels, and whether a branch to a corner
point is barred (R80). -/
structure EstParams where
  unit : Int
  d1 : Int
  d2 : Int
  levels : List Int
  bar : Bool
deriving DecidableEq, Repr

/-- The first of the least by a measure. -/
def leastBy {α : Type} (f : α → Nat) : List α → Option α
  | [] => none
  | a :: l => match leastBy f l with
    | some b => if f a ≤ f b then some a else some b
    | none => some a

/-- The expected input of a level after a path: the first post-cursor in the trellis, the second by the survivor (R80). -/
def EstParams.expected (e : EstParams) (a : Int) (path : List Int) : Int := e.unit * a + e.d1 * path.getD 0 0 + e.d2 * path.getD 1 0

/-- One step of the trellis (R80): for each level the survivor with the least metric, metrics counted from the best one. -/
def viterbiStep (e : EstParams) (z : Int) (surv : List Survivor) : List Survivor :=
  let start : List Survivor := if surv.isEmpty then [{ metric := 0, path := [] }] else surv
  let next := e.levels.filterMap fun a =>
    leastBy (fun v : Survivor => v.metric) (start.filterMap fun v =>
      if e.bar && decide (a.natAbs = 5) && decide ((v.path.getD 0 0).natAbs = 5) then none
      else some { metric := v.metric + sqr (z - e.expected a v.path), path := (a :: v.path).take 27 })
  let least := ((leastBy (fun v : Survivor => v.metric) next).map fun v => v.metric).getD 0
  next.map fun v => { v with metric := v.metric - least }

/-- The traceback depth (R80). -/
def traceback : Nat := 24

/-- The decision on the symbol at the traceback depth (R80), with its reliability (R81): the metric difference to the best path that decides
otherwise, in halves of a squared level; 15 where no survivor does. -/
def decideSymbol (unit : Int) (surv : List Survivor) : Option (Int × Nat × Survivor) :=
  match leastBy (fun v : Survivor => v.metric) surv with
  | none => none
  | some best =>
    match best.path[traceback]? with
    | none => none
    | some a =>
      let other := leastBy (fun v : Survivor => v.metric) (surv.filter fun v => v.path[traceback]? ≠ some a)
      let r := match other with
        | some v => Nat.min 15 (2 * (v.metric - best.metric) / sqr unit)
        | none => 15
      some (a, r, best)

/-- A PAM4 decision with the precoding undone (R43, R80): the sum of the symbol and the one before it, modulo 4. -/
def unprecode (a before : Int) : Int := 2 * ((((a + 3) / 2) + ((before + 3) / 2)) % 4) - 3

/-! ### One symbol -/

/-- A unit of level at the estimator, in 1/65,536 code: the post-cursor estimates are 1/256 of it (Table 11.7; log entry 138). -/
def LaneRx.estUnit (x : LaneRx) (ieee : Bool) : Nat := 256 * Config.levelUnit x.agcTarget ieee

/-- The estimator's parameters of lane n at a symbol, with the post-cursor estimates as they stand (R80). -/
def Port.estParams (q : Port) (n : LaneId) (second : Bool) (dfe : List Int) : EstParams :=
  let l := q.lanes[n.val]
  let u := Config.levelUnit l.rx.agcTarget q.ieeeMode
  { unit := l.rx.estUnit q.ieeeMode, d1 := u * dfe.getD 0 0, d2 := u * dfe.getD 1 0, levels := lineLevels q.ieeeMode,
    bar := !q.ieeeMode && l.code.lock && second }

/-- The estimator's input at the symbol whose samples stand k places back (R62, R74, R75, R79): the FFE output less the two estimates. -/
def LaneRx.input (x : LaneRx) (k : Nat) : Int :=
  dot x.coefs.ffe (x.run.adc.drop k)
    - Config.echoUnit * dot x.coefs.echo (echoInputs x (x.run.own.drop (k + 8)))
    - Config.nextUnit * dot x.coefs.next (nextInputs (x.run.near.map fun _ => true) (x.run.near.map fun l => l.drop (k + 8)))

/-- LMS by an error at the symbol k places back (R84): the FFE and the estimator's taps, the echo and the NEXT cancellers. -/
def LaneRx.adapt (x : LaneRx) (st : Steps) (live : List Bool) (err : Int) (k : Nat) (before : List Int) : LaneRx :=
  let g := err.sign
  let f := lmsBlock 10 st.ffe (-g) x.coefs.ffe x.resid.ffe (x.run.adc.drop k)
  let e := lmsBlock 12 st.echo g x.coefs.echo x.resid.echo (echoInputs x (x.run.own.drop (k + 8)))
  let m := lmsBlock 10 st.next g x.coefs.next x.resid.next (nextInputs live (x.run.near.map fun l => l.drop (k + 8)))
  let d := lmsBlock 10 st.dfe g x.coefs.dfe x.resid.dfe before
  { x with coefs := { ffe := f.1, echo := e.1, next := m.1, dfe := d.1 }, resid := { ffe := f.2, echo := e.2, next := m.2, dfe := d.2 } }

/-- The residual of ECHO lies 42 dB below the lane's own signal (R87), both as power: 10^4.2 taken exactly. -/
def residualLow (z : Int) (ownSum count : Nat) : Bool :=
  decide ((sqr z * count) ^ 5 * 10 ^ 21 ≤ (Config.ownUnit ^ 2 * ownSum) ^ 5)

/-- A sample enters the lines of the chain (R62, R94): from TXn in native duplex, from RXn otherwise; negated under POLARITY. -/
def LaneRx.take (x : LaneRx) (duplex negate : Bool) (a : RxSample) : LaneRx :=
  let v : Int := ((if duplex then a.txPair else a.rxPair) : Nat) - 128
  let v := if negate then -v else v
  let near := if x.run.near.isEmpty then List.replicate 7 [] else x.run.near
  { x with run := { x.run with
      adc := (v :: x.run.adc).take 72, own := (a.own :: x.run.own).take 2880,
      near := List.zipWith (fun b l => (b :: l).take 88) (a.near ++ List.replicate 7 0) near,
      agcSq := x.run.agcSq + sqr v, agcCnt := x.run.agcCnt + 1, epSq := x.run.epSq + sqr v, epCnt := x.run.epCnt + 1 } }

/-- The clock recovery at a decision (R73; PRESUMED the baud-rate detector of Mueller and Müller, log entry 118): the loop moves the
phase of the 64-step interpolator and the offset it tracks. -/
def LaneRx.recover (x : LaneRx) (path : List Int) : LaneRx :=
  let pd := x.run.ins.getD traceback 0 * path.getD (traceback + 1) 0 - x.run.ins.getD (traceback + 1) 0 * path.getD traceback 0
  let r := Config.cdrLoop pd x.cdrPhase x.freqOfs
  { x with cdrPhase := r.1 % 64, freqOfs := r.2 }

/-- One symbol through the chain of lane n (R62, R80, R81, R84 to R87). -/
def Port.rxSymbol (q : Port) (n : LaneId) (st : Steps) (live : List Bool) (x : LaneRx) (a : RxSample) : LaneRx :=
  let l := q.lanes[n.val]
  let x := x.take q.duplex (bitOf (l.act .rxCtrl) 8) a
  let z := x.input 0
  let e := q.estParams n a.second x.coefs.dfe
  let surv := viterbiStep e (256 * z) x.run.surv
  let x := { x with run := { x.run with ins := (256 * z :: x.run.ins).take 27, surv := surv,
                                        farSum := x.run.farSum + sqr z, ownSum := x.run.ownSum + sqr a.own, farCnt := x.run.farCnt + 1 } }
  if x.phase = .echo then
    let low := residualLow z x.run.ownSum x.run.farCnt
    ({ x with run := { x.run with echoRun := if low then x.run.echoRun + 1 else 0 } }).adapt st live z 0 []
  else
    match decideSymbol e.unit surv with
    | none => x
    | some (d, r, best) =>
      let before := best.path.drop (traceback + 1)
      let err := x.run.ins.getD traceback 0 - e.expected d before
      let shown := if q.ieeeMode && (q.laneSub n).precodeRx then unprecode d (before.getD 0 (-3)) else d
      let x := { x with run := { x.run with errSum := x.run.errSum + sqr err, errCnt := x.run.errCnt + 1,
                                            out := x.run.out ++ [(shown, if q.ieeeMode then 0 else r)] } }
      (x.recover best.path).adapt st live err traceback before

/-- A lane transmits on its recovered receive clock: on the follower of a native link (R72), and as the partner of a far-end loopback
(R405); on its lane PLL otherwise. -/
def Port.recoveredClock (q : Port) (n : LaneId) : Bool :=
  !q.ieeeMode && ((q.lanes[n.val]).rx.follow || decide ((q.lanes[n.val]).test.loop = .farServe))

/-- The offset of a lane's transmit clock from its lane PLL, in ppm (R72): what the phase interpolator tracks, at most 300 either way. -/
def Port.txOffset (q : Port) (n : LaneId) : Int := if q.recoveredClock n then max (-300) (min 300 (q.lanes[n.val]).rx.freqOfs) else 0

/-- Every second element. -/
def everyOther {α : Type} : List α → List α
  | a :: _ :: l => a :: everyOther l
  | [a] => [a]
  | [] => []

/-- Samples through the chain of lane n (R62, R84, R85, R173). At 53.125 GBd one of the two samples of a symbol is taken. LMS runs only while
the epoch, as far as it has come with these samples, is active (DESIGN CHOICE: R85 judges a whole epoch that its own updates are part
of; log entry 119). In OFF and HOLD nothing runs. -/
def Port.rxRun (q : Port) (n : LaneId) (samples : List RxSample) : LaneRx :=
  let l := q.lanes[n.val]
  if l.rx.phase = .off || l.rx.phase = .hold || samples.isEmpty then l.rx
  else
    let xs := if q.halfRate n then everyOther samples else samples
    let x := l.rx.zeroUnused q.echoRuns (q.nextRuns n)
    let x := { x with run := { x.run with out := [] } }
    let seen := xs.foldl (fun x a => LaneRx.take x q.duplex false a) x
    let active := agcActive l.rx.agcTarget seen.run.epSq seen.run.epCnt
    let st := if active then q.steps n else { ffe := none, echo := none, next := none, dfe := none }
    xs.foldl (q.rxSymbol n st (q.nextLive n)) x

/-- Samples received on lane n of port p go through its chain. -/
def receive (p : PortId) (n : LaneId) (samples : List RxSample) (s : State) : State :=
  s.modPort p fun q => q.modLane n fun l => { l with rx := q.rxRun n samples }

end Sys2Proof.Machine
end

