-- ==== Sys2Proof/Machine/Receive.lean ====
section
/-!
DEFINITION. The line receiver (R62 to R94): AGC, slice rotation, echo search and convergence, the SNR window, the
coefficient anchor with the CTLE step calibration at its points (R289, R290), and the eye figures (R266 to R268).
-/
namespace Sys2Proof.Machine

/-! ### AGC -/

/-- Clear the sums of an AGC interval and, at the end of an epoch, those of the epoch, which is counted as active or not (R85, R88). -/
def LaneRx.endInterval (x : LaneRx) (epoch active : Bool) : LaneRx :=
  { x with run := { x.run with
      agcSq := 0, agcCnt := 0, epSq := if epoch then 0 else x.run.epSq, epCnt := if epoch then 0 else x.run.epCnt,
      epochs := x.run.epochs + b2n epoch, epochsActive := x.run.epochsActive + b2n (epoch && active) } }

/-- AGC_STEP (R65, R84, R85, R90, R92): the samples up to the end of an AGC interval, 1,024 symbols or in TRACK an epoch. A step of TRACK
falls due at least 64 slots after the last one and waits for its boundary. -/
def execAgcStep (p : PortId) (n : LaneId) (samples : List RxSample) (s : State) : Host.Outcome State Fault Refusal :=
  .next (
    let s := receive p n samples s
    let l := s.lane p n
    let t := l.rx.agcTarget
    let r := l.rx.run
    let track := decide (l.rx.phase = .track)
    let sq := if track then r.epSq else r.agcSq
    let cnt := if track then r.epCnt else r.agcCnt
    let epoch := decide (epochSymbols ≤ r.epCnt)
    if l.rx.phase = .off || l.rx.phase = .hold || cnt < (if track then epochSymbols else agcSymbols) then s
    else
      let active := agcActive t r.epSq r.epCnt
      let v := agcMove t sq cnt l.rx.vga
      let s := s.modLane p n fun l => { l with rx := l.rx.endInterval epoch active }
      if bits (l.act .rxCtrl) 13 12 = 2 || agcOk t sq cnt || !active || decide (v = l.rx.vga) then s
      else if track then
        if l.rx.vgaAge < 64 then s else s.modLane p n fun l => { l with rx := { l.rx with vgaDue := some (decide (l.rx.vga < v)) } }
      else s.modLane p n fun l => { l with rx := { l.rx with vga := v } })

/-- A VGA step of TRACK takes effect (R65, R90): the FFE and its anchor are rescaled at the same sample. -/
def LaneRx.stepVga (x : LaneRx) (up : Bool) : LaneRx :=
  { x with vga := if up then Nat.min 96 (x.vga + 1) else x.vga - 1, vgaDue := none, vgaAge := 0, sinceChange := 0,
           coefs := { x.coefs with ffe := x.coefs.ffe.map (rescaleTap up) },
           anchor := { x.anchor with ffe := x.anchor.ffe.map (rescaleTap up) } }

/-- A VGA step that is due takes effect at the first boundary the rule allows, after a swap and a CTLE step that are due (R92, R93). -/
def vgaBoundary (p : PortId) (n : LaneId) (s : State) : State :=
  let l := s.lane p n
  match l.rx.vgaDue with
  | some up =>
    if l.rx.phase ≠ .track || !liveAllowed s p n || swapDue l || l.cal.ctleDue.isSome then s
    else s.modLane p n fun l => { l with rx := l.rx.stepVga up }
  | none => s

/-! ### Slice rotation -/

/-- The slices after a swap (R68). -/
def Slices.swap (x : Slices) : Slices :=
  { x with pos := x.pos.set x.nextPos x.inCal, inCal := x.pos.getD x.nextPos x.inCal, nextPos := (x.nextPos + 1) % 64,
           calDone := false, sinceSwap := 0 }

/-- SLICE_SWAP (R68, R92, R93). -/
def execSliceSwap (p : PortId) (n : LaneId) (s : State) : Host.Outcome State Fault Refusal :=
  .next (
    let l := s.lane p n
    let runs := decide (l.rx.phase ≠ .off) && decide (l.rx.phase ≠ .hold)
    if !swapDue l || !runs || (decide (l.rx.phase = .track) && !liveAllowed s p n) then s
    else s.modLane p n fun l => { l with rx := { l.rx with slices := l.rx.slices.swap, sinceChange := 0 } })

/-- A trim moved by at most one LSB towards its calibrated value (R69, step 4). -/
def trimTowards (v target : Int) : Int := if v < target then v + 1 else if target < v then v - 1 else v

/-- Slice calibrations completed in a pod (R408). -/
def podSliceCals (k : PodId) (s : State) : Nat :=
  ((portsOfPod k).map fun p => (((s.port p).lanes.toList.map fun l => l.rx.slices.calCount).sum)).sum

/-- The trims that give no difference from the outgoing slice at the ADC output (R69, step 4): the calibrated ones less the measured
differences. -/
def matchTrims (cal diff : Int × Int × Int) : Int × Int × Int := (cal.1 - diff.1, cal.2.1 - diff.2.1, cal.2.2 - diff.2.2)

/-- The live comparison of R69, step 3, can have run (R93): its 4,096 samples of one position, one in 64 symbols, take 77 slots; in QUIET they
fit in the window as far as it has come. -/
def comparisonFits (q : Port) : Bool := decide (q.link.state ≠ .quiet) || (q.link.inWindow && decide (77 ≤ q.link.winSlot))

/-- SLICE_CAL_DONE (R69 to R71, R93, R284, R408): the calibrated trims of step 1, each comparator's residual offset and noise of step 2, the
differences of offset, gain and skew from the outgoing slice over the 4,096 live samples of step 3, and the ramp check's slope
(0.1 %) and nonlinearity (0.1 code). Step 4 and the checks of each step are made here; a comparison that cannot run leaves the
calibration where it is. -/
def execSliceCalDone (p : PortId) (n : LaneId) (cal diff : Int × Int × Int) (comps : List (Int × Nat)) (slope inl : Int)
    (s : State) : Host.Outcome State Fault Refusal :=
  .next (
    let l := s.lane p n
    let x := l.rx.slices
    if x.stopped || x.calDone || l.rx.phase = .off || l.rx.phase = .hold || !comparisonFits (s.port p) then s
    else
      let lim := s.boot.limits
      let c := chooseComparator lim.compNoise comps
      let noise := ((comps[c.getD 0]?).map fun y => y.2).getD 0
      let matched := matchTrims cal diff
      let t := (trimTowards matched.1 cal.1, trimTowards matched.2.1 cal.2.1, trimTowards matched.2.2 cal.2.2)
      let ok := c.isSome && lim.sliceOk cal.1 cal.2.1 cal.2.2 noise && lim.sliceStepOk (x.results.getD x.inCal (0, 0, 0)) cal
        && lim.sliceOk t.1 t.2.1 t.2.2 noise && !refCheckBad s p
      let y : Slices := if ok then { x.accept x.inCal cal t (c.getD 0) with calDone := true } else x.failInCal
      let s := s.modLane p n fun l =>
        { l.calResult 1 (if ok then 1 else 2) with rx := { l.rx with slices := { y with calCount := x.calCount + 1 } } }
      let s := checkSpare p n s
      if podSliceCals (podOf p) s % 1024 = 0 then rampSample (podOf p) slope inl s else s)

/-! ### Echo canceller -/

/-- Two windows of 64 taps overlap (R76). -/
def ecOverlap (a b : Nat) : Bool := decide (absDiff a b < 64)

/-- A START that covers a lag without overlap (R77, steps 2 and 3): the least move, of two equal ones the lower START (DESIGN
CHOICE). -/
def ecPlace (placed : List Nat) (lag : Nat) : Option Nat :=
  let want := Nat.max 384 (Nat.min 2777 (lag - 16))
  let ok := fun (x : Nat) => decide (384 ≤ x) && decide (x ≤ 2777) && decide (x ≤ lag) && decide (lag ≤ x + 63)
    && placed.all fun w => !ecOverlap x w
  if placed.all fun w => !ecOverlap want w then (if ok want then some want else none)
  else
    let moves := (List.range 64).flatMap fun k => [want - k, want + k]
    moves.find? ok

/-- The magnitude of the correlation of the samples with the own codes at a lag (R77), oldest first. -/
def lagMagnitude (samples own : List Int) (lag : Nat) : Nat := (dot (samples.drop lag) own).natAbs

/-- Place up to k windows (R77): each on the lag of the largest magnitude that no window covers, of two equal ones the lower (DESIGN CHOICE:
the rule names none; log entry 120); a lag that cannot be covered is passed over. -/
def ecSearch : Nat → List (Nat × Nat) → Nat → List Nat → List Nat → List Nat
  | 0, _, _, _, done => done
  | fuel + 1, cands, k, placed, done =>
    if k = 0 then done
    else
      let best := cands.foldl (fun (b : Option (Nat × Nat)) x => match b with
        | none => some x
        | some y => if y.2 < x.2 then some x else some y) none
      match best with
      | none => done
      | some (lag, _) =>
        match ecPlace placed lag with
        | some w => ecSearch fuel (cands.filter fun x => !(decide (w ≤ x.1) && decide (x.1 ≤ w + 63))) (k - 1) (placed ++ [w]) (done ++ [w])
        | none => ecSearch fuel (cands.filter fun x => x.1 ≠ lag) k placed done

/-- Hand the placed STARTs to the AUTO windows in order. -/
def ecAssign : List (Bool × Option Nat) → List Nat → List (Option Nat)
  | [], _ => []
  | (true, _) :: l, x :: xs => some x :: ecAssign l xs
  | (true, _) :: l, [] => none :: ecAssign l []
  | (false, m) :: l, xs => m :: ecAssign l xs

/-- The placement of the four windows from the lags and their magnitudes (R77). -/
def Lane.ecPlaced (l : Lane) (lags : List (Nat × Nat)) : List (Option Nat) :=
  let man := l.ecManual
  let auto := (List.range 4).map fun w => bitOf (l.ecWin w) 30
  let manual := man.filterMap id
  let free := lags.filter fun x => !(manual.any fun w => decide (w ≤ x.1) && decide (x.1 ≤ w + 63))
  ecAssign (List.zip auto man) (ecSearch lags.length free (auto.countP id) manual [])

/-- The lags of the search with their magnitudes, from the first 65,536 symbols (R77). -/
def searchLags (negate : Bool) (samples : List RxSample) : List (Nat × Nat) :=
  let xs := samples.take 65536
  let adc := xs.map fun a => let v : Int := (a.txPair : Int) - 128; if negate then -v else v
  let own := xs.map fun a => a.own
  (List.range 2457).map fun i => (384 + i, lagMagnitude adc own (384 + i))

/-- ECHO_SEARCH_END (R77): the samples of the first 65,536 symbols of the phase, which the chain has had already. The search is not
made again in the phase. -/
def execEchoSearchEnd (p : PortId) (n : LaneId) (samples : List RxSample) (s : State) : Host.Outcome State Fault Refusal :=
  .next (if (s.lane p n).rx.phase ≠ .echo || (s.lane p n).rx.searched then s
    else s.modLane p n fun l =>
      { l with rx := { l.rx with ecStart := l.ecPlaced (searchLags (bitOf (l.act .rxCtrl) 8) samples), searched := true } })

/-- A TRAIN_STAT waits to be composed and sent (R167). -/
def queueTs (p : PortId) (s : State) : State :=
  if (s.port p).snd.queue.any fun f => f.typ == 0x08 && f.payload.isEmpty then s
  else queueCm p 0x08 [] s

/-- A follower sends a TRAIN_STAT where a lane's CONV or CDR lock rises (R167). -/
def tsRise (p : PortId) (s : State) : State :=
  if (s.port p).link.state = .train && !(s.port p).snd.leader then
    queueTs p (s.modPort p fun q => { q with snd := { q.snd with tsDue := true } })
  else s

/-- The largest echo outside the dense section that the canceller models (R77): the magnitude of its tap and its lag, of two equal ones
the lower lag. -/
def LaneRx.echoPeak (x : LaneRx) : Nat × Nat :=
  let taps := (List.range 4).flatMap fun w =>
    match x.ecStart.getD w none with
    | some st => (((x.coefs.echo.drop (384 + 64 * w)).take 64).zipIdx).map fun c => (c.1.natAbs, st + c.2)
    | none => []
  taps.foldl (fun b c => if b.1 < c.1 || (b.1 == c.1 && decide (c.2 < b.2)) then c else b) (0, 0)

/-- The level of a tap below the lane's own signal, in 0.25 dB, at most 255 (Table 3.21). -/
def echoLevel (tap : Nat) : Nat := logSteps 80 255 (tap * Config.echoUnit) Config.ownUnit

/-- RX_ECHO_STAT's report from the coefficients (R77). -/
def LaneRx.report (x : LaneRx) : LaneRx := { x with echoLvl := echoLevel x.echoPeak.1, echoPos := x.echoPeak.2 % 4096 }

/-- The first position of the least of a list. -/
def leastAt (l : List Nat) : Nat := ((leastBy (fun x : Nat × Nat => x.1) l.zipIdx).map fun x => x.2).getD 0

/-- ECHO_CONVERGE (R66, R77, R87): the echo power at the ADC under each of the 256 pairs of hybrid trims tried, HYB_R first, of which the
least is kept (of two equal ones the first), and the samples up to now. CONV is set once the residual has been 42 dB down for
16,384 symbols. -/
def execEchoConverge (p : PortId) (n : LaneId) (powers : List Nat) (samples : List RxSample) (s : State) :
    Host.Outcome State Fault Refusal :=
  .next (if (s.lane p n).rx.phase ≠ .echo then s
    else
      let s := receive p n samples s
      let met := decide (16384 ≤ (s.lane p n).rx.run.echoRun)
      let rise := met && !(s.lane p n).rx.conv
      let k := leastAt (powers.take 256)
      let s := s.modLane p n fun l =>
        { l with rx := { l.rx.report with conv := l.rx.conv || met,
                                          hybR := if powers.isEmpty then l.rx.hybR else k / 16,
                                          hybC := if powers.isEmpty then l.rx.hybC else k % 16 } }
      if rise then tsRise p s else s)

/-! ### SNR -/

/-- SNR_MIN in force, 0.1 dB. -/
def Lane.snrMin (l : Lane) : Nat := bits (l.act .rxAnchorCtrl) 31 23

/-- Four consecutive windows within 0.3 dB of one another, all at or above SNR_MIN (R87). -/
def snrConv (floor : Nat) (hist : List Nat) : Bool :=
  let h := hist.take 4
  decide (h.length = 4) && h.all fun x => decide (floor ≤ x) && h.all fun y => decide (x ≤ y + 3)

/-- MARGIN loads a lane's quality figures (R266). -/
def LaneQual.load (x : LaneQual) (m : Int) : LaneQual :=
  { x with margin := unsigned 12 m,
           minMargin := if x.minValid then (if m < signed 12 x.minMargin then unsigned 12 m else x.minMargin) else unsigned 12 m,
           minValid := true }

/-- SNR_REF (R266), 0.1 dB. -/
def snrRef (ieee : Bool) : Nat := if ieee then 145 else 170

/-- The PEAK and LF of the highest SNR among the 128 combinations tried, PEAK first, of equal ones the first (R64). -/
def bestCtle (trials : List Nat) : Nat × Nat :=
  let best := (trials.take 128).zipIdx.foldl (fun (b : Nat × Nat) x => if b.1 < x.1 then x else b) (0, 0)
  (best.2 / 4, best.2 % 4)

/-- SNR_WINDOW_END (R64, R72, R86, R87, R266, R128 step 4): the samples up to the window's end, whether the CDR holds lock (no rule says by
what it judges), and in FAR the SNRs under the 128 combinations of PEAK and LF, where they have been tried. A window in which
nothing was decided gives no SNR. -/
def execSnrWindowEnd (p : PortId) (n : LaneId) (lock : Bool) (trials : List Nat) (samples : List RxSample) (s : State) :
    Host.Outcome State Fault Refusal :=
  .next (
    let s := receive p n samples s
    let q := s.port p
    let l := s.lane p n
    let judges := decide (l.rx.phase = .far) || decide (l.rx.phase = .joint) || decide (l.rx.phase = .track)
    if !judges || l.rx.run.errCnt = 0 then s
    else
      let snr := snrOf q.ieeeMode (l.rx.estUnit q.ieeeMode) l.rx.run.errSum l.rx.run.errCnt
      let hist := (snr :: l.rx.snrHist).take 4
      let cdr := lock && (q.ieeeMode || decide (l.rx.freqOfs.natAbs ≤ 300))
      let conv := l.rx.conv || decide (l.rx.phase = .track) || snrConv l.snrMin hist
      let rise := (conv && !l.rx.conv) || (cdr && !l.rx.cdrLock)
      let search := decide (l.rx.phase = .far) && decide (128 ≤ trials.length) && !l.rx.searched
      let s := s.modLane p n fun l =>
        { l with
          rx := { l.rx with snr := snr, snrHist := hist, cdrLock := l.rx.cdrLock || cdr, conv := conv,
                            peak := if search then (bestCtle trials).1 else l.rx.peak,
                            lf := if search then (bestCtle trials).2 else l.rx.lf, searched := l.rx.searched || search,
                            run := { l.rx.run with errSum := 0, errCnt := 0 } },
          qual := l.qual.load ((snr : Int) - snrRef q.ieeeMode),
          code := { l.code with framed := l.code.framed || (decide (l.code.state = .adding) && conv) } }
      if rise then tsRise p s else s)

/-! ### The anchor -/

/-- The sum of the distances of two coefficient lists. -/
def coefDist (a b : List Int) : Nat := (List.zipWith (fun x y => (x - y).natAbs) a b).sum

/-- D_F and D_C of a lane (R89): D_C over the taps in use, those of unused blocks and windows at zero. -/
def driftOf (q : Port) (n : LaneId) : Nat × Nat :=
  let x := (q.lanes[n.val]).rx.zeroUnused q.echoRuns (q.nextRuns n)
  (coefDist x.coefs.ffe x.anchor.ffe, coefDist x.coefs.echo x.anchor.echo + coefDist x.coefs.next x.anchor.next)

/-- A reversion is due (R89). -/
def revertDue (q : Port) (n : LaneId) : Bool :=
  let l := q.lanes[n.val]
  let w := l.act .rxAnchorCtrl
  let d := driftOf q n
  l.rx.anchorValid && !l.rx.held && bitOf (l.act .rxCtrl) 1
    && (decide (bits w 7 0 < d.1) || decide (4 * bits w 15 8 < d.2)) && decide (l.rx.snr < l.rx.anchorSnr + bits w 22 19)

/-- The coefficients in force become the anchor (R89 to R91). -/
def takeAnchor (p : PortId) (n : LaneId) (s : State) : State :=
  endCond .adaptUnstable (.lane p n) (s.modLane p n fun l =>
    { l with rx := { l.rx with anchor := l.rx.coefs, anchorSnr := l.rx.snr, anchorValid := true,
                               taken := satAdd 16 l.rx.taken 1, revSince := 0, unstable := false, held := false } })

/-- The decision of R289 from the FFE: PEAK + 1, − 1 or no change; with f(0) = 0 the metric has no value, and the draw
decides. -/
def ctleDecision (hi lo : Nat) (ffe : List Int) (draw : Nat) : Int :=
  let f := fun (k : Nat) => ffe.getD (8 + k) 0
  let sum : Int := ((f 1).natAbs + (f 2).natAbs + (f 3).natAbs + (f 4).natAbs : Nat)
  if f 0 = 0 then (draw % 3 : Nat) - 1
  else if f 0 < 0 then -1
  else if hi * f 0 < sum * 1000 then 1 else if sum * 1000 < lo * f 0 then -1 else 0

/-- CTLE_EVALUATE (R289) at a verified-good point with HELD = 0. -/
def ctleEvaluate (p : PortId) (n : LaneId) (s : State) : State :=
  let l := s.lane p n
  let lim := s.boot.limits
  if !bitOf (l.act .calLaneCtrl) 1 || l.cal.ctleFrozen || l.cal.ctleDue.isSome || l.cal.ctleCheck.isSome
      || l.cal.ctleAge < lim.ctlePer || (s.port p).snd.path ≠ .native then s
  else
    let r := s.freeNat
    let d := ctleDecision lim.ctleHi lim.ctleLo l.rx.coefs.ffe r.1
    let s := if l.rx.coefs.ffe.getD 8 0 = 0 then r.2 else s
    let to' : Int := l.rx.peak + d
    let bad := decide (to' < 0) || decide (31 < to') || decide (lim.ctlePeak < (to' - l.cal.ctleTrained).natAbs)
    s.modLane p n fun l =>
      let l := { l with cal := { l.cal with ctleAge := 0 } }
      if d = 0 then l.calResult 5 1
      else if bad then l.calResult 5 2
      else
        let l := l.calResult 5 1
        { l with cal := { l.cal with ctleDue := some (d, false), ctleCheck := some (l.rx.snr, d) } }

/-- CTLE_STEP_CHECK (R290) at the first verified-good point after a step that has been taken. -/
def ctleStepCheck (p : PortId) (n : LaneId) (s : State) : State :=
  match (s.lane p n).cal.ctleCheck with
  | some (was, d) =>
    if (s.lane p n).cal.ctleDue.isSome then s
    else if (s.lane p n).rx.snr + 5 < was then s.modLane p n fun l => l.ctleRevert d
    else s.modLane p n fun l => { l with cal := { l.cal with ctleCheck := none } }
  | none => s

/-- ANCHOR_CHECK at an alignment folio (R88 to R90, R289, R290): good says that the point would be verified-good but for HELD. -/
def anchorPoint (p : PortId) (n : LaneId) (good : Bool) (s : State) : State :=
  if !bitOf ((s.lane p n).act .rxCtrl) 1 then s
  else if (s.lane p n).rx.held then
    if good then ctleStepCheck p n (takeAnchor p n s) else s
  else if revertDue (s.port p) n then s.modLane p n fun l => { l with rx := { l.rx with revDue := true } }
  else if good then
    let valid := (s.lane p n).rx.anchorValid
    let s := takeAnchor p n s
    if valid then ctleEvaluate p n s else s
  else s

/-- The drift check at the end of a refresh window (R93). -/
def windowDrift (p : PortId) (n : LaneId) (s : State) : State :=
  if revertDue (s.port p) n then s.modLane p n fun l => { l with rx := { l.rx with revDue := true } } else s

/-- The open-pair signature (R78): the largest echo above −24 dB, and the far-end power after cancellation more than 30 dB below it. -/
def LaneRx.openPair (x : LaneRx) : Bool :=
  decide (echoLevel x.echoPeak.1 < 96)
    && decide (1000 * x.run.farSum < (x.echoPeak.1 * Config.echoUnit) ^ 2 * x.run.ownSum)

/-- The echo report in TRACK and its open-pair signature (R77, R78); both read 0 outside native duplex. -/
def echoReport (p : PortId) (n : LaneId) (s : State) : State :=
  if !(s.port p).duplex then s
  else
    let isOpen := (s.lane p n).rx.openPair
    let s := s.modLane p n fun l => { l with rx := { l.rx.report with echoOpen := isOpen } }
    setCond .openPair (.lane p n) n.val isOpen s

/-- The calibration pattern's symbols of groups 52 to 1,547, bits 260 to 7,739 of the folio (R105, R107). -/
def patternSymbols : List Int :=
  pam6Symbols false (((alignPattern.flatMap fun d => blockBits (0b10#2, d)).drop 2).take 7480)

/-- The decisions of an alignment folio match the pattern, all 2,992 of them (R107). -/
def patternMatches (decisions : List Int) : Bool := decisions == patternSymbols

/-- At least half of the epochs since the last alignment folio were active (R88). -/
def RxRun.halfActive (r : RxRun) : Bool := decide (r.epochs ≤ 2 * r.epochsActive)

/-- ALIGN_FOLIO_RECEIVE (R77, R78, R88 to R91, R107, R289, R290): the estimator's decisions on groups 52 to 1,547, before decoding, and the
samples up to the folio's end. -/
def execAlignFolioReceive (p : PortId) (n : LaneId) (decisions : List Int) (samples : List RxSample) (s : State) :
    Host.Outcome State Fault Refusal :=
  .next (
    let s := receive p n samples s
    let l := s.lane p n
    if l.rx.phase ≠ .track then s
    else
      let good := patternMatches decisions && decide (l.rx.uncSince = 0) && decide (l.snrMin ≤ l.rx.snr) && l.rx.run.halfActive
      let s := echoReport p n s
      let s := s.modLane p n fun l =>
        { l with rx := { l.rx with uncSince := 0, run := { l.rx.run with epochs := 0, epochsActive := 0, farSum := 0, ownSum := 0, farCnt := 0 } },
                 cal := { l.cal with ctleAge := l.cal.ctleAge + 1 } }
      anchorPoint p n good s)

/-- ANCHOR_REVERT (R89 to R91): not while HELD suppresses it. -/
def execAnchorRevert (p : PortId) (n : LaneId) (s : State) : Host.Outcome State Fault Refusal :=
  .next (
    if !(s.lane p n).rx.revDue || (s.lane p n).rx.held then s
    else
      let s := s.modLane p n fun l =>
        { l with rx := { l.rx with coefs := l.rx.anchor, resid := Coefs.zero, revert := satAdd 16 l.rx.revert 1, revDue := false,
                                   revSince := l.rx.revSince + 1,
                                   unstable := l.rx.unstable || decide (3 ≤ l.rx.revSince + 1) } }
      if (s.lane p n).rx.unstable then raise .adaptUnstable (.lane p n) n.val s else s)

/-! ### Eye figures -/

/-- The length of the run of empty bins that contains code 128 (R267). -/
def emptyRun (hist : List Nat) : Nat :=
  let up := (hist.drop 128).takeWhile fun x => x == 0
  if up.isEmpty then 0 else up.length + ((hist.take 128).reverse.takeWhile fun x => x == 0).length

/-- The histogram of ADC codes (R93, R267). -/
def histOf (codes : List Nat) : List Nat := (List.range 256).map fun c => codes.count c

/-- EYE_HEIGHT_UPDATE (R267): the codes of the active slices over the 2^22 samples. -/
def execEyeHeightUpdate (p : PortId) (n : LaneId) (codes : List Nat) (s : State) : Host.Outcome State Fault Refusal :=
  .next (if (s.lane p n).rx.phase ≠ .track then s
    else s.modLane p n fun l => { l with qual := { l.qual with eyeH := Nat.min 255 (emptyRun (histOf codes)) } })

/-- The contiguous open offsets that include offset 0, the seventeenth of 32 (R268). -/
def openRun (l : List Bool) : Nat :=
  let up := ((l.take 32).drop 16).takeWhile id
  if up.isEmpty then 0 else up.length + ((l.take 16).reverse.takeWhile id).length

/-- EYE_WIDTH_UPDATE (R268): the 4,096 samples at each of the 32 offsets, −32/64 UI first; an offset is open where the empty run
that contains code 128 is at least one code long. -/
def execEyeWidthUpdate (p : PortId) (n : LaneId) (offsets : List (List Nat)) (s : State) : Host.Outcome State Fault Refusal :=
  .next (if (s.lane p n).rx.phase ≠ .track || (s.lane p n).rx.slices.stopped then s
    else s.modLane p n fun l => { l with qual := { l.qual with eyeW := 2 * openRun (offsets.map fun l => decide (0 < emptyRun (histOf l))) } })

end Sys2Proof.Machine
end

