-- ==== Sys2Proof/Machine/Lre.lean ====
section
/-!
DEFINITION. The link reliability engine (R191 to R212): sequence numbers, the replay buffer and its place log, scheduled sends,
ACKs and NAKs, release in order and reorder, RES, and the timestamps taken on the block streams (R470).
-/
namespace Sys2Proof.Machine

/-! ### Sequence numbers -/

/-- (a − b) modulo 65,536 (R192). -/
def seqDist (a b : Nat) : Nat := (a + 65536 - b % 65536) % 65536

/-- Unacknowledged folios (LRE_STAT.OUTSTANDING). -/
def LreSt.outstanding (x : LreSt) : Nat := seqDist x.txNext x.lastAck

/-- The engine is idle (R208). -/
def LreSt.idle (x : LreSt) : Bool := decide (x.outstanding = 0) && x.naks.isEmpty && x.held.isEmpty

/-- A folio that carries host blocks or ERRORED blocks: those but FILL, with their positions 1 to 29. -/
def hostPlaces (l : List Block) : List (Nat × Block) :=
  (l.zipIdx.filter fun x => !x.1.isFill).map fun x => (x.2 + 1, x.1)

/-- T_r in ns at a RATE code (Table 7.6). -/
def retryTerm : Nat → Nat
  | 1 => 320
  | 2 => 343
  | _ => 368

/-- The eight-lane block rate at a RATE code, 0.1 Gbit/s (Table 4.6a). -/
def blockRate8 : Nat → Nat
  | 1 => 21146
  | 2 => 18503
  | _ => 15860

/-- RES in KiB (R207), from the RATE code, the RTT in 0.1 ns and RES_EXTRA. -/
def resKib (rate rtt extra : Nat) : Nat :=
  Nat.min 512 ((3 * (10 * retryTerm rate + rtt) * blockRate8 rate + 819199) / 819200 + extra)

/-! ### Sending -/

/-- A scheduled send may take a place on lane n (R116, R202). -/
def Replay.mayTake (r : Replay) (n : Nat) : Bool :=
  match r.sched with
  | some .attempt => !r.lanes.contains n
  | some .abandon => decide ((r.places.head?.map fun x => x.1) ≠ some n)
  | some .busy => true
  | none => false

/-- The scheduled send is an attempt or an ABANDON notice, which go first (R202). -/
def Replay.first (r : Replay) : Bool := decide (r.sched = some .attempt) || decide (r.sched = some .abandon)

/-- What an ABANDON notice carries (R203): ERRORED in place of each host block. -/
def abandonBody (l : List Block) : List Block := l.map fun b => if b = Block.fill then Block.fill else Block.errored

/-- The contents of a stream place: the head's fields of its folio and blocks 1 to 29. -/
structure SentFol where
  seq : Nat
  attempt : Nat
  prevLane : Nat
  prevSlot : Nat
  body : List Block
  isNew : Bool
deriving DecidableEq, Repr

/-- A replay entry after its scheduled send on lane n in a slot, and what the place carries (R200 to R203). -/
def Replay.send (r : Replay) (n slot : Nat) : Replay × SentFol :=
  let prev := r.places.headD (0, 0)
  let isAbandon := decide (r.sched = some .abandon) || (decide (r.sched = some .busy) && r.lastAbandon)
  let attempts := if r.sched = some .attempt then r.attempts + 1 else r.attempts
  ({ r with attempts := attempts, places := (n, slot % 2048) :: r.places, sched := none, waited := false,
            lastAbandon := isAbandon, lanes := if r.sched = some .attempt then n :: r.lanes else r.lanes },
   { seq := r.seq, attempt := if isAbandon then 0 else attempts, prevLane := prev.1, prevSlot := prev.2,
     body := if isAbandon then abandonBody r.blocks else r.blocks, isNew := false })

/-- What a stream place carries (R195, R202). -/
inductive PlaceOut where
  | void
  | stall
  | data (f : SentFol)
deriving DecidableEq, Repr

/-- Log a place (R194): the last 1,024 transmit slots are kept. -/
def logPlace (slot lane : Nat) (c : Option (Nat × Nat)) (l : List PlaceRec) : List PlaceRec :=
  { slot := slot, lane := lane, carried := c } :: l.filter fun r => decide ((slot + 2 ^ 32 - r.slot) % 2 ^ 32 < 1024)

/-- The replay entry a stream place on lane n takes: the oldest allowed attempt or ABANDON notice, then the oldest BUSY resend. -/
def LreSt.pick (x : LreSt) (n : Nat) : Option Replay :=
  match x.replay.find? fun r => r.first && r.mayTake n with
  | some r => some r
  | none => x.replay.find? fun r => decide (r.sched = some .busy)

/-- A replay entry replaced. -/
def LreSt.setReplay (x : LreSt) (r : Replay) : LreSt :=
  { x with replay := x.replay.map fun y => if y.seq = r.seq then r else y }

/-- Fill the stream place of lane n in a slot (STREAM_PLACE_FILL, R192, R195, R202): a lane in quarantine carries a void folio
(R115), and so do the new folios' places while fillOnly allows only FILL. -/
def Port.fillPlace (q : Port) (n slot : Nat) (fillOnly : Bool) : PlaceOut × Port :=
  let x := q.lre
  let void := fun (q : Port) => (PlaceOut.void, { q with lre := { q.lre with placeLog := logPlace slot n none q.lre.placeLog } })
  if q.code.quar.testBit n then void q
  else
    match x.pick n with
    | some r =>
      let y := r.send n slot
      let ctr := { q.ctr with
        retried := if r.sched = some .attempt && decide (r.attempts = 1) then q.ctr.retried + 1 else q.ctr.retried,
        abandoned := if r.sched = some .abandon && !r.lastAbandon then q.ctr.abandoned + 1 else q.ctr.abandoned }
      (.data y.2, { q with ctr := ctr, lre := { x.setReplay y.1 with
          txResend := wrapAdd 48 x.txResend 1,
          placeLog := logPlace slot n (some (r.seq, y.1.places.length)) x.placeLog } })
    | none =>
      if x.outstanding < x.depth then
        let t := if fillOnly then ([], q) else q.takeHead false 29
        let q := t.2
        let body := t.1 ++ List.replicate (29 - t.1.length) Block.fill
        let r : Replay := { seq := x.txNext, blocks := body, attempts := 1, attMax := bits (q.act .lreCtrl) 1 0,
                            places := [(n, slot % 2048)], lanes := [n], lastAbandon := false, sched := none, waited := false }
        (.data { seq := x.txNext, attempt := 1, prevLane := 0, prevSlot := 0, body := body, isNew := true },
         { q with ctr := { q.ctr with h2l := q.ctr.h2l + t.1.length },
                  lre := { q.lre with replay := q.lre.replay ++ [r], txNext := (x.txNext + 1) % 65536,
                                      txNew := wrapAdd 48 x.txNew 1,
                                      placeLog := logPlace slot n (some (x.txNext, 1)) x.placeLog } })
      else if x.replay.any fun r => r.sched.isSome then void q
      else (.stall, q)

/-- Scheduled sends that found no place in their first slot wait, counted once (R202). -/
def LreSt.countWaits (x : LreSt) : LreSt :=
  let k := x.replay.countP fun r => r.sched.isSome && !r.waited
  { x with replay := x.replay.map (fun r => if r.sched.isSome then { r with waited := true } else r),
           waitCnt := satAdd 8 x.waitCnt k }

/-! ### NAKs sent -/

/-- The NAK entries of a slot (R199): never sent first, then those due for a repeat, oldest first, at most seven. -/
def LreSt.slotNaks (x : LreSt) : List Nak :=
  ((x.naks.filter fun k => k.sends == 0) ++ (x.naks.filter fun k => k.sends != 0 && k.due)).take 7

/-- The engine after a slot whose heads carried its NAK entries (R199, R200). -/
def LreSt.naksSent (x : LreSt) : LreSt :=
  let c := x.slotNaks
  let late := x.naks.countP fun k => k.due && !c.contains k && !k.waited
  { x with naks := x.naks.map (fun k =>
      if c.contains k then { k with sends := k.sends + 1, due := false }
      else if k.due then { k with waited := true } else k),
           nakSent := satAdd 16 x.nakSent (c.countP fun k => k.sends == 0), waitCnt := satAdd 8 x.waitCnt late }

/-- A place becomes pending (R199). -/
def LreSt.addNak (x : LreSt) (lane slot : Nat) (busy : Bool) : LreSt :=
  { x with naks := x.naks ++ [{ lane := lane, slot := slot % 2048, busy := busy, sends := 0, due := true, waited := false }] }

/-- A head that names an entry's place as its previous send clears it (R196). -/
def LreSt.clearNak (x : LreSt) (attempt lane slot : Nat) : LreSt :=
  if attempt = 1 then x else { x with naks := x.naks.filter fun k => !(k.lane == lane && k.slot == slot) }

/-- NAK_REPEAT_DUE (R200): T_rep has passed since the last send of the entry. -/
def execNakRepeatDue (p : PortId) (n : LaneId) (slot : Nat) (s : State) : Host.Outcome State Fault Refusal :=
  .next (s.modPort p fun q =>
    let sends := bits (q.act .lreCtrl) 5 4
    let mine := fun (k : Nak) => k.lane == n.val && k.slot == slot && k.sends != 0 && !k.due
    { q with lre := { q.lre with
        naks := (q.lre.naks.filter fun k => !(mine k && decide (sends ≤ k.sends))).map fun k =>
          if mine k then { k with due := true } else k } })

/-! ### ACKs and NAKs received -/

/-- ACK_PROCESS (R198): the entries behind an ACK that frees something. -/
def LreSt.takeAck (x : LreSt) (ack : Nat) : LreSt :=
  let d := seqDist ack x.lastAck
  if d = 0 || x.outstanding < d then x
  else { x with lastAck := ack, replay := x.replay.filter fun r => decide (seqDist r.seq x.lastAck ≥ d) }

/-- What a NAK entry schedules for a folio whose latest send it names (Table 7.4). -/
def Replay.nakked (r : Replay) (busy : Bool) : Option Sched :=
  if r.sched.isSome then none
  else if busy then some .busy
  else if r.lastAbandon || decide (r.attMax ≤ r.attempts) then some .abandon
  else some .attempt

/-- NAK_ENTRY_PROCESS (R201, Table 7.4). -/
def LreSt.takeNak (x : LreSt) (w : Nat) : LreSt :=
  if !w.testBit 15 then x
  else
    let busy := w.testBit 14
    let lane := w / 2048 % 8
    let slot := w % 2048
    let stale := { x with stale := satAdd 8 x.stale 1 }
    match x.placeLog.find? fun r => r.lane == lane && r.slot % 2048 == slot with
    | none => stale
    | some rec =>
      match rec.carried with
      | none => stale
      | some (seq, k) =>
        match x.replay.find? fun r => r.seq == seq with
        | none => stale
        | some r =>
          if r.places.length ≠ k then x
          else
            match r.nakked busy with
            | none => x
            | some sc => { x.setReplay { r with sched := some sc } with nakActed := satAdd 16 x.nakActed 1 }

/-- Resends at a quarantine of lane n (R205). -/
def LreSt.quarantine (x : LreSt) (n slot : Nat) : LreSt :=
  { x with cutoff := (n, slot) :: x.cutoff.filter (fun c => c.1 != n),
           replay := x.replay.map fun r =>
             if (r.places.head?.map fun y => y.1) = some n then
               match r.nakked false with
               | some sc => { r with sched := some sc }
               | none => r
             else r }

/-! ### Timestamps -/

/-- Picoseconds as a counter interval. -/
def psUnits (ps : Int) : Int := ps * 2 ^ 40 / 1000

/-- The time from a folio's first symbol to the first symbol that carries a bit of its block k (R41, R470). -/
def blockOfs (rate k : Nat) : Int := ((2 * (258 * k / 5)) * 10 * 2 ^ 40 / rateTenths rate : Nat)

/-- A counter value from a sum that may have gone below zero. -/
def timeWrap (t : Int) : Nat := (t % (timeModulus : Int)).toNat

/-- TIMESTAMP_CAPTURE on a stream of placed blocks (R470): a host block that follows a mark is stamped, and a mark is
remembered for the next. -/
def stampBlocks (p : PortId) (rx : Bool) (t0 : Int) (retry : Bool) (seq : Option Nat) (l : List (Nat × Block)) (s : State) :
    State :=
  l.foldl (fun s x =>
    let q := s.port p
    let on := bitOf q.time.tsCtrl (if rx then 1 else 0)
    let mark := if rx then q.time.markRx else q.time.markTx
    let host := !x.2.lineOwned
    let lat : Int := if rx then -(psUnits q.time.latRx) else psUnits q.time.latTx
    let s := match mark with
      | some tag =>
        if host && on then
          tsPush p { time := timeWrap (t0 + blockOfs q.rate x.1 + lat), rx := rx, epoch := s.time.epoch, retry := retry,
                     tag := tag, seq := seq } s
        else s
      | none => s
    let isMark := x.2.ctrl && decide (x.2.type = bits q.time.tsCtrl 31 24)
    let next := if host then (if isMark && on then some (headGet x.2.data 247 216) else none) else mark
    s.modPort p fun q =>
      if rx then { q with time := { q.time with markRx := next } } else { q with time := { q.time with markTx := next } }) s

/-- A folio is sent again: the timestamps of its blocks carry RETRY and serve no transfer (R470). -/
def stampRetry (p : PortId) (seq : Nat) (s : State) : State :=
  let mine := fun (e : TsEntry) => !e.rx && e.seq == some seq
  let gone := ((s.port p).time.fifo.filter mine).map fun e => timeTo16 e.time
  let s := s.modPort p fun q =>
    { q with time := { q.time with fifo := q.time.fifo.map fun e => if mine e then { e with retry := true } else e } }
  if gone.isEmpty then s else s.modTime fun t => { t with stamps := t.stamps.filter fun x => !gone.contains x }

/-! ### Receiving -/

/-- The folios that follow NEXT in order among those held (R196): their SEQs at once. -/
def heldRun : Nat → Nat → List HeldFol → List HeldFol
  | 0, _, _ => []
  | k + 1, next, l =>
    match l.find? fun h => h.seq == next with
    | some h => h :: heldRun k ((next + 1) % 65536) l
    | none => []

/-- The counts of one delivered folio (R203): at attempt 2 or 3, or as an ABANDON notice. -/
def deliverCounts (p : PortId) (h : HeldFol) (s : State) : State :=
  let s := s.modPort p fun q =>
    let x := q.lre
    { q with lre := { x with
        at2 := if h.attempt = 2 then satAdd 16 x.at2 1 else x.at2, at3 := if h.attempt = 3 then satAdd 16 x.at3 1 else x.at3,
        errFol := if h.attempt = 0 then satAdd 32 x.errFol 1 else x.errFol,
        errBlk := if h.attempt = 0 then satAdd 32 x.errBlk h.blocks.length else x.errBlk } }
  match h.attempt with
  | 0 => raise .erroredDelivery (.port p) 0 s
  | 1 => s
  | _ => raise .retryRecovered (.port p) 0 s

/-- One folio is delivered towards the host: stamped, released in order and counted. -/
def deliverFolio (p : PortId) (h : HeldFol) (s : State) : State :=
  let s := stampBlocks p true h.time (decide (h.attempt ≠ 1)) none (List.zip h.places h.blocks) s
  deliverCounts p h (s.modPort p fun q => q.release h.blocks)

/-- A folio that cannot be taken: discarded with a NAK of BUSY = 1 (R206). -/
def LreSt.refuse (x : LreSt) (lane slot : Nat) : LreSt :=
  { (x.addNak lane slot true) with busyCnt := satAdd 8 x.busyCnt 1 }

/-- A duplicate or a folio outside the window (Table 7.3). -/
def LreSt.duplicate (x : LreSt) : LreSt := { x with dup := satAdd 8 x.dup 1 }

/-- PLACE_RESOLVE of a data folio or ABANDON notice (R196, R206, R230, Table 7.3). With SEQ = NEXT the room is judged for the folio and the held
run that it releases together (DESIGN CHOICE: the rule speaks of the folio's blocks; log entry 126). -/
def placeData (p : PortId) (n slot : Nat) (h : HeldFol) (s : State) : State :=
  let q := s.port p
  let x := q.lre
  let d := seqDist h.seq x.rxNext
  if d = 0 then
    let run := heldRun x.held.length ((x.rxNext + 1) % 65536) x.held
    let rest := x.held.filter fun y => !run.contains y
    let out := h :: run
    let room := ({ q with lre := { x with held := rest } }).releaseRoom ((out.map fun (y : HeldFol) => y.blocks.length).sum)
    if !room then s.modPort p fun q => { q with lre := q.lre.refuse n slot }
    else
      let s := s.modPort p fun q =>
        { q with lre := { q.lre with held := rest, rxNext := (x.rxNext + out.length) % 65536 } }
      out.foldl (fun s y => deliverFolio p y s) s
  else if x.depth ≤ d || x.held.any (fun y => y.seq == h.seq) then s.modPort p fun q => { q with lre := q.lre.duplicate }
  else
    match q.reorderRoom h.blocks.length with
    | none => s.modPort p fun q => { q with lre := q.lre.refuse n slot }
    | some q => s.modPort p fun _ => { q with lre := { q.lre with held := q.lre.held ++ [h] } }

end Sys2Proof.Machine
end

