-- ==== Sys2Proof/Machine/Wake.lean ====
section
/-!
DEFINITION. The data states of a native link: UP and DEGRADED by the active count (R262, R263), the refresh windows of QUIET
(R274) and the beginning and completion of a wake (R276 to R279).
-/
namespace Sys2Proof.Machine

/-! ### Slots and epochs -/

/-- Slot counts wrap at 2^32. -/
def slotMod : Nat := 2 ^ 32

/-- Epoch numbers have 26 bits (R110). -/
def epochMod : Nat := 2 ^ 26

/-- a − b modulo 2^32. -/
def slotSub (a b : Nat) : Nat := (a % slotMod + slotMod - b % slotMod) % slotMod

/-- Slot a stands before slot b. -/
def slotBefore (a b : Nat) : Bool := decide (slotSub a b ≥ 2 ^ 31)

/-- The slot that the next boundary begins: the rows of a boundary come before its SLOT_BOUNDARY (DESIGN CHOICE). -/
def Port.nextSlot (q : Port) : Nat := (q.code.slotCnt + 1) % slotMod

/-- The first epoch boundary at least k epochs after an event inside the current slot (R120, R122). -/
def Port.epochAfter (q : Port) (k : Nat) : Nat := (q.code.slotCnt / 64 + k + 1) % epochMod

/-- Epoch a has been reached at epoch now. -/
def epochReached (now a : Nat) : Bool := decide ((now % epochMod + epochMod - a % epochMod) % epochMod < 2 ^ 25)

/-- The later of two epochs. -/
def laterEpoch (a b : Nat) : Nat := if epochReached a b then a else b

/-- The slot count of the partner's folio that arrives now on a lane (R112). -/
def Port.recv (q : Port) (n : LaneId) : Option Nat := q.lanes[n.val].code.recvOfs.map fun o => (q.code.slotCnt + o) % slotMod

/-! ### UP and DEGRADED -/

/-- UP or DEGRADED by the active count (R262). -/
def Port.dataState (q : Port) : LinkState := if popcount8 q.active = q.link.fullLanes then .up else .degraded

/-- Enter UP or DEGRADED as the active count says; entries into DEGRADED are counted. -/
def enterData (p : PortId) (s : State) : State :=
  let q := s.port p
  let st := q.dataState
  let s := setLink p st s
  if st = .degraded && decide (q.link.state ≠ .degraded) then
    s.modPort p fun q => { q with link := { q.link with degrades := satAdd 8 q.link.degrades 1 } }
  else s

/-- UP or DEGRADED judged again after a change of the active count (R263). -/
def countChanged (p : PortId) (s : State) : State :=
  match (s.port p).link.state with
  | .up | .degraded => guarJudge p (enterData p s)
  | _ => s

/-! ### Refresh windows -/

/-- N and L of Table 10.5 at a RATE code. -/
def refreshNL : Nat → Nat × Nat
  | 1 => (68837, 413)
  | 2 => (60233, 362)
  | _ => (51628, 310)

/-- The first slot s ≥ d with s mod 4,096 ≥ 1 and (s mod 4,096) + L ≤ 4,096 (R274). -/
def windowFrom (d l : Nat) : Nat :=
  let m := d % 4096
  if m = 0 then d + 1 else if m + l ≤ 4096 then d else d - m + 4097

/-- The first slot of refresh window k (R274). -/
def Port.windowStart (q : Port) (k : Nat) : Nat :=
  let nl := refreshNL q.rate
  windowFrom (q.link.quietQ + k * nl.1) nl.2 % slotMod

/-- A slot count lies in refresh window k. -/
def Port.inWindowK (q : Port) (k slot : Nat) : Bool :=
  decide (1 ≤ k) && decide (slotSub slot (q.windowStart k) < (refreshNL q.rate).2)

/-- In QUIET a folio of this slot count is relied on: before the QUIET epoch, or in the refresh window under way (R273, R274). -/
def Port.quietRx (q : Port) (slot : Nat) : Bool :=
  slotBefore slot q.link.quietQ || q.inWindowK q.link.refreshK slot || q.inWindowK (q.link.refreshK - 1) slot

/-! ### Waking -/

/-- Change the lanes in the map. -/
def Port.mapLanesIn (q : Port) (f : Lane → Lane) : Port :=
  q.mapLanes fun n l => if q.code.map.testBit n.val then f l else l

/-- The wake burst is sent on every lane in the map (R151, R279). -/
def Port.burstChirps (q : Port) (fs : Nat) : Port := { q with link := { q.link with burst := true } }.cmChirps fs wakeSf wakeChirps

/-- The wake burst ends (R151). -/
def Port.burstEnd (q : Port) : Port := if q.link.burst then { q.cmEnd with link := { q.link with burst := false } } else q

/-- Transmitters of the lanes in the map enter DATA, or return to IDLE. -/
def Port.txMap (q : Port) (data : Bool) : Port :=
  q.mapLanesIn fun l => { l with tx := { l.tx with state :=
    if data then (match l.tx.state with | .idle => .data | x => x) else (match l.tx.state with | .data => .idle | x => x) } }

/-- Receivers of the lanes in the map enter TRACK (R279). -/
def Port.rxTrack (q : Port) : Port :=
  q.mapLanesIn fun l =>
    let l := l.enterPhase .track
    { l with code := { l.code with alignMiss := 0 } }

/-- QUIET ends in UP or DEGRADED: no window is in progress (R263, R277). -/
def leaveQuiet (p : PortId) (s : State) : State :=
  enterData p (s.modPort p fun q =>
    { (q.burstEnd.mapLanesIn fun l => { l with code := { l.code with alignMiss := 0 } }) with
      link := { q.link with inWindow := false, winSlot := 0, wakeRole := .none, burst := false, wakeData := false,
                            wakeHeads := 0, quietHold := false } })

/-- WAKE_COMPLETE (R279): transmitters in DATA and two heads accepted; the burst ends. -/
def wakeComplete (p : PortId) (s : State) : State :=
  let q := s.port p
  if q.link.state = .wake && q.link.wakeData && decide (2 ≤ q.link.wakeHeads) then
    let s := leaveQuiet p s
    s.modPort p fun q => { q with link := { q.link with wakes := satAdd 8 q.link.wakes 1 } }
  else if q.link.state = .wake && decide (2 ≤ q.link.wakeHeads) then s.modPort p Port.burstEnd
  else s

/-- A wake burst preempts a common-mode frame in progress, which returns to the head of its queue (R150, R151). -/
def SndSt.preempted (x : SndSt) : SndSt :=
  match x.cur with
  | some f => { x with cur := none, queue := f :: x.queue }
  | none => x

/-- A wake begins as initiator (R279): the burst starts; where the end of a window begins it the transmitters stay in DATA. -/
def wakeStart (p : PortId) (inData : Bool) (s : State) : State :=
  let s := setLink p .wake s
  let s := s.modPort p fun q =>
    ({ q with link := { q.link with wakeRole := .initiator, bursts := 1, wakeData := inData, wakeHeads := 0,
                                    inWindow := false, winSlot := 0, quietHold := false },
              snd := q.snd.preempted } : Port).burstChirps (sampleKhz (s.group p).freq)
  reHold p (if (s.port p).cls = 0 then holdFall p s else s)

/-- WAKE_TRIGGER (R276, R278): inside a refresh window at least 64 slots before its end it is served in-band. -/
def wakeTrigger (p : PortId) (s : State) : State :=
  let q := s.port p
  if q.link.state ≠ .quiet then s
  else if q.link.inWindow && decide (q.link.winSlot + 64 ≤ (refreshNL q.rate).2) then leaveQuiet p s
  else wakeStart p false s

end Sys2Proof.Machine
end

