-- ==== Sys2Proof/Machine/Coding.lean ====
section
/-!
DEFINITION. The shared operations of native coding (R108 to R130, R556, R557): the lane-control state that heads carry, map
changes and their epochs, quarantine, planned sheds, add attempts and deskew.
-/
namespace Sys2Proof.Machine

/-! ### What heads say -/

/-- MIN_LANES in force (R124): CODE_CTRL_ACTIVE.MIN_LANES, which from GO until DOWN holds what R162 puts there. -/
def Port.minLanes (q : Port) : Nat := bits (q.act .codeCtrl) 3 0

/-- A lane whose receiver is aligned and deskewed outside the map (READY, R120, R128). -/
def LaneCode.ready (c : LaneCode) : Bool :=
  (decide (c.state = .aligned) || (decide (c.state = .adding) && c.lock && c.alignedF)) && c.deskewed

/-- READY of a port (Table 4.2). -/
def Port.readyMask (q : Port) : Nat := maskOf 8 fun i =>
  !q.code.map.testBit i && (if h : i < 8 then q.lanes[i].code.ready else false)

/-- The map a port proposes (NEXT_MAP): MAP when no change is pending. -/
def Port.proposed (q : Port) : Nat := if q.code.chg.isSome then q.code.nextMap else q.code.map

/-- The lane-control fields of a port's heads. -/
def Port.ctl (q : Port) : LaneCtl :=
  { map := q.code.map, quar := q.code.quar, nextMap := q.proposed, chgEpoch := q.code.chgEpoch % 65536, ready := q.readyMask }

/-- A 16-bit epoch field as a full epoch number: the first, counted forward from the received epoch, that ends in it (R103). -/
def extendEpoch (rx field : Nat) : Nat := (rx + (field + 65536 - rx % 65536) % 65536) % epochMod

/-- An add attempt is in progress (LANE_MAP_STAT.ADD_PEND). -/
def Port.adding (q : Port) : Bool := q.lanes.toList.any fun l => l.code.adding

/-- Record an event in SHED_LAST (Table 4.21). -/
def shedRecord (p : PortId) (cause lane : Nat) (s : State) : State :=
  s.modPort p fun q => { q with code := { q.code with shedValid := true, shedCause := cause, shedLane := lane % 8 } }

/-- The lowest lane of a mask. -/
def lowLane (m : Nat) : Nat := ((List.range 8).find? fun i => m.testBit i).getD 0

/-! ### Notices -/

/-- Queue a lane notice with the next NOTICE_ID (R556). -/
def sendNotice (p : PortId) (t : Nat) (body : List Byte) (s : State) : State :=
  let id := (s.port p).code.noticeId
  let s := s.modPort p fun q => { q with code := { q.code with noticeId := (id + 1) % 256 } }
  queueCm p t (beBytes 1 id ++ body) s

/-- A LANE_NOTICE of a KIND with the content of the heads (Table 4.27). -/
def sendLaneNotice (p : PortId) (kind : Nat) (s : State) : State :=
  let q := s.port p
  sendNotice p 0x10 (beBytes 1 kind ++ beBytes 1 q.code.quar ++ beBytes 1 q.proposed ++ beBytes 4 q.code.chgEpoch) s

/-- An ACK (Table 4.27). -/
def sendAck (p : PortId) (id typ what epoch : Nat) (s : State) : State :=
  queueCm p 0x12 (beBytes 1 id ++ beBytes 1 typ ++ beBytes 1 what ++ [0] ++ beBytes 4 epoch) s

/-- A DECLINE (Table 4.27). -/
def sendDecline (p : PortId) (id typ lane reason epoch : Nat) (s : State) : State :=
  queueCm p 0x13 (beBytes 1 id ++ beBytes 1 typ ++ beBytes 1 lane ++ beBytes 1 reason ++ beBytes 4 epoch) s

/-- An ADD_NOTICE for a lane goes out (R128 step 2). -/
def sendAddNotice (p : PortId) (n : LaneId) (s : State) : State :=
  let s := s.modPort p fun q => { q with code := { q.code with addSent := q.code.addSent ||| 2 ^ n.val } }
  sendNotice p 0x11 (beBytes 1 n.val ++ [0, 0]) s

/-! ### Lanes leaving and joining -/

/-- A lane enters SHED (Table 4.4, R60): its transmitter is IDLE, with no common-mode injection, and its receiver in HOLD. -/
def Lane.toShed (l : Lane) : Lane :=
  let l := (l.endChirps true false).enterPhase .hold
  { l with code := { l.code with state := .shed, lock := false, alignedF := false, deskewed := false, idErr := false,
                                 excess := false, lastSlot := none, alignMiss := 0, consecUnc := 0, winUnc := 0,
                                 adding := false, framed := false, invalidAt := [], lockDue := false, trig := none },
           tx := { l.tx with state := match l.tx.state with | .data => .idle | x => x, pat := none },
           cal := { l.cal with ctleCheck := none, dacFolios := 0 } }

/-- An add attempt starts on a lane (R128 step 3): training patterns, and JOINT with the coefficients held. -/
def Lane.toAdding (l : Lane) : Lane :=
  let l := l.enterPhase .joint
  { l with code := { l.code with state := .adding, adding := true, framed := false, lock := false, alignedF := false,
                                 deskewed := false, lastSlot := none, recvOfs := none, consecUnc := 0 },
           tx := { l.tx with state := match l.tx.state with | .idle => .data | x => x } }

/-- A lane enters the map (R128 step 6). -/
def Lane.toActive (l : Lane) : Lane :=
  let l := l.enterPhase .track
  { l with code := { l.code with state := .active, adding := false, framed := false, tries := 0, autoAdd := false,
                                 shedCap := false, alignMiss := 0, winUnc := 0, trig := none },
           cal := { l.cal with ctleTrained := l.rx.peak, ctleAge := 0 },
           rx := { l.rx with uncSince := 0 } }

/-- An attempt starts at this side: the acknowledgement has been exchanged (R128 step 2). -/
def beginAdd (p : PortId) (n : LaneId) (s : State) : State :=
  s.modPort p fun q =>
    { (q.modLane n Lane.toAdding) with code := { q.code with addSent := q.code.addSent &&& (0xFF ^^^ 2 ^ n.val) } }

/-- Lanes leave a pending add; those in the map stay, and a change with nothing left to add is gone (Table 4.8). -/
def Port.dropAdd (q : Port) (mask : Nat) : Port :=
  if q.code.chg = some .add then
    let m := q.code.map ||| (q.code.nextMap &&& (0xFF ^^^ mask))
    { q with code := { q.code with nextMap := m, chg := if m = q.code.map then none else some .add } }
  else q

/-- An add attempt fails (R129): the lane is in SHED, and the failure counts. -/
def failAdd (p : PortId) (n : LaneId) (s : State) : State :=
  let s := s.modPort p fun q =>
    let q := if q.lanes[n.val].code.state = .adding then q.modLane n Lane.toShed else q
    let q := (q.modLane n fun l => { l with code := { l.code with tries := l.code.tries + 1 } }).dropAdd (2 ^ n.val)
    { q with code := { q.code with addSent := q.code.addSent &&& (0xFF ^^^ 2 ^ n.val) } }
  shedRecord p 8 n.val s

/-- Every add in progress is cancelled, without counting as failed (Table 4.8). -/
def cancelAdds (p : PortId) (s : State) : State :=
  s.modPort p fun q =>
    let q := (q.mapLanes fun _ l => if l.code.adding then l.toShed else l).dropAdd 0xFF
    { q with code := { q.code with addSent := 0, addWait := none },
             snd := { q.snd with queue := q.snd.queue.filter (fun f => f.typ != 0x11),
                                 await := q.snd.await.filter fun f => f.typ != 0x11 } }

/-! ### Shed triggers and quarantine -/

/-- A cause of DOWN waits for the next slot boundary (R264). -/
def downDue (p : PortId) (cause : Nat) (s : State) : State :=
  s.modPort p fun q => { q with link := { q.link with downDue := some (q.link.downDue.getD cause) } }

/-- The lanes that a pending planned shed is to remove, which a failure quarantines too (Table 4.8). -/
def Port.planned (q : Port) : Nat := if q.code.chg = some .planned then q.code.map &&& (0xFF ^^^ q.code.nextMap) else 0

/-- The lanes that leave the active count with a trigger on lane n (R124, Table 4.8): itself, those whose trigger waits, and the planned. -/
def Port.goingWith (q : Port) (n : LaneId) : Nat :=
  2 ^ n.val ||| q.planned ||| maskOf 8 fun i =>
    if h : i < 8 then q.lanes[i].code.trig.isSome && decide (q.lanes[i].code.state = .active) else false

/-- SHED_TRIGGER (R121, R122, R124): evaluated on a lane in ACTIVE, in QUIET only inside a window; epoch is where the lane is
to leave the map. A shed raises its cause; a trigger that takes the port to DOWN instead sheds nothing. -/
def shedTrigger (p : PortId) (n : LaneId) (cause epoch : Nat) (s : State) : State :=
  let q := s.port p
  let c := q.lanes[n.val].code
  if c.state ≠ .active || c.trig.isSome || !q.link.state.isData || (decide (q.link.state = .quiet) && !q.link.inWindow) then s
  else
    if !bitOf (q.act .codeCtrl) 5 then downDue p 5 s
    else if popcount8 (q.active &&& (0xFF ^^^ q.goingWith n)) < q.minLanes then downDue p 4 s
    else
      let s := raise .laneShed (.lane p n) n.val s
      if (s.port p).link.state = .down then s
      else
      let s := s.modLane p n fun l => { l with code := { l.code with trig := some (cause, epoch) } }
      wakeTrigger p s

/-- The change epoch of an own trigger (R122). -/
def Port.shedEpoch (q : Port) : Nat := q.epochAfter (bits (q.act .codeCtrl) 25 16)

/-- An own trigger. -/
def ownTrigger (p : PortId) (n : LaneId) (cause : Nat) (s : State) : State := shedTrigger p n cause (s.port p).shedEpoch s

/-- Quarantine lanes of a mask at a slot boundary (R115, R122, R204, R205): void folios in their places from the next slot on. -/
def Port.quarLanes (q : Port) (mask : Nat) : Port :=
  let lanes := (List.range 8).filter fun i => mask.testBit i && !q.code.quar.testBit i
  let q := lanes.foldl (fun (q : Port) i => { q with lre := q.lre.quarantine i q.nextSlot }) q
  let q := q.mapLanes fun n l => if mask.testBit n.val then { l with code := { l.code with state := .quar, trig := none } } else l
  { q with code := { q.code with quar := q.code.quar ||| mask } }

/-- A lane is quarantined and its removal proposed, or merged into the pending change (R122, R123, R127). -/
def quarantine (p : PortId) (n : LaneId) (cause epoch : Nat) (s : State) : State :=
  let s := cancelAdds p s
  let s := s.modPort p fun q =>
    let base := q.proposed
    let ep := if q.code.chg.isSome then laterEpoch q.code.chgEpoch epoch else epoch
    let q := q.quarLanes (q.planned ||| 2 ^ n.val)
    { q with code := { q.code with nextMap := base &&& (0xFF ^^^ 2 ^ n.val), chgEpoch := ep, chg := some .failure,
                                   plan := .none, planCap := false } }
  let s := shedRecord p cause n.val s
  countChanged p (reHold p (holdFall p s))

/-! ### Planned sheds -/

/-- Which planned sheds a mask asks for may be proposed (R124, R126). -/
def Port.planOk (q : Port) (mask : Nat) : Bool :=
  decide (q.minLanes ≤ popcount8 (q.active &&& (0xFF ^^^ mask)))

/-- Propose a planned shed (R126), on the request of the initiators of a mask of WR_STAT bits. -/
def proposePlan (p : PortId) (mask : Nat) (cap : Bool) (who : Nat) (s : State) : State :=
  let s := s.modPort p fun q =>
    { q with code := { q.code with chg := some .planned, plan := .proposed, planCap := cap, planBits := who,
                                   nextMap := q.code.map &&& (0xFF ^^^ mask), chgEpoch := q.shedEpoch } }
  sendLaneNotice p 2 s

/-- A pending planned change is gone at this side. -/
def Port.dropPlan (q : Port) : Port :=
  { q with code := { q.code with chg := none, plan := .none, nextMap := q.code.map, planCap := false, planBits := 0 } }

/-- The lanes an own planned proposal removes wait as an own request (R557); a shed under R230 is recomputed instead. -/
def Port.planWaits (q : Port) (epoch : Option Nat) : Port :=
  let m := if q.code.planCap then 0 else q.code.map &&& (0xFF ^^^ q.code.nextMap)
  let q := { q with code := { q.code with
    waitShed := q.code.waitShed ||| m, planWait := epoch, waitBits := q.code.waitBits ||| q.code.planBits } }
  q.dropPlan

/-- The fewest highest-index active lanes whose shed brings the line to host egress, stopping at MIN_LANES (R230). -/
def Port.capacityShed (q : Port) : Nat :=
  let order := (List.range 8).reverse.filter fun i => q.active.testBit i
  (List.range order.length).foldl (fun (m : Nat) k =>
    let left := q.active &&& (0xFF ^^^ m)
    if egressFits q.rate (popcount8 left) q.host.txCarried || popcount8 left ≤ q.minLanes then m
    else m ||| 2 ^ order.getD k 0) 0

/-- No change is pending in the partner's accepted heads, at or after an epoch a DECLINE named (R557). -/
def Port.partnerClear (q : Port) (epoch : Option Nat) : Bool :=
  match epoch with
  | none => true
  | some e => decide (q.code.partner.nextMap = q.code.partner.map) && epochReached (q.code.slotCnt / 64) e

/-- Set the bits of initiators in GLB_WR_STAT for a request dropped after its write (R557). -/
def lateIgnored (bits addr : Nat) (s : State) : State :=
  if bits = 0 then s
  else { s with reg := { s.reg with wrStat := s.reg.wrStat ||| BitVec.ofNat _ bits,
                                    wrAddr := if s.reg.wrStat = 0 then addr else s.reg.wrAddr } }

/-- Planned requests that wait are judged afresh (R230, R557), in UP or DEGRADED with no change pending and no attempt in
progress. -/
def judgeWaiting (p : PortId) (s : State) : State :=
  let q := s.port p
  let data := decide (q.link.state = .up) || decide (q.link.state = .degraded)
  if !data || q.code.chg.isSome || q.adding || !q.partnerClear q.code.planWait then s
  else
    let m := q.code.waitShed &&& q.active
    let s := s.modPort p fun q => { q with code := { q.code with waitShed := 0, planWait := none, waitBits := 0 } }
    if m ≠ 0 && q.planOk m then proposePlan p m false q.code.waitBits s
    else
      let s := if m = 0 then s else lateIgnored q.code.waitBits (portBase p + 0x1020) s
      let c := q.capacityShed
      if c = 0 then s else proposePlan p c true 0 s

/-! ### Adds -/

/-- Lanes ready at both sides. -/
def Port.bothReady (q : Port) : Nat := q.readyMask &&& q.code.partner.ready

/-- The lanes in the link-up set: those in ALIGN's lane states (Table 4.5). -/
def Port.alignSet (q : Port) : Nat := maskOf 8 fun i =>
  if h : i < 8 then
    match q.lanes[i].code.state with
    | .hunt | .locked | .aligned => true
    | _ => false
  else false

/-- LINK_UP_PROPOSE and the entry to the map of added lanes (R120, R128 step 6): a set ready at both sides is proposed at least
16 epochs ahead; each side adopts the later epoch. -/
def proposeAdds (p : PortId) (s : State) : State :=
  s.modPort p fun q =>
    let set := if q.link.state = .align then q.alignSet else q.bothReady
    let kind : ChgKind := if q.link.state = .align then .linkUp else .add
    let timed := q.snd.leader || q.code.loaded
    let theirs := q.code.partner.nextMap &&& (0xFF ^^^ q.code.map)
    let fits := decide (theirs ≠ 0) && decide (theirs &&& (0xFF ^^^ q.readyMask) = 0)
    match q.code.chg with
    | none =>
      if !timed then q
      else if fits then
        { q with code := { q.code with chg := some kind, nextMap := q.code.map ||| theirs,
                                       chgEpoch := laterEpoch (q.epochAfter 16) q.code.partner.chgEpoch } }
      else if set ≠ 0 && decide (set &&& (0xFF ^^^ q.bothReady) = 0) then
        { q with code := { q.code with chg := some kind, nextMap := q.code.map ||| set, chgEpoch := q.epochAfter 16 } }
      else q
    | some k =>
      if (k = .linkUp || k = .add) && fits then
        { q with code := { q.code with nextMap := q.code.nextMap ||| theirs,
                                       chgEpoch := laterEpoch q.code.chgEpoch q.code.partner.chgEpoch } }
      else q

/-- The training or the framing of a lane being added fails (R129; DEDUCED which events these are: the loss of CDR lock, of alignment, the identity
error and an excess of skew, since R109 has a lost block lock resume the hunt; log entry 123). -/
def framingFails (p : PortId) (n : LaneId) (s : State) : State :=
  if (s.lane p n).code.state = .adding then judgeWaiting p (failAdd p n s) else s

/-! ### The partner's lane-control state -/

/-- A planned proposal of the partner is adopted: this side is its responder (R126). -/
def adoptPlan (p : PortId) (nextMap epoch : Nat) (s : State) : State :=
  s.modPort p fun q =>
    { q with code := { q.code with chg := some .planned, plan := .responder, planCap := false, nextMap := nextMap,
                                   chgEpoch := epoch } }

/-- An own planned proposal that has not been settled. -/
def Port.ownPlan (q : Port) : Bool := decide (q.code.plan = .proposed) || decide (q.code.plan = .acked)

/-- The lanes that a planned proposal would remove, or none where it is not one: no quarantine, a proper subset of the map. -/
def Port.planOf (q : Port) (map quar nextMap : Nat) : Option Nat :=
  let out := q.code.map &&& (0xFF ^^^ nextMap)
  if map = q.code.map && quar = 0 && out ≠ 0 && nextMap &&& (0xFF ^^^ map) = 0 then some out else none

/-- A planned proposal in the partner's heads is declined once, REASON 0x1 (R557). Heads carry no NOTICE_ID: the DECLINE names the one that the
proposal's own LANE_NOTICE has, the next after the latest seen (DEDUCED; log entry 124). -/
def declineHeads (p : PortId) (c : LaneCtl) (s : State) : State :=
  let q := s.port p
  if q.code.declined = some (c.nextMap, c.chgEpoch) then s
  else
    sendDecline p ((q.code.noticeSeen + 1) % 256) 0x10 (lowLane (q.code.map &&& (0xFF ^^^ c.nextMap))) 1 q.code.chgEpoch
      (s.modPort p fun q => { q with code := { q.code with declined := some (c.nextMap, c.chgEpoch) } })

/-- The agreed lane-control state of the partner acts (R103, R120 to R123, R126, R127, R557). -/
def partnerAgreed (p : PortId) (s : State) : State :=
  let c := (s.port p).code.partner
  let s := s.modPort p fun q =>
    if q.code.chg = some .failure && decide (c.quar ≠ 0) && decide (c.nextMap ≠ c.map) then
      { q with code := { q.code with chgEpoch := laterEpoch q.code.chgEpoch c.chgEpoch } }
    else q
  let s := allLanes.foldl (fun s n => if c.quar.testBit n.val then shedTrigger p n 6 c.chgEpoch s else s) s
  let q := s.port p
  let s := match q.planOf c.map c.quar c.nextMap with
    | none => s
    | some _ =>
      if q.ownPlan && decide (c.nextMap = q.code.nextMap) then
        s.modPort p fun q => { q with code := { q.code with plan := .acked } }
      else if q.code.plan = .proposed && !q.snd.leader then
        adoptPlan p c.nextMap c.chgEpoch (s.modPort p fun q => q.planWaits none)
      else if q.code.plan = .responder && decide (c.nextMap = q.code.nextMap) then s
      else if q.code.chg.isSome then declineHeads p c s
      else if !q.adding then adoptPlan p c.nextMap c.chgEpoch s
      else s
  proposeAdds p s

/-- The lane-control fields of an accepted head: two heads that carry the same values change the state (R103). The two are an accepted head and
the next accepted one (DESIGN CHOICE: R103 does not say that no other may stand between them; log entry 125). -/
def acceptCtl (p : PortId) (rxEpoch : Nat) (c : LaneCtl) (s : State) : State :=
  let q := s.port p
  if q.code.lastHead = some c then
    partnerAgreed p (s.modPort p fun q =>
      { q with code := { q.code with partner := { c with chgEpoch := extendEpoch rxEpoch c.chgEpoch } } })
  else s.modPort p fun q => { q with code := { q.code with lastHead := some c } }

/-! ### Deskew -/

/-- The largest of some numbers. -/
def maxOf (l : List Nat) : Nat := l.foldl Nat.max 0

/-- The largest subset of lanes within 240 ns from its earliest to its latest arrival, in 0.1 ns; of equal ones that which
excludes the higher lanes (R113). -/
def deskewSet (arrival : Nat → Nat) (set : Nat) : Nat :=
  (List.range 256).foldl (fun best m =>
    let l := ((List.range 8).filter fun i => m.testBit i).map arrival
    let fits := decide (maxOf l ≤ 2400 + l.foldl Nat.min (l.headD 0))
    if m &&& set = m && fits && decide (popcount8 best < popcount8 m) then m else best) 0

/-- The lanes being deskewed together: those in the map and those being added (R113), as far as they are aligned. -/
def Port.skewSet (q : Port) : Nat := maskOf 8 fun i =>
  if h : i < 8 then
    let c := q.lanes[i].code
    c.alignedF && decide (c.state ≠ .quar) && decide (c.state ≠ .shed)
  else false

/-- Deskew (R113): SKEW of each lane, OVER, the exclusions, and trigger 0x4 on a lane in ACTIVE. The reference is the latest lane; one that is
being added moves it at its add epoch only. -/
def deskew (p : PortId) (s : State) : State :=
  let q := s.port p
  let arr := fun i => if h : i < 8 then q.lanes[i].code.arrival else 0
  let set := q.skewSet
  let kept := deskewSet arr set
  let joins := fun i => if h : i < 8 then decide (q.lanes[i].code.state = .adding) else false
  let settled := (List.range 8).filter fun i => kept.testBit i && !joins i
  let latest := maxOf ((if settled.isEmpty then (List.range 8).filter fun i => kept.testBit i else settled).map arr)
  let s := s.mapLanes p fun n l =>
    if !set.testBit n.val then l
    else
      let keep := kept.testBit n.val
      let state := match l.code.state with
        | .locked => if keep then .aligned else .locked
        | .aligned => if keep then .aligned else .locked
        | x => x
      { l with code := { l.code with excess := !keep, deskewed := keep, state := state,
                                     skew := if keep then latest - l.code.arrival else l.code.skew } }
  allLanes.foldl (fun s n => if (s.lane p n).code.excess then framingFails p n (ownTrigger p n 4 s) else s) s

end Sys2Proof.Machine
end

