-- ==== Sys2Proof/Machine/FolioRx.lean ====
section
/-!
DEFINITION. Receiving folios (R102, R103, R106 to R113, R118, R196 to R206): block lock, alignment, the acceptance of heads,
and the resolution of stream places.
-/
namespace Sys2Proof.Machine

/-- The candidate headers of one folio pass through the window of R109: ages of the invalid ones, how many were counted, and
whether the 65th within 1,024 was met. -/
def headerWindow (invalid : List Nat) : Nat → List Nat × Nat × Bool → List Nat × Nat × Bool
  | 0, x => x
  | k + 1, (ages, count, lost) =>
    if lost then (ages, count, lost)
    else
      let aged := (ages.map fun a => a + 1).filter fun a => decide (a < 1024)
      if invalid.contains (29 - k) then
        let ages := 0 :: aged
        headerWindow invalid k (ages, count + 1, decide (65 ≤ ages.length))
      else headerWindow invalid k (aged, count, false)

/-- Headers of a folio counted on a locked lane (R109). -/
def LaneCode.headers (c : LaneCode) (invalid : List Nat) : LaneCode :=
  if !c.lock then c
  else
  let r := headerWindow invalid 30 (c.invalidAt, 0, false)
  { c with invalidAt := r.1, invalid := satAdd 16 c.invalid r.2.1, lockDue := c.lockDue || r.2.2 }

/-- The window of Table 4.7's uncorrectable trigger, in slots. -/
def Port.uncWindow (q : Port) : Nat := 2 ^ (bits (q.act .fecCtrl) 31 28 + 6)

/-- A head's type fits its slot (R102): on a lane that projects the partner's count ALIGN fits alignment slots only; before
that an alignment head's own SLOT says which slot it is (DEDUCED). -/
def typeFits (aligned : Bool) (recv : Option Nat) (h : Head) : Bool :=
  let alignSlot := match recv with
    | some r => if aligned then r % 4096 == 0 else decide (h.type = 0xF1) && h.slot % 4096 == 0
    | none => decide (h.type = 0xF1) && h.slot % 4096 == 0
  if h.type = 0xF1 then alignSlot
  else (decide (h.type = 0xF0) || decide (h.type = 0xF2)) && !alignSlot

/-- A stream place that the receiver examines (R117, R118, R196, R204): the engine runs, the slot is no alignment slot, and the lane is
in the map from the first slot of its add epoch, or the slot stands before the lane's cut-off. -/
def Port.examines (q : Port) (n : LaneId) (slot : Nat) : Bool :=
  q.lre.run && slot % 4096 != 0 &&
    match q.lanes[n.val].code.state with
    | .active => !(q.lanes[n.val].code.joinAt.any fun j => slotBefore slot j)
    | .quar | .shed => (q.lre.cutoff.find? fun c => c.1 == n.val).any fun c => slotBefore slot c.2
    | _ => false

/-- An uncorrectable folio on a lane (R102, R106, R109, Table 4.7): counted, and its place pending where it is a stream place. -/
def folioBad (p : PortId) (n : LaneId) (s : State) : State :=
  let q := s.port p
  let slot := q.recv n
  let s := s.modPort p fun q =>
    { q with code := { q.code with uncFol := wrapAdd 48 q.code.uncFol 1, winUnc := q.code.winUnc + 1 } }
  let s := s.modLane p n fun l =>
    let c := l.code
    let run := c.consecUnc + 1
    let judged := decide (c.state = .locked) || decide (c.state = .aligned) || decide (c.state = .active)
      || decide (c.state = .adding)
    { l with code := { c with unc := satAdd 32 c.unc 1, consecUnc := run, winUnc := c.winUnc + 1,
                              lockDue := c.lockDue || (judged && decide (8 ≤ run)) },
             rx := { l.rx with uncSince := l.rx.uncSince + 1 } }
  let s := match slot with
    | some r => if q.examines n r then s.modPort p fun q => { q with lre := q.lre.addNak n.val r false } else s
    | none => s
  let limit := bits (q.act .fecCtrl) 23 16
  if limit ≠ 0 && decide (limit ≤ (s.lane p n).code.winUnc) then ownTrigger p n 5 s else s

/-- An accepted alignment folio (R112, R113, LANE_ALIGN): the identity check, the projection, and alignment at the second of
two consecutive ones. -/
def alignAccepted (p : PortId) (n : LaneId) (h : Head) (arrival : Nat) (time : Int) (s : State) : State :=
  let q := s.port p
  let c := q.lanes[n.val].code
  let idErr := decide (h.lane ≠ n.val)
  let ofs := slotSub h.slot q.code.slotCnt
  let second := decide (c.lastSlot = some ((h.slot + slotMod - 4096) % slotMod)) && decide (c.recvOfs = some ofs)
  let projected := c.alignedF && decide (c.recvOfs = some ofs)
  let s := s.modLane p n fun l =>
    { l with code := { l.code with
        idSeen := h.lane, idErr := idErr, arrival := arrival,
        alignMiss := if projected && !idErr then 0 else if c.alignedF then l.code.alignMiss + 1 else 0,
        lastSlot := if idErr then (if c.alignedF then c.lastSlot else none) else some h.slot,
        recvOfs := if idErr || c.alignedF then c.recvOfs else some ofs,
        alignedF := c.alignedF || (second && !idErr) } }
  let first := decide (n.val = lowLane (if q.code.map = 0 then q.alignSet else q.code.map))
  let s := if first && bitOf q.time.tsCtrl 2 then
      s.modPort p fun q => { q with time := { q.time with
        recvAl := alLog (h.slot, timeWrap (time - psUnits q.time.latRx)) q.time.recvAl } }
    else s
  let s := deskew p s
  if idErr then framingFails p n (ownTrigger p n 9 s) else proposeAdds p s

/-- The reliability fields of an accepted HEAD (R196, R198, R201). -/
def headReliability (p : PortId) (h : Head) (s : State) : State :=
  s.modPort p fun q =>
    if !q.lre.run then q
    else
      let x := (q.lre.takeAck h.ack).clearNak h.attempt h.prevLane h.prevSlot
      { q with lre := h.naks.foldl LreSt.takeNak x }

/-- HEAD_ACCEPT (R102, R103, R276, R279): the lane-control fields, the reliability fields, and the head that a wake counts. -/
def headAccept (p : PortId) (n : LaneId) (h : Head) (s : State) : State :=
  let q := s.port p
  let epoch := (match q.recv n with
    | some r => r
    | none => q.code.slotCnt) / 64
  let s := acceptCtl p epoch h.ctl s
  let s := if h.type = 0xF0 then headReliability p h s else s
  let s := s.modPort p fun q =>
    if q.link.state = .wake then { q with link := { q.link with wakeHeads := q.link.wakeHeads + 1 } } else q
  wakeComplete p s

/-- A data folio of a stream place (R98, R196, R203, R276): its blocks with FILL left out. -/
def dataFolio (p : PortId) (n : LaneId) (slot : Nat) (h : Head) (f : RxFolio) (time : Int) (s : State) : State :=
  let body := (f.body h.key).map lineBlock
  let bad := body.countP fun x => x.2
  let placed := hostPlaces (body.map fun x => x.1)
  let s := s.modPort p fun q => { q with code := { q.code with badBlk := satAdd 8 q.code.badBlk bad } }
  let hostSeen := placed.any fun x => !x.2.lineOwned
  let s := if hostSeen && decide ((s.port p).link.state = .quiet) && (s.port p).link.inWindow then leaveQuiet p s else s
  placeData p n.val slot { seq := h.key, blocks := placed.map fun x => x.2, places := placed.map fun x => x.1,
                           attempt := h.attempt, time := time } s

/-- A folio that decoded with an accepted head (R102, R106): counted, and its contents act. -/
def folioGood (p : PortId) (n : LaneId) (h : Head) (f : RxFolio) (corr erased : Nat) (s : State) : State :=
  let time : Int := (s.time.ctr : Int) - psUnits f.ago
  let s := s.modPort p fun q =>
    { q with code := { q.code with
        corrSym := wrapAdd 48 q.code.corrSym corr, corrFol := wrapAdd 48 q.code.corrFol (if corr = 0 then 0 else 1),
        erase := wrapAdd 48 q.code.erase erased, winDecoded := q.code.winDecoded + 1,
        winCorr := q.code.winCorr + corr } }
  let s := s.modLane p n fun l =>
    { l with code := { l.code with corrSym := satAdd 32 l.code.corrSym corr, consecUnc := 0 } }
  let s := if corr = 0 then s else raise .fecCorr (.lane p n) n.val s
  let q := s.port p
  let slot := q.recv n
  let state := q.lanes[n.val].code.state
  let examined := match slot with
    | some r => q.examines n r
    | none => false
  if (state = .quar || state = .shed) && !examined then s
  else
    let s := headAccept p n h s
    if h.type = 0xF1 then alignAccepted p n h f.arrival time s
    else if h.type = 0xF0 then
      match slot with
      | some r => if examined then dataFolio p n r h f time s else s
      | none => s
    else s

/-- Whether a lane's receiver takes folios (R109, R196, R204, R273, R275): with block lock, or in a stream place that it examines; in QUIET only
those that are relied on. -/
def Port.takesFolio (q : Port) (n : LaneId) : Bool :=
  let c := q.lanes[n.val].code
  let place := match q.recv n with | some r => q.examines n r | none => false
  (c.lock || place) && decide (q.snd.path = .native) && q.link.state.fromAlign
    && (decide (q.link.state ≠ .quiet) || (match q.recv n with | some r => q.quietRx r | none => false))

/-- At an alignment slot without an accepted alignment folio the count of R112 advances. -/
def missAlign (p : PortId) (n : LaneId) (s : State) : State :=
  match (s.port p).recv n with
  | some r =>
    if r % 4096 = 0 && (s.lane p n).code.alignedF then
      s.modLane p n fun l => { l with code := { l.code with alignMiss := l.code.alignMiss + 1 } }
    else s
  | none => s

/-- A folio of a window of Table 4.7: the count starts afresh with the first folio of a new one. -/
def LaneCode.enterWindow (c : LaneCode) (no : Nat) : LaneCode :=
  if c.winNo = no then c else { c with winNo := no, winUnc := 0 }

/-- FOLIO_RECEIVE (R102, R106, R109, R196). -/
def execFolioReceive (p : PortId) (n : LaneId) (f : RxFolio) (s : State) : Host.Outcome State Fault Refusal :=
  .next (
    let q := s.port p
    if !q.takesFolio n then s
    else
      let s := s.modLane p n fun l => { l with code := l.code.headers f.invalid }
      let w := q.act .fecCtrl
      let s := s.modPort p fun q => { q with code := { q.code with winRecv := q.code.winRecv + 1 } }
      let s := match q.recv n with
        | some r => s.modLane p n fun l => { l with code := l.code.enterWindow (r / q.uncWindow) }
        | none => s
      match decodeFolio (bitOf w 15) (bits w 3 0) (bits w 14 8) f with
      | none => folioBad p n (missAlign p n s)
      | some (corr, erased) =>
        let d := f.headBits
        let h := Head.ofBits d
        if !crcOk d then
          folioBad p n (missAlign p n (s.modPort p fun q =>
            { q with code := { q.code with headCrc := satAdd 8 q.code.headCrc 1 } }))
        else if !typeFits q.lanes[n.val].code.alignedF (q.recv n) h then folioBad p n (missAlign p n s)
        else folioGood p n h f corr erased s)

/-! ### Lock and alignment -/

/-- A hunting lane (Table 4.4). -/
def LaneCode.hunting (c : LaneCode) : Bool :=
  !c.lock && (decide (c.state = .hunt) || decide (c.state = .adding))

/-- Verdict on one hypothesis from its candidate headers, valid or not, in order (R108): true locked, false rejected, none undecided. -/
def huntJudge : Nat → Nat → List Bool → Option Bool
  | _, _, [] => none
  | seen, bad, h :: l =>
    let bad := if h then bad else bad + 1
    if 17 ≤ bad then some false else if 1024 ≤ seen + 1 then some true else huntJudge (seen + 1) bad l

/-- The first hypothesis of a round that locks, counted from the round's first; all rejected ends the round (R108). -/
def huntRound (headers : List (List Bool)) : Option Nat × Bool :=
  let v := (headers.take 172).map (huntJudge 0 0)
  (v.findIdx? fun x => x == some true, decide (v.length = 172) && v.all fun x => x == some false)

/-- BLOCK_LOCK_ACQUIRE (R80, R108): the candidate headers of the round's 172 hypotheses, from the one at which the hunt stands. Lock is declared
on the first that reaches 1,024 with at most 16 invalid; a round of rejections alone ends, and the next one begins. -/
def execBlockLockAcquire (p : PortId) (n : LaneId) (headers : List (List Bool)) (s : State) : Host.Outcome State Fault Refusal :=
  .next (if !(s.lane p n).code.hunting then s
    else
      let r := huntRound headers
      s.modLane p n fun l =>
        match r.1 with
        | some i => { l with code := { l.code with lock := true, hyp := (l.code.hyp + i) % 3440, invalidAt := [], lockDue := false, consecUnc := 0,
                                                   state := if l.code.state = .hunt then .locked else l.code.state } }
        | none => if r.2 then { l with code := { l.code with hyp := (l.code.hyp + 172) % 3440 } } else l)

/-- BLOCK_LOCK_LOSS (R109, Table 4.5). -/
def execBlockLockLoss (p : PortId) (n : LaneId) (s : State) : Host.Outcome State Fault Refusal :=
  .next (
    let c := (s.lane p n).code
    if !c.lock || !c.lockDue then s
    else
      let resumes := decide (c.state ≠ .active) && decide (c.state ≠ .quar)
      let s := s.modLane p n fun l =>
        { l with code := { l.code with lock := false, lockDue := false, invalidAt := [], consecUnc := 0,
                                       lockLoss := satAdd 8 l.code.lockLoss 1,
                                       hyp := if resumes then (l.code.hyp + 1) % 3440 else l.code.hyp,
                                       alignedF := l.code.alignedF && !resumes, deskewed := l.code.deskewed && !resumes,
                                       lastSlot := if resumes then none else l.code.lastSlot,
                                       state := match l.code.state with
                                         | .locked | .aligned => .hunt
                                         | x => x } }
      ownTrigger p n 1 s)

/-- ALIGNMENT_LOSS (R112, Table 4.5). -/
def execAlignmentLoss (p : PortId) (n : LaneId) (s : State) : Host.Outcome State Fault Refusal :=
  .next (
    let c := (s.lane p n).code
    if !c.alignedF || decide (c.alignMiss < 2) then s
    else
      let s := s.modLane p n fun l =>
        { l with code := { l.code with alignedF := false, deskewed := false, lastSlot := none, alignMiss := 0,
                                       alignLoss := satAdd 8 l.code.alignLoss 1,
                                       state := if l.code.state = .aligned then .locked else l.code.state } }
      framingFails p n (ownTrigger p n 3 s))

/-- FOLLOWER_COUNT_LOAD (R111): at the slot boundary after its first lane is aligned, the follower takes the projected count of
the folio then arriving as its own. -/
def execFollowerCountLoad (p : PortId) (n : LaneId) (s : State) : Host.Outcome State Fault Refusal :=
  .next (
    let q := s.port p
    match q.recv n with
    | some r =>
      if q.snd.leader || q.code.loaded || q.link.state ≠ .align || !q.lanes[n.val].code.alignedF then s
      else s.modPort p fun q =>
        let was := q.code.slotCnt
        { (q.mapLanes fun _ l => { l with code := { l.code with
              recvOfs := l.code.recvOfs.map fun o => slotSub (was + o) r } }) with
          code := { q.code with slotCnt := r, loaded := true } }
    | none => s)

end Sys2Proof.Machine
end

