-- ==== Sys2Proof/Machine/Lanes.lean ====
section
/-!
DEFINITION. Lanes leaving and joining the map (R117, R120 to R130, R556, R557): quarantine, planned sheds, the change epoch, add
attempts and lane notices.
-/
namespace Sys2Proof.Machine

/-! ### The change epoch -/

/-- ALIGN_TIMEOUT (R120): 16 alignment periods after the entry into ALIGN the lanes ready on both sides are added if enough,
otherwise the port goes to DOWN. -/
def execAlignTimeout (p : PortId) (s : State) : Host.Outcome State Fault Refusal :=
  .next (
    let q := s.port p
    if q.link.state ≠ .align || q.code.alignPeriods < 16 || q.code.chg.isSome then s
    else if q.bothReady ≠ 0 && decide (q.minLanes ≤ popcount8 q.bothReady) then
      s.modPort p fun q =>
        { q with code := { q.code with chg := some .linkUp, nextMap := q.bothReady, chgEpoch := q.epochAfter 16 } }
    else downDue p 3 s)

/-- The engine starts at the link-up add epoch (R191, R192, R207); a committed RES_EXTRA enters with it (R212). -/
def Port.startEngine (q : Port) : Port :=
  match q.snd.agreed with
  | none => q
  | some o =>
    let q := q.setReg .lreCtrl fun r => { r with inForce := r.accepted }
    { q with
      lre := { q.lre with run := true, depth := o.replay, txNext := 0, lastAck := 0, rxNext := 0, replay := [],
                          placeLog := [], naks := [], held := [], cutoff := [],
                          resKib := resKib o.rate o.rtt (bits (q.act .lreCtrl) 15 8) },
      spill := { q.spill with h2l := { q.spill.h2l with pseq := 0 }, l2h := { q.spill.l2h with pseq := 0 } },
      time := { q.time with markTx := none, markRx := none } }

/-- A pending planned shed that is to take effect: the initiator's confirmed one, or the responder's while the partner's heads
still carry it (R126). -/
def Port.planStands (q : Port) : Bool :=
  match q.code.plan with
  | .acked => true
  | .responder => decide (q.code.partner.nextMap = q.code.nextMap)
  | _ => false

/-- Lanes of a mask that are not ready. -/
def Port.unready (q : Port) (mask : Nat) : Nat := maskOf 8 fun i =>
  mask.testBit i && (if h : i < 8 then !(q.lanes[i]).code.ready else false)

/-- The map change takes effect at its epoch (R117, R120, R123, R126, R128): the receive side takes a lane in from the arriving slot with that
count. A lane that is ready no more at its add epoch does not become ACTIVE, since Table 4.5 has no such transition: it goes to SHED, and
an attempt on it has failed (DESIGN CHOICE: no rule speaks of it; log entry 128). -/
def applyChange (p : PortId) (kind : ChgKind) (s : State) : State :=
  let q := s.port p
  let old := q.code.map
  let lost := q.unready (q.code.nextMap &&& (0xFF ^^^ old))
  let new := q.code.nextMap &&& (0xFF ^^^ lost)
  let out := old &&& (0xFF ^^^ new)
  let into := new &&& (0xFF ^^^ old)
  let linkUp := decide (kind = .linkUp)
  let planned := decide (kind = .planned)
  let cap := q.code.planCap
  let s := s.modPort p fun q =>
    let first := q.nextSlot
    let cut := if planned then ((List.range 8).filter fun i => out.testBit i).map fun i => (i, first) else []
    let q := q.mapLanes fun n l =>
      if out.testBit n.val then
        let l := l.toShed
        { l with code := { l.code with autoAdd := !planned || cap, shedCap := planned && cap } }
      else if into.testBit n.val then
        let l := l.toActive
        { l with code := { l.code with joinAt := if linkUp then none else some first } }
      else if lost.testBit n.val && !linkUp then
        let l := l.toShed
        { l with code := { l.code with tries := l.code.tries + 1 } }
      else if linkUp then
        match l.code.state with
        | .hunt | .locked | .aligned =>
          let l := l.toShed
          { l with code := { l.code with autoAdd := true } }
        | _ => l
      else l
    let q := if linkUp then q.startEngine else q
    let shed := q.code.shedCnt + popcount8 out
    { q with
      code := { q.code with map := new, nextMap := new, quar := q.code.quar &&& new, chg := none, plan := .none, planCap := false,
                            shedCnt := Nat.min 65535 shed,
                            addedCnt := if linkUp then q.code.addedCnt else satAdd 16 q.code.addedCnt (popcount8 into) },
      lre := { q.lre with cutoff := cut ++ q.lre.cutoff.filter fun c => !into.testBit c.1 },
      ctr := { q.ctr with sheds := q.ctr.sheds + popcount8 out } }
  let s := if planned then shedRecord p 7 (lowLane out) s else s
  let s := if lost ≠ 0 && !linkUp then shedRecord p 8 (lowLane lost) s else s
  let s := if out ≠ 0 then holdFall p s else s
  let s := if linkUp then enterData p s else countChanged p s
  guarRise p (reHold p (deskew p s))

/-- CHANGE_EPOCH (R117, R126): at the boundary that begins the agreed epoch. -/
def execChangeEpoch (p : PortId) (s : State) : Host.Outcome State Fault Refusal :=
  .next (
    let q := s.port p
    match q.code.chg with
    | none => s
    | some k =>
      if !epochReached (q.nextSlot / 64) q.code.chgEpoch then s
      else if k = .planned && !q.planStands then judgeWaiting p (s.modPort p Port.dropPlan)
      else judgeWaiting p (applyChange p k s))

/-- LANE_QUARANTINE (R122, R124, R127, R205): at the boundary after an own trigger. -/
def execLaneQuarantine (p : PortId) (n : LaneId) (s : State) : Host.Outcome State Fault Refusal :=
  .next (
    match (s.lane p n).code.trig with
    | some (c, ep) =>
      if c = 6 || (s.lane p n).code.state ≠ .active then s else sendLaneNotice p 1 (quarantine p n c ep s)
    | none => s)

/-- PARTNER_QUARANTINE (R123): at the boundary after this side has learned of the partner's shed; the notice has its ACK. -/
def execPartnerQuarantine (p : PortId) (n : LaneId) (s : State) : Host.Outcome State Fault Refusal :=
  .next (
    match (s.lane p n).code.trig with
    | some (c, ep) => if c ≠ 6 || (s.lane p n).code.state ≠ .active then s else quarantine p n c ep s
    | none => s)

/-! ### Requests -/

/-- A write of LANE_REQ (R124, R126 to R128, R405, R557, Tables 4.8 and 10.6). -/
def writeLaneReq (who : Initiator) (p : PortId) (v : Word) (s : State) : State :=
  let q := s.port p
  let shed := bits v 7 0
  let add := bits v 15 8
  let lanesIn := fun (m : Nat) (st : CodeState) => allLanes.all fun n => !m.testBit n.val || decide (q.lanes[n.val].code.state = st)
  let bad := (shed ≠ 0 && add ≠ 0) || !lanesIn shed .active || !lanesIn add .shed || !q.link.state.isData
    || decide (q.snd.path ≠ .native) || allLanes.any fun n => add.testBit n.val && q.lanes[n.val].test.loop.isFar
  if shed = 0 && add = 0 then written s
  else if bad || (shed ≠ 0 && !q.planOk shed) then ignored who (portBase p + 0x1020) s
  else
    let awake := decide (q.link.state = .up) || decide (q.link.state = .degraded)
    if shed ≠ 0 then
      if awake && q.code.chg.isNone && !q.adding then written (proposePlan p shed false (2 ^ who.bit) s)
      else
        let s := s.modPort p fun q =>
          { q with code := { q.code with waitShed := q.code.waitShed ||| shed, waitBits := q.code.waitBits ||| 2 ^ who.bit } }
        written (wakeTrigger p s)
    else
      let max := bits q.code.readdCtrl 31 24
      let s := s.mapLanes p fun n l =>
        if add.testBit n.val && max ≠ 0 && max ≤ l.code.tries then { l with code := { l.code with tries := 0 } } else l
      if awake then
        written (allLanes.foldl (fun s n =>
          if add.testBit n.val && !((s.port p).code.addSent.testBit n.val) then sendAddNotice p n s else s) s)
      else
        let s := s.modPort p fun q =>
          { q with code := { q.code with addWait := some (((q.code.addWait.map fun w => w.1).getD 0) ||| add,
                                                          q.code.slotCnt / 64) } }
        written (wakeTrigger p s)

/-- LANE_REQ_SHED (R126). -/
def execLaneReqShed (who : Initiator) (p : PortId) (v : Word) (s : State) : Host.Outcome State Fault Refusal :=
  .next (regWrite who (portBase p + 0x1020) s (writeLaneReq who p v))

/-- LANE_REQ_ADD (R128). -/
def execLaneReqAdd (who : Initiator) (p : PortId) (v : Word) (s : State) : Host.Outcome State Fault Refusal :=
  .next (regWrite who (portBase p + 0x1020) s (writeLaneReq who p v))

/-- PLANNED_SHED_DEADLINE (R126): the first slot of the epoch 16 epochs before the change epoch. -/
def execPlannedShedDeadline (p : PortId) (s : State) : Host.Outcome State Fault Refusal :=
  .next (
    let q := s.port p
    if q.code.plan ≠ .proposed || !epochReached (q.nextSlot / 64) (q.code.chgEpoch + epochMod - 16) then s
    else
      let lane := lowLane (q.code.map &&& (0xFF ^^^ q.code.nextMap))
      judgeWaiting p (shedRecord p 0xA lane (s.modPort p Port.dropPlan)))

/-- READD_HOLDOFF_EXPIRE (R128, R129, R405): in QUIET and WAKE the attempt waits, and in a far-end loopback the hold-off starts again at
its end. -/
def execReaddHoldoffExpire (p : PortId) (n : LaneId) (s : State) : Host.Outcome State Fault Refusal :=
  .next (
    let q := s.port p
    let c := q.lanes[n.val].code
    let max := bits q.code.readdCtrl 31 24
    if c.state ≠ .shed || !c.autoAdd || c.shedCap || !bitOf (q.act .codeCtrl) 6 || (max ≠ 0 && max ≤ c.tries)
        || q.code.addSent.testBit n.val || q.lanes[n.val].test.loop.isFar then s
    else
      match q.link.state with
      | .up | .degraded => sendAddNotice p n s
      | .quiet | .wake => s.modPort p fun q =>
          { q with code := { q.code with addWait := some (((q.code.addWait.map fun w => w.1).getD 0) ||| 2 ^ n.val,
                                                          q.code.slotCnt / 64) } }
      | _ => s)

/-- ADD_ATTEMPT_TIMEOUT (R129): 8 alignment periods after the attempt started. -/
def execAddAttemptTimeout (p : PortId) (n : LaneId) (s : State) : Host.Outcome State Fault Refusal :=
  .next (if (s.lane p n).code.state = .adding then judgeWaiting p (failAdd p n s) else s)

/-- Add notices that wait go out once the partner's heads show no change pending (R557). -/
def resendAdds (p : PortId) (s : State) : State :=
  let q := s.port p
  match q.code.addWait with
  | some (m, e) =>
    if !(q.link.state = .up || q.link.state = .degraded) || !q.partnerClear (some e) then s
    else
      let s := s.modPort p fun q => { q with code := { q.code with addWait := none } }
      allLanes.foldl (fun s n =>
        if m.testBit n.val && decide ((s.lane p n).code.state = .shed) && !(s.port p).code.addSent.testBit n.val
            && !(s.lane p n).test.loop.isFar then
          sendAddNotice p n s else s) s
  | none => s

/-- A lane shed under R230 gets its attempt as soon as host egress would carry the port with it (R128). -/
def capacityAdds (p : PortId) (s : State) : State :=
  let q := s.port p
  if !(q.link.state = .up || q.link.state = .degraded) || q.code.chg.isSome || q.adding || q.code.addSent ≠ 0
      || !bitOf (q.act .codeCtrl) 6 then s
  else
    match allLanes.find? fun n => q.lanes[n.val].code.shedCap && decide (q.lanes[n.val].code.state = .shed)
        && !q.lanes[n.val].test.loop.isFar with
    | some n =>
      if egressFits q.rate (popcount8 q.active + 1) q.host.txCarried then
        sendAddNotice p n (s.modLane p n fun l => { l with code := { l.code with shedCap := false } })
      else s
    | none => s

/-! ### Notices -/

/-- The notice a reply names by TYPE and NOTICE_ID no longer waits (R556). -/
def Port.takeNotice (q : Port) (id typ : Nat) : Bool × Port :=
  let mine := fun (f : SndFrame) => f.typ == typ && f.payload.head? == some (BitVec.ofNat 8 id)
  (q.snd.await.any mine, { q with snd := { q.snd with await := q.snd.await.filter fun f => !mine f } })

/-- Lane notices are expected only on a native port that carries data (R138). -/
def Port.noticesOk (q : Port) : Bool := decide (q.snd.path = .native) && q.link.state.isData

/-- LANE_NOTICE_RECEIVE (R123, R126, R127, R556, R557): NOTICE_ID, KIND, QUAR, NEXT_MAP and CHG_EPOCH. -/
def execLaneNoticeReceive (p : PortId) (id kind quar nextMap epoch : Nat) (s : State) : Host.Outcome State Fault Refusal :=
  .next (
    if !(s.port p).noticesOk then s
    else
      let s := wakeTrigger p (s.modPort p fun q => { q with code := { q.code with noticeSeen := id % 256 } })
      let q := s.port p
      if kind = 1 then
        let s := s.modPort p fun q =>
          if q.code.chg = some .failure then
            { q with code := { q.code with chgEpoch := laterEpoch q.code.chgEpoch epoch } }
          else q
        let s := allLanes.foldl (fun s n => if quar.testBit n.val then shedTrigger p n 6 epoch s else s) s
        let ep := if q.code.chg = some .failure then laterEpoch q.code.chgEpoch epoch else epoch
        sendAck p id 0x10 (q.proposed &&& nextMap) ep s
      else if kind ≠ 2 then s
      else
        let lane := lowLane (q.code.map &&& (0xFF ^^^ nextMap))
        let same := decide (q.code.plan = .responder) && decide (q.code.nextMap = nextMap)
        if same then sendAck p id 0x10 nextMap q.code.chgEpoch s
        else if q.code.plan = .proposed && !q.snd.leader then
          sendAck p id 0x10 nextMap epoch (adoptPlan p nextMap epoch (s.modPort p fun q => q.planWaits none))
        else if q.code.chg.isSome then
          sendDecline p id 0x10 lane 1 q.code.chgEpoch
            (s.modPort p fun q => { q with code := { q.code with declined := some (nextMap, epoch) } })
        else
          match q.planOf q.code.map quar nextMap with
          | some _ => sendAck p id 0x10 nextMap epoch (adoptPlan p nextMap epoch s)
          | none => s)

/-- ADD_NOTICE_RECEIVE (R128, R557). -/
def execAddNoticeReceive (p : PortId) (id : Nat) (n : LaneId) (s : State) : Host.Outcome State Fault Refusal :=
  .next (
    if !(s.port p).noticesOk then s
    else
      let s := wakeTrigger p s
      let q := s.port p
      let l := q.lanes[n.val]
      let far := l.test.loop.isFar
      if q.code.chg.isSome then sendDecline p id 0x11 n.val 1 q.code.chgEpoch s
      else if far then sendDecline p id 0x11 n.val 3 0 s
      else if l.code.state ≠ .shed then sendDecline p id 0x11 n.val 2 0 s
      else
        let s := s.modPort p fun q =>
          { q with snd := { q.snd with
              await := q.snd.await.filter fun f => !(f.typ == 0x11 && f.payload[1]? == some (BitVec.ofNat 8 n.val)),
              queue := q.snd.queue.filter fun f => !(f.typ == 0x11 && f.payload[1]? == some (BitVec.ofNat 8 n.val)) } }
        beginAdd p n (sendAck p id 0x11 n.val 0 s))

/-- NOTICE_ACK_RECEIVE (R122, R126, R128, R556): NOTICE_ID and TYPE of the notice answered, the lane or NEXT_MAP, CHG_EPOCH. -/
def execNoticeAckReceive (p : PortId) (id typ what epoch : Nat) (s : State) : Host.Outcome State Fault Refusal :=
  .next (
    if !(s.port p).noticesOk then s
    else
      let r := (s.port p).takeNotice id typ
      if !r.1 then s
      else
        let s := s.modPort p fun _ => r.2
        let q := s.port p
        if typ = 0x11 then
          if h : what < 8 then
            if q.code.addSent.testBit what && decide (q.lanes[what].code.state = .shed) then beginAdd p ⟨what, h⟩ s else s
          else s
        else if typ = 0x10 then
          if q.code.plan = .proposed && decide (what = q.code.nextMap) then
            s.modPort p fun q => { q with code := { q.code with plan := .acked } }
          else if q.code.chg = some .failure then
            s.modPort p fun q => { q with code := { q.code with chgEpoch := laterEpoch q.code.chgEpoch epoch } }
          else s
        else s)

/-- NOTICE_DECLINE_RECEIVE (R557): with REASON 0x1 the request waits; otherwise an add attempt has failed. -/
def execNoticeDeclineReceive (p : PortId) (id typ lane reason epoch : Nat) (s : State) : Host.Outcome State Fault Refusal :=
  .next (
    if !(s.port p).noticesOk then s
    else
      let r := (s.port p).takeNotice id typ
      if !r.1 then s
      else
        let s := s.modPort p fun _ => r.2
        let q := s.port p
        if typ = 0x10 then
          if q.code.plan = .proposed then s.modPort p fun q => q.planWaits (some epoch) else s
        else if h : lane < 8 then
          if !q.code.addSent.testBit lane then s
          else if reason = 1 then
            s.modPort p fun q =>
              { q with code := { q.code with addSent := q.code.addSent &&& (0xFF ^^^ 2 ^ lane),
                                             addWait := some (((q.code.addWait.map fun w => w.1).getD 0) ||| 2 ^ lane, epoch) } }
          else judgeWaiting p (failAdd p ⟨lane, h⟩ s)
        else s)

end Sys2Proof.Machine
end

