-- ==== Sys2Proof/Machine/Sounding.lean ====
section
/-!
DEFINITION. The sounding channel (R132 to R151): reception and overlapping frames, headers and payloads, common-mode access, and
the start of a link from DOWN into SOUND or PARLEY (R152, R153, R177, R558).
-/
namespace Sys2Proof.Machine

/-! ### Instances -/

/-- One of a port's two instances. -/
def SndSt.inst (x : SndSt) (cm : Bool) : SndInst := if cm then x.cm else x.diff
/-- Change an instance of a port. -/
def Port.modInst (q : Port) (cm : Bool) (f : SndInst → SndInst) : Port :=
  { q with snd := if cm then { q.snd with cm := f q.snd.cm } else { q.snd with diff := f q.snd.diff } }
/-- Change an instance. -/
def modInst (p : PortId) (cm : Bool) (f : SndInst → SndInst) (s : State) : State := s.modPort p fun q => q.modInst cm f

/-- Sub-ports of a port under BREAKOUT in force (R175, Table 6.8). -/
def Port.subs (q : Port) : Nat := 2 ^ bits (q.act .ieeeCfg) 2 0
/-- The port is broken out. -/
def Port.broken (q : Port) : Bool := decide (1 < q.subs)

/-- The port negotiates natively: NATIVE_EN as read, and no breakout (R156, R177). -/
def Port.soundsFirst (q : Port) : Bool := bitOf q.snd.ctrl 1 && !q.broken

/-- The instance runs (Table 5.1, R156): the differential one in SOUND and PARLEY, beside Clause 73 where sounding comes first,
and for diagnostics in DOWN; the common-mode one from TRAIN onwards. -/
def Port.instRuns (q : Port) (cm : Bool) : Bool :=
  if cm then decide (q.snd.path = .native) && (decide (q.link.state = .train) || q.link.state.fromAlign)
  else
    match q.link.state with
    | .sound => true
    | .parley => decide (q.snd.path ≠ .ieee) || q.soundsFirst
    | .down => q.idleDown
    | _ => false

/-- CAP_MARGIN in force, in units of 1 dB (R147). -/
def Port.capMargin (q : Port) (cm : Bool) : Nat :=
  if cm then bits (q.act .sndCmCtrl) 27 24 else bits (q.act .sndDiffCtrl) 19 16

/-- A reception ends; the AGC is released and the detector resumes. -/
def SndInst.idle (x : SndInst) : SndInst := { x with rx := .none, agcFrozen := false, hdr := none }

/-- The TX0 input of the differential receiver is blanked (R139): while lane 0 is in TONE and for 50 ns after; since is the time in
ns since it left TONE. -/
def Port.blanksTx0 (q : Port) (since : Nat) : Bool := decide ((q.lanes[0]).tx.state = .tone) || decide (since < 50)

/-- The common-mode receiver is blanked (R140): in native duplex while its own transmitter sends, a frame or a wake burst, and for
1 µs after; since is the time in ns since it last sent. -/
def Port.blanksCm (q : Port) (since : Nat) : Bool := q.duplex && (q.snd.cur.isSome || q.link.burst || decide (since < 1000))

/-- The PAIR of a frame (R139): it is on TX0 where that input's power is the larger. -/
def Port.pairOf (q : Port) (rx0 tx0 : Int) (since : Nat) : Bool := !q.blanksTx0 since && decide (rx0 < tx0)

/-- PREAMBLE_DETECT (R139 to R142, R147): the powers of the RX0 and TX0 inputs during the preamble, or for the common-mode instance the
power of the sum twice, in units of 0.25 dB; and the time in ns since the transmitter that can blank it last sent. -/
def execPreambleDetect (p : PortId) (cm : Bool) (rx0 tx0 : Int) (since : Nat) (s : State) : Host.Outcome State Fault Refusal :=
  .next (
    let q := s.port p
    if !q.instRuns cm || (q.snd.inst cm).rx ≠ .none || (cm && q.blanksCm since) then s
    else
      let pair := !cm && q.pairOf rx0 tx0 since
      modInst p cm (fun x => { x with rx := .preamble, refPow := if pair then tx0 else rx0, capMargin := q.capMargin cm,
                                      agcFrozen := true, hdr := none, pair := pair, detect := satAdd 8 x.detect 1 }) s)

/-- FALSE_DETECT (R143). -/
def execFalseDetect (p : PortId) (cm : Bool) (s : State) : Host.Outcome State Fault Refusal :=
  .next (if ((s.port p).snd.inst cm).rx ≠ .preamble then s
    else modInst p cm (fun x => { x.idle with falseDet := satAdd 8 x.falseDet 1 }) s)

/-- NEW_PREAMBLE_DETECT (R141, R144, R145, R147): the new preamble's power (0.25 dB), how far its timing (1/16 chirp) and its
peak bin lie from the current reception's, whether that reception has found sync, and whether the new one is on TX0 (R139). -/
def execNewPreambleDetect (p : PortId) (cm : Bool) (power : Int) (timing bin : Nat) (synced tx0 : Bool) (s : State) :
    Host.Outcome State Fault Refusal :=
  .next (
    let x := (s.port p).snd.inst cm
    if x.rx = .none || timing < 1 || bin ≤ 2 then s
    else
      let pair := !cm && tx0
      let takeOver := fun (x : SndInst) =>
        { x with pair := pair, rx := .preamble, refPow := power, capMargin := (s.port p).capMargin cm, agcFrozen := true, hdr := none }
      let rel := min (power - x.refPow) 48
      if !synced && decide (x.rx = .preamble) then
        modInst p cm (fun x => { takeOver x with superseded := satAdd 8 x.superseded 1 }) s
      else if (4 * x.capMargin : Int) ≤ rel then
        modInst p cm (fun x => { takeOver x with captured := satAdd 8 x.captured 1 }) s
      else modInst p cm (fun x => { x with ignored := satAdd 16 x.ignored 1 }) s)

/-- SND_RECEPTION_TRUNCATE (R146): the powers of two consecutive symbol windows, 0.25 dB. -/
def execSndReceptionTruncate (p : PortId) (cm : Bool) (w1 w2 : Int) (s : State) : Host.Outcome State Fault Refusal :=
  .next (
    let x := (s.port p).snd.inst cm
    if x.rx = .none || x.refPow - 24 < w1 || x.refPow - 24 < w2 then s
    else modInst p cm (fun x => { x.idle with trunc := satAdd 8 x.trunc 1 }) s)

/-- A header is good (R136): its HCRC, and a PSF in the instance's range (Table 5.1). -/
def hdrOk (cm : Bool) (w : Word) : Bool :=
  let psf := bits w 15 12
  decide ((crc8 (msbBits 24 (bits w 31 8))).toNat = bits w 7 0)
    && (if cm then decide (7 ≤ psf) && decide (psf ≤ 10) else decide (6 ≤ psf) && decide (psf ≤ 12))

/-- SND_HEADER_RECEIVE (R136): the 32 bits of the header. -/
def execSndHeaderReceive (p : PortId) (cm : Bool) (w : Word) (s : State) : Host.Outcome State Fault Refusal :=
  .next (
    match ((s.port p).snd.inst cm).rx with
    | .preamble | .synced =>
      if hdrOk cm w then
        modInst p cm (fun x => { x with rx := .payload, hdr := some (bits w 31 24, bits w 23 16, bits w 15 12) }) s
      else modInst p cm (fun x => { x.idle with hdrErr := satAdd 8 x.hdrErr 1 }) s
    | _ => s)

/-- A payload with its CRC, as sent (whitened), belongs to a header (R137). -/
def payloadOk (typ len psf : Nat) (raw : List Byte) : Bool :=
  let clear := whiten raw
  decide (raw.length = len + 4) && decide (beNat (clear.drop len) = sndCrc typ len psf (clear.take len))

/-- SND_FRAME_RECEIVE (R137, R138): the payload and CRC bytes as sent. What the frame says is the command of its type; one of a
type that is reserved or not expected acts no further. -/
def execSndFrameReceive (p : PortId) (cm : Bool) (raw : List Byte) (s : State) : Host.Outcome State Fault Refusal :=
  .next (
    let x := (s.port p).snd.inst cm
    match x.rx, x.hdr with
    | .payload, some (typ, len, psf) =>
      if payloadOk typ len psf raw then modInst p cm (fun x => { x.idle with rxOk := satAdd 8 x.rxOk 1 }) s
      else modInst p cm (fun x => { x.idle with crcErr := satAdd 8 x.crcErr 1 }) s
    | _, _ => s)

/-! ### Common-mode access -/

/-- The class of a frame type on the common-mode instance (Table 5.4). -/
def cmClass (t : Nat) : Nat :=
  match t with
  | 0x12 | 0x13 => 1
  | 0x10 | 0x11 => 2
  | 0x08 => 3
  | 0x30 => 4
  | _ => 5

/-- The queued frame sent next: lowest class first, in order of queueing within a class (R150). -/
def cmNext (l : List SndFrame) : Option SndFrame :=
  l.foldl (fun a f => match a with
    | none => some f
    | some b => if cmClass f.typ < cmClass b.typ then some f else some b) none

/-- A frame that expects a reply (R149): a notice, a TRAIN_STAT that R167 requires an answer to, a QUIET_REQ (R273) and a LOOPBACK REQ
(R405). -/
def SndFrame.expects (f : SndFrame) : Bool :=
  let b := f.payload.getD 0 0
  f.asks || (decide (f.typ = 0x10) || decide (f.typ = 0x11))
    || (decide (f.typ = 0x20) && decide (b = 0xC0) && decide (f.payload.getD 1 0 = 1))
    || (decide (f.typ = 0x21) && decide (b = 1))

/-- Masks of a port's lanes in the training set with CONV and with CDR lock (R167). -/
def Port.convMask (q : Port) : Nat := q.snd.set &&& maskOf 8 fun i => if h : i < 8 then q.lanes[i].rx.conv else false
/-- CDR locks of the training set. -/
def Port.cdrMask (q : Port) : Nat := q.snd.set &&& maskOf 8 fun i => if h : i < 8 then q.lanes[i].rx.cdrLock else false

/-- The lanes of the set that meet the end condition of the step in force, as the leader sees it (Table 5.11). -/
def Port.stepMet (q : Port) : Nat :=
  let mine := q.convMask
  let theirs := q.snd.partnerConv
  let lock := q.snd.partnerCdr
  q.snd.set &&&
    (if q.modeRate.1 = 2 then
      match q.snd.step with
      | 1 => mine &&& theirs &&& lock
      | _ => mine &&& theirs
    else
      match q.snd.step with
      | 1 => theirs &&& lock
      | 2 => mine
      | _ => mine &&& theirs)

/-- The STEP a TRAIN_STAT carries (R167): the leader announces the next step once the end condition holds. -/
def Port.tsStep (q : Port) : Nat :=
  match q.snd.switchTo with
  | some k => if q.snd.leader then k else q.snd.step
  | none => if q.snd.leader && decide (q.stepMet = q.snd.set) && decide (q.snd.step < 4) then q.snd.step + 1 else q.snd.step

/-- A new TRAIN_STAT (R167). The eight responses lie in one 16-bit value, lane i at bits 2i + 1 to 2i, sent high byte first (DESIGN
CHOICE: R167 gives no order within bytes 22 and 23; log entry 107). One that announces a step asks for the follower's STEP, and one of
a follower for the leader's acknowledgement of its masks (DEDUCED; log entry 108). -/
def Port.trainStat (q : Port) : SndFrame × Port :=
  let seq := (q.snd.tsSeq + 1) % 256
  let step := q.tsStep
  let resp := (List.range 8).foldl (fun a i => a + (q.snd.tsResp.getD i 0) * 4 ^ i) 0
  let body := beBytes 2 q.snd.session ++ beBytes 1 step ++ beBytes 1 seq ++ beBytes 1 q.convMask ++ beBytes 1 q.cdrMask
    ++ (q.snd.tapReq.take 8).flatMap (fun (w : Word) => beBytes 2 w.toNat) ++ beBytes 2 resp ++ beBytes 1 q.snd.tsAck
    ++ beBytes 1 q.snd.set
  ({ typ := 0x08, payload := body, resends := 0,
     asks := if q.snd.leader then q.snd.switchTo.isSome || decide (q.snd.step < step) else q.snd.tsDue },
   { q with snd := { q.snd with tsSeq := seq, tsDue := false,
                                switchTo := if q.snd.leader && decide (q.snd.step < step) then some step else q.snd.switchTo } })

/-- A link message (Table 10.4). -/
def linkMsg (sub epoch : Nat) : List Byte := beBytes 1 0xC0 ++ beBytes 1 sub ++ beBytes 4 epoch

/-- A frame is this port's QUIET_REQ (Table 10.4). -/
def SndFrame.isQuietReq (f : SndFrame) : Bool := f.typ == 0x20 && f.payload.take 2 == [0xC0, 0x01]

/-- A QUIET_REQ as it starts: EPOCH is the first epoch boundary at least 256 epochs after that (R273). -/
def Port.quietReqFrame (q : Port) (f : SndFrame) : SndFrame × Port :=
  let e := q.epochAfter 256
  ({ f with payload := linkMsg 1 e }, { q with link := { q.link with quietReq := some e } })

/-- A frame of the queue starts, with its chirps on the lanes of R140: a TRAIN_STAT and a QUIET_REQ are composed as they start. -/
def Port.cmStart (fs : Nat) (q : Port) (f : SndFrame) : Port :=
  let q := { q with snd := { q.snd with queue := q.snd.queue.erase f } }
  let r := if f.typ = 0x08 && f.payload.isEmpty then q.trainStat else if f.isQuietReq then q.quietReqFrame f else (f, q)
  let q := r.2.modInst true fun x => { x with txFrames := satAdd 16 x.txFrames 1 }
  ({ q with snd := { q.snd with cur := some r.1 } } : Port).cmChirps fs q.cmSf (frameChirps q.cmSf r.1)

/-- CM_FRAME_SEND (R19, R149, R150, R151): clear says that in native duplex TURN has passed since the last frame ended and the
last detection. -/
def execCmFrameSend (p : PortId) (clear : Bool) (s : State) : Host.Outcome State Fault Refusal :=
  .next (
    let q := s.port p
    let free := !q.duplex || (decide (q.snd.cm.rx = .none) && clear)
    let fs := sampleKhz (s.group p).freq
    if !q.instRuns true || q.link.burst || s.relocking p || !free then s
    else
      match cmNext q.snd.queue with
      | none => s
      | some f =>
        match q.snd.cur with
        | none => s.modPort p fun q => q.cmStart fs f
        | some g =>
          if cmClass f.typ ≤ 2 && 4 ≤ cmClass g.typ then
            s.modPort p fun q =>
              let q := q.cmStart fs f
              { q with snd := { q.snd with queue := g :: q.snd.queue } }
          else s)

/-! ### Starting a link -/

/-- Lane 0 of a port, or the first lane of a sub-port, is off (R558). -/
def Port.laneOff (q : Port) (n : LaneId) : Bool := bitOf (q.lanes[n.val].act .txCtrl) 12

/-- The registers a negotiation reads (R170). -/
def Port.readSnd (q : Port) : Port :=
  { q with snd := { q.snd with ctrl := q.act .sndCtrl, diffCtrl := q.act .sndDiffCtrl, quietOffer := bitOf (q.act .linkCtrl) 2 } }

/-- A new SOUND window with its RAND (R153, R155). -/
def soundWindow (p : PortId) (s : State) : State :=
  let r := s.draw
  r.2.modPort p fun q => { q with snd := { q.snd with rand := r.1 % 2 ^ 32, round := 0, callOfs := none, partner := none,
                                                       diffDue := none } }

/-- Enter SOUND (R153). -/
def enterSound (p : PortId) (s : State) : State :=
  setLink p .sound (soundWindow p (s.modPort p fun q =>
    { q.readSnd with snd := { q.readSnd.snd with path := .none, agreed := none } }))

/-- A sub-port starts Clause 73: its mask takes effect (R177, R189). -/
def IeeeSub.startAn (b : IeeeSub) : IeeeSub := { b.rest with state := .parley, advMask := b.advNext, retry := false }

/-- The highest state among the sub-ports (R265). -/
def Port.subState (q : Port) : LinkState :=
  let l := q.ieee.toList.map fun b => b.state.code
  if l.contains 3 then .up else if l.contains 2 then .train else if l.contains 1 then .parley else .down

/-- Sub-ports enter PARLEY (IEEE). -/
def enterIeee (p : PortId) (which : Nat → Bool) (s : State) : State :=
  let s := s.modPort p fun q =>
    { q with ieee := mapIdx q.ieee fun i b => if which i.val && decide (i.val < q.subs) then b.startAn else b,
             snd := { q.snd with path := .ieee } }
  setLink p (s.port p).subState s

/-- A port that waits for its group in DOWN resumes once the group, under AUTO, is retunable (R20). -/
def resumeWait (p : PortId) (s : State) : State :=
  if (s.group p).waiting.contains p && (s.group p).planInForce = 0 && retunable s (podOf p) (groupOf p) then setWaiting p false s else s

/-- LINK_ENABLE (Table 5.7, R20, R60, R177, R195, R264, R426, R558): a port in DOWN whose link is enabled, which no safe state, no
hold-off and no wait for its lane PLL group holds, starts. -/
def startLink (p : PortId) (s : State) : State :=
  let s := resumeWait p s
  let q := s.port p
  let down := decide (q.link.state = .down) && q.ieee.toList.all fun b => decide (b.state = .down)
  if !s.part.hasPort p || !q.enabled || !down || s.portSafe p || q.link.retryHold || !s.boot.verified
      || (s.group p).waiting.contains p then s
  else
    let off := fun (i : Nat) => if h : i * (8 / q.subs) < 8 then q.laneOff ⟨i * (8 / q.subs), h⟩ else true
    let s := if off 0 then s.modPort p fun q => { q with snd := { q.snd with result := 0xB } } else s
    let any := (List.range q.subs).any fun i => !(off 0 && decide (i = 0)) && !(q.ieee.toList[i]?.any fun b => b.retry)
    if !any then s
    else
      let s := s.modPort p fun q =>
        let q := (q.mapLanes fun _ l => l.toneModem).readSnd
        { q with lre := { q.lre with stall := false } }
      if (s.port p).soundsFirst then enterSound p s
      else enterIeee p (fun i => !(off 0 && decide (i = 0))
        && !(q.ieee.toList[i]?.any fun b => b.retry)) s

/-! ### The SOUND window -/

/-- SOUND_ROUND (R152, R153): a round begins and draws the offset of its CALL, 0 to 899 µs. -/
def execSoundRound (p : PortId) (s : State) : Host.Outcome State Fault Refusal :=
  .next (
    let q := s.port p
    if q.link.state ≠ .sound || bits q.snd.diffCtrl 31 24 ≤ q.snd.round || q.snd.partner.isSome || s.relocking p then s
    else
      let r := s.draw
      r.2.modPort p fun q => { q with snd := { q.snd with round := q.snd.round + 1, callOfs := some (r.1 % 900) } })

/-- The lanes a port offers (Table 5.8). -/
def Port.offered (q : Port) : Nat := maskOf 8 fun i => if h : i < 8 then !q.laneOff ⟨i, h⟩ else false

/-- The lane PLL frequency of a RATE code (Table 1.4, Table 5.10). -/
def rateFreq : Nat → PllFreq
  | 1 => .f592
  | 2 => .f518
  | 3 => .f444
  | _ => .none

/-- A group provides a frequency now. -/
def State.provides (s : State) (p : PortId) (f : PllFreq) : Bool := (s.group p).lock && decide ((s.group p).freq = f)

/-- A group can provide a frequency now or by a retune that starts at once (R18, R20, R21). -/
def State.canProvide (s : State) (p : PortId) (f : PllFreq) : Bool :=
  let x := s.group p
  if x.planInForce ≠ 0 then decide (planFreq x.planInForce = f)
  else (decide (x.freq = f)) || decide (x.target = some f) || retunable s (podOf p) (groupOf p)

/-- RATES of a port: the native rates its group can provide (Table 5.8). -/
def State.ratesByte (s : State) (p : PortId) : Nat := maskOf 3 fun i => s.canProvide p (rateFreq (i + 1))

/-- MODES of a port (Table 5.8). Every part takes part in a far-end loopback (DEDUCED). -/
def State.modesByte (s : State) (p : PortId) : Nat :=
  let q := s.port p
  b2n (bitOf q.snd.ctrl 2) + 2 * b2n (bitOf q.snd.ctrl 3 && s.part.hasDuplex) + 4 * b2n q.snd.quietOffer + 8
    + 16 * b2n (bitOf q.snd.ctrl 6)

/-- RANGE_MAX: the smallest range in force among the offered lanes (Table 5.8). -/
def Port.rangeMax (q : Port) : Nat :=
  allLanes.foldl (fun m n => if q.laneOff n then m else Nat.min m (bits (q.lanes[n.val].act .txCtrl) 1 0)) 2

/-- What a port says of itself in a CALL or RETURN (R158). -/
def State.ownCall (s : State) (p : PortId) : CallInfo :=
  let q := s.port p
  { version := 1, part := s.part.code, uid := Config.uid.toNat, port := p.val, lanes := q.offered, rand := q.snd.rand,
    modes := s.modesByte p, rates := s.ratesByte p, minLanes := bits (q.act .codeCtrl) 3 0, rangeMax := q.rangeMax,
    cmSf := bits (q.act .sndCmCtrl) 31 28, mgmtSf := bits q.snd.diffCtrl 23 20, replay := 1024 }

/-- Bytes 0 to 23 of a CALL or RETURN (Table 5.8). RAND and REPLAY, like every field of more than one byte of this chapter's payloads,
go most significant byte first (DESIGN CHOICE: the chapter says so of UID and the CRC alone; log entry 109). -/
def CallInfo.bytes (c : CallInfo) : List Byte :=
  beBytes 1 c.version ++ beBytes 1 c.part ++ beBytes 8 c.uid ++ beBytes 1 c.port ++ beBytes 1 c.lanes ++ beBytes 4 c.rand
    ++ beBytes 1 c.modes ++ beBytes 1 c.rates ++ beBytes 1 c.minLanes ++ beBytes 1 c.rangeMax ++ beBytes 1 c.cmSf
    ++ beBytes 1 c.mgmtSf ++ beBytes 2 c.replay

/-- A differential frame starts on lane 0 at a base SF, and the lane goes from IDLE to TONE (R51, R135). -/
def Port.diffStart (fs sf : Nat) (q : Port) (f : SndFrame) : Port :=
  let q := q.modInst false fun x => { x with txFrames := satAdd 16 x.txFrames 1 }
  ({ q with snd := { q.snd with diffCur := some f, diffDue := none } } : Port).diffChirps fs sf 0 (frameChirps sf f)

/-- The SF of the CALL that a round sends (R153). -/
def Port.callSf (q : Port) : Nat := if bitOf q.snd.ctrl 5 && decide (q.snd.round % 8 = 0) then 12 else 9

/-- CALL_SEND (R19, R148, R153): the round's CALL is sent at SF 9, or SF 12 in every eighth round of a port that sends long
calls; while the receiver is in a reception it waits. -/
def execCallSend (p : PortId) (s : State) : Host.Outcome State Fault Refusal :=
  .next (
    let q := s.port p
    if q.link.state ≠ .sound || q.snd.callOfs.isNone || q.snd.diff.rx ≠ .none || q.snd.diffCur.isSome
        || q.snd.diffDue.isSome || s.relocking p then s
    else
      let c := s.ownCall p
      let fs := sampleKhz (s.group p).freq
      s.modPort p fun q =>
        let q := q.diffStart fs q.callSf { typ := 0x01, payload := c.bytes, resends := 0 }
        { q with snd := { q.snd with callOfs := none } })

/-- The port hands over to Clause 73 (R155). -/
def toClause73 (p : PortId) (s : State) : State :=
  let s := s.modPort p fun q => { q with snd := { q.snd with result := 2, callOfs := none, diffDue := none } }
  enterIeee p (fun i => decide (i = 0)) s

/-- SOUND_WINDOW_END (R152, R155). -/
def execSoundWindowEnd (p : PortId) (s : State) : Host.Outcome State Fault Refusal :=
  .next (
    let q := s.port p
    if q.link.state ≠ .sound || q.snd.round < bits q.snd.diffCtrl 31 24 || q.snd.partner.isSome || s.relocking p then s
    else if bitOf q.snd.ctrl 4 then toClause73 p s
    else soundWindow p (s.modPort p fun q => { q with snd := { q.snd with result := 3 } }))

end Sys2Proof.Machine
end

