-- ==== Sys2Proof/Machine/Parley.lean ====
section
/-!
DEFINITION. Native negotiation (R154, R157 to R165): the exchange of CALL, RETURN, PROBE, OFFER, ACCEPT, REFUSE and GO, its turns
and resends, and its failures.
-/
namespace Sys2Proof.Machine

/-! ### Turns -/

/-- A frame of the exchange falls due TURN after the one before it, a reply to it or not (R148, R159). -/
def Port.dueAs (q : Port) (reply : Bool) (t : Nat) (payload : List Byte) : Port :=
  { q with snd := { q.snd with diffDue := some ({ typ := t, payload := payload, resends := 0 }, q.snd.sessionSf, reply),
                               diffResends := 0 } }

/-- A frame that answers the one before it falls due. -/
def Port.due (q : Port) (t : Nat) (payload : List Byte) : Port := q.dueAs true t payload

/-- The frame last sent falls due again (R163): as a reply where a repeat of the partner's frame asks for it. -/
def Port.dueAgain (reply : Bool) (q : Port) : Port :=
  match q.snd.diffLast with
  | some f => { q with snd := { q.snd with diffDue := some (f, if f.typ = 0x40 then q.diag.ilSf else q.snd.sessionSf, reply) } }
  | none => q

/-- A native PARLEY is running. -/
def Port.inParley (q : Port) : Bool := decide (q.link.state = .parley) && decide (q.snd.path = .native)

/-- The bytes of one lane estimate (R160). -/
def LaneEst.bytes (e : LaneEst) : List Byte :=
  beBytes 1 (b2n e.detected + 2 * b2n e.usable) ++ beBytes 1 e.snr ++ beBytes 2 (unsigned 16 e.skew) ++ beBytes 2 e.il1
    ++ beBytes 2 e.il175

/-- No estimate. -/
def LaneEst.zero : LaneEst := { detected := false, usable := false, snr := 0, skew := 0, il1 := 0, il175 := 0 }

/-- A PROBE payload (R160). -/
def probePayload (session mask : Nat) (est : List LaneEst) : List Byte :=
  beBytes 2 session ++ beBytes 1 mask ++ ((List.range 8).flatMap fun i => (est.getD i LaneEst.zero).bytes)

/-- The leader's first PROBE (R159, step 1). -/
def Port.firstProbe (q : Port) : Port := q.due 0x03 (probePayload q.snd.session q.offered [])

/-- Enter PARLEY (native) with roles, session and partner (R154, R157). -/
def enterParley (p : PortId) (c : CallInfo) (sf : Nat) (pairTx : Bool) (s : State) : State :=
  let s := s.modPort p fun q =>
    let mine := q.snd.rand
    let leads := decide (c.rand < mine)
      || (decide (mine = c.rand) && (decide (c.uid < Config.uid.toNat)
          || (decide (Config.uid.toNat = c.uid) && decide (c.port < p.val))))
    { q with snd := { q.snd with path := .native, partner := some c, leader := leads, session := (mine ^^^ c.rand) % 65536,
                                 sessionSf := sf, pairTx := pairTx, callOfs := none, offer := none, estRx := [], estTx := [],
                                 goDone := false, diffResends := 0, step := 0, closing := none, diffLast := none } }
  setLink p .parley s

/-- NEG_PARTNER and its UID are loaded from an accepted CALL or RETURN (Table 5.19). -/
def Port.loadPartner (q : Port) (c : CallInfo) : Port :=
  { q with snd := { q.snd with
      negPartner := fld c.port 24 8 ||| fld c.part 20 4 ||| fld c.version 16 4 ||| fld c.modes 8 8 ||| fld c.rates 0 8,
      negUid := c.uid } }

/-- TURN_REPLY (R19, R148, R154, R162): the due frame starts; one that is no reply waits while the receiver is in a reception; an
ACCEPT, but for one that answers a closing OFFER, and a GO wait for the group to provide the offered rate. A port in SOUND enters
PARLEY as it sends its RETURN. -/
def execTurnReply (p : PortId) (s : State) : Host.Outcome State Fault Refusal :=
  .next (
    let q := s.port p
    match q.snd.diffDue with
    | none => s
    | some (f, sf, isReply) =>
      let needs := (decide (f.typ = 0x05) || decide (f.typ = 0x07)) && q.snd.closing.isNone && q.inParley
      let ready := match q.snd.offer with
        | some o => s.provides p (rateFreq o.rate)
        | none => true
      let fs := sampleKhz (s.group p).freq
      if s.relocking p || q.snd.diffCur.isSome || q.snd.train.isSome || (!isReply && decide (q.snd.diff.rx ≠ .none))
          || (needs && !ready) then s
      else
        let s := match q.snd.partner with
          | some c => if f.typ = 0x02 && decide (q.link.state = LinkState.sound) then enterParley p c q.snd.sessionSf q.snd.pairTx s else s
          | none => s
        s.modPort p fun q =>
          let q := q.diffStart fs sf f
          { q with snd := { q.snd with diffLast := some f } })

/-! ### CALL and RETURN -/

/-- A CALL is accepted (R154): another device or port, VERSION 0x01, and a mode in common. -/
def callOk (p : PortId) (c : CallInfo) (s : State) : Bool :=
  !(decide (c.uid = Config.uid.toNat) && decide (c.port = p.val)) && decide (c.version = 1)
    && decide (c.modes &&& s.modesByte p &&& 3 ≠ 0)

/-- A RETURN payload (Table 5.8). -/
def returnPayload (own c : CallInfo) (pairTx : Bool) (snr : Int) : List Byte :=
  own.bytes ++ beBytes 4 c.rand ++ beBytes 8 c.uid ++ beBytes 1 c.port ++ beBytes 1 (b2n pairTx)
    ++ beBytes 1 (unsigned 8 snr) ++ [0]

/-- The RETURN to a CALL falls due (R154). -/
def answerCall (p : PortId) (c : CallInfo) (sf : Nat) (pairTx : Bool) (snr : Int) (s : State) : State :=
  let own := s.ownCall p
  s.modPort p fun q =>
    let q := q.loadPartner c
    let q := { q with snd := { q.snd with partner := some c, sessionSf := sf, pairTx := pairTx, callOfs := none } }
    q.due 0x02 (returnPayload own c pairTx snr)

/-- A CALL of an SF is heard (R153): SF 9, and SF 12 where the port makes long calls. -/
def Port.hears (q : Port) (sf : Nat) : Bool := decide (sf = 9) || (decide (sf = 12) && bitOf q.snd.ctrl 5)

/-- CALL_RECEIVE (R139, R153, R154, R156, R163): the CALL's fields, its SF and its SNR (0.25 dB); the PAIR is that of the reception. A
repeat of the partner's CALL is answered with the RETURN at the session SF, that of the CALL first answered (DESIGN CHOICE: R163
names no SF; log entry 110). -/
def execCallReceive (p : PortId) (c : CallInfo) (sf : Nat) (snr : Int) (s : State) : Host.Outcome State Fault Refusal :=
  .next (
    let q := s.port p
    let pairTx := q.snd.diff.pair
    if !callOk p c s || !q.hears sf then s
    else if q.link.state = .sound then
      if q.snd.partner.isSome then s else answerCall p c sf pairTx snr s
    else if q.link.state = .parley && q.snd.path = .ieee && q.soundsFirst && !pairTx then
      let s := s.modPort p fun q => { q with ieee := q.ieee.map IeeeSub.toDown }
      answerCall p c sf pairTx snr (enterSound p (setWaiting p false s))
    else if q.inParley then
      match q.snd.partner with
      | some m =>
        if m.rand = c.rand && m.uid = c.uid && m.port = c.port && !q.snd.goDone then
          let own := s.ownCall p
          s.modPort p fun q => q.due 0x02 (returnPayload own c pairTx snr)
        else s
      | none => s
    else s)

/-- RETURN_RECEIVE (R154, R157): the RETURN's fields, those of the CALL it answers, the PAIR it reports and its SF. -/
def execReturnReceive (p : PortId) (c : CallInfo) (cRand cUid cPort : Nat) (pairTx : Bool) (sf : Nat) (s : State) :
    Host.Outcome State Fault Refusal :=
  .next (
    let q := s.port p
    let mine := decide (cRand = q.snd.rand) && decide (cUid = Config.uid.toNat) && decide (cPort = p.val)
    if q.link.state ≠ .sound || !mine || !callOk p c s then s
    else
      let s := enterParley p c sf pairTx (s.modPort p fun q => q.loadPartner c)
      s.modPort p fun q =>
        let q := { q with snd := { q.snd with diffDue := none } }
        if q.snd.leader then q.firstProbe else q)

/-! ### Estimates and the OFFER -/

/-- The square root of a frequency in GHz, in units of 10^-15: 1.75, and half the symbol rate of each RATE code. -/
def sqrtHalf : Nat → Nat
  | 1 => 7694153624668537
  | 2 => 7197221686178632
  | _ => 6663332499583072

/-- The predicted loss at half the symbol rate, as numerator and denominator in 0.01 dB (R161): a√f + b f through the points
at 1.00 and 1.75 GHz. -/
def lossAt (rate il1 il175 : Nat) : Int × Int :=
  let u : Int := 10 ^ 15
  let c : Int := 1322875655532295
  let r : Int := sqrtHalf rate
  let f : Int := (match rate with | 1 => 592 | 2 => 518 | _ => 444) * 10 ^ 14
  let d : Int := 1750000000000000 - c
  let b : Int := il175 * u - il1 * c
  (il1 * r * d + b * (f - r), d * u)

/-- The predicted loss is at or below a number of dB (R161). -/
def lossWithin (rate : Nat) (e : LaneEst) (db : Nat) : Bool :=
  let x := lossAt rate e.il1 e.il175
  decide (x.1 ≤ (100 * db : Nat) * x.2)

/-- The predicted loss is below a number of dB (Table 5.10). -/
def lossBelow (rate : Nat) (e : LaneEst) (db : Nat) : Bool :=
  let x := lossAt rate e.il1 e.il175
  decide (x.1 < (100 * db : Nat) * x.2)

/-- One direction of a lane is fit for a rate (R161): detected, at least 10 dB of SNR, and the loss within MAX_IL. -/
def estFit (rate maxIl : Nat) (e : LaneEst) : Bool := e.detected && decide (40 ≤ e.snr) && lossWithin rate e maxIl

/-- MAX_IL as read. -/
def Port.maxIl (q : Port) : Nat := bits q.snd.ctrl 23 16

/-- The lanes usable at a rate (R161). -/
def Port.usable (q : Port) (theirs rate : Nat) : Nat :=
  q.offered &&& theirs &&& maskOf 8 fun i =>
    estFit rate q.maxIl (q.snd.estRx.getD i LaneEst.zero) && estFit rate q.maxIl (q.snd.estTx.getD i LaneEst.zero)

/-- The RATE of an OFFER (Table 5.10): the largest block rate over its usable lanes among the common rates with enough of
them; ties go to the lower symbol rate. -/
def bestRate (rates minLanes : Nat) (usable : Nat → Nat) : Option Nat :=
  [1, 2, 3].foldl (fun (best : Option Nat) r =>
    let n := popcount8 (usable r)
    if !rates.testBit (r - 1) || n < minLanes || n = 0 then best
    else match best with
      | none => some r
      | some b => if popcount8 (usable b) * rateTenths b ≤ n * rateTenths r then some r else best) none

/-- A transmit range of an OFFER (Table 5.10). -/
def offerRange (max rate set lowIl : Nat) (est : List LaneEst) : Nat :=
  let low := (List.range 8).all fun i => !set.testBit i || lossBelow rate (est.getD i LaneEst.zero) lowIl
  if low then max - 1 else max

/-- The largest skew relative to lane 0 among the lanes of a set, 0 when none arrives later (Table 5.10), 10 ps. -/
def maxSkew (set : Nat) (est : List LaneEst) : Nat :=
  (List.range 8).foldl (fun m i => if set.testBit i then Nat.max m (est.getD i LaneEst.zero).skew.toNat else m) 0

/-- An OFFER payload (Table 5.10). -/
def offerPayload (session : Nat) (o : Offer) : List Byte :=
  beBytes 2 session ++ beBytes 1 o.no ++ beBytes 1 o.mode ++ beBytes 1 o.rate ++ beBytes 1 o.laneSet ++ beBytes 1 o.minLanes
    ++ beBytes 1 o.rangeL ++ beBytes 1 o.rangeF ++ beBytes 1 o.cmSf ++ beBytes 1 o.features ++ beBytes 2 o.rtt
    ++ beBytes 2 o.replay

/-- A closing OFFER (R164). -/
def closingOffer (no code : Nat) : Offer :=
  { no := no, mode := 0, rate := code, laneSet := 0, minLanes := 0, rangeL := 0, rangeF := 0, cmSf := 0, features := 0,
    rtt := 0, replay := 0 }

/-- The OFFER of a leader (Table 5.10), or the RESULT code of its failure. -/
def resolveOffer (s : State) (p : PortId) (no : Nat) : Offer ⊕ Nat :=
  let q := s.port p
  match q.snd.partner with
  | none => .inr 5
  | some c =>
    let both := s.modesByte p &&& c.modes
    let mode := if q.snd.pairTx then (if both.testBit 1 then 2 else 0) else if both.testBit 0 then 1 else 0
    let min' := Nat.max (bits (q.act .codeCtrl) 3 0) c.minLanes
    if 4 ≤ no then .inr 7
    else if mode = 0 then .inr 5
    else match bestRate (s.ratesByte p &&& c.rates) min' (q.usable c.lanes) with
      | none => .inr 6
      | some r =>
        let set := q.usable c.lanes r
        let low := bits q.snd.ctrl 15 8
        let ten := q.snd.rtt0 * 10 + maxSkew set q.snd.estRx + maxSkew set q.snd.estTx
        .inl { no := no, mode := mode, rate := r, laneSet := set, minLanes := min',
               rangeL := offerRange q.rangeMax r set low q.snd.estTx, rangeF := offerRange c.rangeMax r set low q.snd.estRx,
               cmSf := Nat.max (bits (q.act .sndCmCtrl) 31 28) c.cmSf,
               features := b2n (both.testBit 2) + 2 * b2n (both.testBit 3), rtt := (roundInt ten 10).toNat % 65536,
               replay := Nat.min 1024 c.replay }

/-- The leader sends an OFFER, or a closing one (R161, R164). -/
def sendOffer (p : PortId) (no : Nat) (s : State) : State :=
  match resolveOffer s p no with
  | .inl o => s.modPort p fun q =>
      ({ q with snd := { q.snd with offer := some o, closing := none } } : Port).due 0x04 (offerPayload q.snd.session o)
  | .inr code => s.modPort p fun q =>
      let o := closingOffer no code
      ({ q with snd := { q.snd with offer := some o, closing := some code } } : Port).due 0x04 (offerPayload q.snd.session o)

/-! ### Failure and agreement -/

/-- A native PARLEY fails (R20, R21, R164, R165): a port that no rate in common with its partner is left to, because the plan is fixed
or another port holds the group, waits with CONFLICT; the port stays in PARLEY for sounding alone where both sides keep management, and
otherwise returns to DOWN. -/
def failParley (p : PortId) (code : Nat) (s : State) : State :=
  let q := s.port p
  let theirs := match q.snd.partner with
    | some c => c
    | none => s.ownCall p
  let common := s.ratesByte p &&& theirs.rates
  let s := s.modPort p fun q => { q with snd := { q.snd with result := code, closing := none, diffDue := none } }
  if (code = 5 || code = 6) && bitOf q.snd.ctrl 6 && theirs.modes.testBit 4 then
    s.modPort p fun q => { q with snd := { q.snd with
      path := .soundingOnly, offer := none, diffLast := none, diffResends := 0,
      sessionSf := Nat.max (bits q.snd.diffCtrl 23 20) theirs.mgmtSf } }
  else
    let noRate := decide (code = 6) && decide (common = 0)
      && (decide ((s.group p).planInForce ≠ 0) || !retunable s (podOf p) (groupOf p))
    downDue p 2 (if noRate then setWaiting p true s else s)

/-- The agreed parameters come into force at the end of GO (R162, R251): ranges by R49, MIN_LANES, NEG_RESULT, and host
framing. -/
def applyGo (p : PortId) (s : State) : State :=
  s.modPort p fun q =>
    match q.snd.offer with
    | none => q
    | some o =>
      let range := if q.snd.leader then o.rangeL else o.rangeF
      let q := q.mapLanes fun n l =>
        if !o.laneSet.testBit n.val || l.tx.rangeIdle then l
        else { l with tx := { l.tx with rangeNext := if bits (l.act .txCtrl) 1 0 = range then none else some range } }
      let q := q.setReg .codeCtrl fun r => { r with inForce := setBits r.inForce 3 0 o.minLanes }
      let direct := Vector.ofFn fun (i : Fin 12) => if i.val < 11 then i.val else 15
      { q with
        snd := { q.snd with agreed := some o, result := 1, goDone := true, set := o.laneSet },
        host := { q.host with tx := if q.host.tx = .idle then .framing else q.host.tx, rxMap := direct, txMap := direct } }

/-- Frames of a PARLEY carry its SESSION (R157). -/
def Port.sessionIs (q : Port) (session : Nat) : Bool := q.inParley && decide (session = q.snd.session)

/-- PROBE_RECEIVE (R159 to R161, R163): SESSION, the mask of the train, the partner's estimates, what this side measured of the
train on each lane, and the lane-0 round trip the leader measured (0.1 ns). -/
def execProbeReceive (p : PortId) (session mask : Nat) (est measured : List LaneEst) (rtt : Nat) (s : State) :
    Host.Outcome State Fault Refusal :=
  .next (
    let q := s.port p
    if !q.sessionIs session || q.snd.goDone then s
    else if q.snd.leader then
      let first := match q.snd.diffLast with
        | some f => decide (f.typ = 0x03)
        | none => false
      if !first then s
      else sendOffer p 1 (s.modPort p fun q => { q with snd := { q.snd with estRx := measured, estTx := est, rtt0 := rtt } })
    else
      let answered := match q.snd.diffLast with
        | some f => decide (f.typ = 0x03)
        | none => false
      if answered then s.modPort p (Port.dueAgain true)
      else
        let rates := s.ratesByte p &&& (match q.snd.partner with | some c => c.rates | none => 0)
        let mine := measured.zipIdx.map fun x =>
          { x.1 with usable := mask.testBit x.2 && q.offered.testBit x.2
              && [1, 2, 3].any fun r => rates.testBit (r - 1) && estFit r q.maxIl x.1 }
        s.modPort p fun q =>
          ({ q with snd := { q.snd with estRx := mine, estTx := [] } } : Port).due 0x03
            (probePayload q.snd.session q.offered mine))

/-- An answer of a follower: ACCEPT or REFUSE with SESSION and OFFER_NO (R162). -/
def Port.answerOffer (q : Port) (t no : Nat) (rest : List Byte) : Port :=
  q.due t (beBytes 2 q.snd.session ++ beBytes 1 no ++ rest)

/-- OFFER_RECEIVE (R20, R162 to R164): the follower answers once its group provides the rate, or refuses. -/
def execOfferReceive (p : PortId) (session : Nat) (o : Offer) (s : State) : Host.Outcome State Fault Refusal :=
  .next (
    let q := s.port p
    if !q.sessionIs session || q.snd.leader || q.snd.goDone then s
    else
      let answered := match q.snd.offer, q.snd.diffLast with
        | some x, some f => decide (x.no = o.no) && (decide (f.typ = 0x05) || decide (f.typ = 0x06))
        | _, _ => false
      if answered then s.modPort p (Port.dueAgain true)
      else
        let s := s.modPort p fun q => { q with snd := { q.snd with offer := some o, closing := none } }
        if o.mode = 0 then
          s.modPort p fun q => ({ q with snd := { q.snd with closing := some o.rate } } : Port).answerOffer 0x05 o.no []
        else if s.canProvide p (rateFreq o.rate) then
          (needFreq p (rateFreq o.rate) s).modPort p fun q => q.answerOffer 0x05 o.no []
        else
          let rates := s.ratesByte p
          s.modPort p fun q => q.answerOffer 0x06 o.no (beBytes 1 rates))

/-- ACCEPT_RECEIVE (R162, R164): GO once the leader's own group provides the rate, or a new OFFER. -/
def execAcceptReceive (p : PortId) (session no : Nat) (s : State) : Host.Outcome State Fault Refusal :=
  .next (
    let q := s.port p
    if !q.sessionIs session || !q.snd.leader || q.snd.goDone then s
    else
      match q.snd.offer, q.snd.diffLast with
      | some o, some f =>
        if o.no ≠ no || f.typ ≠ 0x04 then s
        else
          match q.snd.closing with
          | some code => failParley p code s
          | none =>
            if s.canProvide p (rateFreq o.rate) then
              (needFreq p (rateFreq o.rate) s).modPort p fun q => q.due 0x07 (beBytes 2 q.snd.session)
            else sendOffer p (no + 1) s
      | _, _ => s)

/-- REFUSE_RECEIVE (R162): a new OFFER with the follower's RATES. -/
def execRefuseReceive (p : PortId) (session no rates : Nat) (s : State) : Host.Outcome State Fault Refusal :=
  .next (
    let q := s.port p
    if !q.sessionIs session || !q.snd.leader || q.snd.goDone then s
    else
      match q.snd.offer with
      | some o =>
        if o.no ≠ no || q.snd.closing.isSome then s
        else sendOffer p (no + 1) (s.modPort p fun q =>
          { q with snd := { q.snd with partner := q.snd.partner.map fun c => { c with rates := rates } } })
      | none => s)

/-- GO_RECEIVE (R162): the follower puts the agreed parameters in force. -/
def execGoReceive (p : PortId) (session : Nat) (s : State) : Host.Outcome State Fault Refusal :=
  .next (
    let q := s.port p
    let accepted := match q.snd.offer, q.snd.diffLast with
      | some o, some f => decide (f.typ = 0x05) && decide (o.mode ≠ 0)
      | _, _ => false
    if !q.sessionIs session || q.snd.leader || q.snd.goDone || !accepted then s else applyGo p s)

/-- PARLEY_RESEND (R152, R163, R315): 5 ms without a reply; at most 3 resends. An IL_REQ without an answer ends in TIMEOUT. -/
def execParleyResend (p : PortId) (s : State) : Host.Outcome State Fault Refusal :=
  .next (
    let q := s.port p
    let asks := match q.snd.diffLast with
      | some f => (q.inParley && q.snd.leader && !q.snd.goDone && (decide (f.typ = 0x03) || decide (f.typ = 0x04)))
          || (decide (f.typ = 0x40) && decide (q.diag.il = .requested))
      | none => false
    if !asks || q.snd.diffDue.isSome || s.relocking p then s
    else if q.snd.diffResends < 3 then
      s.modPort p fun q =>
        let q := q.dueAgain false
        { q with snd := { q.snd with diffResends := q.snd.diffResends + 1 } }
    else if q.diag.il = .requested then diagEnd p 0x06 s
    else s)

/-- PARLEY_TIMEOUT (R152, R164): 40 ms in PARLEY, or the resends of R163 are exhausted; a leader whose closing OFFER's resends got no
ACCEPT fails with its code. -/
def execParleyTimeout (p : PortId) (exhausted : Bool) (s : State) : Host.Outcome State Fault Refusal :=
  .next (
    let q := s.port p
    let out := q.snd.leader && decide (3 ≤ q.snd.diffResends)
    if !q.inParley || q.snd.goDone || q.link.downDue.isSome || s.relocking p || (exhausted && !out) then s
    else failParley p (if exhausted then q.snd.closing.getD 4 else 4) s)

/-- NEG_RETRY_EXPIRE (R152, R164, R182): RETRY ms after the failure the port, or a sub-port of it, starts again. -/
def execNegRetryExpire (p : PortId) (sub : Option SubId) (s : State) : Host.Outcome State Fault Refusal :=
  .next (
    if s.relocking p then s
    else match sub with
    | none =>
      if !(s.port p).link.retryHold then s
      else startLink p (s.modPort p fun q => { q with link := { q.link with retryHold := false } })
    | some i =>
      let b := (s.port p).ieee[i.val]
      if !b.retry || b.state ≠ .down then s
      else
        let s := s.modPort p fun q => { q with ieee := updAt q.ieee i fun b => { b with retry := false } }
        if (s.port p).link.state = .down then startLink p s
        else if (s.port p).enabled && !s.portSafe p then enterIeee p (fun k => decide (k = i.val)) s
        else s)

/-! ### The end of what is sent -/

/-- The burst of the next lane of a train's mask at or after one (R160). -/
def Port.nextBurst (fs : Nat) (q : Port) (mask from' : Nat) : Port :=
  match allLanes.find? fun n => decide (from' ≤ n.val) && mask.testBit n.val with
  | some n =>
    let q := q.diffChirps fs q.snd.sessionSf n probeChirps
    { q with snd := { q.snd with train := some n.val } }
  | none => { q with snd := { q.snd with train := none } }

/-- The mask of the PROBE last sent. -/
def Port.probeMask (q : Port) : Nat :=
  match q.snd.diffLast with
  | some f => if f.typ = 0x03 then (f.payload.getD 2 0).toNat else 0
  | none => 0

/-- The next packet fragment of the sounding-only path falls due (R165, R498). -/
def Port.soundingOnlyNext (q : Port) : Port :=
  if q.snd.path = .soundingOnly && q.snd.diffDue.isNone then
    match q.snd.queue with
    | f :: rest => ({ q with snd := { q.snd with queue := rest } } : Port).dueAs false f.typ f.payload
    | [] => q
  else q

/-- A differential frame has been sent (R148, R159, R160, R162, R164). -/
def diffSent (p : PortId) (f : SndFrame) (s : State) : State :=
  let s := s.modPort p fun q =>
    let q := q.modLane 0 (Lane.endChirps false (decide (q.link.state = .down)))
    { q with snd := { q.snd with diffCur := none } }
  let q := s.port p
  let fs := sampleKhz (s.group p).freq
  if f.typ = 0x02 && q.inParley && q.snd.leader then s.modPort p Port.firstProbe
  else if f.typ = 0x03 then s.modPort p fun q => q.nextBurst fs ((f.payload.getD 2 0).toNat) 0
  else if f.typ = 0x07 && q.inParley then applyGo p s
  else if f.typ = 0x05 && q.inParley then
    match q.snd.closing with
    | some code => failParley p code s
    | none => s
  else s.modPort p Port.soundingOnlyNext

/-- SOUNDING_FRAME_SENT (R51, R148, R149, R160). -/
def execSoundingFrameSent (p : PortId) (kind : SentKind) (s : State) : Host.Outcome State Fault Refusal :=
  .next (
    let q := s.port p
    match kind with
    | .diff =>
      match q.snd.diffCur with
      | some f => diffSent p f s
      | none => s
    | .cm =>
      match q.snd.cur with
      | some f => s.modPort p fun q =>
          { q.cmEnd with snd := { q.snd with cur := none, await := if f.expects then q.snd.await ++ [f] else q.snd.await } }
      | none => s
    | .chirp =>
      match q.snd.train with
      | some i =>
        let fs := sampleKhz (s.group p).freq
        s.modPort p fun q =>
          let q := q.mapLanes fun n l => if n.val = i then l.endChirps false false else l
          q.nextBurst fs q.probeMask (i + 1)
      | none => s)

end Sys2Proof.Machine
end

