-- ==== Sys2Proof/Machine/Train.lean ====
section
/-!
DEFINITION. Native link training (R166 to R169) and the entry into DOWN (R264).
-/
namespace Sys2Proof.Machine

/-! ### Steps -/

/-- What a side does on the lanes of the set in a step (Tables 5.11 and 3.6): whether it sends patterns, and its receivers'
phase. -/
def stepRole (duplex leader : Bool) (step : Nat) : Bool × RxPhase :=
  if duplex then
    match step with
    | 1 => if leader then (true, .echo) else (false, .far)
    | 2 => if leader then (false, .far) else (true, .echo)
    | _ => (true, .joint)
  else
    match step with
    | 1 => (leader, .far)
    | 2 => (true, .far)
    | _ => (true, .joint)

/-- A lane of the set in a training step. -/
def Lane.trainStep (l : Lane) (r : Bool × RxPhase) : Lane :=
  let l := l.enterPhase r.2
  { l with tx := { l.tx with
      state := match l.tx.state with
        | .idle | .data => if r.1 then .data else .idle
        | x => x,
      pat := if r.1 then l.tx.pat else none } }

/-- A lane removed from the training set (R168): IDLE with no common-mode injection, and its receiver OFF. -/
def Lane.trainOut (l : Lane) : Lane :=
  let l := (l.endChirps true false).enterPhase .off
  { l with tx := { l.tx with state := match l.tx.state with | .data => .idle | x => x, pat := none } }

/-- A step of training begins. -/
def Port.trainStep (q : Port) (step : Nat) : Port :=
  let r := stepRole (decide (q.modeRate.1 = 2)) q.snd.leader step
  let q := (q.mapLanes fun n l => if q.snd.set.testBit n.val then l.trainStep r else l).zeroUnused
  { q with snd := { q.snd with step := step, switchTo := none, partnerConv := 0, partnerCdr := 0 } }

/-- A lane of the training set still waits for the agreed range (R48, R162). -/
def Port.rangesWait (q : Port) : Bool := allLanes.any fun n => q.snd.set.testBit n.val && (q.lanes[n.val]).tx.rangeNext.isSome

/-- TRAIN_START (R18, R20, R48, R72, R162, R166): TRAIN_GO_DELAY after GO; the common-mode instance runs from now on. A port whose group
provides the agreed rate no more, because another port moved it, needs it again or waits with CONFLICT; one whose agreed range is
not yet in force waits for it: the command comes again. TRAIN_STATs are numbered from SEQ 0, and ACK_SEQ reads 0 until a frame of
the partner's has come (DESIGN CHOICE: R167 gives neither; log entry 111). -/
def execTrainStart (p : PortId) (s : State) : Host.Outcome State Fault Refusal :=
  .next (
    let q := s.port p
    let f := rateFreq q.modeRate.2
    if !q.inParley || !q.snd.goDone || q.link.downDue.isSome || s.relocking p then s
    else if !s.provides p f then needFreq p f s
    else if q.rangesWait then s
    else
      let s := s.modPort p fun q =>
        let q := q.mapLanes fun _ l => { l with rx := { l.rx with follow := !q.snd.leader } }
        let q := { q with snd := { q.snd with cmCtrl := q.act .sndCmCtrl, tsSeq := 255, tsAck := 256, partnerStep := 0,
                                              tsResp := List.replicate 8 0, tapReq := List.replicate 8 0, tsDue := false,
                                              diffDue := none, queue := [], await := [], cur := none } }
        q.trainStep 1
      setLink p .train s)

/-! ### TRAIN_STAT -/

/-- TRAIN_STAT_SEND (R167): the frame falls due with the tap requests of firmware, eight of 16 bits. -/
def execTrainStatSend (p : PortId) (req : List (BitVec 16)) (s : State) : Host.Outcome State Fault Refusal :=
  .next (
    let q := s.port p
    if q.link.state ≠ .train || q.snd.path ≠ .native then s
    else queueTs p (s.modPort p fun q =>
      { q with snd := { q.snd with tapReq := (List.range 8).map fun i => (req.getD i 0).setWidth 32 } }))

/-- A step of one tap as a 2-bit code asks (R167). -/
def tapCode (v : Int) (code : Nat) : Int := match code with | 1 => v + 1 | 2 => v - 1 | _ => v

/-- The taps a request asks for (R167): hold, preset to the committed values, or step; codes in the order PRE3 to POST2. -/
def Lane.tapsAsked (l : Lane) (w : Nat) : Taps :=
  let t := l.taps
  let c := fun (i : Nat) => w / 4 ^ (5 - i) % 4
  match w / 2 ^ 14 with
  | 1 => l.tapsAccepted
  | 2 => { pre3 := tapCode t.pre3 (c 0), pre2 := tapCode t.pre2 (c 1), pre1 := tapCode t.pre1 (c 2),
           main := tapCode t.main (c 3), post1 := tapCode t.post1 (c 4), post2 := tapCode t.post2 (c 5) }
  | _ => t

/-- A request applied to a lane and its response (R45, R46, R167): taps that R45 allows take effect at the next slot boundary. -/
def Lane.applyTap (l : Lane) (w : Nat) : Lane × Nat :=
  if l.tx.state ≠ .data then (l, 2)
  else
    let t := l.tapsAsked w
    if t.ok then ({ l with tx := { l.tx with tapsDue := some t } }, 0) else (l, 1)

/-- The requests of a new SEQ applied to every lane (R167). -/
def Port.applyTaps (q : Port) (req : List (BitVec 16)) : Port :=
  let resp := (List.range 8).map fun i =>
    if h : i < 8 then (q.lanes[i].applyTap (req.getD i 0).toNat).2 else 0
  let q := q.mapLanes fun n l => (l.applyTap (req.getD n.val 0).toNat).1
  { q with snd := { q.snd with tsResp := resp } }

/-- The follower adopts the leader's training set (R168). -/
def Port.adoptSet (q : Port) (set : Nat) : Port :=
  let gone := q.snd.set &&& (0xFF ^^^ set)
  let q := q.mapLanes fun n l => if gone.testBit n.val then l.trainOut else l
  { q with snd := { q.snd with set := q.snd.set &&& set } }

/-- A TRAIN_STAT of the partner's answers those that asked (R149): the leader's at a STEP that has caught up, the follower's at an
acknowledged SEQ. -/
def Port.tsAnswered (q : Port) (step ack : Nat) : Port :=
  let done := fun (f : SndFrame) => f.asks && decide (f.typ = 0x08)
    && (if q.snd.leader then decide ((f.payload.getD 2 0).toNat ≤ step) else decide ((f.payload.getD 3 0).toNat = ack))
  { q with snd := { q.snd with await := q.snd.await.filter (fun f => !done f), queue := q.snd.queue.filter fun f => !done f } }

/-- Training fails with a RESULT (R168). -/
def failTrain (p : PortId) (code : Nat) (s : State) : State :=
  downDue p 2 (s.modPort p fun q => { q with snd := { q.snd with result := code } })

/-- The set falls below MIN_LANES (R168): the port returns to DOWN. -/
def setJudged (p : PortId) (s : State) : State :=
  if popcount8 (s.port p).snd.set < (s.port p).minLanes && decide ((s.port p).link.state = .train) then failTrain p 8 s else s

/-- TRAIN_STAT_RECEIVE (R149, R167, R168): SESSION, STEP, SEQ, the CONV and CDR masks, tap requests, ACK_SEQ and the training set. -/
def execTrainStatReceive (p : PortId) (session step seq conv cdr : Nat) (req : List (BitVec 16)) (ack set : Nat) (s : State) :
    Host.Outcome State Fault Refusal :=
  .next (
    let q := s.port p
    let on := decide (q.snd.path = .native) && (decide (q.link.state = .train) || decide (q.link.state = .align))
    if !on || session ≠ q.snd.session then s
    else
      let fresh := decide (seq ≠ q.snd.tsAck)
      let s := if fresh && decide (q.link.state = .train) then s.modPort p fun q => q.applyTaps req else s
      let s := s.modPort p fun q => ({ q with snd := { q.snd with tsAck := seq, partnerStep := step } } : Port).tsAnswered step ack
      if q.snd.leader then
        if step < q.snd.step then queueTs p s
        else if step = q.snd.step then
          let s := s.modPort p fun q => { q with snd := { q.snd with partnerConv := conv, partnerCdr := cdr } }
          let q := s.port p
          if q.link.state = .train && q.snd.switchTo.isNone && decide (q.stepMet = q.snd.set) then queueTs p s else s
        else s
      else
        let s := setJudged p (s.modPort p fun q => q.adoptSet set)
        if q.snd.step < step then s.modPort p fun q => { q with snd := { q.snd with switchTo := some step } } else s)

/-- TRAIN ends: every lane of the set goes to framed folios and the port enters ALIGN (R111, R114, R169, R262). -/
def toAlign (p : PortId) (s : State) : State :=
  let s := s.modPort p fun q =>
    let q := q.mapLanes fun n l =>
      if q.snd.set.testBit n.val then
        { l with tx := { l.tx with state := match l.tx.state with | .idle => .data | x => x },
                 code := { l.code with state := .hunt, lock := false, alignedF := false, deskewed := false,
                                       lastSlot := none, recvOfs := none } }
      else l
    { q with link := { q.link with fullLanes := popcount8 q.snd.set },
             code := { q.code with alignPeriods := 0, loaded := false, chg := none },
             snd := { q.snd with step := 4, switchTo := none } }
  setLink p .align s

/-- TRAIN_STEP_SWITCH (R167, R169): 20 µs after the announcement. -/
def execTrainStepSwitch (p : PortId) (s : State) : Host.Outcome State Fault Refusal :=
  .next (
    let q := s.port p
    match q.snd.switchTo with
    | none => s
    | some k =>
      if q.link.state ≠ .train then s
      else if 4 ≤ k then toAlign p s
      else s.modPort p fun q => q.trainStep k)

/-- TRAIN_STEP_TIMEOUT (R168): the leader removes the lanes that have not met the end condition. -/
def execTrainStepTimeout (p : PortId) (s : State) : Host.Outcome State Fault Refusal :=
  .next (
    let q := s.port p
    if q.link.state ≠ .train || q.snd.path ≠ .native || !q.snd.leader || q.snd.switchTo.isSome then s
    else
      let keep := q.stepMet
      if popcount8 keep < q.minLanes then failTrain p 8 s
      else queueTs p (s.modPort p fun q => q.adoptSet keep))

/-- TRAIN_PARTNER_TIMEOUT (R168). -/
def execTrainPartnerTimeout (p : PortId) (s : State) : Host.Outcome State Fault Refusal :=
  .next (if (s.port p).link.state = .train && (s.port p).snd.path = .native then failTrain p 0xA s else s)

/-- TRAIN_TIMEOUT (R168). -/
def execTrainTimeout (p : PortId) (s : State) : Host.Outcome State Fault Refusal :=
  .next (if (s.port p).link.state = .train && (s.port p).snd.path = .native then failTrain p 9 s else s)

/-! ### DOWN -/

/-- PORT_DOWN_ENTER (R20, R21, R164, R264, R298, R558): at the next slot boundary after a cause. A port that failed to negotiate
or train holds off before it starts again, but for a restart and for lane 0 off; one that no frequency of its group is left to
(RESULT 0x6) waits on with CONFLICT. -/
def execPortDownEnter (p : PortId) (s : State) : Host.Outcome State Fault Refusal :=
  .next (
    let q := s.port p
    match q.link.downDue with
    | none => s
    | some c =>
      let again := q.link.restart
      let stays := decide (c = 2) && decide (q.snd.result = 6) && (s.group p).waiting.contains p
      let s := enterDown p c (if q.diag.running = some .il then diagEnd p 0x09 s else s)
      let s := if stays then s else setWaiting p false s
      let held := decide (c = 2) && decide (q.snd.result ≠ 0xB) && !again
      startLink p (s.modPort p fun q =>
        { q with link := { q.link with restart := false, retryHold := (q.link.retryHold || held) && !again } }))

end Sys2Proof.Machine
end

