-- ==== Sys2Proof/Machine/Link.lean ====
section
/-!
DEFINITION. Link control (R261 to R281): requests, the quality snapshot, QUIET with its refresh windows, and waking.
-/
namespace Sys2Proof.Machine

/-! ### Requests -/

/-- A write of LINK_REQ (R264, R278, Table 10.11). -/
def writeLinkReq (who : Initiator) (p : PortId) (v : Word) (s : State) : State :=
  let q := s.port p
  let wake := bitOf v 1
  let quiet := decide (q.link.state = .quiet)
  let s := if wake && quiet then wakeTrigger p s else s
  let s :=
    if !bitOf v 0 then s
    else if q.link.state = .down then
      startLink p (setWaiting p false (s.modPort p fun q => { q with link := { q.link with retryHold := false } }))
    else downDue p 9 (s.modPort p fun q => { q with link := { q.link with restart := true } })
  if wake && !quiet then ignored who (portBase p + 0x80C) s else written s

/-- LINK_REQ_WAKE (R278). -/
def execLinkReqWake (who : Initiator) (p : PortId) (v : Word) (s : State) : Host.Outcome State Fault Refusal :=
  .next (regWrite who (portBase p + 0x80C) s (writeLinkReq who p v))

/-- LINK_REQ_RESTART (R264). -/
def execLinkReqRestart (who : Initiator) (p : PortId) (v : Word) (s : State) : Host.Outcome State Fault Refusal :=
  .next (regWrite who (portBase p + 0x80C) s (writeLinkReq who p v))

/-- A write of LINK_SNAP (R269). -/
def writeLinkSnap (who : Initiator) (p : PortId) (v : Word) (s : State) : State :=
  if !bitOf v 31 then written s
  else if !(s.port p).link.snapDone then ignored who (portBase p + 0x818) s
  else written (s.modPort p fun q => { q with link := { q.link with snapDone := false } })

/-- LINK_SNAP_REQUEST (R269). -/
def execLinkSnapRequest (who : Initiator) (p : PortId) (v : Word) (s : State) : Host.Outcome State Fault Refusal :=
  .next (regWrite who (portBase p + 0x818) s (writeLinkSnap who p v))

/-- LANE_QUAL (Table 10.15). -/
def LaneQual.word (x : LaneQual) : Word := fld x.eyeW 25 7 ||| fld x.eyeH 17 8 ||| fld x.margin 0 12

/-- LINK_SNAP_TAKE (R269). -/
def execLinkSnapTake (p : PortId) (s : State) : Host.Outcome State Fault Refusal :=
  .next (
    if (s.port p).link.snapDone then s
    else s.modPort p fun q =>
      let q := q.mapLanes fun _ l => { l with qual := { l.qual with snap := l.qual.word } }
      { q with link := { q.link with snapDone := true, snapSlot := q.nextSlot % 65536 } })

/-! ### Entering QUIET -/

/-- The agreed FEATURES include QUIET (LINK_STAT.QUIET_AGREED). -/
def Port.quietAgreed (q : Port) : Bool :=
  match q.snd.agreed with
  | some o => o.features.testBit 0
  | none => false

/-- A far-end loopback on a lane of the port: neither side requests QUIET (R405). -/
def Port.farLoop (q : Port) : Bool := q.lanes.toList.any fun l =>
  decide (l.test.loop = .farAsked) || l.test.loop.isFar

/-- The conditions of R271, apart from the idle time. -/
def Port.quietOk (q : Port) : Bool :=
  let w := q.act .linkCtrl
  q.quietAgreed && bitOf w 2 && (decide (q.link.state = .up) || decide (q.link.state = .degraded)) && q.code.chg.isNone
    && !q.adding && (decide (q.cls ≠ 0) || bitOf w 3) && q.lre.idle && decide (q.parcelsHeld = 0)
    && decide (q.spill.h2l.sram = 0) && q.link.downDue.isNone

/-- QUIET_REQUEST (R271, R273): the host has been idle for QUIET_IDLE. -/
def execQuietRequest (p : PortId) (s : State) : Host.Outcome State Fault Refusal :=
  .next (
    let q := s.port p
    if !q.quietOk || q.farLoop || q.link.quietPend || q.link.quietReq.isSome then s
    else
      let e := q.epochAfter 256
      queueCm p 0x20 (linkMsg 1 e) (s.modPort p fun q => { q with link := { q.link with quietReq := some e } }))

/-- A QUIET epoch is agreed (R273). -/
def Port.quietAt (q : Port) (e : Nat) : Port :=
  { q with link := { q.link with quietPend := true, quietEpoch := e % epochMod, quietReq := none },
           snd := { q.snd with await := q.snd.await.filter (fun f => !f.isQuietReq),
                               queue := q.snd.queue.filter fun f => !f.isQuietReq } }

/-- The port's QUIET_REQ has started at least once: a request of the partner crosses it (R273). -/
def Port.quietReqSent (q : Port) : Bool :=
  q.snd.await.any SndFrame.isQuietReq || q.snd.cur.any SndFrame.isQuietReq
    || q.snd.queue.any fun f => f.isQuietReq && decide (0 < f.resends)

/-- QUIET_REQ_RECEIVE (R272, R273): requests that cross acknowledge each other at the later epoch; a request of this port that
has not started yet gives way to the partner's. An epoch number above 26 bits is malformed. -/
def execQuietReqReceive (p : PortId) (epoch : Nat) (s : State) : Host.Outcome State Fault Refusal :=
  .next (
    let q := s.port p
    if !q.noticesOk || decide (epochMod ≤ epoch) then s
    else
      match q.link.quietReq, q.quietReqSent with
      | some e, true => s.modPort p fun q => q.quietAt (laterEpoch e epoch)
      | _, _ =>
        if q.link.quietPend && decide (q.link.quietEpoch = epoch) then queueCm p 0x20 (linkMsg 2 epoch) s
        else if q.quietOk then queueCm p 0x20 (linkMsg 2 epoch) (s.modPort p fun q => q.quietAt epoch)
        else queueCm p 0x20 (linkMsg 3 epoch) s)

/-- QUIET_ACK_RECEIVE (R273). -/
def execQuietAckReceive (p : PortId) (epoch : Nat) (s : State) : Host.Outcome State Fault Refusal :=
  .next (
    let q := s.port p
    if q.noticesOk && decide (q.link.quietReq = some epoch) then s.modPort p fun q => q.quietAt epoch else s)

/-- QUIET_DECLINE_RECEIVE (R273): no request until QUIET_IDLE has elapsed afresh. -/
def execQuietDeclineReceive (p : PortId) (epoch : Nat) (s : State) : Host.Outcome State Fault Refusal :=
  .next (
    let q := s.port p
    if !q.noticesOk || q.link.quietReq ≠ some epoch then s
    else s.modPort p fun q =>
      let q := q.quietAt epoch
      { q with link := { q.link with quietPend := false } })

/-- The checks that begin a wake at the entry and at the end of a window (R273, R275): a pending NAK entry, an open gap, or a
host-to-line backlog. -/
def Port.unsettled (q : Port) : Bool :=
  !q.lre.naks.isEmpty || !q.lre.held.isEmpty || decide (0 < q.spill.h2l.sram)

/-- Receivers of the lanes in the map go to HOLD. -/
def Port.rxHold (q : Port) : Port :=
  q.mapLanesIn fun l =>
    let l := l.enterPhase .hold
    { l with cal := { l.cal with dacFolios := 0 } }

/-- QUIET_ENTER (R273): at the epoch's first slot of this side's transmit count. -/
def execQuietEnter (p : PortId) (s : State) : Host.Outcome State Fault Refusal :=
  .next (
    let q := s.port p
    let data := decide (q.link.state = .up) || decide (q.link.state = .degraded)
    if !q.link.quietPend || !data || !epochReached (q.nextSlot / 64) q.link.quietEpoch then s
    else
      let s := s.modPort p fun q =>
        { q.txMap false with link := { q.link with quietPend := false, quietQ := q.link.quietEpoch * 64 % slotMod, refreshK := 1,
                                                    inWindow := false, winSlot := 0, quietHold := true } }
      reHold p (holdFall p (guarJudge p (setLink p .quiet s))))

/-- Receivers enter HOLD once the partner's last slot before the epoch has arrived on every lane in the map, and the entry checks
are made (R273). -/
def quietSettle (p : PortId) (s : State) : State :=
  let q := s.port p
  let late := allLanes.all fun n => !q.code.map.testBit n.val ||
    match q.recv n with
    | some r => !slotBefore r q.link.quietQ
    | none => true
  if q.link.state ≠ .quiet || !q.link.quietHold || !late then s
  else
    let s := s.modPort p fun q => { q.rxHold with link := { q.link with quietHold := false } }
    if (s.port p).unsettled then wakeStart p false s else s

/-! ### Refresh windows -/

/-- Triggers that stand on the lanes of a port, evaluated inside a window (R121, R275): lock, CDR lock, alignment, skew and
identity. -/
def standingTriggers (p : PortId) (s : State) : State :=
  allLanes.foldl (fun s n =>
    let l := s.lane p n
    if l.code.state ≠ .active then s
    else if !l.code.lock then ownTrigger p n 1 s
    else if !l.rx.cdrLock then ownTrigger p n 2 s
    else if !l.code.alignedF then ownTrigger p n 3 s
    else if l.code.excess then ownTrigger p n 4 s
    else if l.code.idErr then ownTrigger p n 9 s
    else s) s

/-- REFRESH_WINDOW_START (R274, R275). -/
def execRefreshWindowStart (p : PortId) (s : State) : Host.Outcome State Fault Refusal :=
  .next (
    let q := s.port p
    if q.link.state ≠ .quiet || q.link.inWindow || !q.inWindowK q.link.refreshK q.nextSlot then s
    else
      let s := s.modPort p fun q =>
        let q := (q.txMap true).mapLanesIn fun l => l.enterPhase .track
        { q with link := { q.link with inWindow := true, winSlot := 0 } }
      standingTriggers p s)

/-- REFRESH_WINDOW_END (R93, R275): after the window's last slot. -/
def execRefreshWindowEnd (p : PortId) (s : State) : Host.Outcome State Fault Refusal :=
  .next (
    let q := s.port p
    if q.link.state ≠ .quiet || !q.link.inWindow || q.inWindowK q.link.refreshK q.nextSlot then s
    else
      let s := allLanes.foldl (fun s n => if q.code.map.testBit n.val then windowDrift p n s else s) s
      let s := s.modPort p fun q => { q with link := { q.link with refreshK := q.link.refreshK + 1 } }
      if (s.port p).unsettled then wakeStart p true s
      else s.modPort p fun q =>
        { (q.txMap false).rxHold with link := { q.link with inWindow := false, winSlot := 0 } })

/-! ### Waking -/

/-- WAKE_TRIGGER (R276, R278, Table 10.6). A host block wakes ports of class 1 to 3 only. -/
def execWakeTrigger (p : PortId) (why : WakeCause) (s : State) : Host.Outcome State Fault Refusal :=
  .next (
    match why with
    | .hostBlock => if (s.port p).cls = 0 then s else wakeTrigger p s
    | .check => if (s.port p).unsettled then wakeTrigger p s else s
    | .quietEnd =>
      let w := (s.port p).act .linkCtrl
      if !bitOf w 2 || ((s.port p).cls = 0 && !bitOf w 3) then wakeTrigger p s else s
    | .request => wakeTrigger p s)

/-- The burst ends with the answer of two accepted heads (R151, R279). -/
def Port.burstAnswered (q : Port) : Port :=
  if 2 ≤ q.link.wakeHeads then q.burstEnd else q

/-- WAKE_TX_DATA (R279): 1,250 ns + RTT / 2 after the burst start, at a slot boundary. -/
def execWakeTxData (p : PortId) (s : State) : Host.Outcome State Fault Refusal :=
  .next (
    let q := s.port p
    if q.link.state ≠ .wake || q.link.wakeRole ≠ .initiator || q.link.wakeData then s
    else wakeComplete p (s.modPort p fun q =>
      ({ q.txMap true with link := { q.link with wakeData := true } } : Port).burstAnswered))

/-- WAKE_RESPOND (R279): at the first slot boundary after detection. -/
def execWakeRespond (p : PortId) (s : State) : Host.Outcome State Fault Refusal :=
  .next (
    let q := s.port p
    if q.link.state ≠ .wake || q.link.wakeRole ≠ .responder || q.link.wakeData then s
    else wakeComplete p (s.modPort p fun q =>
      { (q.txMap true).rxTrack with link := { q.link with wakeData := true } }))

/-- WAKE_BURST_TIMEOUT (R151, R279): a burst that ends at 8 µs without an answer is sent once more. -/
def execWakeBurstTimeout (p : PortId) (s : State) : Host.Outcome State Fault Refusal :=
  .next (
    let q := s.port p
    if !q.link.burst then s
    else if 2 ≤ q.link.wakeHeads then wakeComplete p (s.modPort p Port.burstAnswered)
    else if q.link.bursts < 2 then
      let fs := sampleKhz (s.group p).freq
      s.modPort p fun q => ({ q with link := { q.link with bursts := q.link.bursts + 1 } } : Port).burstChirps fs
    else s.modPort p Port.burstEnd)

/-- WAKE_TIMEOUT (R279): 20 µs after the trigger or detection. -/
def execWakeTimeout (p : PortId) (s : State) : Host.Outcome State Fault Refusal :=
  .next (
    if (s.port p).link.state ≠ .wake then s
    else downDue p 7 (s.modPort p fun q => { q with link := { q.link with wakeFail := satAdd 8 q.link.wakeFail 1 } }))

/-- WAKE_BURST_DETECT (R151, R278, R279): the detector declares a wake; a side in QUIET is a responder. -/
def execWakeBurstDetect (p : PortId) (s : State) : Host.Outcome State Fault Refusal :=
  .next (
    if (s.port p).link.state ≠ .quiet then s
    else
      let s := setLink p .wake s
      let s := s.modPort p fun q =>
        { q with link := { q.link with wakeRole := .responder, burst := false, bursts := 0, wakeData := false, wakeHeads := 0,
                                       inWindow := false, winSlot := 0, quietHold := false } }
      reHold p (if (s.port p).cls = 0 then holdFall p s else s))

/-! ### Resends -/

/-- SND_FRAME_RESEND (R129, R149, R273, R405): the k-th waiting frame has had no reply within 160 chirp times and its random
delay; the fourth resend is the last, and then what it asked for lapses. -/
def execSndFrameResend (p : PortId) (k : Nat) (s : State) : Host.Outcome State Fault Refusal :=
  .next (
    match (s.port p).snd.await[k]? with
    | none => s
    | some f =>
      let s := s.modPort p fun q => { q with snd := { q.snd with await := q.snd.await.eraseIdx k } }
      if f.resends < 4 then
        s.modPort p fun q =>
          { q with snd := { q.snd with queue := q.snd.queue ++ [{ f with resends := f.resends + 1 }] } }
      else
        let b := (f.payload.getD 1 0).toNat
        match f.typ with
        | 0x11 => if h : b < 8 then
            if (s.port p).code.addSent.testBit b then judgeWaiting p (failAdd p ⟨b, h⟩ s) else s
          else s
        | 0x20 => s.modPort p fun q => { q with link := { q.link with quietReq := none } }
        | 0x21 => if h : b < 8 then loopReqFails p ⟨b, h⟩ 0x06 s else s
        | _ => s)

end Sys2Proof.Machine
end

