-- ==== Sys2Proof/Machine/Ieee.lean ====
section
/-!
DEFINITION. IEEE 802.3 modes (R171 to R190): sub-ports, Clause 73, link training as far as the device's state goes, rate
compensation and Clause 45 writes; and the lock of a lane PLL group, which lets a waiting sub-port train (R19, R20, R332).
-/
namespace Sys2Proof.Machine

/-! ### Sub-ports -/

/-- Line lanes of a PHY (Table 6.1). -/
def phyLanes : Nat → Nat
  | 1 | 5 => 1
  | 2 | 6 => 2
  | 3 | 7 => 4
  | 4 | 8 => 8
  | _ => 0

/-- Width of a port's sub-ports (R175). -/
def Port.subWidth (q : Port) : Nat := 8 / q.subs

/-- The line lanes that a sub-port's resolved PHY uses: its lowest (R176). -/
def Port.subLanes (q : Port) (i : SubId) : Nat :=
  maskOf 8 fun n => decide (i.val * q.subWidth ≤ n) && decide (n < i.val * q.subWidth + phyLanes q.ieee[i.val].phy)

/-- Every line lane of a sub-port. -/
def Port.subAll (q : Port) (i : SubId) : Nat :=
  maskOf 8 fun n => decide (i.val * q.subWidth ≤ n) && decide (n < (i.val + 1) * q.subWidth)

/-- The PHYs a sub-port advertises, bit code − 1 (R176, R189). -/
def Port.advertised (q : Port) (i : SubId) : Nat :=
  let w := q.act .ieeeCfg
  maskOf 8 fun k => decide (phyLanes (k + 1) ≤ q.subWidth) && bitOf w (if k < 4 then 9 else 8)
    && q.ieee[i.val].advMask.testBit k

/-- Change a sub-port. -/
def modSub (p : PortId) (i : SubId) (f : IeeeSub → IeeeSub) (s : State) : State :=
  s.modPort p fun q => { q with ieee := updAt q.ieee i f }

/-- The lanes of a sub-port at rest: IDLE with the committed taps, receivers OFF. -/
def Port.subIdle (q : Port) (i : SubId) : Port :=
  let m := q.subAll i
  q.mapLanes fun n l =>
    if m.testBit n.val then
      let l := l.enterPhase .off
      { l with tx := { l.tx with state := match l.tx.state with | .data => .idle | x => x, tapsDue := some l.tapsAccepted, dac := [] },
               rx := { l.rx with snr := 0, anchorValid := false } }
    else l

/-- The taps a clause's training leaves to the transmitter: POST2 has no coefficient of its own and is held at 0 (R46; PRESUMED that
the clauses define c(−3) to c(1); log entry 112). -/
def Taps.clause (t : Taps) : Taps := { t with post2 := 0 }

/-- A sub-port enters TRAIN: the lanes it uses send, and their receivers enter FAR (R46, R83, R181). -/
def subTrain (p : PortId) (i : SubId) (s : State) : State :=
  let s := modSub p i (fun b => { b with state := .train, waitGroup := false, atLimit := 0, comp := 32, compTx := 32, drop := .none,
                                         dropTx := .none }) s
  let s := s.modPort p fun q =>
    let m := q.subLanes i
    q.mapLanes fun n l =>
      if m.testBit n.val then
        let l := (l.enterPhase .far).setTaps l.taps.clause
        { l with tx := { l.tx with walk := none, tapsDue := none, state := match l.tx.state with | .idle => .data | x => x } }
      else l
  setLink p (s.port p).subState s

/-- No sub-port of the port waits for its group any more. -/
def waitingDone (p : PortId) (s : State) : State :=
  if (s.port p).ieee.toList.any fun b => b.waitGroup then s else setWaiting p false s

/-- A sub-port goes to DOWN with its LAST_DOWN (R182, R264): the last one takes the port to DOWN at the next boundary. -/
def subDown (p : PortId) (i : SubId) (code : Nat) (retry : Bool) (s : State) : State :=
  let s := modSub p i (fun b => { b.toDown with lastDown := code, retry := retry }) (s.modPort p fun q => q.subIdle i)
  let s := endCond .rcOverflow (.port p) (waitingDone p s)
  if (s.port p).subState = .down then downDue p 0xA s else setLink p (s.port p).subState s

/-- A group's PLL locks at its target, 59.2 GHz for a first start under AUTO (R19, R20): sub-ports that wait for 53.125 GHz enter
TRAIN. -/
def groupLocked (k : PodId) (g : GroupId) (s : State) : State :=
  let s := podPllBack k g.val (s.modGroup k g fun x =>
    { x with lock := true, freq := x.target.getD (planFreq x.planInForce), target := none })
  (portsOfGroup k g.val).foldl (fun s p =>
    if !s.provides p .f53125 then s
    else
      let s := (List.finRange 8).foldl (fun s i =>
        if (s.port p).ieee[i.val].waitGroup && decide ((s.port p).ieee[i.val].state = .parley) then subTrain p i s else s) s
      waitingDone p s) s

/-- PLL_LOCK_REGAINED (R332, R343): a PLL locks on its reference. -/
def execPllLockRegained (pll : PllSel) (s : State) : Host.Outcome State Fault Refusal :=
  if s.pwr.trip then .next s else
  match pll with
  | .lane k g =>
    if !s.clk.rpllLock || !s.part.hasPod k || (s.pod k).groups[g.val].lock then .next s
    else .next (groupLocked k g s)
  | .host k h =>
    if !s.clk.rpllLock || !s.part.hasPod k then .next s
    else .next (podPllBack k (4 + h.val) (s.modPod k fun q => { q with hpll := updAt q.hpll h fun _ => true }))
  | .stack =>
    if (stackPllSettle s).clk.stkSrc = 0 then .next s
    else
      let s := stackPllSettle s
      let s := hubPllBack 0 { s with clk := { s.clk with stkLock := true } }
      .next (allStk.foldl (fun s p =>
        if (s.stk p).state = .clock && (s.stk p).rclk then stkToLock p s else s) s)
  | .cxl =>
    if !s.clk.rpllLock || !s.part.hasStore || !bitOf s.clk.gate 11 then .next s
    else .next (hubPllBack 1 { s with clk := { s.clk with cxlLock := true } })

/-- LPLL_RELOCK_DONE (R19, R20): the PLL locks at its target, 59.2 GHz for a first start under AUTO. -/
def execLpllRelockDone (k : PodId) (g : GroupId) (s : State) : Host.Outcome State Fault Refusal :=
  .next (
    if !s.part.hasPod k || !s.clk.rpllLock || s.pwr.trip || (s.pod k).groups[g.val].lock then s
    else groupLocked k g s)

/-! ### Clause 73 -/

/-- A sub-port is running IEEE. -/
def Port.subRuns (q : Port) (i : SubId) (st : SubState) : Bool := q.ieeeMode && decide (q.ieee[i.val].state = st)

/-- CLAUSE73_PAGE_RECEIVE (R19, R155): a valid base page on a sub-port's lowest lane, and the PHYs it offers, bit code − 1; during SOUND
it ends the window. A receiver whose group relocks discards it. -/
def execClause73PageReceive (p : PortId) (i : SubId) (page : BitVec 48) (able : BitVec 8) (s : State) :
    Host.Outcome State Fault Refusal :=
  .next (
    let q := s.port p
    let take := modSub p i fun b => { b with page := some page, able := able.toNat }
    if s.relocking p then s
    else if q.link.state = .sound then
      if i.val = 0 && bitOf q.snd.ctrl 4 && q.snd.diffDue.isNone then take (toClause73 p s) else s
    else if q.subRuns i .parley then take s
    else s)

/-- The clause's priority resolution among abilities in common (R176): the highest rate, and of one rate the fewest lanes (PRESUMED of
Clause 73; log entry 113). Zero: none. -/
def phyResolved (common : Nat) : Nat := ([8, 7, 4, 6, 3, 5, 2, 1].find? fun c => common.testBit (c - 1)).getD 0

/-- CLAUSE73_RESOLVE (R4, R18, R20, R176, R177, R251): the PHY that both sides advertise and that has priority. -/
def execClause73Resolve (p : PortId) (i : SubId) (s : State) : Host.Outcome State Fault Refusal :=
  .next (
    let q := s.port p
    let phy := phyResolved (q.advertised i &&& q.ieee[i.val].able)
    if !q.subRuns i .parley || q.ieee[i.val].page.isNone || phy = 0 then s
    else
      let s := modSub p i (fun b => { b with phy := phy }) s
      let s := needFreq p .f53125 s
      if s.provides p .f53125 then subTrain p i s
      else modSub p i (fun b => { b with waitGroup := true }) s)

/-- AN_ATTEMPT_TIMEOUT (R21, R152, R156, R177): no base page, or the group could not provide 53.125 GHz in time. A port whose partner can
meet no mode that a fixed plan serves keeps CONFLICT. -/
def execAnAttemptTimeout (p : PortId) (i : SubId) (s : State) : Host.Outcome State Fault Refusal :=
  .next (
    let q := s.port p
    let b := q.ieee[i.val]
    let plan := (s.group p).planInForce
    let served := decide (plan = 0) || decide (planFreq plan = .f53125) || !b.waitGroup
    if !q.subRuns i .parley || (b.page.isSome && !b.waitGroup) || s.relocking p then s
    else
      let s := modSub p i (fun b => { b with lastDown := 6 }) s
      let free := fun (s : State) => if served then waitingDone p s else s
      if q.soundsFirst then enterSound p (free (modSub p i IeeeSub.toDown s))
      else free (modSub p i IeeeSub.startAn s))

/-! ### Training and failure -/

/-- One coefficient request on the taps in force (R45, R46, R181): the taps after it, and whether it is answered
coefficient-at-limit. -/
def CoefReq.apply (r : CoefReq) (t : Taps) : Taps × Bool :=
  let u := (match r with
    | .preset x => x
    | .step k up => t.set k (if up then t.get k + 1 else t.get k - 1)).clause
  if u.ok then (u, false) else (t, true)

/-- The requests of a training in the order they came: the taps, and the answer to the last. -/
def coefsTrained (l : List CoefReq) (t : Taps) : Taps × Bool := l.foldl (fun x r => r.apply x.1) (t, false)

/-- IEEE_TRAIN_DONE (R46, R83, R181): the sub-port enters UP, with the taps that the partner's coefficient requests on each lane left
and the precoding that each side asked for. -/
def execIeeeTrainDone (p : PortId) (i : SubId) (partnerAsks wants : Bool) (reqs : List (LaneId × List CoefReq)) (s : State) :
    Host.Outcome State Fault Refusal :=
  .next (
    let q := s.port p
    if !q.subRuns i .train then s
    else
      let m := q.subLanes i
      let asked := fun (n : LaneId) => ((reqs.filter fun r => r.1 = n).flatMap fun r => r.2)
      let after := fun (n : LaneId) => coefsTrained (asked n) q.lanes[n.val].taps
      let limit := maskOf 8 fun k => if h : k < 8 then m.testBit k && (after ⟨k, h⟩).2 else false
      let s := modSub p i (fun b => { b with state := .up, atLimit := limit, precodeTx := partnerAsks,
                                             precodeRx := wants && bitOf (q.act .ieeeCfg) 4 }) s
      let s := s.mapLanes p fun n l =>
        if m.testBit n.val then
          let l := (l.setTaps (after n).1).enterPhase .track
          { l with rx := { l.rx with uncSince := 0 } }
        else l
      setLink p (s.port p).subState s)

/-- IEEE_TRAIN_TIMEOUT (R181). -/
def execIeeeTrainTimeout (p : PortId) (i : SubId) (s : State) : Host.Outcome State Fault Refusal :=
  .next (if (s.port p).subRuns i .train then subDown p i 1 true s else s)

/-- IEEE_SUBPORT_FAIL (R182). -/
def execIeeeSubportFail (p : PortId) (i : SubId) (why : SubFail) (s : State) : Host.Outcome State Fault Refusal :=
  .next (if (s.port p).subRuns i .up then subDown p i why.code true s else s)

/-- The sub-port in UP that uses a line lane. -/
def Port.subOf (q : Port) (n : LaneId) : Option SubId :=
  (List.finRange 8).find? fun i => q.subRuns i .up && (q.subLanes i).testBit n.val

/-- CDR_LOCK_LOST (R73, R121, R182): shed trigger 0x2 in ACTIVE; a sub-port in UP that uses the lane goes to DOWN. -/
def execCdrLockLost (p : PortId) (n : LaneId) (s : State) : Host.Outcome State Fault Refusal :=
  .next (
    if !(s.lane p n).rx.cdrLock || (s.lane p n).rx.phase = .hold then s
    else
      let s := s.modLane p n fun l => { l with rx := { l.rx with cdrLock := false } }
      match (s.port p).subOf n with
      | some i => subDown p i 3 true s
      | none => framingFails p n (ownTrigger p n 2 s))

/-! ### Host lanes -/

/-- What a host lane carries towards the host (Table 9.1, R251): nothing; native framing, with the logical lane; or the AUI or local
fault of a sub-port, at a rate in 10 MBd. -/
inductive HostUse where
  | idle
  | framing (logical : Nat)
  | localFault (sub : SubId) (rate : Nat)
  | aui (sub : SubId) (rate : Nat)
deriving DecidableEq, Repr

/-- The lane rate of a PHY in 10 MBd (Tables 6.1 and 9.1). -/
def phyRate (phy : Nat) : Nat := if phy ≤ 4 then 5312 else 10625

/-- The use of a host lane (R172, R175, R176, R239, R240, Table 9.1): host lane n serves line lane n of the PHY that uses it; in native
modes the transmit map says which logical lane a lane carries. -/
def Port.hostUse (q : Port) (h : HostLaneId) : HostUse :=
  if q.ieeeMode then
    match (List.finRange 8).find? fun (i : SubId) => (q.subLanes i).testBit h.val && decide (q.ieee[i.val].state ≠ .down) with
    | some i =>
      let rate := phyRate q.ieee[i.val].phy
      if q.ieee[i.val].state = .up && decide (q.host.tx ≠ .localFault) then .aui i rate else .localFault i rate
    | none => .idle
  else
    match q.host.tx with
    | .framing | .halt => if q.host.txMap[h.val] = 15 then .idle else .framing q.host.txMap[h.val]
    | _ => .idle

/-! ### Codewords -/

/-- The state of one direction's rate compensation (R179): depth, dropping, blocks passed on, and the idle blocks inserted and
deleted. -/
structure RcAcc where
  depth : Nat
  drop : RcDrop
  out : List PcsBlock
  ins : Nat
  del : Nat

/-- One depth step towards half the buffer. -/
def towardsHalf (d : Nat) : Nat := if 32 < d then d - 1 else if d < 32 then d + 1 else d

/-- One block through the compensation buffer (R179): an idle block between packets is deleted, or followed by another, while the
depth is off half (DESIGN CHOICE: at every one); after an overflow whole packets go from the next start block until half the
depth is regained, each block a step (DESIGN CHOICE for a buffer that ran empty). Any other block, LPI among them, passes as it is
(R184). -/
def RcAcc.step (x : RcAcc) (b : PcsBlock) : RcAcc :=
  let pass := { x with out := x.out ++ [b] }
  let normal :=
    if b.kind ≠ .idle then pass
    else if 32 < x.depth then { x with depth := x.depth - 1, del := x.del + 1 }
    else if x.depth < 32 then { x with depth := x.depth + 1, ins := x.ins + 1, out := x.out ++ [b, b] }
    else pass
  match x.drop with
  | .none => normal
  | .armed =>
    if x.depth = 32 then { normal with drop := .none }
    else if b.kind = .start then { x with drop := .dropping, depth := towardsHalf x.depth }
    else normal
  | .dropping =>
    { x with drop := if b.kind = .term then .armed else .dropping, depth := towardsHalf x.depth }

/-- RATE_COMP_ADJUST (R179): the blocks of a codeword pass the buffer, whose depth the two clocks have moved by some blocks; beyond its
64 blocks it overflows. -/
def rateComp (depth : Nat) (drop : RcDrop) (drift : Int) (blocks : List PcsBlock) : RcAcc × Bool :=
  let d := (depth : Int) + drift
  let ovf := decide (d < 0) || decide (64 < d)
  let x : RcAcc := { depth := Nat.min 64 d.toNat, drop := if ovf && decide (drop = .none) then .armed else drop, out := [], ins := 0,
                     del := 0 }
  (blocks.foldl RcAcc.step x, ovf)

/-- A codeword's blocks as they go on (R178): of an uncorrectable one every block is marked, as the clause marks it. -/
def codewordBlocks (ok : Bool) (l : List PcsBlock) : List PcsBlock :=
  if ok then l else l.map fun b => { kind := .errored, bits := Config.pcsMark b.bits }

/-- The alignment markers of the line lanes used identify every PCS lane once, in any order (R180). -/
def amOk (lanes : Nat) (order : List Nat) : Bool :=
  decide (order.length = lanes) && (List.range lanes).all fun k => order.contains k

/-- The RS symbols of 20 blocks as re-encoded (R178), RS(544,514). -/
def codewordSymbols (l : List PcsBlock) : List Nat :=
  let m := symbols10 514 (l.flatMap fun b => bitsOf 257 b.bits.toNat)
  m ++ rsParity 30 m

/-- The symbols that a lane sends of a codeword dealt to n lanes in PCS lane order, ascending (R180; PRESUMED one RS symbol at a time;
log entry 114): PAM4, precoded if the partner asked, each as two samples at 53.125 GBd (R43, R173). -/
def Port.sendPam4 (q : Port) (i : SubId) (symbols : List Nat) : Port :=
  let b := q.ieee[i.val]
  let lanes := phyLanes b.phy
  let first := i.val * q.subWidth
  q.mapLanes fun n l =>
    if !(q.subLanes i).testBit n.val || l.tx.state ≠ .data then l
    else
      let mine := (symbols.zipIdx.filter fun x => x.2 % lanes == n.val - first).map fun x => x.1
      let g := pam4Gray (mine.flatMap (bitsOf 10))
      let r := if b.precodeTx then pam4Precode l.tx.precode g else (g, l.tx.precode)
      let sign : Int := if bitOf (l.act .txCtrl) 8 then -1 else 1
      let levels := r.1.flatMap fun x => List.replicate (if b.phy ≤ 4 then 2 else 1) (sign * pam4Level x)
      let l := l.sendSymbols 3 levels
      { l with tx := { l.tx with precode := r.2 } }

/-- IEEE_CODEWORD_RECEIVE (R178 to R180, R184): received from the host or the line, with its 20 blocks as parsed; how many of its RS
symbols were in error, the blocks by which the clocks have drifted, and the PCS lane that the alignment markers identify on each
lane, ascending. Without alignment nothing is decoded. The blocks go on, re-encoded, to the other side. -/
def execIeeeCodewordReceive (p : PortId) (i : SubId) (host : Bool) (order : List Nat) (blocks : List PcsBlock) (errs : Nat) (drift : Int)
    (s : State) : Host.Outcome State Fault Refusal :=
  .next (
    let q := s.port p
    if !q.subRuns i .up || !amOk (phyLanes q.ieee[i.val].phy) order then s
    else
      let b := q.ieee[i.val]
      let ok := decide (errs ≤ 15)
      let corr := ok && decide (errs ≠ 0)
      let r := rateComp (if host then b.compTx else b.comp) (if host then b.dropTx else b.drop) drift (codewordBlocks ok blocks)
      let s := s.modPort p fun q =>
        if host then
          { q with host := { q.host with corrCw := wrapAdd 48 q.host.corrCw (b2n corr), uncCw := wrapAdd 48 q.host.uncCw (b2n !ok) } }
        else q
      let s := if host && !ok then raise .hostFecUnc (.port p) 0 s else s
      let s := modSub p i (fun b =>
        { b with corrCw := if host then b.corrCw else wrapAdd 48 b.corrCw (b2n corr),
                 uncCw := if host then b.uncCw else wrapAdd 48 b.uncCw (b2n !ok),
                 sym := if host || !ok then b.sym else wrapAdd 48 b.sym errs,
                 pcsOrder := if host then b.pcsOrder else order,
                 comp := if host then b.comp else r.1.depth, compTx := if host then r.1.depth else b.compTx,
                 drop := if host then b.drop else r.1.drop, dropTx := if host then r.1.drop else b.dropTx,
                 toHost := if host then b.toHost else r.1.out, toLine := if host then r.1.out else b.toLine,
                 rcIns := satAdd 16 b.rcIns r.1.ins, rcDel := satAdd 16 b.rcDel r.1.del, rcOvf := b.rcOvf || r.2 }) s
      let s := if host then s.modPort p fun q => q.sendPam4 i (codewordSymbols r.1.out) else s
      if r.2 then raise .rcOverflow (.port p) i.val s else s)

/-! ### Clause 45 -/

/-- The sub-port that MDIO_PAGE selects, if it exists (R187). -/
def State.mdioSub (s : State) : Option (PortId × SubId) :=
  let w := s.reg.mdioPage.toNat
  let i : SubId := ⟨w % 8, Nat.mod_lt _ (by decide)⟩
  if h : w / 512 < 96 then
    let p : PortId := ⟨w / 512, h⟩
    if s.part.hasPort p && decide (i.val < (s.port p).subs) then some (p, i) else none
  else none

/-- A Clause 45 write to a port address (R187): ignored where the address is not PRTAD, before CONFIG_DONE (R377), and while no sub-port
is selected. -/
def mdioWrite (prtad : BitVec 5) (s : State) (f : PortId → SubId → State → State) : State :=
  if !s.boot.configDone || decide (prtad.toNat ≠ s.boot.prtad) then s
  else match s.mdioSub with
    | some (p, i) => f p i s
    | none => s

/-- MDIO_PAGE_WRITE (R187): MMD 30, register 0x0000. -/
def execMdioPageWrite (prtad : BitVec 5) (v : BitVec 16) (s : State) : Host.Outcome State Fault Refusal :=
  .next (if s.boot.configDone && decide (prtad.toNat = s.boot.prtad) then { s with reg := { s.reg with mdioPage := v &&& 0xFE07 } } else s)

/-- A sub-port starts again under R177 from DOWN: no hold-off keeps it. -/
def subRestart (p : PortId) (i : SubId) (s : State) : State :=
  let s := modSub p i (fun b => { b with retry := false }) s
  if (s.port p).link.state = .down then startLink p s
  else if (s.port p).ieeeMode && (s.port p).enabled && !s.portSafe p then enterIeee p (fun k => decide (k = i.val)) s
  else s

/-- MDIO_PMA_RESET (R188): 1.0 bit 15; the sub-port goes to DOWN, if it is not there, and starts again at once. -/
def execMdioPmaReset (prtad : BitVec 5) (s : State) : Host.Outcome State Fault Refusal :=
  .next (mdioWrite prtad s fun p i s =>
    if (s.port p).ieee[i.val].state = .down then subRestart p i s
    else
      let s := subDown p i 5 false s
      subRestart p i (if (s.port p).subState = .down then enterDown p 0xA s else s))

/-- MDIO_AN_RESTART (R189): 7.0 bit 9. -/
def execMdioAnRestart (prtad : BitVec 5) (s : State) : Host.Outcome State Fault Refusal :=
  .next (mdioWrite prtad s fun p i s =>
    if !(s.port p).ieeeMode || (s.port p).ieee[i.val].state = .down then s
    else
      let s := waitingDone p (modSub p i IeeeSub.startAn (s.modPort p fun q => q.subIdle i))
      setLink p (s.port p).subState s)

/-- MDIO_ADV_MASK_WRITE (R189): the PHYs whose abilities the register written holds, and those of them whose bits it sets, bit
code − 1; the clause gives the bits their places. -/
def execMdioAdvMaskWrite (prtad : BitVec 5) (covers sets : BitVec 8) (s : State) : Host.Outcome State Fault Refusal :=
  .next (mdioWrite prtad s fun p i s =>
    modSub p i (fun b =>
      { b with advNext := (b.advNext &&& (0xFF ^^^ covers.toNat)) ||| (sets.toNat &&& covers.toNat) }) s)

/-- Line lanes of a sub-port whose receiver detects a signal, as Clause 45 shows them: those with CDR lock (DEDUCED; log entry 115). -/
def Port.subSignal (q : Port) (i : SubId) : Nat :=
  maskOf 8 fun k => if h : k < 8 then (q.subLanes i).testBit k && q.lanes[k].rx.cdrLock else false

/-- The registers of MMDs 1, 3 and 7 for a sub-port (Table 6.6): identifiers and packages stand for any; the places of status bits are
the clause's (PRESUMED, log entry 115), and codes and page bits that only the clause gives are free values. -/
def mdioSubReg (q : Port) (i : SubId) (mmd reg : Nat) : Nat :=
  let b := q.ieee[i.val]
  let up := decide (b.state = .up) && q.ieeeMode
  let fec := fun (o : Nat) => match o with
    | 1 => b2n up * 0xC000
    | 2 => b.corrCw % 2 ^ 16
    | 3 => b.corrCw / 2 ^ 16 % 2 ^ 16
    | 4 => b.uncCw % 2 ^ 16
    | 5 => b.uncCw / 2 ^ 16 % 2 ^ 16
    | _ => 0
  match mmd, reg with
  | 1, 1 | 3, 1 => b2n up * 4
  | 1, 8 => 0x8000 + b2n (!up) * 0x0400
  | 1, 7 => if b.phy = 0 then 0 else (Config.pmaType b.phy).toNat
  | 1, 10 => b2n (q.subSignal i ≠ 0) + 2 * (q.subSignal i / 2 ^ (i.val * q.subWidth))
  | 7, 0 => 0x1000
  | 7, 1 => b2n up * 0x24 + b2n b.page.isSome * 0x41
  | 7, 16 | 7, 17 | 7, 18 => ((Config.advPage (q.advertised i)).toNat >>> (16 * (reg - 16))) % 2 ^ 16
  | 7, 19 | 7, 20 | 7, 21 => ((b.page.getD 0).toNat >>> (16 * (reg - 19))) % 2 ^ 16
  | 7, 48 => if b.phy = 0 then 0 else (Config.anResolved b.phy).toNat
  | _, _ =>
    if mmd = 1 && decide (200 ≤ reg) && decide (reg ≤ 205) then (if b.phy = 1 then fec (reg - 200) else 0)
    else if mmd = 3 && decide (800 ≤ reg) && decide (reg ≤ 805) then (if b.phy = 1 || b.phy = 0 then 0 else fec (reg - 800))
    else 0

/-- A Clause 45 read at a port address (R187, R188); none answers for another address. The table of commands has no row for it: it is
what the state shows. A read of a counter's low word latches its high word as WIDE_LO_READ does for the MDIO initiator (R38). -/
def State.mdioRead (s : State) (prtad : BitVec 5) (mmd reg : Nat) : Option (BitVec 16) :=
  if prtad.toNat ≠ s.boot.prtad then none
  else if mmd = 30 then some (if reg = 0 then s.reg.mdioPage else 0)
  else if mmd ≠ 1 && decide (mmd ≠ 3) && decide (mmd ≠ 7) then some 0
  else
    match reg with
    | 2 => some 0x5B71
    | 3 => some 0x9620
    | _ =>
      match s.mdioSub with
      | none => some 0
      | some (p, i) => some (BitVec.ofNat 16 (if reg = 5 then 0x008A else mdioSubReg (s.port p) i mmd reg))

end Sys2Proof.Machine
end

