-- ==== Sys2Proof/Machine/HostIf.lean ====
section
/-!
DEFINITION. Host interface and fast status (R239 to R260): native host framing, the spare lane and failover, the status word
and the fast status bus.
-/
namespace Sys2Proof.Machine

/-! ### Lanes and maps -/

/-- Host lane h carries a logical lane in a map (Table 9.2). -/
def carries (m : Vector Nat 12) (h : Nat) : Bool := getNat m h 15 != 15

/-- A direction's lanes that carry a logical lane (Table 9.11). -/
def usedLanes (m : Vector Nat 12) : Nat := maskOf 12 (carries m)

/-- Host framing runs, HALT blocks included (R251): the maps mean something. -/
def HostSt.runs (h : HostSt) : Bool := decide (h.tx = .framing) || decide (h.tx = .halt)

/-- H11 may be the spare (R249). -/
def Port.spareEn (q : Port) : Bool := bitOf (q.act .hostCtrl) 31

/-- A map as a list of its twelve entries. -/
def mapOfList (l : List Nat) : Vector Nat 12 := Vector.ofFn fun i => l.getD i.val 15

/-- The transmit map decided for the frames to come: of the next announcement, else the one announced, else in force
(R249, R250). -/
def HostSt.txPlan (h : HostSt) : List Nat := h.txNext.getD (h.txAnn.getD h.txMap.toList)

/-- H11 can take a logical lane in the map decided (R249). -/
def Port.txSpareFree (q : Port) : Bool :=
  q.spareEn && decide (q.host.txPlan.getD 11 15 = 15) && !q.host.txFail.testBit 11

/-- HOST_TX_LANE_MOVE (R249, R250): the logical lane of a physical lane moves to H11, or is dropped where the spare is not
free; while a move to H11 is pending the failed lane of the lower logical index takes it and the other is dropped. -/
def Port.txMove (q : Port) (h : Nat) : Port :=
  let m := q.host.txPlan
  let l := m.getD h 15
  if l = 15 then q
  else
    let r := m.set h 15
    let a := m.getD 11 15
    let pending := !carries q.host.txMap 11 && decide (a ≠ 15) && decide (h ≠ 11)
    let new : List Nat × Nat :=
      if h ≠ 11 && q.txSpareFree then (r.set 11 l, 1)
      else if pending && decide (l < a) then (r.set 11 l, 2)
      else (r, 1)
    { q with host := { q.host with txNext := some new.1, txMoves := satAdd 8 q.host.txMoves new.2 } }

/-- The physical lanes of a mask that carry a logical lane in the map decided, by ascending logical lane (R250). -/
def Port.byLogical (q : Port) (mask : Nat) : List Nat :=
  let m := q.host.txPlan
  (List.range 11).flatMap fun l => (List.range 12).filter fun h => mask.testBit h && m.getD h 15 == l

/-! ### Markers -/

/-- Fields of a marker's unit 0 (Table 9.2). -/
structure HostMarker where
  frame : Nat
  nextMap : List Nat
  fail : Nat
deriving DecidableEq, Repr

/-- The bytes of D[255:32], most significant first. -/
def markerBytes (d : BitVec 256) : List Byte := beBytes 28 (d.toNat >>> 32)

/-- A marker of physical lane h with a valid CRC (Table 9.2, R246). -/
def readMarker (h : Nat) (d : BitVec 256) : Option HostMarker :=
  if headGet d 255 248 = 0xA7 && headGet d 243 240 = h && (crc32 (markerBytes d)).toNat == headGet d 31 0 then
    some { frame := headGet d 239 208,
           nextMap := (List.range 12).map fun i => headGet d (4 * i + 163) (4 * i + 160),
           fail := headGet d 159 148 }
  else none

/-- Marker lock of a lane (R246): two consecutive FRAME values lock it, two consecutive failures of expected markers unlock
it. -/
def HostSt.markLock (x : HostSt) (h : Nat) (m : Option HostMarker) : HostSt :=
  let last := getNat x.rxMark h none
  let locked := x.rxLock.testBit h
  let next := last.map fun f => (f + 1) % 2 ^ 32
  let good := match m with
    | some k => decide (next = some k.frame)
    | none => false
  if good then
    { x with rxLock := x.rxLock ||| 2 ^ h, rxMark := updNat x.rxMark h fun _ => next, rxMiss := updNat x.rxMiss h fun _ => 0 }
  else if locked then
    if getNat x.rxMiss h 0 + 1 < 2 then
      { x with rxMark := updNat x.rxMark h fun _ => next, rxMiss := updNat x.rxMiss h (· + 1) }
    else
      { x with rxLock := x.rxLock &&& (0xFFF ^^^ 2 ^ h), rxMark := updNat x.rxMark h fun _ => m.map HostMarker.frame,
               rxMiss := updNat x.rxMiss h fun _ => 0 }
  else { x with rxMark := updNat x.rxMark h fun _ => m.map HostMarker.frame }

/-- What a valid marker says (R245, R248, R249): the sender's FRAME, the announced map, and the FAIL mask. -/
def HostSt.markTake (x : HostSt) (k : HostMarker) : HostSt :=
  { x with
    rxFrame := k.frame,
    rxNext := (match x.rxNext with
      | some (m, n) => if m = k.nextMap then some (m, n + 1) else if 2 ≤ n then some (m, n) else some (k.nextMap, 1)
      | none => some (k.nextMap, 1)),
    failSeen := k.fail,
    txFail := if k.fail = x.failSeen then k.fail else x.txFail }

/-- A receive lane that carries a logical lane fails (R248): RX_FAIL, and so the FAIL bit of every marker sent, and the cause. -/
def failHostLane (p : PortId) (h : HostLaneId) (s : State) : State :=
  let x := (s.port p).host
  if x.tx ≠ .framing || !carries x.rxMap h.val || x.rxFail.testBit h.val then s
  else
    let s := s.modPort p fun q =>
      { q with host := { q.host with rxFail := q.host.rxFail ||| 2 ^ h.val, rxFails := satAdd 8 q.host.rxFails 1,
                                     rxLock := q.host.rxLock &&& (0xFFF ^^^ 2 ^ h.val),
                                     rxMark := updAt q.host.rxMark h fun _ => none },
               ctr := { q.ctr with hostFails := q.ctr.hostFails + 1 } }
    raise .hostLaneFail (.port p) h.val s

/-- HOST_MARKER_RECEIVE (R244 to R246, R249, R250): unit 0 of the marker codeword of physical lane h; none where the codeword
is missing or uncorrectable. A lane that loses its marker lock fails (R248). -/
def execHostMarkerReceive (p : PortId) (h : HostLaneId) (d : Option (BitVec 256)) (s : State) :
    Host.Outcome State Fault Refusal :=
  .next (
    let q := s.port p
    if q.host.tx ≠ .framing then s
    else
      let m := d.bind (readMarker h.val)
      let lost := q.host.rxLock.testBit h.val && !(q.host.markLock h.val m).rxLock.testBit h.val
      let s := s.modPort p fun q =>
        let x := q.host.markLock h.val m
        match m with
        | none => { q with host := x }
        | some k =>
          let y := x.markTake k
          let new := y.txFail &&& (0xFFF ^^^ x.txFail)
          let q := { q with host := y }
          (q.byLogical new).foldl Port.txMove q
      if lost then failHostLane p h s else s)

/-- HOST_FRAME_START (R245, R247, R249): a frame of the device's transmit side, or of the host's, begins. -/
def execHostFrameStart (p : PortId) (tx : Bool) (s : State) : Host.Outcome State Fault Refusal :=
  .next (
    let q := s.port p
    if q.host.tx ≠ .framing then s
    else if tx then
      let s := s.modPort p fun q =>
        { q with host := { q.host with
            frame := wrapAdd 32 q.host.frame 1,
            txMap := (match q.host.txAnn with | some m => mapOfList m | none => q.host.txMap),
            txAnn := q.host.txNext, txNext := none } }
      capacityAdds p (judgeWaiting p s)
    else if q.host.rxLock = 0 then s
    else
      s.modPort p fun q =>
        let x := { q.host with rxNext := none, rxFrame := wrapAdd 32 q.host.rxFrame 1 }
        match q.host.rxNext with
        | some (m, n) =>
          if 2 ≤ n then
            let v := mapOfList m
            { q with host := { x with rxMap := v, rxFail := x.rxFail &&& usedLanes v } }
          else { q with host := { x with mapMiss := satAdd 8 x.mapMiss 1 } }
        | none => { q with host := { x with mapMiss := satAdd 8 x.mapMiss 1 } })

/-- HOST_LANE_FAIL (R248): a receive lane that carries a logical lane fails. -/
def execHostLaneFail (p : PortId) (h : HostLaneId) (why : HostFail) (s : State) : Host.Outcome State Fault Refusal :=
  .next (
    let x := (s.port p).host
    let met := match why with
      | .cdr => true
      | .marker => !x.rxLock.testBit h.val
      | .uncorrectable => decide (4 ≤ (x.uncAt[h.val]).length)
    if met then failHostLane p h s else s)

/-- A write of HOST_REQ (R249, Table 9.12). -/
def writeHostReq (who : Initiator) (p : PortId) (v : Word) (s : State) : State :=
  let q := s.port p
  let h := bits v 3 0
  if !bitOf v 4 then written s
  else if decide (10 < h) || q.host.tx ≠ .framing || decide (q.host.txPlan.getD h 15 = 15) || !q.txSpareFree then
    ignored who (portBase p + 0x4010) s
  else written (s.modPort p fun q => q.txMove h)

/-- HOST_REQ_TX_MOVE (R249). -/
def execHostReqTxMove (who : Initiator) (p : PortId) (v : Word) (s : State) : Host.Outcome State Fault Refusal :=
  .next (regWrite who (portBase p + 0x4010) s (writeHostReq who p v))

/-! ### Codewords -/

/-- Keystream words of 257 bits: the type bit's, then those of D[255] to D[0] (R242, R244). -/
def hostKs : Nat → BitVec 58 → List (BitVec 257)
  | 0, _ => []
  | n + 1, s =>
    let u := ksStep s
    let r := ksBits 256 0 u
    let r := (u.extractLsb' 0 1 ++ r.1 : BitVec 257)
    r :: hostKs n (ksBits 256 0 u).2

/-- The key of a data codeword (R244). -/
def hostKey (h frame period : Nat) : BitVec 16 := BitVec.ofNat 16 (h * 4096 + frame % 16 * 256 + period)

/-- A unit's block (R98, R242): none for an empty slot; ERRORED, and true, for a line-owned type. -/
def unitBlock (u : BitVec 257) : Option (Block × Bool) :=
  let b : Block := { ctrl := u.msb, data := u.setWidth 256 }
  if b.ctrl && decide (b = Block.fill) then none
  else if b.lineOwned then some (Block.errored, true)
  else some (b, false)

/-- A host block of class 0 that arrives late under a hold is a violation, and joins the host-to-line path where there is room
(R233). -/
def hostArrive (p : PortId) (late : Bool) (b : Block) (s : State) : State :=
  let s := if late && decide ((s.port p).cls = 0) && s.held p then hostViolation p s else s
  reHold p (s.modPort p fun q => q.hostBlock b)

/-- HOST_CODEWORD_RECEIVE (R242 to R245, R229, R232, R233, R276, R278): the data codeword of a physical lane in a period, with
its symbols in error (none: missing), its 20 units as received, and whether its blocks come more than 20 ns after a hold
appeared on the bus. -/
def execHostCodewordReceive (p : PortId) (h : HostLaneId) (period : Nat) (errs : Option Nat) (units : List (BitVec 257))
    (late : Bool) (s : State) : Host.Outcome State Fault Refusal :=
  .next (
    let q := s.port p
    let failed := q.host.rxFail.testBit h.val
    if q.host.tx ≠ .framing || !carries q.host.rxMap h.val || decide (period = 16 * h.val)
        || !(failed || q.host.rxLock.testBit h.val) then s
    else
      let bad := failed || match errs with
        | some e => decide (15 < e)
        | none => true
      if bad then
        let now := q.host.rxFrame * 256 + period
        let s := s.modPort p fun q =>
          { q with host := { q.host with uncCw := wrapAdd 48 q.host.uncCw 1,
                                         uncAt := updAt q.host.uncAt h fun l => (l.filter fun t => decide (now < t + 1024)) ++ [now] },
                   code := { q.code with hostBad := satAdd 16 q.code.hostBad 1 } }
        let s := raise .hostFecUnc (.port p) h.val s
        let s := if decide (4 ≤ ((s.port p).host.uncAt[h.val]).length) then failHostLane p h s else s
        reHold p (s.modPort p fun q => q.hostBlock Block.errored)
      else
        let key := hostKs 20 (ksRun 64 (ksSeed (hostKey h.val q.host.rxFrame period)))
        let blocks := (List.zipWith (fun a b => unitBlock (a ^^^ b)) units key).filterMap id
        let s := s.modPort p fun q =>
          { q with host := { q.host with corrCw := wrapAdd 48 q.host.corrCw (b2n (decide (errs ≠ some 0))) },
                   code := { q.code with hostBad := satAdd 16 q.code.hostBad (blocks.countP fun b => b.2) } }
        let s := blocks.foldl (fun s b => hostArrive p late b.1 s) s
        if !blocks.isEmpty && decide (q.cls ≠ 0) then wakeTrigger p s else s)

/-! ### What the device sends -/

/-- Unit 0 of the marker that a lane sends in the frame in force (Table 9.2), U = 1. -/
def Port.marker (q : Port) (h : HostLaneId) : BitVec 257 :=
  let x := q.host
  let next := x.txAnn.getD x.txMap.toList
  let d := 0xA7 <<< 248 ||| (x.txMap[h.val] % 16) <<< 244 ||| h.val <<< 240 ||| (x.frame % 2 ^ 32) <<< 208
    ||| ((List.range 12).map fun i => (next.getD i 15 % 16) <<< (4 * i + 160)).sum ||| (x.rxFail % 4096) <<< 148
  1#1 ++ BitVec.ofNat 256 (d ||| (crc32 (markerBytes (BitVec.ofNat 256 d))).toNat)

/-- D of units 1 to 19 of a marker: keystream bits 256 to 5,119 of the seed W (R244). -/
def markerFill : List (BitVec 256) := (ksWords seedW 20).drop 1

/-- The physical lanes dealt a codeword in a period, in ascending logical index, the lane that sends its marker skipped
(R245). -/
def HostSt.deal (x : HostSt) (period : Nat) : List Nat :=
  (List.range 11).flatMap fun l => (List.range 12).filter fun h => getNat x.txMap h 15 == l && period != 16 * h

/-- A unit of 257 bits (R242). -/
def Block.unit (b : Block) : BitVec 257 := BitVec.ofBool b.ctrl ++ b.data

/-- The message of a data codeword before scrambling (R242, R251): the blocks to deliver and empty slots behind them, or in HALT
a HALT block in every unit. -/
def Port.hostUnits (q : Port) (safe : Nat) (l : List Block) : List (BitVec 257) :=
  if q.host.tx = .halt then List.replicate 20 (Block.halt safe).unit
  else ((l ++ List.replicate 20 Block.fill).take 20).map Block.unit

/-- The codewords of a period, each lane with its scrambled message, and the blocks left for the next (R244, R245). -/
def Port.hostPeriod (q : Port) (safe period : Nat) (l : List Block) : List (Nat × List (BitVec 257)) × List Block :=
  (q.host.deal period).foldl (fun (r : List (Nat × List (BitVec 257)) × List Block) h =>
    let key := hostKs 20 (ksRun 64 (ksSeed (hostKey h q.host.frame period)))
    (r.1 ++ [(h, List.zipWith (fun a b => a ^^^ b) (q.hostUnits safe r.2) key)], r.2.drop 20)) ([], l)

/-! ### Status words -/

/-- Sub-ports of an IEEE port in UP (Table 9.4). -/
def Port.subUp (q : Port) : Nat := maskOf 8 fun i => getNat (q.ieee.map fun b => decide (b.state = .up)) i false

/-- A port is held on the bus: R232, or in IEEE modes no sub-port in UP (Table 9.4). -/
def State.busHeld (s : State) (p : PortId) : Bool :=
  if (s.port p).ieeeMode then decide ((s.port p).subUp = 0) else s.held p

/-- The hold the shadow shows (R252): as of the latest edge while FSI_CLK runs, and tracking while it does not (R258). -/
def State.shadowHold (s : State) (p : PortId) : Bool := if s.fsi.clkOk then s.fsi.holds[p.val] else s.busHeld p

/-- RX_ALIGNED (Table 9.10). -/
def HostSt.rxAligned (x : HostSt) : Bool :=
  let m := usedLanes x.rxMap
  x.runs && decide (m ≠ 0) && decide (x.rxLock &&& m = m) && decide (x.rxFail &&& m = 0)

/-- Bits [14:13] and [11:0] of a port's status word (Table 9.4). -/
def State.fsiFields (s : State) (p : PortId) (hold : Bool) : Word :=
  let q := s.port p
  if q.ieeeMode then
    flg (decide (q.subUp ≠ 0)) 14 ||| flg true 11 ||| fld q.subUp 3 8 ||| fld (if hold then 5 else 0) 0 3
  else
    let x := q.host
    let hfail := x.runs && decide (x.rxFail &&& usedLanes x.rxMap ≠ 0)
    let nospare := !q.spareEn || (x.runs && (carries x.rxMap 11 || carries x.txMap 11 || x.txFail.testBit 11 || x.rxFail.testBit 11))
    flg q.link.state.isData 14 ||| flg (decide (q.cls = 0) && q.spill.guar) 13
      ||| fld (if q.snd.agreed.isSome then q.rate else 0) 9 2 ||| fld (popcount8 q.active) 5 4
      ||| flg hfail 4 ||| flg nospare 3 ||| fld (s.holdWhy p) 0 3

/-- The status word of a port (Table 9.4); an absent port's shows HOLD alone (R254). -/
def State.fsiWord (s : State) (p : PortId) : Word :=
  if s.part.hasPort p then
    let hold := s.shadowHold p
    flg hold 15 ||| s.fsiFields p hold ||| flg (s.port p).host.event 12
  else 0x00008000

/-- EVENT of every port judged on the words as they now are (Table 9.4). -/
def judgeEvents (s : State) : State :=
  s.mapPorts fun p q =>
    let w := (s.fsiFields p (s.shadowHold p)).toNat
    if s.part.hasPort p && decide (w ≠ q.host.word) then { q with host := { q.host with event := true, word := w } } else q

/-- FSI_D of a rotating cycle (R253): the status nibbles of eight ports. -/
def rotating (s : State) (c : Nat) : Word :=
  (List.range 8).foldl (fun w j =>
    let i := 8 * c + j
    let n := if h : i < 96 then bits (s.fsiWord ⟨i, h⟩) 15 12 else 8
    w ||| fld n (4 * j) 4) 0

/-- FSI_D in select mode (R254). -/
def selected (s : State) (sel : BitVec 7) : Word :=
  let i := sel.toNat
  let w := if h : i < 96 then s.fsiWord ⟨i, h⟩ else 0x00008000
  let pods := maskOf 8 fun k => allPorts.any fun p => decide ((podOf p).val = k) && (!s.part.hasPort p || s.shadowHold p)
  fld w.toNat 0 16 ||| fld i 16 7 ||| flg true 23 ||| fld pods 24 8

/-- Drive FSI_D (R253, R254, R377). -/
def driveFsi (s : State) : State :=
  let d := if !s.boot.configDone then 0x88888888
    else if s.fsi.mode = 2 then selected s (BitVec.ofNat 7 s.fsi.sel) else rotating s s.fsi.cycle
  { s with fsi := { s.fsi with d := d } }

/-! ### The bus -/

/-- A write of FSI_CTRL (R252, R259): the mode waits for its edge; other values leave the field unchanged. -/
def writeFsiCtrl (v : Word) (s : State) : State :=
  let m := bits v 1 0
  written (if m = 1 || m = 2 then { s with fsi := { s.fsi with modeWritten := m } } else s)

/-- FSI_CTRL_WRITE (R252, R259). -/
def execFsiCtrlWrite (who : Initiator) (v : Word) (s : State) : Host.Outcome State Fault Refusal :=
  .next (regWrite who 0x400 s (writeFsiCtrl v))

/-- FSI_CLK_LOSS (R258). -/
def execFsiClkLoss (s : State) : Host.Outcome State Fault Refusal :=
  .next (if s.fsi.clkOk then raise .fsiClkLoss .dev 0 { s with fsi := { s.fsi with clkOk := false } } else s)

/-- FSI_CLK_RESTORE (R258). -/
def execFsiClkRestore (s : State) : Host.Outcome State Fault Refusal :=
  .next (
    if s.fsi.clkOk then s
    else endCond .fsiClkLoss .dev { s with fsi := { s.fsi with clkOk := true, holds := Vector.ofFn fun p => s.busHeld p } })

/-- FSI_EVENT_EXPIRE (R255). -/
def execFsiEventExpire (p : PortId) (s : State) : Host.Outcome State Fault Refusal :=
  .next (s.modPort p fun q => { q with host := { q.host with event := false } })

/-- The next cycle at an edge: the mode in force and the rotating cycle (R252, R253). -/
def fsiAdvance (x : FsiSt) (sel : BitVec 7) : FsiSt :=
  if x.mode = 2 then { x with mode := x.modeWritten, cycle := 0, sel := sel.toNat }
  else
    let wraps := sel.msb || decide (x.cycle = 11)
    { x with cycle := if wraps then 0 else x.cycle + 1, mode := if wraps then x.modeWritten else x.mode, sel := sel.toNat }

/-- FSI_CLK_EDGE (R252, R253, R256, R257): a rising edge with FSI_SEL as captured; holds and releases enter the shadow. -/
def execFsiClkEdge (sel : BitVec 7) (s : State) : Host.Outcome State Fault Refusal :=
  .next (
    let s := { s with fsi := { fsiAdvance s.fsi sel with holds := Vector.ofFn fun p => s.busHeld p } }
    driveFsi (judgeEvents s))

/-- FSI_SEL_CHANGE (R254): in select mode the word of the port named is driven in the same cycle. -/
def execFsiSelChange (sel : BitVec 7) (s : State) : Host.Outcome State Fault Refusal :=
  .next (
    let s := { s with fsi := { s.fsi with sel := sel.toNat } }
    if s.fsi.mode = 2 then driveFsi s else s)

end Sys2Proof.Machine
end

