-- ==== Sys2Proof/Machine/Diagnostics.lean ====
section
/-!
DEFINITION. Cable diagnostics and waveform capture (R308 to R323).
-/
namespace Sys2Proof.Machine

/-! ### Admission -/

/-- A reply of a diagnostic command of a port, whose status DIAG_STAT keeps (Table 12.12). -/
def diagReply (via : Origin) (opcode : Nat) (p : PortId) (status : Nat) (payload : List Byte) (s : State) : State :=
  reply via opcode status payload
    (s.modPort p fun q => { q with diag := { q.diag with lastStatus := status } })

/-- The port state in which a diagnostic runs (R308): DOWN with the link disabled; for DIAG_IL also sounding-only PARLEY. -/
def Port.diagState (q : Port) (il : Bool) : Bool :=
  q.idleDown || (il && decide (q.link.state = .parley) && decide (q.snd.path = .soundingOnly))

/-- R308 admits a diagnostic on a port, but for one that already runs there. -/
def diagAdmits (p : PortId) (il : Bool) (s : State) : Bool :=
  (s.port p).diagState il && !s.calHolds p && (s.group p).lock && !s.portSafe p
    && decide ((s.port p).diag.running ≠ some .serving)

/-- The checks that every diagnostic command of a port makes after its parameters (R308, R496). -/
def diagStart (via : Origin) (opcode : Nat) (p : PortId) (il bad : Bool) (s : State) (body : State → State) : State :=
  portCommand via opcode p s fun s =>
    if bad then diagReply via opcode p 0x03 [] s
    else if !diagAdmits p il s then diagReply via opcode p 0x07 [] s
    else if (s.port p).diag.running.isSome then
      reply via opcode 0x01 [] (s.modPort p fun q => { q with diag := { q.diag with lastStatus := 0x01 } })
    else body s

/-- LANE_OFF of a lane given by number. -/
def Port.offNat (q : Port) (n : Nat) : Bool := if h : n < 8 then q.laneOff ⟨n, h⟩ else false

/-- The lanes of a mask whose transmitter is not off by TX_CTRL.LANE_OFF (R309). -/
def Port.diagLanes (q : Port) (mask : Nat) : Nat := maskOf 8 fun n => mask.testBit n && !q.offNat n

/-- The tone settings of a diagnostic: MODE, the differential path, and an amplitude (Table 2.17). -/
def diagTone (mode amp : Nat) : Word := fld mode 0 2 ||| flg true 4 ||| fld amp 8 7

/-- A diagnostic takes the lanes of a mask (R309): those that send go to TONE with its settings, and every receiver runs at a
gain that it chooses, a free value. -/
def diagTake (p : PortId) (k : DiagKind) (uses sends : Nat) (tone : Word) (s : State) : State :=
  let g := s.freeNat
  g.2.modPort p fun q =>
    let uses := q.diagLanes uses
    let sends := q.diagLanes sends
    let saved := (List.range 8).filterMap fun n =>
      if uses.testBit n then (q.lanes.toList[n]?).map fun l => (n, l.act .txToneCtrl) else none
    let q := q.mapLanes fun n l =>
      if !uses.testBit n.val then l
      else
        let l := { l with rx := { l.rx with vga := g.1 % 97 } }
        if sends.testBit n.val then l.setTone tone else l
    { q with diag := { q.diag with running := some k, toneSaved := saved } }

/-- The lanes that pairs of a 16-bit mask belong to (R311). -/
def pairLanes (pairs : Nat) : Nat := (pairs ||| pairs / 256) % 256

/-! ### Commands -/

/-- DIAG_TDR (0x0301, R308 to R313): the chirp's MODE is RAMP; its amplitude is not stated. -/
def execDiagTdr (via : Origin) (p : PortId) (pairs : BitVec 16) (vf threshold : Nat) (s : State) :
    Host.Outcome State Fault Refusal :=
  .next (diagStart via 0x0301 p false (decide (vf < 100) || decide (190 < vf)) s fun s =>
    let g := s.freeNat
    let m := pairLanes pairs.toNat
    (diagTake p .tdr m m (diagTone 2 g.1) g.2).modPort p fun q =>
      { q with diag := { q.diag with vf := vf, threshold := threshold, mask := pairs.toNat } })

/-- DIAG_RL (0x0302, R314). -/
def execDiagRl (via : Origin) (p : PortId) (pairs : BitVec 16) (s : State) : Host.Outcome State Fault Refusal :=
  .next (diagStart via 0x0302 p false false s fun s =>
    let m := pairLanes pairs.toNat
    (diagTake p .rl m m (diagTone 1 127) s).modPort p fun q => { q with diag := { q.diag with mask := pairs.toNat } })

/-- DIAG_NEXT (0x0303, R314): every lane receives. -/
def execDiagNext (via : Origin) (p : PortId) (mask : BitVec 8) (s : State) : Host.Outcome State Fault Refusal :=
  .next (diagStart via 0x0303 p false false s fun s =>
    (diagTake p .next 0xFF mask.toNat (diagTone 1 127) s).modPort p fun q => { q with diag := { q.diag with mask := mask.toNat } })

/-! ### Results -/

/-- Plan points at an fs code (R314). -/
def planPoints : Nat → Nat
  | 1 => 64
  | 2 => 56
  | 3 => 48
  | 4 => 57
  | _ => 0

/-- A loss in 0.1 dB, at most the top of the span (R314, R317): −20 log10 of the amplitude that arrives over what it is measured
against, rounded down (DESIGN CHOICE: the rounding is not stated; log entry 117). -/
def lossTenths (cap : Nat) (x : Nat × Nat) : Nat := logSteps 200 cap x.1 x.2

/-- Entries of a table of n victims of 64 points: those beyond the plan, and those of a victim not measured, read 0xFFFF; the
others their loss (R314, R317). -/
def tableEntries (victims points cap : Nat) (skip : Nat → Bool) (l : Nat → Option (Nat × Nat)) : List Nat :=
  (List.range (victims * 64)).map fun i =>
    if points ≤ i % 64 || skip (i / 64) then 0xFFFF
    else match l i with
      | some x => lossTenths cap x
      | none => 0xFFFF

/-- The step at which lane n measures point i of DIAG_RL (R314): step i measures point (i + 8n) mod 64. -/
def rlStep (n i : Nat) : Nat := (i + 64 - 8 * (n % 8)) % 64

/-- Kind of a TDR event (Table 12.2): ρ in 2^-15. -/
def tdrKind (rho : Int) : Nat :=
  if 19661 ≤ rho then 1 else if rho ≤ -19661 then 2 else if 0 ≤ rho then 3 else 4

/-- The events of a pair's correlation peaks (R313): round trip in ps and ρ, against DIST_REF, VF and the threshold. -/
def tdrEvents (dist vf threshold : Nat) (peaks : List (Nat × Int)) : List TdrEvent :=
  let found := peaks.filterMap fun x =>
    let d := x.1 - dist
    let mm := roundDiv (d * vf * 5 * 299792458) 2000000000000
    if dist ≤ x.1 && decide (threshold ≤ x.2.natAbs) && decide (50 ≤ mm) && decide (mm ≤ 30000) then
      some { mm := mm, tau := roundDiv d 20, rho := x.2, kind := tdrKind x.2 }
    else none
  ((found.foldl (fun (l : List TdrEvent) e => l.takeWhile (fun x => x.tau ≤ e.tau) ++ [e] ++ l.dropWhile (fun x => x.tau ≤ e.tau)) []).take 8)

/-- KIND of a result (Table 12.5). -/
def DiagKind.kind : DiagKind → Nat
  | .tdr => 1 | .rl => 2 | .next => 3 | .il => 4 | _ => 0

/-- The pair ids of a 16-bit mask (R311). -/
def pairIds (pairs : Nat) : List Nat := (List.range 16).filterMap fun i =>
  if pairs.testBit i then some (if i < 8 then i else i + 8) else none

/-- One result of a run: the entries of a pair that the lane's LANE_OFF skips are not measured (R309, R313, R314). -/
def diagResult (k : DiagKind) (q : Port) (fs time points index : Nat) (m : Option DiagMeas) : DiagResult :=
  let off := q.offNat (index % 8)
  let base : DiagResult :=
    { kind := k.kind, index := index, result := if off then 6 else if m.isSome then 1 else 5, fs := fs, time := time,
      vf := q.diag.vf, events := [], entries := [] }
  let got := if off then none else m
  let raw := (got.map DiagMeas.entries).getD []
  match k with
  | .tdr =>
    let l := (q.lanes.toList[index % 8]?).getD Lane.reset
    let dist := if index < 8 then l.cal.distTx else l.cal.distRx
    { base with events := tdrEvents dist q.diag.vf q.diag.threshold ((got.map DiagMeas.peaks).getD []) }
  | .rl => { base with entries := tableEntries 1 points 600 (fun _ => false) fun i => raw[rlStep index i]? }
  | .next =>
    let victims := (List.range 8).filter (fun i => i ≠ index) ++ List.range 8
    { base with entries := tableEntries 15 points 800 (fun v => q.offNat (victims.getD v 0)) fun i => raw[i]? }
  | _ =>
    { base with result := (m.map DiagMeas.result).getD 5, entries := tableEntries 8 points 800 (fun v => q.offNat v) fun i => raw[i]? }

/-- The results of a completed run replace those kept of its kind (R317). -/
def keepResults (p : PortId) (k : DiagKind) (points : Nat) (ids : List Nat) (meas : List DiagMeas) (s : State) : State :=
  let fs := (s.group p).freq.code
  let t := timeSec s.time % 2 ^ 32
  s.modPort p fun q =>
    let new := ids.map fun i => diagResult k q fs t points i (meas.find? fun m => m.index == i)
    { q with diag := { q.diag with kept := (q.diag.kept.filter fun r => r.kind ≠ k.kind) ++ new,
                                   notQuiet := q.diag.notQuiet.filter fun x => x.1 ≠ k.kind } }

/-- Reply to the command of a port's running diagnostic. -/
def diagFinish (p : PortId) (k : DiagKind) (status : Nat) (s : State) : State :=
  let who := diagOrigin p k.opcode s
  let s := diagRelease p s
  match who with
  | some via => diagReply via k.opcode p status [] s
  | none => s

/-- The payload of a DIAG frame (Table 12.4), SESSION before it in a sounding-only PARLEY. -/
def diagPayload (q : Port) (sub : Nat) (mask range fs reason : Nat) : List Byte :=
  (if q.snd.path = .soundingOnly then beBytes 2 q.snd.session else [])
    ++ beBytes 1 sub ++ beBytes 8 q.diag.ilUid ++ beBytes 1 q.diag.ilPort ++ beBytes 1 mask ++ beBytes 1 range ++ beBytes 1 fs
    ++ beBytes 1 reason

/-- DIAG_RUN_DONE (R312 to R314, R317, R322): the run of DIAG_TDR, DIAG_RL or DIAG_NEXT ends, with the listens made at its pairs, any of
which may have found activity: NOT_QUIET, which those pairs record; for a port that serves a partner's
schedule, that schedule ends and IL_DONE falls due (R315). -/
def execDiagRunDone (p : PortId) (listens : List (Nat × Listen)) (meas : List DiagMeas) (s : State) : Host.Outcome State Fault Refusal :=
  .next (
    let q := s.port p
    let points := planPoints (s.group p).freq.code
    let loud := (listens.filter fun x => x.2.active s.boot.limits.quiet).map fun x => x.1
    let finish := fun (k : DiagKind) =>
      if loud.isEmpty then diagFinish p k 0x00 (keepResults p k points (pairIds q.diag.mask) meas s)
      else diagEnd p 0x0A (s.modPort p fun q =>
        { q with diag := { q.diag with notQuiet := q.diag.notQuiet ++ loud.map fun i => (k.kind, i) } })
    match q.diag.running with
    | some .serving =>
      if q.diag.il = .driving then
        sendDiff p 0x40 q.diag.ilSf true (diagPayload q 4 0 0 0 0) (diagRelease p s)
      else s
    | some .tdr => finish .tdr
    | some .rl => finish .rl
    | some .next => finish .next
    | _ => s)

/-- A result as DIAG_READ returns it (Tables 12.5 and 12.6). -/
def DiagResult.bytes (r : DiagResult) : List Byte :=
  beBytes 1 r.kind ++ beBytes 1 r.index ++ beBytes 1 r.result ++ beBytes 1 r.fs ++ beBytes 4 r.time
    ++ (if r.kind = 1 then
          beBytes 1 r.events.length ++ beBytes 1 r.vf
            ++ r.events.flatMap fun e => beBytes 2 e.mm ++ beBytes 2 e.tau ++ beBytes 2 (unsigned 16 e.rho) ++ beBytes 1 e.kind ++ [0]
        else r.entries.flatMap fun v => beBytes 2 v)

/-- DIAG_READ (0x0305, R317, Table 12.9): a kind never run, or a pair that its last run did not name, reads RESULT 0 and no
table. A pair that has recorded NOT_QUIET since reads RESULT 0x4 over the kept table (R312; DEDUCED: log entry 130). Asked by
the far end, it reads the port on which the request arrived (R499). -/
def execDiagRead (via : Origin) (p : PortId) (kind index : Nat) (s : State) : Host.Outcome State Fault Refusal :=
  let p := via.portFor p
  .next (portCommand via 0x0305 p s fun s =>
    let okIx := decide (index < 8) || (decide (kind ≤ 2) && decide (0x10 ≤ index) && decide (index < 0x18))
    if kind = 0 || decide (4 < kind) || !okIx then reply via 0x0305 0x03 [] s
    else
      let loud := (s.port p).diag.notQuiet.contains (kind, index)
      match (s.port p).diag.kept.find? fun r => r.kind == kind && r.index == index with
      | some r => reply via 0x0305 0x00 (if loud then { r with result := 4 } else r).bytes s
      | none => reply via 0x0305 0x00 (beBytes 1 kind ++ beBytes 1 index ++ beBytes 1 (if loud then 4 else 0) ++ List.replicate 5 0) s)

/-- The echo events of a lane (R318): the sparse windows whose largest tap lies at least 12 dB above the window's mean, as the
distance in mm of its lag and its level in 0.25 dB below the lane's own signal. -/
def liveEvents (l : Lane) (rate vf : Nat) : List Byte :=
  let one := fun (w : Nat) =>
    match l.rx.ecStart.getD w none with
    | none => none
    | some start =>
      let taps := (l.rx.coefs.echo.drop (384 + 64 * w)).take 64
      let top := taps.foldl (fun m t => Nat.max m t.natAbs) 0
      let sum := (taps.map Int.natAbs).sum
      if top = 0 || top * top * 4096 * 1000 < 15849 * (sum * sum) then none
      else
        let i := taps.findIdx fun t => t.natAbs == top
        let t := (start + i) * 10000 - l.cal.distTx * rateTenths rate
        let mm := roundDiv (t * vf * 5 * 299792458) (rateTenths rate * 2000000000000)
        some (beBytes 2 mm ++ beBytes 1 (echoLevel top))
  let r := (List.range 4).filterMap one
  beBytes 1 r.length ++ r.flatten

/-- DIAG_LIVE (0x0306, R318). -/
def execDiagLive (via : Origin) (p : PortId) (vf : Nat) (s : State) : Host.Outcome State Fault Refusal :=
  .next (portCommand via 0x0306 p s fun s =>
    let q := s.port p
    let data := decide (q.snd.path = .native) && (decide (q.link.state = .up) || decide (q.link.state = .degraded))
    if vf < 100 || 190 < vf then reply via 0x0306 0x03 [] s
    else if !data then reply via 0x0306 0x07 [] s
    else
      let blank : LaneEst := { detected := false, usable := false, snr := 0, skew := 0, il1 := 0, il175 := 0 }
      reply via 0x0306 0x00 (allLanes.flatMap fun n =>
        let rx := q.snd.estRx.getD n.val blank
        let tx := q.snd.estTx.getD n.val blank
        beBytes 1 rx.il1 ++ beBytes 1 rx.il175 ++ beBytes 1 tx.il1 ++ beBytes 1 tx.il175
          ++ if q.duplex then liveEvents q.lanes[n.val] q.rate vf else beBytes 1 0) s)

/-! ### Insertion loss -/

/-- DIAG_IL (0x0304, R165, R308, R315): the IL_REQ falls due, on the sounding-only path at that path's base SF. -/
def execDiagIl (via : Origin) (p : PortId) (mask : BitVec 8) (cable : Bool) (range sf : Nat) (s : State) :
    Host.Outcome State Fault Refusal :=
  .next (diagStart via 0x0304 p true (decide (sf < 6) || decide (12 < sf) || decide (2 < range)) s fun s =>
    let sf := if (s.port p).snd.path = .soundingOnly then (s.port p).snd.sessionSf else sf
    let s := (diagTake p .il 0xFF 0 0 s).modPort p fun q =>
      { q with diag := { q.diag with il := .requested, ilUid := Config.uid.toNat, ilPort := p.val, ilMask := mask.toNat,
                                     ilRange := range, ilFs := (s.group p).freq.code, ilCable := b2n cable, ilSf := sf, ilResends := 0 },
               snd := { q.snd with diffResends := 0 } }
    sendDiff p 0x40 sf false (diagPayload (s.port p) 1 mask.toNat range (s.group p).freq.code 0) s)

/-- A DIAG frame on the sounding-only path carries its SESSION (R157). -/
def Port.diagSession (q : Port) (session : Nat) : Bool := decide (q.snd.path ≠ .soundingOnly) || decide (session = q.snd.session)

/-- IL_REQ_RECEIVE (R315, Table 12.9): answered with IL_ACK, again where it repeats the request granted, or with IL_DECLINE and
its reason. A port in DOWN listens only with ACCEPT = 1; a request that names this device and port, or another SESSION, is discarded
(R138, R157). -/
def execIlReqReceive (p : PortId) (session : Nat) (uid : BitVec 64) (port mask range fs : Nat) (s : State) : Host.Outcome State Fault Refusal :=
  .next (
    let q := s.port p
    let accept := bitOf q.diag.ctrl 0
    let sf := if q.snd.path = .soundingOnly then q.snd.sessionSf else bits q.diag.ctrl 7 4
    let own := (s.group p).freq.code
    let own' := decide (uid.toNat = Config.uid.toNat) && decide (port = p.val)
    let again := decide (q.diag.il = .granted) && decide (q.diag.ilUid = uid.toNat) && decide (q.diag.ilPort = port)
    if own' || !q.diagSession session || !(q.diagState true) || (q.link.state = .down && !accept && q.diag.running.isNone) then s
    else if again then sendDiff p 0x40 q.diag.ilSf true (diagPayload q 2 0 0 own 0) s
    else
      let why := if !accept then 1 else if q.diag.running.isSome then 3 else if !diagAdmits p true s then 2 else 0
      if why = 0 then
        let s := (diagTake p .serving mask 0 0 s).modPort p fun q =>
          { q with diag := { q.diag with il := .granted, ilUid := uid.toNat, ilPort := port, ilMask := mask, ilRange := range,
                                         ilFs := fs, ilSf := sf } }
        sendDiff p 0x40 sf true (diagPayload (s.port p) 2 0 0 own 0) s
      else
        let r := { q with diag := { q.diag with ilUid := uid.toNat, ilPort := port } }
        sendDiff p 0x40 sf true (diagPayload r 3 0 0 0 why) s)

/-- IL_ACK_RECEIVE (R315): the initiator prepares to measure. -/
def execIlAckReceive (p : PortId) (session fs : Nat) (s : State) : Host.Outcome State Fault Refusal :=
  .next (
    if (s.port p).diag.il ≠ .requested || !(s.port p).diagSession session then s
    else s.modPort p fun q => { q with diag := { q.diag with il := .measuring, ilFs := fs } })

/-- IL_DECLINE_RECEIVE (R316): DIAG_IL returns DENIED. -/
def execIlDeclineReceive (p : PortId) (session _reason : Nat) (s : State) : Host.Outcome State Fault Refusal :=
  .next (if (s.port p).diag.il ≠ .requested || !(s.port p).diagSession session then s else diagEnd p 0x05 s)

/-- IL_SCHEDULE_START (R315): the partner drives the TX pairs of MASK at AMP 127 in RANGE. -/
def execIlScheduleStart (p : PortId) (s : State) : Host.Outcome State Fault Refusal :=
  .next (
    if (s.port p).diag.il ≠ .granted then s
    else
      s.modPort p fun q =>
        let m := q.diagLanes q.diag.ilMask
        let was := (List.range 8).filterMap fun n =>
          if m.testBit n then (q.lanes.toList[n]?).map fun l => (n, bits (l.act .txCtrl) 1 0) else none
        let q := q.mapLanes fun n l =>
          if !m.testBit n.val then l
          else (l.setReg .txCtrl fun r => { r with inForce := setBits r.inForce 1 0 q.diag.ilRange }).setTone (diagTone 1 127)
        { q with diag := { q.diag with il := .driving, rangeSaved := was } })

/-- The tables of an insertion-loss exchange are kept and DIAG_IL replies (R315 to R317): pairs of MASK whose schedule was not
completed record 0x5. -/
def ilFinish (p : PortId) (status : Nat) (meas : List DiagMeas) (s : State) : State :=
  let q := s.port p
  let points := Nat.min (planPoints (s.group p).freq.code) (planPoints q.diag.ilFs)
  let ids := (List.range 8).filter fun i => q.diag.ilMask.testBit i
  diagFinish p .il status (keepResults p .il points ids meas s)

/-- IL_DONE_RECEIVE (R315). -/
def execIlDoneReceive (p : PortId) (session : Nat) (meas : List DiagMeas) (s : State) : Host.Outcome State Fault Refusal :=
  .next (if (s.port p).diag.il ≠ .measuring || !(s.port p).diagSession session then s else ilFinish p 0x00 meas s)

/-- IL_DONE_TIMEOUT (R316). -/
def execIlDoneTimeout (p : PortId) (meas : List DiagMeas) (s : State) : Host.Outcome State Fault Refusal :=
  .next (if (s.port p).diag.il ≠ .measuring then s else ilFinish p 0x08 meas s)

/-! ### Capture -/

/-- Bytes of staging of each of n lanes: an equal share of 1.5 MiB, down to a multiple of 4 KiB (R319). -/
def capShare (lanes : Nat) : Nat := if lanes = 0 then 0 else 1572864 / lanes / 4096 * 4096

/-- Samples in 4 ms at an fs code (R319). -/
def capLimit : Nat → Nat
  | 1 => 473600000
  | 2 => 414400000
  | 3 => 355200000
  | 4 => 425000000
  | _ => 0

/-- A trigger's parameters are in range (R320): N from 1 to 2^24; the tone lane is one that the capture does not name. -/
def CapTrigger.ok (t : CapTrigger) (lanes : Nat) : Bool :=
  match t with
  | .immediate => true
  | .slot n => decide (1 ≤ n) && decide (n ≤ 2 ^ 24)
  | .tone n => !lanes.testBit n.val

/-- CAPTURE_START (0x0310, R308, R319). -/
def execCaptureStart (via : Origin) (p : PortId) (lanes : BitVec 8) (txGroup : Bool) (vga peak n count : Nat)
    (trigger : CapTrigger) (s : State) : Host.Outcome State Fault Refusal :=
  .next (portCommand via 0x0310 p s fun s =>
    let m := lanes.toNat
    let fs := (s.group p).freq.code
    let bad := decide (m = 0) || decide (96 < vga) || decide (31 < peak) || decide (n = 0) || decide (n % 4096 ≠ 0)
      || decide (capShare (popcount8 m) < n) || decide (count = 0) || (decide (fs ≠ 0) && decide (capLimit fs < count * n))
      || !trigger.ok m
    if bad then diagReply via 0x0310 p 0x03 [] s
    else if !diagAdmits p false s || decide (s.store.state ≠ 2) || decide (s.store.captureGib = 0) then
      diagReply via 0x0310 p 0x07 [] s
    else if (s.port p).diag.running.isSome || decide (s.cap.outcome = .running) then
      diagReply via 0x0310 p 0x01 [] s
    else
      let s := { s with cap :=
        { outcome := .running, port := some p, laneMask := m, txGroup := txGroup, vga := vga, peak := peak, s := n, count := count,
          trigger := trigger, taken := 0, missed := 0, staging := [], stored := [],
          mark := (s.port p).code.slotCnt } }
      let s := s.modPort p fun q =>
        let q := q.mapLanes fun k l => if m.testBit k.val then { l with rx := { l.rx with vga := vga, peak := peak } } else l
        { q with diag := { q.diag with running := some .capture } }
      diagReply via 0x0310 p 0x00 [] s)

/-- The trigger of a capture falls (R320): at once, at every N-th slot boundary of the port since the capture was armed, or with the
named lane's generator in RAMP mode, whose reload the row is. -/
def CaptureSt.due (c : CaptureSt) (q : Port) : Bool :=
  match c.trigger with
  | .immediate => true
  | .slot n => decide (q.code.slotCnt ≠ c.mark) && decide ((q.code.slotCnt + slotMod - c.mark) % slotMod % n = 0)
  | .tone k => decide (q.lanes[k.val].tx.state = .tone) && decide (toneMode (q.lanes[k.val].act .txToneCtrl) = 2)

/-- CAPTURE_TRIGGER (R320): a segment starts where staging has room for all of it; otherwise the trigger is
missed, but for IMMEDIATE, which waits for the room. -/
def execCaptureTrigger (samples : List Byte) (s : State) : Host.Outcome State Fault Refusal :=
  .next (
    let c := s.cap
    match c.port with
    | none => s
    | some p =>
      if c.outcome ≠ .running || c.count ≤ c.taken || !c.due (s.port p) then s
      else if capShare (popcount8 c.laneMask) < (c.staging.length + 1) * c.s then
        if c.trigger = .immediate then s else { s with cap := { c with missed := c.missed + 1, mark := (s.port p).code.slotCnt } }
      else
        let ns := s.time.ctr / 2 ^ 40
        let seg : CapSegment :=
          { port := p, laneMask := c.laneMask, txGroup := c.txGroup, number := c.taken, s := c.s, fs := (s.group p).freq.code,
            vga := c.vga, peak := c.peak, slot := (s.port p).code.slotCnt, sec := if s.time.run then ns / 1000000000 else 0,
            ns := if s.time.run then ns % 1000000000 else 0, link := 0, samples := samples, lost := false }
        { s with cap := { c with taken := c.taken + 1, staging := c.staging ++ [seg], mark := (s.port p).code.slotCnt } })

/-- 4 KiB slots that a segment takes (R321). -/
def CaptureSt.segSlots (c : CaptureSt) : Nat := (64 + popcount8 c.laneMask * c.s + 4095) / 4096

/-- CAPTURE_SEGMENT_STORED (R224, R320, R321): the oldest staged segment reaches the reserve, over bandwidth that the classes leave
unused; the capture may end. -/
def execCaptureSegmentStored (link : CxlId) (s : State) : Host.Outcome State Fault Refusal :=
  .next (
    let s := grantInterval s
    let c := s.cap
    match c.staging with
    | [] => s
    | g :: rest =>
      if c.outcome ≠ .running || !(getNat s.store.mx link.val CxlLink.reset).takes || !captureRoom s then s
      else
        let c := { c with staging := rest, stored := c.stored ++ [{ g with link := link.val }] }
        let s := { s with cap := c, store := { s.store with gC := s.store.gC + c.segSlots } }
        if c.count ≤ c.stored.length then captureEnd .done s
        else if s.store.captureGib * 2 ^ 18 < (c.stored.length + 1) * c.segSlots then captureEnd .full s
        else s)

/-- CAPTURE_TIMEOUT (R320). -/
def execCaptureTimeout (s : State) : Host.Outcome State Fault Refusal := .next (captureEnd .timeout s)

/-- CAPTURE_STOP (0x0313, R320). -/
def execCaptureStop (via : Origin) (s : State) : Host.Outcome State Fault Refusal :=
  .next (command via 0x0313 s fun s => reply via 0x0313 0x00 [] (captureEnd .stopped s))

/-- CAPTURE_STATUS (0x0311, R321): outcome, segments stored and lost, MISSED. -/
def execCaptureStatus (via : Origin) (s : State) : Host.Outcome State Fault Refusal :=
  .next (command via 0x0311 s fun s =>
    let c := s.cap
    reply via 0x0311 0x00
      (beBytes 1 c.outcome.code ++ beBytes 4 c.stored.length ++ beBytes 4 (c.stored.countP fun g => g.lost) ++ beBytes 4 c.missed) s)

/-- The 64-byte header of a segment (R321). -/
def CapSegment.header (g : CapSegment) : List Byte :=
  let l := beBytes 4 0x4D4C4357 ++ beBytes 1 g.port.val ++ beBytes 1 g.laneMask ++ beBytes 1 (b2n g.txGroup) ++ beBytes 4 g.number
    ++ beBytes 4 g.s ++ beBytes 1 g.fs ++ beBytes 1 g.vga ++ beBytes 1 g.peak ++ beBytes 4 g.slot ++ beBytes 6 g.sec
    ++ beBytes 4 g.ns
  l ++ List.replicate (64 - l.length) 0

/-- CAPTURE_READ (0x0312, R321): 2,048 bytes of a stored segment; bytes of its last slot beyond its samples are free values. -/
def execCaptureRead (via : Origin) (segment ofs : Nat) (s : State) : Host.Outcome State Fault Refusal :=
  .next (command via 0x0312 s fun s =>
    let c := s.cap
    match c.stored[segment]? with
    | none => reply via 0x0312 (if c.outcome = .running && decide (segment < c.count) then 0x01 else 0x03) [] s
    | some g =>
      if c.segSlots * 4096 < ofs + 2048 then reply via 0x0312 0x03 [] s
      else if g.lost then reply via 0x0312 0x07 [] s
      else
        let l := g.header ++ g.samples
        let f := s.fresh
        let bytes := (List.range 2048).map fun i => (l[ofs + i]?).getD (Config.freeByte (f + i))
        reply via 0x0312 0x00 bytes { s with fresh := f + 2048 })

end Sys2Proof.Machine
end

