-- ==== Sys2Proof/Machine/Slot.lean ====
section
/-!
DEFINITION. The folio slot boundary of a port (R40, R101, R110, R115, R116, R192 to R203): the slot count, the stripe, the folios
of the slot and the actions deferred to a boundary.
-/
namespace Sys2Proof.Machine

/-! ### Folios of a slot -/

/-- A lane sends framed folios (R101, R115): its transmitter in DATA on a native port from ALIGN on, in the coding states of
Table 4.4, and in ADDING once it is framed. -/
def Port.framedLane (q : Port) (n : LaneId) : Bool :=
  let l := q.lanes[n.val]
  decide (q.snd.path = .native) && q.link.state.fromAlign && decide (l.tx.state = .data)
    && match l.code.state with
      | .hunt | .locked | .aligned | .active | .quar => true
      | .adding => l.code.framed
      | _ => false

/-- The slot count that stands in the slot is that of an alignment slot (R101). -/
def Port.alignSlot (q : Port) : Bool := decide (q.code.slotCnt % 4096 = 0)

/-- The port sends alignment folios (R111): the leader from ALIGN on, the follower once it has loaded its count. -/
def Port.sendsAlign (q : Port) : Bool := q.snd.leader || q.code.loaded || decide (q.link.state ≠ .align)

/-- The head of a folio of this port in the slot that stands. -/
def Port.head (q : Port) (n : LaneId) (type key : Nat) : Head :=
  { type := type, key := key, lane := n.val, ctl := q.ctl, ack := 0, attempt := 0, prevLane := 0, prevSlot := 0, naks := [],
    slot := q.code.slotCnt }

/-- The symbols a lane sends for the blocks of a folio. -/
def Port.lineSymbols (q : Port) (n : LaneId) (blocks : List (BitVec 2 × BitVec 256)) : Nat × List Int :=
  (n.val, folioSymbols (bitOf (q.lanes[n.val].act .txCtrl) 8) blocks)

/-- A void folio (R101): KEY is the slot count [15:0]. -/
def Port.voidFolio (q : Port) (n : LaneId) : Nat × List Int :=
  q.lineSymbols n (sentBlocks (q.head n 0xF2 (q.code.slotCnt % 65536)) (List.replicate 29 Block.fill))

/-- An alignment folio (R101). -/
def Port.alignFolio (q : Port) (n : LaneId) : Nat × List Int := q.lineSymbols n (sentAlign (q.head n 0xF1 0))

/-- A data folio, with the ACK and the NAK entries of the slot (R193, R198, R199). -/
def Port.dataFolio (q : Port) (n : LaneId) (f : SentFol) (naks : List Nak) : Nat × List Int :=
  q.lineSymbols n (sentBlocks
    { q.head n 0xF0 f.seq with
      ack := q.lre.rxNext, attempt := f.attempt, prevLane := f.prevLane, prevSlot := f.prevSlot,
      naks := naks.map fun k => nakWord k.busy k.lane k.slot } f.body)

/-- The stream places of a slot: the framed lanes in the map, ascending (R115). -/
def Port.streamLanes (q : Port) : List LaneId := allLanes.filter fun n => q.framedLane n && q.code.map.testBit n.val

/-- STREAM_PLACE_FILL over the slot's stream places: what each carries, and whether the window stalled (R195, R202). -/
def fillPlaces (fillOnly : Bool) : List LaneId → Port → List (LaneId × PlaceOut) × Bool × Port
  | [], q => ([], false, q)
  | n :: l, q =>
    let r := q.fillPlace n.val q.code.slotCnt fillOnly
    match r.1 with
    | .stall => ([], true, r.2)
    | o =>
      let t := fillPlaces fillOnly l r.2
      ((n, o) :: t.1, t.2.1, t.2.2)

/-- Timestamps of a data folio sent (R470): a new one's blocks are stamped, and a folio sent again marks its own. -/
def stampSent (p : PortId) (f : SentFol) (s : State) : State :=
  if f.isNew then
    stampBlocks p false s.time.ctr false (some f.seq) ((f.body.zipIdx.filter fun b => decide (b.1 ≠ Block.fill)).map fun b => (b.2 + 1, b.1)) s
  else stampRetry p f.seq s

/-- FOLIO_TRANSMIT in an alignment slot (R101, R111, R474): an alignment folio on every framed lane; before the follower has
loaded its count a void folio. -/
def sendAlignSlot (p : PortId) (s : State) : State :=
  let q := s.port p
  let lanes := allLanes.filter q.framedLane
  if lanes.isEmpty then s.modPort p fun q => { q with code := { q.code with lineOut := [] } }
  else
    let al := q.sendsAlign
    s.modPort p fun q =>
      { q with
        code := { q.code with lineOut := lanes.map fun n => if al then q.alignFolio n else q.voidFolio n },
        time := if al && bitOf q.time.tsCtrl 2 then
            { q.time with sentAl := alLog (q.code.slotCnt, timeWrap ((s.time.ctr : Int) + psUnits q.time.latTx)) q.time.sentAl }
          else q.time }

/-- FOLIO_TRANSMIT in another slot (R101, R115, R195, R199, R202): the stream places in ascending lane index, void folios on the
framed lanes outside the map; a stalled window takes the port to DOWN. -/
def sendSlot (p : PortId) (s : State) : State :=
  let q := s.port p
  let r := fillPlaces (decide (q.link.state = .quiet)) q.streamLanes q
  if r.2.1 then
    let s := s.modPort p fun _ => { r.2.2 with lre := { r.2.2.lre with stall := true } }
    enterDown p 6 (raise .windowStall (.port p) 0 s)
  else
    let data := r.1.filterMap fun x => match x.2 with
      | .data f => some f
      | _ => none
    let naks := if data.isEmpty then [] else q.lre.slotNaks
    let q := { r.2.2 with lre := r.2.2.lre.countWaits }
    let q := if data.isEmpty then q else { q with lre := q.lre.naksSent }
    let out := (allLanes.filter q.framedLane).map fun n =>
      match r.1.find? fun x => x.1 = n with
      | some (_, .data f) => q.dataFolio n f naks
      | _ => q.voidFolio n
    let s := s.modPort p fun _ => { q with code := { q.code with lineOut := out } }
    data.foldl (fun s f => stampSent p f s) s

/-- Outputs of the scrambler as bits, in order (R104). -/
def ksList : Nat → BitVec 58 → List Bool × BitVec 58
  | 0, s => ([], s)
  | n + 1, s =>
    let s := ksStep s
    let r := ksList n s
    (s.getLsbD 0 :: r.1, r.2)

/-- The scrambler at bit 0 of a lane's training pattern (R104, R166). -/
def patSeed (n : LaneId) : BitVec 58 := ksRun 64 (ksSeed (BitVec.ofNat 16 (0xA5C0 + n.val)))

/-- A lane sends the training pattern (R128, R166): in DATA in TRAIN, and in ADDING until it is framed. -/
def Port.patternLane (q : Port) (n : LaneId) : Bool :=
  let l := q.lanes[n.val]
  decide (q.snd.path = .native) && decide (l.tx.state = .data)
    && ((decide (q.link.state = .train) && q.snd.set.testBit n.val) || (decide (l.code.state = .adding) && !l.code.framed))

/-- The training patterns of a slot (R166): 8,600 bits of each lane's keystream, in groups of five, continuous from slot to slot. -/
def Port.sendPatterns (q : Port) : Port :=
  let next := fun (n : LaneId) => ksList 8600 ((q.lanes[n.val]).tx.pat.getD (patSeed n))
  let lanes := allLanes.filter q.patternLane
  let out := lanes.map fun n => (n.val, pam6Symbols (bitOf (q.lanes[n.val].act .txCtrl) 8) (next n).1)
  { (q.mapLanes fun n l => if q.patternLane n then { l with tx := { l.tx with pat := some (next n).2 } } else l) with
    code := { q.code with lineOut := q.code.lineOut ++ out } }

/-- A lane's pattern generator drives it (R405, R406): as the requester of a far-end loopback, or under GEN_EN in a loopback or with
the port in DOWN and its link disabled. -/
def Port.genLane (q : Port) (n : LaneId) : Bool :=
  let l := q.lanes[n.val]
  decide (l.tx.state = .data)
    && (l.test.genOn || (bitOf l.test.prbsCtrl 4 && (decide (l.test.loop ≠ .none) || q.idleDown)))

/-- The pattern a lane's generator sends: native PRBS31 in a far-end loopback (R405), else as ST_PRBS_CTRL says. -/
def LaneTest.genPattern (t : LaneTest) : Nat := if t.genOn then 0 else t.pattern

/-- A slot's 3,440 samples of a pattern (R406): PRBS31 in groups of five bits under R41, or two bits to a PAM4 symbol, each of two
samples at 53.125 GBd (PRESUMED of IEEE 802.3's test patterns: log 132). The symbols and the generator's register after them. -/
def Lane.genSymbols (n : LaneId) (l : Lane) : List Int × List Bool :=
  let t := l.test
  let invert := bitOf (l.act .txCtrl) 8
  let reg := t.genReg.getD (prbsStart n)
  if t.genPattern = 0 then
    let r := prbsRun 0 8600 reg
    (pam6Symbols invert r.1, r.2)
  else
    let twice := bitOf t.prbsCtrl 3
    let r := prbsRun t.genPattern (if twice then 3440 else 6880) reg
    let sign : Int := if invert then -1 else 1
    ((pam4Gray r.1).flatMap fun x => List.replicate (if twice then 2 else 1) (sign * pam4Level x), r.2)

/-- The decisions a lane has made last, as symbols under its own INVERT (R405, step 3). -/
def Lane.loopSymbols (l : Lane) : List Int :=
  l.rx.run.out.map fun x => if bitOf (l.act .txCtrl) 8 then -x.1 else x.1

/-- The generators' symbols of a slot (R406), and on the partner of a far-end loopback the lane's decisions (R405), in place of the
mapper's output. -/
def Port.sendPrbs (q : Port) : Port :=
  let lanes := allLanes.filter q.genLane
  let far := allLanes.filter fun n => decide (q.lanes[n.val].test.loop = .farServe) && decide (q.lanes[n.val].tx.state = .data)
  let out := (lanes.map fun n => (n.val, (q.lanes[n.val].genSymbols n).1)) ++ far.map fun n => (n.val, q.lanes[n.val].loopSymbols)
  { (q.mapLanes fun n l => if q.genLane n then { l with test := { l.test with genReg := some (l.genSymbols n).2 } } else l) with
    code := { q.code with lineOut := out ++ q.code.lineOut } }

/-- What the slot's symbols make of the DACs (R42, R43): each lane that sends takes them into its FFE. -/
def Port.drive (q : Port) : Port :=
  q.mapLanes fun n l =>
    match q.code.lineOut.find? fun x => x.1 = n.val with
    | some x => l.sendSymbols (if q.genLane n && decide (l.test.genPattern ≠ 0) then 3 else 5) x.2
    | none => l

/-! ### The boundary -/

/-- What falls due in the data states at a boundary: the wake's receivers (R279), the places the queues free, holds, the
guarantee, and the requests and adds that wait (R126, R128, R230, R557). -/
def slotDue (p : PortId) (s : State) : State :=
  let q := s.port p
  let hold := allLanes.any fun n => q.code.map.testBit n.val && decide (q.lanes[n.val].rx.phase = .hold)
  let s := if q.link.state = .wake && q.link.wakeRole = .initiator && hold then s.modPort p Port.rxTrack else s
  let s := s.modPort p fun q => q.egressSlot
  let s := guarJudge p (reHold p s)
  capacityAdds p (resendAdds p (judgeWaiting p (quietSettle p s)))

/-- The lanes and counts at a boundary (R40, R51, R110, R120, R274): the slot count advances in every state. -/
def slotAdvance (p : PortId) (s : State) : State :=
  let s := s.modPort p fun q =>
    let q := { q with code := { q.code with slotCnt := (q.code.slotCnt + 1) % slotMod } }
    let al := fun n => q.alignSlot && q.framedLane n && q.sendsAlign
    let quiet := decide (q.link.state = .quiet)
    let lanes := mapIdx q.lanes fun n l => l.txSlot (al n) quiet
    { q with
      lanes := lanes,
      link := if q.link.inWindow then { q.link with winSlot := q.link.winSlot + 1 } else q.link,
      code := if q.link.state = .align && q.alignSlot then { q.code with alignPeriods := q.code.alignPeriods + 1 } else q.code }
  let s := allLanes.foldl (fun s n => vgaBoundary p n s) s
  if s.portSafe p then s
  else allLanes.foldl (fun s n => if (s.lane p n).tx.state = .safe then leaveSafe p n s else s) s

/-- The functional clocks of a pod are stopped (R412 step 4): its chains are enabled for internal scan. -/
def State.podStopped (s : State) (k : PodId) : Bool := s.test.scanEnabled && s.test.scanPods.testBit k.val

/-- SLOT_BOUNDARY (R40, R42, R101, R166, R406): one folio slot boundary of a port; a port in DOWN whose link is enabled starts
(Table 5.7, R426). -/
def execSlotBoundary (p : PortId) (s : State) : Host.Outcome State Fault Refusal :=
  .next (
    if !s.part.hasPort p || s.podStopped (podOf p) then s
    else
      let s := slotDue p (slotAdvance p s)
      let q := s.port p
      if q.link.state = .down then startLink p (s.modPort p fun q => ({ q with code := { q.code with lineOut := [] } }).sendPrbs.drive)
      else
        let s := if q.alignSlot then sendAlignSlot p s else sendSlot p s
        s.modPort p fun q => q.sendPatterns.sendPrbs.drive)

end Sys2Proof.Machine
end

