-- ==== Sys2Proof/Machine/RegMap.lean ====
section
/-!
DEFINITION. The register map as it reads (R515 to R525, R530 to R532, Tables 21.8 and 21.9 and every chapter's register tables):
where an address lies, the word each register holds, what an RC read clears and what a _LO read latches.
-/
namespace Sys2Proof.Machine

/-! ### Addresses -/

/-- Where a word address lies (Tables 21.1 and 21.2): the window and the offset within it. -/
inductive Place where
  | glob (o : Nat)
  | fault (o : Nat)
  | time (o : Nat)
  | stack (o : Nat)
  | spill (o : Nat)
  | mailbox (o : Nat)
  | pod (k : PodId) (o : Nat)
  | port (p : PortId) (o : Nat)
  | lane (p : PortId) (n : LaneId) (o : Nat)
  | outside
deriving DecidableEq, Repr

/-- The place of an address (R515). -/
def Place.ofAddr (a : Nat) : Place :=
  let o := a % 0x10000
  if a < 0x10000 then .glob o
  else if a < 0x20000 then .fault o
  else if a < 0x30000 then .time o
  else if a < 0x40000 then .stack o
  else if a < 0x50000 then .spill o
  else if a < 0x60000 then .mailbox o
  else if a < 0x80000 then .outside
  else if a < 0x100000 then
    if h : (a - 0x80000) / 0x10000 < 8 then .pod ⟨(a - 0x80000) / 0x10000, h⟩ o else .outside
  else if a < 0x1000000 then .outside
  else if h : (a - 0x1000000) / 0x10000 < 96 then
    let p : PortId := ⟨(a - 0x1000000) / 0x10000, h⟩
    if 0x8000 ≤ o ∧ o < 0xC000 then .lane p ⟨(o - 0x8000) / 0x800 % 8, Nat.mod_lt _ (by decide)⟩ (o % 0x800) else .port p o
  else .outside

/-- The word an address lies in: every access is one aligned word (R517). -/
def wordAddr (a : BitVec 32) : Nat := a.toNat / 4 * 4

/-! ### Small fields -/

/-- A mask word of up to 32 ports from port 32 i (GLB_UPi, SAFE_PORTi). -/
def portWord (i : Nat) (f : PortId → Bool) : Word :=
  BitVec.ofNat 32 (maskOf 32 fun j => if h : 32 * i + j < 96 then f ⟨32 * i + j, h⟩ else false)

/-- A signed field. -/
def sfld (v : Int) (lo w : Nat) : Word := fld (unsigned w v) lo w

/-- A cause register's bits over one instance (Table 17.5). -/
def causeWord (i : Inst) (f : FltInst → Bool) (s : State) : Word :=
  (Cause.all.filter fun c => decide (c.scope = i.scope)).foldl
    (fun w c => w ||| flg (f (fltGet c i s)) (c.code - i.scope.base)) 0

/-- The sticky causes of an instance that its enables let into the tree (R430). -/
def State.irqOwn (s : State) (i : Inst) : Bool :=
  let en := match i with
    | .lane p n => (s.lane p n).fltEn
    | .port p => (s.port p).fltEn
    | .pod k => (s.pod k).fltEn
    | .dev => s.flt.devEn
  decide (causeWord i (fun x => x.sticky) s &&& en ≠ 0)

/-- PORT_FLT_SUM (R430, Table 17.6). -/
def State.portSum (s : State) (p : PortId) : Word :=
  flg (s.irqOwn (.port p)) 8
    ||| BitVec.ofNat 32 (maskOf 8 fun n => if h : n < 8 then s.irqOwn (.lane p ⟨n, h⟩) else false)

/-- POD_IRQk (R430, Table 17.6). -/
def State.podIrq (s : State) (k : PodId) : Word :=
  flg (s.irqOwn (.pod k)) 12
    ||| BitVec.ofNat 32 (maskOf 12 fun i => allPorts.any fun p =>
          decide (podOf p = k) && decide (idxOf p = i) && decide (s.portSum p ≠ 0))

/-- IRQ_SUMMARY (R430, Table 17.6). -/
def State.irqSummary (s : State) : Word :=
  flg (decide (s.flt.nmi ≠ 0)) 31 ||| flg (s.irqOwn .dev) 30
    ||| BitVec.ofNat 32 (maskOf 8 fun k => if h : k < 8 then decide (s.podIrq ⟨k, h⟩ ≠ 0) else false)

/-- IRQ_N is asserted (R381, R430): the tree through PIN_EN, and NMI always, once CONFIG_DONE is set. -/
def State.irqN (s : State) : Bool :=
  s.boot.configDone && (bitOf s.irqSummary 31 || (bitOf s.flt.irqCtrl 1 && decide (s.irqSummary ≠ 0)))

/-- The Librarian's interrupt (R431): an NMI, whatever the enables say. -/
def State.libIrq (s : State) : Bool := decide (s.flt.nmi ≠ 0)

/-- The Clerk's interrupt input (R430, R431): the same tree through CLERK_EN, once the Clerk has been released. -/
def State.clerkIrq (s : State) : Bool :=
  decide (s.fw.clerk ≠ .held) && (bitOf s.irqSummary 31 || (bitOf s.flt.irqCtrl 0 && decide (s.irqSummary ≠ 0)))

/-- The CLASS field of FLT_REACTc (Table 17.7). -/
def classField (c : Cause) (s : State) : Nat :=
  match c.fixedClass with
  | some k => k.code
  | none => match getNat s.flt.lastCls c.code none with | some k => k.code | none => 3

/-! ### Wide registers -/

/-- The number a wide register's _LO offset names in the global window. -/
def wideGlob (o : Nat) : Option Nat := if o = 0x8 then some Config.uid.toNat else none

/-- The same in the fault region. -/
def wideFault (s : State) (o : Nat) : Option Nat :=
  let r := getNat s.flt.recs s.flt.recSel FltRec.free
  match o with
  | 0x010 => some s.nowNs
  | 0x308 => some r.time
  | 0x310 => some r.secondary.toNat
  | _ => none

/-- The same in a port window. -/
def widePort (q : Port) (o : Nat) : Option Nat :=
  if 0xC40 ≤ o ∧ o < 0xD40 then
    let b := q.ieee.toList[(o - 0xC40) / 0x20]?
    match (o - 0xC40) % 0x20 with
    | 0x00 => b.map fun b => b.corrCw
    | 0x08 => b.map fun b => b.uncCw
    | 0x10 => b.map fun b => b.sym
    | _ => none
  else
    match o with
    | 0x1030 => some q.code.corrSym
    | 0x1038 => some q.code.corrFol
    | 0x1040 => some q.code.uncFol
    | 0x1048 => some q.code.erase
    | 0x2020 => some q.lre.txNew
    | 0x2028 => some q.lre.txResend
    | 0x302C => some q.snd.negUid
    | 0x4020 => some q.host.corrCw
    | 0x4028 => some q.host.uncCw
    | _ => none

/-- The same in a lane window. -/
def wideLane (l : Lane) (o : Nat) : Option Nat :=
  match o with
  | 0x508 => some l.test.errs
  | 0x510 => some l.test.bitCnt
  | _ => none

/-- The whole value of the wide register whose _LO word lies at a place (R525). -/
def State.wide (s : State) : Place → Option Nat
  | .glob o => wideGlob o
  | .fault o => wideFault s o
  | .mailbox o => if o = 0x8024 then some s.ledger.newest else none
  | .port p o => widePort (s.port p) o
  | .lane p n o => wideLane (s.lane p n) o
  | _ => none

/-! ### The words of each window -/

/-- The words of the global window (Tables 9.6, 9.7, 11.12, 11.13, 13.8 to 13.11, 14.16 to 14.18, 15.13, 15.14, 16.14, 16.15,
21.11 to 21.14). -/
def readGlob (s : State) (o : Nat) : Option Word :=
  let c := s.clk
  let hub := fun (i : Nat) => getNat s.pwr.hubSensors i Sensor.zero
  let pods := fun (f : Pod → Bool) => maskOf 8 fun k => if h : k < 8 then f (s.pod ⟨k, h⟩) else false
  match o with
  | 0x000 => some (fld 0x9620 16 16 ||| fld (2 ^ s.part.pods - 1) 8 8 ||| fld s.part.code 0 4)
  | 0x004 => some Config.glbRev
  | 0x010 => some (flg (decide (s.reg.wrStat ≠ 0)) 31 ||| fld s.reg.wrStat.toNat 0 5)
  | 0x014 => some (BitVec.ofNat 32 s.reg.wrAddr)
  | 0x018 => some s.reg.scratch
  | 0x01C => some (fld s.reg.capWin 0 11)
  | 0x020 | 0x024 | 0x028 => some (portWord ((o - 0x020) / 4) fun p => bitOf (s.fsiWord p) 14)
  | 0x030 | 0x034 | 0x038 => some (portWord ((o - 0x030) / 4) fun p => bitOf (s.fsiWord p) 15)
  | 0x300 => some c.cfg
  | 0x304 => some (flg c.froOk 31 ||| flg c.ref.good 30 ||| flg c.xa.good 29 ||| flg c.xb 28 ||| flg c.rpllLock 27
      ||| flg c.holdover 26 ||| fld (match c.rpllSrc with | none => 0 | some .refclk => 1 | some .xa => 2) 24 2
      ||| fld c.trimSrc 22 2 ||| flg c.trimmed 21 ||| flg c.slowXb 20 ||| fld c.stkSrc 18 2 ||| flg c.stkLock 17
      ||| flg (c.cxlLock && s.part.hasStore) 16 ||| fld (maskOf 4 fun i => (c.dom.toList[i]?.any fun d => d.fro)) 8 4
      ||| fld (maskOf 4 fun i => (c.dom.toList[i]?.any fun d => d.ramp != 0)) 4 4)
  | 0x308 => some c.gate
  | 0x30C => some (sfld c.refDev 16 16 ||| sfld c.xaDev 0 16)
  | 0x310 => some (fld c.sroCode 16 10 ||| fld c.froCode 0 10)
  | 0x314 => some (fld c.cntRef 24 8 ||| fld c.cntXa 16 8 ||| fld c.cntUnlock 8 8 ||| fld c.cntForced 0 8)
  | 0x400 => some (fld s.fsi.modeWritten 0 2)
  | 0x404 => some (flg s.fsi.clkOk 4 ||| fld s.fsi.mode 0 2)
  | 0x500 => some (fld s.cal.inForce 30 2 ||| fld s.cal.source 26 4 ||| flg s.cal.defaults 3 ||| flg s.cal.oldValid 2
      ||| flg s.storeBusy 1 ||| flg s.cal.run.isSome 0)
  | 0x504 => some (BitVec.ofNat 32 s.cal.seq)
  | 0x600 => some (fld (pods fun k => k.region.clock.live) 24 8 ||| fld (pods fun k => k.region.temp.live) 16 8
      ||| fld (pods fun k => k.region.supply.live) 8 8 ||| flg s.pwr.aon.supply.live 0)
  | 0x610 => some (fld s.pwr.thermWarn 0 8)
  | 0x614 | 0x618 | 0x61C | 0x620 =>
    let i := (o - 0x614) / 4 * 2
    some (flg (hub (i + 1)).valid 31 ||| sfld (hub (i + 1)).reading 16 12 ||| flg (hub i).valid 15 ||| sfld (hub i).reading 0 12)
  | 0x624 => some (match hottest s with | some (i, t) => fld i 16 5 ||| sfld t 0 12 | none => 0)
  | 0x700 => some (fld s.boot.step 28 4 ||| fld s.boot.fail 24 4 ||| flg s.boot.trial 23 ||| fld s.boot.slot 22 1
      ||| flg s.boot.stream 21 ||| flg s.boot.noRoot 20 ||| flg s.boot.configDone 19 ||| fld s.boot.cfgSkip 0 16)
  | 0x704 => some (s.boot.straps &&& 0x3F)
  | 0x708 => some (s.boot.cause &&& 0x1F)
  | 0x70C =>
    let op := match s.boot.job with
      | some j => (match j.op with | .imgErase => 1 | .imgWrite => 2 | .imgCommit => 3 | .imgConfirm => 4 | _ => 0)
      | none => 0
    some (flg (decide (op ≠ 0) && decide (op ≠ 4)) 31 ||| fld op 28 3 ||| fld s.boot.left 0 9)
  | 0x800 => some (flg s.test.bist.isSome 31 ||| flg s.test.lastMode 30 ||| fld s.test.lastFail 8 8 ||| fld s.test.lastTrunc 0 8)
  | 0x804 => some (fld (Nat.min 512 s.test.map.length) 22 10 ||| fld s.test.soft.length 8 12 ||| fld s.test.unrep.length 0 8)
  | 0x808 => some (fld (if s.test.scanLocked then 3 else if s.test.scanEnabled then 2 else if s.test.challenge.isSome then 1 else 0) 30 2
      ||| fld s.test.scanFails 28 2 ||| fld s.test.scanPods 16 8 ||| flg s.test.scanHub 15)
  | 0x80C => some (flg (decide (3 ≤ s.test.hubBg)) 24 ||| fld (pods fun k => decide (3 ≤ k.bgBad)) 16 8
      ||| fld (pods fun k => decide (0 < k.rampBad)) 8 8)
  | _ => none

/-- The words of the fault region (Tables 17.4 to 17.10). -/
def readFault (s : State) (o : Nat) : Option Word :=
  let f := s.flt
  let r := getNat f.recs f.recSel FltRec.free
  if 0x40 ≤ o ∧ o < 0xC0 then
    if h : (o - 0x40) / 0x10 < 8 then
      let k : PodId := ⟨(o - 0x40) / 0x10, h⟩
      if !s.part.hasPod k then none
      else
        match (o - 0x40) % 0x10 with
        | 0x0 => some (causeWord (.pod k) FltInst.live s)
        | 0x4 => some (causeWord (.pod k) (fun x => x.sticky) s)
        | 0x8 => some (s.pod k).fltEn
        | _ => some (s.podIrq k)
    else none
  else if 0x100 ≤ o ∧ o < 0x200 then
    match Cause.ofCode ((o - 0x100) / 4) with
    | some c => some ((getNat f.react c.code 0) ||| fld (classField c s) 12 2)
    | none => none
  else
    match o with
    | 0x000 => some s.irqSummary
    | 0x004 => some f.irqCtrl
    | 0x008 => some (fld f.nmi.toNat 0 6)
    | 0x020 => some (causeWord .dev FltInst.live s)
    | 0x024 => some (causeWord .dev (fun x => x.sticky) s)
    | 0x028 => some f.devEn
    | 0x200 => some f.sel
    | 0x204 => some f.snapCnt
    | 0x208 => some (BitVec.ofNat 32 f.snapFirst)
    | 0x20C => some (BitVec.ofNat 32 (f.snapFirst / 2 ^ 32))
    | 0x210 => some (BitVec.ofNat 32 f.snapLast)
    | 0x214 => some (BitVec.ofNat 32 (f.snapLast / 2 ^ 32))
    | 0x218 => some f.snapFlags
    | 0x300 => some (fld f.recSel 0 7)
    | 0x304 => some (flg r.pend 31 ||| flg r.inj 30 ||| flg r.real 29 ||| flg r.safe 28 ||| fld r.merge 20 8
        ||| fld ((r.cls.map FltClass.code).getD 0) 18 2 ||| fld r.primary 12 6 ||| fld r.detail 0 8)
    | 0x318 => some 0
    | 0x320 | 0x324 | 0x328 | 0x32C =>
      some (BitVec.ofNat 32 (maskOf 32 fun j => (getNat f.recs ((o - 0x320) / 4 * 32 + j) FltRec.free).pend))
    | 0x400 => some (flg s.devSafe 31
        ||| fld (maskOf 8 fun k => f.safe.any fun h => match h.scope with | .pod x => decide (x.val = k) | _ => false) 0 8)
    | 0x404 | 0x408 | 0x40C => some (portWord ((o - 0x404) / 4) fun p => s.part.hasPort p && s.portSafe p)
    | 0x500 => some (flg f.fiEn 0)
    | 0x504 => some (fld f.armed.length 16 5 ||| fld (Nat.min 0xFFFF f.delivered) 0 16)
    | 0x600 => some f.lastF0
    | 0x604 => some f.lastF1
    | _ => none

/-- The words of the time region (Tables 19.7 to 19.9); TIME_NOW's upper words come from the initiator's latch (R465). -/
def readTimeReg (s : State) (who : Initiator) (o : Nat) : Option Word :=
  let t := s.time
  let l := getLatch who 0x20010 s
  match o with
  | 0x00 => some (flg t.run 31 ||| fld t.src 28 3 ||| fld t.port 21 7 ||| fld t.holdS 16 5 ||| fld t.thr 0 16)
  | 0x04 => some (fld t.state.code 29 3 ||| fld t.epoch 27 2 ||| sfld t.ofs 0 27)
  | 0x08 => some (BitVec.ofInt 32 t.adj)
  | 0x10 => some (fld (t.ctr / 2 ^ 24) 0 16)
  | 0x14 => some (BitVec.ofNat 32 l)
  | 0x18 => some (BitVec.ofNat 32 (l / 2 ^ 32))
  | 0x1C => some (fld (l / 2 ^ 64) 0 16)
  | 0x20 => some (flg t.outEn 31 ||| flg t.reqLock 30 ||| sfld t.ppsOfs 20 10 ||| fld t.width 0 20)
  | 0x24 => some (fld (t.ppsIn / 2 ^ 40 % 1000000000) 0 32)
  | 0x28 => some (fld (t.ppsIn / 2 ^ 40 / 1000000000) 0 32)
  | 0x2C => some (flg t.ppsNew 31 ||| fld (t.ppsIn / 2 ^ 24) 0 16)
  | _ => none

/-- The words of the stack region (Tables 18.11 to 18.14). -/
def readStackReg (s : State) (o : Nat) : Option Word :=
  let k := s.stack
  if 0x20 ≤ o ∧ o < 0x40 then
    if h : (o - 0x20) / 8 < 4 then
      let x := s.stk ⟨(o - 0x20) / 8, h⟩
      let num := match x.partner with | some m => decide (m.id < 1024) | none => false
      let id := match x.partner with | some m => m.id | none => 0
      if (o - 0x20) % 8 = 0 then
        some (fld x.state.code 29 3 ||| fld x.role.code 26 3 ||| flg x.laneErr 25 ||| fld x.polInv.toNat 20 4
          ||| fld x.lockMask.toNat 16 4 ||| flg num 10 ||| fld (if num then id else 0) 0 10)
      else some (fld x.fails 24 8 ||| fld x.resends 16 8 ||| fld x.msgErr 8 8 ||| fld (Nat.min 255 (x.symErr / 16)) 0 8)
    else none
  else
    match o with
    | 0x00 => some (flg k.acceptTunnel 1 ||| flg k.autoEnum 0)
    | 0x04 => some (flg s.isMaster 31 ||| flg k.id.isSome 30 ||| flg k.orphan 29 ||| flg k.busy 28 ||| fld (k.depth.getD 15) 24 4
        ||| fld (match k.upstream with | some p => p.val | none => 7) 21 3 ||| fld (k.id.getD 0) 0 10)
    | 0x08 => some (fld k.gen 16 16)
    | 0x0C => some (BitVec.ofNat 32 k.frame)
    | 0x10 => some (if s.isMaster then flg k.tooMany 31 ||| flg k.depthCut 30 ||| fld k.members 16 11 ||| fld k.nextId 0 11 else 0)
    | 0x14 => some (if s.isMaster then fld k.late 24 8 ||| fld k.lost 16 8 ||| fld k.recs.length 0 9 else 0)
    | _ => none

/-- Ports of a class, and the parcels they hold (Table 8.15). -/
def classParcels (s : State) (c : Nat) : Nat :=
  (allPorts.map fun p => if (s.port p).cls = c then (s.port p).parcelsHeld else 0).sum

/-- The words of the spill region (Tables 8.11 to 8.18). -/
def readSpill (s : State) (o : Nat) : Option Word :=
  let x := s.store
  let mx := fun (f : CxlLink → Bool) => maskOf 8 fun m => f (getNat x.mx m CxlLink.reset)
  if 0x20 ≤ o ∧ o < 0x40 then
    let l := getNat x.mx ((o - 0x20) / 4) CxlLink.reset
    some (fld l.state 29 3 ||| fld l.width 27 2 ||| fld l.rate 25 2 ||| flg l.ide 24 ||| flg l.fenced 23 ||| fld (l.dM / 10) 12 11
      ||| fld l.capGib 0 12)
  else if 0x40 ≤ o ∧ o < 0x60 then
    let b := getNat x.podBw ((o - 0x40) / 4) (0, 0)
    if (o - 0x40) / 4 < s.part.pods then some (fld b.1 16 16 ||| fld b.2 0 16) else none
  else if 0x60 ≤ o ∧ o < 0x90 then
    let c := (o - 0x60) / 0x10 + 1
    let y := x.par c
    some (match (o - 0x60) % 0x10 with
      | 0x0 => fld y.floor 16 13 ||| fld y.min 0 13
      | 0x4 => fld y.weight 24 8 ||| fld y.portCap 13 11 ||| fld y.ceil 0 13
      | 0x8 => flg (decide (y.minEff < y.min)) 31 ||| fld y.minEff 0 13
      | _ => fld (classParcels s c) 0 30)
  else if 0xA0 ≤ o ∧ o < 0xB8 then
    let i := (o - 0xA0) / 4
    some ((List.range 16).foldl (fun w j =>
      w ||| fld (if h : 16 * i + j < 96 then (s.port ⟨16 * i + j, h⟩).cls else 0) (2 * j) 2) 0)
  else if 0x1000 ≤ o ∧ o < 0x1C00 then
    if h : (o - 0x1000) / 0x20 < 96 then
      let p : PortId := ⟨(o - 0x1000) / 0x20, h⟩
      let q := s.port p
      if !s.part.hasPort p then none
      else
        match (o - 0x1000) % 0x20 with
        | 0x00 => some (flg (s.held p) 31 ||| fld (s.holdWhy p) 28 3 ||| fld q.cls 26 2 ||| flg q.spill.h2l.inStore 25
            ||| flg q.spill.l2h.inStore 24)
        | 0x04 => some (fld q.parcelsHeld 0 30)
        | 0x08 => some (fld q.spill.flush 24 8 ||| fld q.spill.flushBlk 0 24)
        | 0x0C => some (BitVec.ofNat 32 q.spill.disc)
        | 0x10 => some (flg q.spill.guar 31 ||| fld q.spill.noguar 24 7 ||| fld (Nat.min 0xFFFF q.spill.h2l.sram) 0 16)
        | 0x14 => some (fld q.spill.viol 24 8 ||| fld q.spill.lost 16 8 ||| fld q.spill.drop 0 16)
        | _ => none
    else none
  else
    match o with
    | 0x00 => some (fld x.state 29 3 ||| flg x.reduced 28 ||| flg x.floorBreach 27 ||| fld (mx fun l => l.fenced) 16 8
        ||| fld (mx CxlLink.takes) 8 8 ||| fld (mx fun l => l.ide) 0 8)
    | 0x04 => some (fld (x.cfgD / 10) 16 16 ||| fld (x.nowD / 10) 0 16)
    | 0x08 => some (fld x.gen 0 16)
    | 0x0C => some (fld x.commonGib 21 11 ||| fld x.captureGib 10 11 ||| fld x.ledgerGib 0 4)
    | 0x10 => some (fld (getNat x.shelf 2 0) 20 10 ||| fld (getNat x.shelf 1 0) 10 10 ||| fld (getNat x.shelf 0 0) 0 10)
    | _ => none

/-- A word of slot memory: byte i of the word at bits [8i+7:8i] (DESIGN CHOICE). -/
def memWord (m : List (Nat × Byte)) (a : Nat) : Word :=
  (List.range 4).foldl (fun w i => w ||| fld (memRead m (a + i)).toNat (8 * i) 8) 0

/-- The words of the mailbox region (Tables 20.14 to 20.17). -/
def readMailbox (s : State) (o : Nat) : Option Word :=
  let slot := fun (i : Nat) => getNat s.fw.slots i Slot.free
  if o < 0x8000 then some (memWord s.fw.mem o)
  else
    match o with
    | 0x8000 | 0x8004 => some 0
    | 0x8008 => some (fld (maskOf 8 fun i => (slot i).spi && decide ((slot i).state ≠ .free)) 16 8
        ||| (List.range 8).foldl (fun w i => w ||| fld (slot i).state.code (2 * i) 2) 0)
    | 0x800C => some s.fw.mbxCtrl
    | 0x8010 => some (fld s.fw.clerk.code 29 3 ||| fld s.fw.restarts 16 8 ||| fld s.fw.viol 0 16)
    | 0x8020 => some s.ledger.stat
    | 0x802C => some (fld s.ledger.coalCnt 16 16 ||| fld s.ledger.sealCnt 0 16)
    | _ => none

/-- The words of a pod window (Tables 1.5, 1.6, 1.8, 14.14 to 14.16). -/
def readPod (s : State) (k : PodId) (o : Nat) : Option Word :=
  let q := s.pod k
  let a := q.avs
  match o with
  | 0x100 | 0x104 | 0x108 | 0x10C => some (fld (getNat q.groups ((o - 0x100) / 4) LpllGroup.reset).plan 0 4)
  | 0x110 | 0x114 | 0x118 | 0x11C =>
    let g := getNat q.groups ((o - 0x110) / 4) LpllGroup.reset
    some (flg (!g.waiting.isEmpty) 5 ||| flg g.retunePend 4 ||| flg g.lock 3 ||| fld g.freq.code 0 3)
  | 0x120 => some (fld q.bridge.replayCnt 16 16 ||| flg q.bridge.capHit 2 ||| flg q.bridge.spillSat 1 ||| flg q.bridge.up 0)
  | 0x200 => some a.ctrl
  | 0x204 => some (flg (decide (bits a.ctrl 31 30 = 0) && !avsHeld s k) 31 ||| flg a.atMax 30 ||| flg a.busErr 29
      ||| fld a.target 16 7 ||| fld a.iout 8 8 ||| fld a.margin 0 8)
  | 0x210 =>
    let s0 := getNat q.sensors 0 Sensor.zero
    let s1 := getNat q.sensors 1 Sensor.zero
    some (flg s1.valid 31 ||| sfld s1.reading 16 12 ||| flg s0.valid 15 ||| sfld s0.reading 0 12)
  | _ => none

/-- A commit status word (Table 21.7). -/
def CommitSt.word (c : CommitSt) : Word := flg c.pend 31 ||| fld c.result 16 8 ||| fld c.ofs 0 16

/-- Sounding counters of an instance (Table 5.20). -/
def SndInst.cntWord (x : SndInst) (i : Nat) : Word :=
  match i with
  | 0 => fld x.rxOk 24 8 ||| fld x.crcErr 16 8 ||| fld x.hdrErr 8 8 ||| fld x.trunc 0 8
  | 1 => fld x.detect 24 8 ||| fld x.falseDet 16 8 ||| fld x.superseded 8 8 ||| fld x.captured 0 8
  | _ => fld x.txFrames 16 16 ||| fld x.ignored 0 16

/-- NEG_RESULT (Table 5.18): from GO until DOWN. RTT drops the tenths of the agreed RTT (DESIGN CHOICE: the rounding from 0.1 ns to 1 ns is not
stated; log entry 122). -/
def Port.negResult (q : Port) : Word :=
  match q.snd.agreed with
  | none => 0
  | some a =>
    fld a.mode 30 2 ||| fld a.rate 28 2 ||| fld (if q.snd.leader then a.rangeL else a.rangeF) 26 2
      ||| fld (if q.snd.leader then a.rangeF else a.rangeL) 24 2 ||| fld q.snd.set 16 8 ||| fld a.minLanes 12 4
      ||| fld a.cmSf 8 4 ||| fld (Nat.min 255 (a.rtt / 10)) 0 8

/-- LINK_STAT (Table 10.10). -/
def Port.linkStat (q : Port) : Word :=
  fld q.link.state.code 28 4 ||| fld q.link.lastDown 24 4
    ||| fld (if q.link.state.isData && decide (q.snd.path = .native) then q.link.fullLanes else 0) 20 4
    ||| flg q.quietAgreed 15 ||| flg q.link.inWindow 14 ||| flg q.link.quietPend 13

/-- IEEE_SUBs_STAT (Table 6.9). -/
def Port.subStat (q : Port) (i : SubId) : Word :=
  let b := q.ieee[i.val]
  flg (decide (i.val < q.subs)) 31 ||| fld b.state.code 28 3 ||| fld b.phy 24 4 ||| flg b.precodeTx 23 ||| flg b.precodeRx 22
    ||| flg b.rcOvf 21 ||| fld b.lastDown 16 4 ||| fld (if b.phy = 0 then 0 else q.subLanes i) 0 8

/-- The map words of the host side (Tables 9.10 and 9.11). -/
def HostSt.stat (x : HostSt) : Word :=
  fld x.rxFail 20 12 ||| fld x.txFail 8 12 ||| flg (carries x.rxMap 11) 7 ||| flg (carries x.txMap 11) 6 ||| flg x.rxAligned 5

/-- HOST_MAP (Table 9.11). -/
def HostSt.map (x : HostSt) : Word :=
  fld (getNat x.txMap 11 15) 28 4 ||| fld (usedLanes x.txMap) 16 12 ||| fld (getNat x.rxMap 11 15) 12 4
    ||| fld (usedLanes x.rxMap) 0 12

/-- The words of a port window below its lanes, beside its staged registers (Tables 4.11 to 4.21, 5.17 to 5.20, 6.9, 6.10, 7.9 to
7.15, 9.10 to 9.12, 10.10 to 10.13, 12.11, 12.12, 17.5, 17.6, 19.9, 21.7). -/
def readPortReg (s : State) (p : PortId) (o : Nat) : Option Word :=
  let q := s.port p
  let c := q.code
  let x := q.lre
  let e := q.time.popped
  let ens := fun (f : TsEntry → Word) => some ((e.map f).getD 0)
  if 0xC10 ≤ o ∧ o < 0xC30 then
    if h : (o - 0xC10) / 4 < 8 then some (q.subStat ⟨(o - 0xC10) / 4, h⟩) else none
  else if 0xC40 ≤ o ∧ o < 0xD40 then
    if (o - 0xC40) % 0x20 = 0x18 then
      q.ieee.toList[(o - 0xC40) / 0x20]?.map fun b => fld b.rcIns 16 16 ||| fld b.rcDel 0 16
    else none
  else
    match o with
    | 0x0000 => some 0
    | 0x0004 => some q.commit.word
    | 0x0100 => some (causeWord (.port p) FltInst.live s)
    | 0x0104 => some (causeWord (.port p) (fun x => x.sticky) s)
    | 0x0108 => some q.fltEn
    | 0x010C => some (s.portSum p)
    | 0x0808 => some q.linkStat
    | 0x080C => some 0
    | 0x0810 => some (fld q.link.downs 24 8 ||| fld q.link.degrades 16 8 ||| fld q.link.wakes 8 8 ||| fld q.link.wakeFail 0 8)
    | 0x0814 => some (fld q.link.winPfec 16 16 ||| fld q.link.winUnc 0 16)
    | 0x0818 => some (flg q.link.snapDone 30 ||| fld q.link.snapSlot 0 16)
    | 0x0A00 => some q.diag.ctrl
    | 0x0A04 => some (fld ((q.diag.running.map DiagKind.code).getD 0) 28 4 ||| fld q.diag.lastStatus 0 8)
    | 0x0E00 => some q.time.tsCtrl
    | 0x0E04 => some (fld q.time.fifo.length 0 7)
    | 0x0E08 => some (fld q.time.drop 0 16)
    | 0x0E10 => some (match q.time.fifo with | [] => 0 | y :: _ => y.word0)
    | 0x0E14 => ens fun y => BitVec.ofNat 32 (y.time / 2 ^ 40 % 1000000000)
    | 0x0E18 => ens fun y => BitVec.ofNat 32 (y.time / 2 ^ 40 / 1000000000)
    | 0x0E1C => ens fun y => fld (y.time / 2 ^ 40 / 1000000000 / 2 ^ 32) 0 16
    | 0x0E20 => ens fun y => BitVec.ofNat 32 y.tag
    | 0x0E30 => some (BitVec.ofInt 32 q.time.ofs)
    | 0x0E34 => some (BitVec.ofInt 32 q.time.dly)
    | 0x1010 => some (fld (popcount8 q.active) 28 4 ||| flg q.adding 25 ||| flg c.chg.isSome 24 ||| fld q.proposed 16 8
        ||| fld c.quar 8 8 ||| fld c.map 0 8)
    | 0x1014 => some (fld c.chgEpoch 0 26)
    | 0x1018 => some (BitVec.ofNat 32 c.slotCnt)
    | 0x1020 => some 0
    | 0x1024 => some c.readdCtrl
    | 0x1050 => some (fld c.hostBad 16 16 ||| fld c.headCrc 8 8 ||| fld c.badBlk 0 8)
    | 0x1054 => some (fld c.addedCnt 16 16 ||| fld c.shedCnt 0 16)
    | 0x1058 => some (flg c.shedValid 31 ||| fld c.shedCause 8 4 ||| fld c.shedLane 0 3)
    | 0x2008 => some (flg x.run 31 ||| flg (x.run && x.idle) 30 ||| flg (!x.held.isEmpty) 29 ||| flg x.stall 28
        ||| fld (if x.run then x.depth else 0) 16 11 ||| fld x.outstanding 0 11)
    | 0x200C => some (fld x.txNext 16 16 ||| fld x.rxNext 0 16)
    | 0x2010 => some (fld (if x.run then x.resKib else 0) 20 10 ||| fld (kibOf q.shortfall) 10 10 ||| fld (kibOf q.roBlocks) 0 10)
    | 0x2030 => some (fld x.at2 16 16 ||| fld x.at3 0 16)
    | 0x2034 => some (BitVec.ofNat 32 x.errFol)
    | 0x2038 => some (BitVec.ofNat 32 x.errBlk)
    | 0x203C => some (fld x.nakSent 16 16 ||| fld x.nakActed 0 16)
    | 0x2040 => some (fld x.dup 24 8 ||| fld x.stale 16 8 ||| fld x.busyCnt 8 8 ||| fld x.waitCnt 0 8)
    | 0x2044 => some (BitVec.ofNat 32 x.disc)
    | 0x3020 => some (fld q.snd.path.code 29 3 ||| flg (q.snd.leader && (decide (q.snd.path = .native) || decide (q.snd.path = .soundingOnly))) 28 ||| flg q.snd.pairTx 27 ||| fld q.snd.step 24 3
        ||| fld q.snd.result 20 4 ||| fld (q.snd.round - 1) 8 8)
    | 0x3024 => some q.negResult
    | 0x3028 => some q.snd.negPartner
    | 0x3040 | 0x3044 | 0x3048 => some (q.snd.diff.cntWord ((o - 0x3040) / 4))
    | 0x3050 | 0x3054 | 0x3058 => some (q.snd.cm.cntWord ((o - 0x3050) / 4))
    | 0x4008 => some q.host.stat
    | 0x400C => some q.host.map
    | 0x4010 => some 0
    | 0x4030 => some (fld q.host.rxFails 24 8 ||| fld q.host.txMoves 16 8 ||| fld q.host.mapMiss 8 8
        ||| fld (Nat.min 255 (q.host.haltDisc / 1024)) 0 8)
    | 0x4034 => some (s.fsiWord p &&& 0xFFFF)
    | _ => none

/-- RX_EC_WINw_ACTIVE (R76, R77): an AUTO window shows its placement, EN = 1 with its START, and EN = 0 with START 0 where it has none (DESIGN
CHOICE: the twin's EN bit is not stated; log entry 121). -/
def Lane.ecTwin (l : Lane) (w : Nat) : Word :=
  let v := l.ecWin w
  if bitOf v 30 then
    match (l.rx.ecStart[w]?).join with
    | some x => flg true 31 ||| flg true 30 ||| fld x 0 12
    | none => flg true 30
  else v

/-- The _ACTIVE twin of a lane's staged register. -/
def Lane.twin (l : Lane) (r : LaneSt) : Word :=
  match r with
  | .rxEcWin0 => l.ecTwin 0
  | .rxEcWin1 => l.ecTwin 1
  | .rxEcWin2 => l.ecTwin 2
  | .rxEcWin3 => l.ecTwin 3
  | r => l.act r

/-- The offset of a lane staged register's _ACTIVE twin. -/
def LaneSt.twinOfs : LaneSt → Nat
  | .txFfe0 => 0x018
  | .txFfe1 => 0x01C
  | .rxEcWin0 => 0x150
  | .rxEcWin1 => 0x154
  | .rxEcWin2 => 0x158
  | .rxEcWin3 => 0x15C
  | r => r.ofs + 4

/-- The words of a lane window beside its staged registers (Tables 2.10, 2.13 to 2.18, 3.14 to 3.22, 4.23 to 4.26, 10.15, 11.16,
11.17, 16.11, 16.12, 17.5, 21.7). -/
def readLaneReg (s : State) (p : PortId) (n : LaneId) (o : Nat) : Option Word :=
  let q := s.port p
  let l := s.lane p n
  let t := l.tx
  let x := l.rx
  let c := l.code
  let duplex := q.duplex
  match o with
  | 0x008 => some (fld s.boot.txIdle 0 8)
  | 0x020 => some (flg t.cellNext.isSome 6 ||| flg t.rangeNext.isSome 5 ||| flg t.walk.isSome 4 ||| fld t.state.code 0 3)
  | 0x030 => some (fld t.retireB 4 4 ||| fld t.retireA 0 4)
  | 0x040 => some (flg t.compEn 0)
  | 0x044 => some (fld t.compLatched.toNat 8 5 ||| fld t.compCur.toNat 0 5)
  | 0x058 => some t.toneStart
  | 0x05C => some t.toneRamp
  | 0x060 => some t.toneStop
  | 0x118 => some (fld x.anchorSnr 23 9 ||| flg x.held 2 ||| flg x.unstable 1 ||| flg x.anchorValid 0)
  | 0x11C => some (fld x.taken 16 16 ||| fld x.revert 0 16)
  | 0x128 => some (flg x.slices.stopped 16 ||| fld x.slices.inCal 8 7 ||| fld x.slices.retired.length 0 7)
  | 0x130 => some (fld x.hybC 20 4 ||| fld x.hybR 16 4 ||| fld x.vga 8 7 ||| fld x.lf 6 2 ||| fld x.peak 0 5)
  | 0x134 => some (fld x.agcTarget 0 8)
  | 0x160 => some (if duplex then flg x.echoOpen 24 ||| fld x.echoLvl 16 8 ||| fld x.echoPos 0 12 else 0)
  | 0x170 => some (fld x.phase.code 25 3 ||| flg x.cdrLock 24 ||| flg x.conv 23 ||| flg x.follow 22 ||| sfld x.freqOfs 12 10
      ||| fld x.snr 0 9)
  | 0x200 => some (fld c.idSeen 16 4 ||| flg c.idErr 11 ||| flg (q.code.quar.testBit n.val) 10 ||| flg (q.code.map.testBit n.val) 9
      ||| flg c.deskewed 8 ||| flg c.alignedF 7 ||| flg c.lock 6 ||| fld c.state.code 0 3)
  | 0x204 => some (flg c.excess 12 ||| fld c.skew 0 12)
  | 0x208 => some (fld c.invalid 16 16 ||| fld c.lockLoss 8 8 ||| fld c.alignLoss 0 8)
  | 0x20C => some (BitVec.ofNat 32 c.corrSym)
  | 0x210 => some (BitVec.ofNat 32 c.unc)
  | 0x300 => some l.qual.word
  | 0x304 => some l.qual.snap
  | 0x308 => some (flg l.qual.minValid 12 ||| fld l.qual.minMargin 0 12)
  | 0x408 => some (fld l.cal.ctleTrained 27 5 ||| flg l.cal.ctleFrozen 24 ||| fld l.cal.lastItem 20 4 ||| fld l.cal.lastResult 16 4
      ||| fld l.cal.dacWorst 8 8)
  | 0x40C => some (fld l.cal.cntDac 24 8 ||| fld l.cal.cntCtle 16 8 ||| fld l.cal.cntReject 8 8 ||| fld l.cal.cntRevert 0 8)
  | 0x500 => some l.test.prbsCtrl
  | 0x504 => some (fld l.test.loop.code 29 3 ||| flg l.test.chkLock 28 ||| fld l.test.lockLoss 0 16)
  | 0x600 => some (causeWord (.lane p n) FltInst.live s)
  | 0x604 => some (causeWord (.lane p n) (fun x => x.sticky) s)
  | 0x608 => some l.fltEn
  | 0x7F0 => some 0
  | 0x7F4 => some l.commit.word
  | _ => none

/-- The words of a port window: staged registers, their twins, and the rest. -/
def readPort (s : State) (p : PortId) (o : Nat) : Option Word :=
  match PortSt.all.find? fun r => r.ofs == o with
  | some r => some (((s.port p).reg r).staged &&& stMask s.part r)
  | none =>
    match PortSt.all.find? fun r => r.ofs + 4 == o with
    | some r => some ((s.port p).act r &&& stMask s.part r)
    | none => readPortReg s p o

/-- The words of a lane window. -/
def readLane (s : State) (p : PortId) (n : LaneId) (o : Nat) : Option Word :=
  match LaneSt.all.find? fun r => r.ofs == o with
  | some r => some ((s.lane p n).reg r).staged
  | none =>
    match LaneSt.all.find? fun r => r.twinOfs == o with
    | some r => some ((s.lane p n).twin r)
    | none => readLaneReg s p n o

/-- The word at a place, wide registers' words apart; none at a hole. -/
def State.wordAt (s : State) (who : Initiator) : Place → Option Word
  | .glob o => readGlob s o
  | .fault o => readFault s o
  | .time o => readTimeReg s who o
  | .stack o => readStackReg s o
  | .spill o => readSpill s o
  | .mailbox o => readMailbox s o
  | .pod k o => readPod s k o
  | .port p o => readPort s p o
  | .lane p n o => readLane s p n o
  | .outside => none

/-- What an address reads for an initiator (R516, R525): the _LO word of a wide register, its _HI word from the initiator's latch,
any other register's word, and 0 at a hole. -/
def State.peek (s : State) (who : Initiator) (a : Nat) : Word :=
  match s.wide (Place.ofAddr a) with
  | some v => BitVec.ofNat 32 v
  | none =>
    if 4 ≤ a && (s.wide (Place.ofAddr (a - 4))).isSome then BitVec.ofNat 32 (getLatch who (a - 4) s)
    else (s.wordAt who (Place.ofAddr a)).getD 0

/-! ### What a read does -/

/-- Clear the RC fields of a port window's register (R521). -/
def Port.rcClear (q : Port) (o : Nat) : Port :=
  if 0xC40 ≤ o ∧ o < 0xD40 ∧ (o - 0xC40) % 0x20 = 0x18 then
    { q with ieee := updNat q.ieee ((o - 0xC40) / 0x20) fun b => { b with rcIns := 0, rcDel := 0 } }
  else
    match o with
    | 0x0810 => { q with link := { q.link with downs := 0, degrades := 0, wakes := 0, wakeFail := 0 } }
    | 0x0E08 => { q with time := { q.time with drop := 0 } }
    | 0x1050 => { q with code := { q.code with hostBad := 0, headCrc := 0, badBlk := 0 } }
    | 0x1054 => { q with code := { q.code with shedCnt := 0, addedCnt := 0 } }
    | 0x2030 => { q with lre := { q.lre with at2 := 0, at3 := 0 } }
    | 0x2034 => { q with lre := { q.lre with errFol := 0 } }
    | 0x2038 => { q with lre := { q.lre with errBlk := 0 } }
    | 0x203C => { q with lre := { q.lre with nakSent := 0, nakActed := 0 } }
    | 0x2040 => { q with lre := { q.lre with dup := 0, stale := 0, busyCnt := 0, waitCnt := 0 } }
    | 0x2044 => { q with lre := { q.lre with disc := 0 } }
    | 0x3040 | 0x3050 => q.modInst (o == 0x3050) fun x => { x with rxOk := 0, crcErr := 0, hdrErr := 0, trunc := 0 }
    | 0x3044 | 0x3054 => q.modInst (o == 0x3054) fun x => { x with detect := 0, falseDet := 0, superseded := 0, captured := 0 }
    | 0x3048 | 0x3058 => q.modInst (o == 0x3058) fun x => { x with txFrames := 0, ignored := 0 }
    | 0x4030 => { q with host := { q.host with rxFails := 0, txMoves := 0, mapMiss := 0,
                                               haltDisc := if 256 ≤ q.host.haltDisc / 1024 then 0 else q.host.haltDisc % 1024 } }
    | _ => q

/-- Clear the RC fields of a lane window's register (R521). -/
def Lane.rcClear (l : Lane) (o : Nat) : Lane :=
  match o with
  | 0x11C => { l with rx := { l.rx with taken := 0, revert := 0 } }
  | 0x208 => { l with code := { l.code with invalid := 0, lockLoss := 0, alignLoss := 0 } }
  | 0x20C => { l with code := { l.code with corrSym := 0 } }
  | 0x210 => { l with code := { l.code with unc := 0 } }
  | 0x308 => { l with qual := { l.qual with minMargin := 0, minValid := false } }
  | 0x40C => { l with cal := { l.cal with cntDac := 0, cntCtle := 0, cntReject := 0, cntRevert := 0 } }
  | _ => l

/-- Clear the RC fields at a place (R521). -/
def rcClear : Place → State → State
  | .glob 0x314, s => { s with clk := { s.clk with cntRef := 0, cntXa := 0, cntUnlock := 0, cntForced := 0 } }
  | .stack 0x14, s => if s.isMaster then { s with stack := { s.stack with late := 0, lost := 0 } } else s
  | .stack o, s =>
    if h : 0x20 ≤ o ∧ o < 0x40 ∧ (o - 0x20) % 8 = 4 then
      s.modStk ⟨(o - 0x20) / 8, by omega⟩ fun x =>
        { x with fails := 0, resends := 0, msgErr := 0, symErr := if 256 ≤ x.symErr / 16 then 0 else x.symErr % 16 }
    else s
  | .spill o, s =>
    if h : 0x1000 ≤ o ∧ o < 0x1C00 then
      s.modPort ⟨(o - 0x1000) / 0x20, by omega⟩ fun q =>
        match (o - 0x1000) % 0x20 with
        | 0x08 => { q with spill := { q.spill with flush := 0, flushBlk := 0 } }
        | 0x0C => { q with spill := { q.spill with disc := 0 } }
        | 0x14 => { q with spill := { q.spill with viol := 0, lost := 0, drop := 0 } }
        | _ => q
    else s
  | .mailbox 0x802C, s => { s with ledger := { s.ledger with coalCnt := 0, sealCnt := 0 } }
  | .pod k 0x120, s => s.modPod k fun q => { q with bridge := { q.bridge with replayCnt := 0 } }
  | .port p o, s => s.modPort p fun q => q.rcClear o
  | .lane p n o, s => s.modLane p n fun l => l.rcClear o
  | _, s => s

/-- A read of a word address (R516, R521, R525): the value, then what the read itself does: a _LO read latches, TIME_NOW_FRAC
latches (R465), TS_ENTRY0 pops (R470), TIME_PPSIN_NS clears NEW (R471), and RC fields clear. -/
def readReg (who : Initiator) (a : Nat) (s : State) : State :=
  if a = 0x20010 then readTimeNow who s
  else if a = 0x20024 then readPpsin s
  else
    match Place.ofAddr a with
    | .port p 0xE10 => readTsEntry p s
    | pl =>
      let w := s.peek who a
      let s := match s.wide pl with
        | some v => setLatch who a (v / 2 ^ 32) s
        | none => rcClear pl s
      readValue w s

/-- RC_READ (R516, R517, R521): a read of any register; RC fields are cleared by exactly what the read returns. -/
def execRcRead (who : Initiator) (addr : BitVec 32) (s : State) : Host.Outcome State Fault Refusal :=
  .next (regRead who (wordAddr addr) s (readReg who (wordAddr addr)))

/-- WIDE_LO_READ (R525): a read of a wide register's _LO word; any other address is read as RC_READ reads it. -/
def execWideLoRead (who : Initiator) (addr : BitVec 32) (s : State) : Host.Outcome State Fault Refusal :=
  .next (regRead who (wordAddr addr) s (readReg who (wordAddr addr)))

/-- SPI_STATUS_READ (R519, Table 21.5): WR_IGN, LATE and ERR in one byte, and all three clear. -/
def execSpiStatusRead (s : State) : Host.Outcome State Fault Refusal :=
  .next (readValue (flg s.reg.spiWrIgn 7 ||| flg s.reg.spiLate 1 ||| flg s.reg.spiErr 0)
    { s with reg := { s.reg with spiWrIgn := false, spiLate := false, spiErr := false } })

/-- The stored segment a 4 KiB slot of the capture reserve holds, and the byte within it (R321). -/
def segmentAt : List CapSegment → Nat → Nat → Option (CapSegment × Nat)
  | [], _, _ => none
  | g :: l, size, ofs => if ofs < size then some (g, ofs) else segmentAt l size (ofs - size)

/-- BAR2_READ (R518): four bytes of the capture reserve, byte i at bits [8i+7:8i]; a byte no stored segment holds is a free value. -/
def execBar2Read (ofs : Nat) (s : State) : Host.Outcome State Fault Refusal :=
  .next (
    let a := s.reg.capWin * 2 ^ 30 + ofs / 4 * 4
    if !s.part.hasStore || decide (s.store.captureGib * 2 ^ 30 ≤ a) || decide (2 ^ 30 ≤ ofs) || decide (s.store.state ≠ 2)
        || decide (s.cap.outcome = .running) then busError .pcie s
    else
      let byte := fun (i : Nat) => match segmentAt s.cap.stored (s.cap.segSlots * 4096) (a + i) with
        | some (g, k) => if g.lost then Config.freeByte (s.fresh + i)
            else ((g.header ++ g.samples)[k]?).getD (Config.freeByte (s.fresh + i))
        | none => Config.freeByte (s.fresh + i)
      readValue ((List.range 4).foldl (fun w i => w ||| fld (byte i).toNat (8 * i) 8) 0) { s with fresh := s.fresh + 4 })

/-- BAR2_WRITE (R518): dropped, with WR_IGNORED. GLB_WR_ADDR takes the offset in the BAR, which is no register's address. -/
def execBar2Write (s : State) : Host.Outcome State Fault Refusal :=
  .next (ignored .pcie 0 s)

end Sys2Proof.Machine
end

