-- ==== Sys2Proof/Machine/Commit.lean ====
section
/-!
DEFINITION. Staged registers and commits (R526 to R530), and writes of the register map (R516, R517, R521 to R523, R531).
-/
namespace Sys2Proof.Machine

/-! ### Requests -/

/-- Change every staged register of a port's scope (R526): the port window and its eight lane windows. -/
def Port.mapStaged (q : Port) (f : StReg → StReg) : Port :=
  { q with st := q.st.map f, lanes := mapIdx q.lanes fun _ l => { l with st := l.st.map f } }

/-- Change every staged register of a lane's scope. -/
def Port.mapStagedLane (q : Port) (n : LaneId) (f : StReg → StReg) : Port := q.modLane n fun l => { l with st := l.st.map f }

/-- A port or one of its lanes has a commit pending (R529). -/
def Port.commitPending (q : Port) : Bool := q.commit.pend || q.lanes.toList.any fun l => l.commit.pend

/-- The snapshot of a commit (R527). -/
def StReg.take (r : StReg) : StReg := { r with snap := r.staged }
/-- What REVERT does (R528). -/
def StReg.revert (r : StReg) : StReg := { r with staged := r.accepted }

/-- A port commit becomes pending (R527). -/
def Port.startCommit (q : Port) (config : Bool) : Port :=
  { q.mapStaged StReg.take with commit := { q.commit with pend := true, config := config } }

/-- A write of PORT_COMMIT (R527 to R530). -/
def writePortCommit (who : Initiator) (p : PortId) (v : Word) (s : State) : State :=
  if bits v 1 0 = 0 then written s
  else if bits v 1 0 = 3 || (s.port p).commitPending then ignored who (portBase p) s
  else if bitOf v 0 then written (s.modPort p fun q => q.startCommit false)
  else written (s.modPort p fun q => q.mapStaged StReg.revert)

/-- A write of LANE_COMMIT (R527 to R530). -/
def writeLaneCommit (who : Initiator) (p : PortId) (n : LaneId) (v : Word) (s : State) : State :=
  if bits v 1 0 = 0 then written s
  else if bits v 1 0 = 3 || (s.port p).commitPending then ignored who (laneBase p n + 0x7F0) s
  else if bitOf v 0 then
    written (s.modPort p fun q => (q.mapStagedLane n StReg.take).modLane n fun l => { l with commit := { l.commit with pend := true } })
  else written (s.modPort p fun q => q.mapStagedLane n StReg.revert)

/-- PORT_COMMIT (R527). -/
def execPortCommit (who : Initiator) (p : PortId) (v : Word) (s : State) : Host.Outcome State Fault Refusal :=
  .next (regWrite who (portBase p) s (writePortCommit who p v))

/-- PORT_REVERT (R528). -/
def execPortRevert (who : Initiator) (p : PortId) (v : Word) (s : State) : Host.Outcome State Fault Refusal :=
  .next (regWrite who (portBase p) s (writePortCommit who p v))

/-- LANE_COMMIT (R527). -/
def execLaneCommit (who : Initiator) (p : PortId) (n : LaneId) (v : Word) (s : State) : Host.Outcome State Fault Refusal :=
  .next (regWrite who (laneBase p n + 0x7F0) s (writeLaneCommit who p n v))

/-- LANE_REVERT (R528). -/
def execLaneRevert (who : Initiator) (p : PortId) (n : LaneId) (v : Word) (s : State) : Host.Outcome State Fault Refusal :=
  .next (regWrite who (laneBase p n + 0x7F0) s (writeLaneCommit who p n v))

/-! ### Checks -/

/-- The port and every sub-port are in DOWN. -/
def Port.allDown (q : Port) : Bool := decide (q.link.state = .down) && q.ieee.toList.all fun b => decide (b.state = .down)

/-- The port is in DOWN, SOUND or PARLEY. -/
def Port.beforeTrain (q : Port) : Bool :=
  decide (q.link.state = .down) || decide (q.link.state = .sound) || decide (q.link.state = .parley)

/-- A commit may not set LINK_CTRL.EN on a port that a CAL_RUN, a BIST_RUN, a loopback, a diagnostic or an unrepairable bank
holds (R297, R308, R396, R397, R404). -/
def enableRefused (s : State) (p : PortId) : Bool :=
  let q := s.port p
  s.calHolds p || s.bistHolds p || s.portUnrep p || q.diag.running.isSome
    || q.lanes.toList.any fun l => decide (l.test.loop = .serial) || decide (l.test.loop = .parallel)

/-- A field lies in a range. -/
def inRange (v lo hi : Nat) : Bool := decide (lo ≤ v) && decide (v ≤ hi)

/-- Whether a port staged register's snapshot passes its checks (R124, R241, R297, R308, Tables 4.11, 4.12, 5.14 to 5.16, 6.8, 7.9,
10.9). A check on the port's state concerns a value that changes. -/
def portCheck (s : State) (p : PortId) (r : PortSt) (v : Word) : Bool :=
  let q := s.port p
  let old := (q.reg r).accepted
  match r with
  | .linkCtrl =>
    decide (bits v 31 16 ≠ 0) && !(bitOf v 2 && q.ieeeMode) && !(bitOf v 0 && !bitOf old 0 && enableRefused s p)
  | .ieeeCfg => decide (bits v 2 0 < 4) && decide (bits v 9 8 ≠ 0) && (decide (v = old) || q.allDown)
  | .codeCtrl =>
    let up := decide (q.link.state = .up) || decide (q.link.state = .degraded)
    decide (16 ≤ bits v 25 16) && inRange (bits v 3 0) 4 8
      && !(up && decide (bits v 3 0 ≠ bits old 3 0) && decide (popcount8 q.active < bits v 3 0))
  | .fecCtrl => decide (bits v 31 28 ≤ 6) && decide (bits v 14 8 ≤ 86)
  | .lreCtrl => decide (bits v 1 0 ≠ 0) && decide (bits v 5 4 ≠ 0)
  | .sndCtrl => decide (bits v 31 24 ≠ 0)
  | .sndDiffCtrl => inRange (bits v 31 24) 16 96 && inRange (bits v 23 20) 6 12 && inRange (bits v 19 16) 3 12
  | .sndCmCtrl => inRange (bits v 31 28) 7 10 && inRange (bits v 27 24) 3 12 && decide (bits v 20 16 ≠ 0)
  | .hostCtrl => (decide (bits v 27 16 = bits old 27 16) && decide (bits v 11 0 = bits old 11 0)) || q.allDown

/-- The snapshot of a lane's staged register. -/
def Lane.snap (l : Lane) (r : LaneSt) : Word := (l.reg r).snap

/-- RX_ADAPT's fields are admissible (Table 3.12). -/
def adaptOk (v : Word) : Bool :=
  (List.range 8).all (fun i => decide (bits v (4 * i + 3) (4 * i) ≠ 15))
    && (List.range 4).all fun i => decide (bits v (4 * i + 3) (4 * i) ≤ bits v (4 * i + 19) (4 * i + 16))

/-- A window of the snapshot is an enabled manual one (R76). -/
def ecUsed (v : Word) : Bool := bitOf v 31 && !bitOf v 30

/-- A sparse window's snapshot passes R76 beside the other three. -/
def ecOk (v : Word) (others : List Word) : Bool :=
  !ecUsed v || (inRange (bits v 11 0) 384 2777 && others.all fun w => !ecUsed w || !ecOverlap (bits v 11 0) (bits w 11 0))

/-- Whether a lane staged register's snapshot passes its checks (R45, R46, R48, R60, R76, R309, Tables 2.9, 3.11 to 3.16). -/
def laneCheck (s : State) (p : PortId) (n : LaneId) (r : LaneSt) : Bool :=
  let q := s.port p
  let l := s.lane p n
  let v := l.snap r
  let same := decide (v = (l.reg r).accepted)
  let taps := (Taps.ofWords (l.snap .txFfe0) (l.snap .txFfe1)).ok && (same || !q.ieeeTraining)
  let ec := fun (a b c : LaneSt) => ecOk v [l.snap a, l.snap b, l.snap c] && (same || q.beforeTrain)
  match r with
  | .txCtrl =>
    let old := l.act .txCtrl
    !txCtrlRefused q (setBits old 1 0 (l.tx.rangeNext.getD (bits old 1 0))) v
  | .txFfe0 | .txFfe1 => taps
  | .txToneCtrl =>
    decide (toneMode v ≠ 3)
      && (same || (decide (q.link.state = .down) && !(q.diag.toneSaved.any fun x => x.1 == n.val)))
  | .rxCtrl => decide (bits v 13 12 ≠ 3)
  | .rxAdapt => adaptOk v
  | .rxAnchorCtrl => decide (bits v 15 8 ≠ 0) && decide (bits v 7 0 ≠ 0)
  | .rxRotCtrl => decide (64 ≤ bits v 15 0)
  | .rxEcWin0 => ec .rxEcWin1 .rxEcWin2 .rxEcWin3
  | .rxEcWin1 => ec .rxEcWin0 .rxEcWin2 .rxEcWin3
  | .rxEcWin2 => ec .rxEcWin0 .rxEcWin1 .rxEcWin3
  | .rxEcWin3 => ec .rxEcWin0 .rxEcWin1 .rxEcWin2
  | .calLaneCtrl => true

/-- The checks of a lane's scope, in ascending address: offset within the lane window, and whether it passes. -/
def laneChecks (s : State) (p : PortId) (n : LaneId) : List (Nat × Bool) :=
  LaneSt.all.map fun r => (r.ofs, laneCheck s p n r)

/-- The checks of a port's scope, in ascending address (R527). -/
def portChecks (s : State) (p : PortId) : List (Nat × Bool) :=
  (PortSt.all.map fun r => (r.ofs, portCheck s p r ((s.port p).reg r).snap))
    ++ allLanes.flatMap fun n => (laneChecks s p n).map fun c => (0x8000 + n.val * 0x800 + c.1, c.2)

/-- The offset of the first check that fails. -/
def firstRefused (l : List (Nat × Bool)) : Option Nat := (l.find? fun c => !c.2).map fun c => c.1

/-! ### Entry -/

/-- A value accepted enters the block at once. -/
def StReg.enter (r : StReg) : StReg := { r with inForce := r.accepted }
/-- A commit is accepted. -/
def StReg.accept (r : StReg) : StReg := { r with accepted := r.snap }

/-- The receiver's and the calibration's registers come into force (R528); ANCHOR_EN = 0 clears VALID (Table 3.11). -/
def Lane.enterRx (l : Lane) : Lane :=
  let l := [LaneSt.rxCtrl, .rxAdapt, .rxAnchorCtrl, .rxRotCtrl, .calLaneCtrl].foldl (fun l r => l.setReg r StReg.enter) l
  if bitOf (l.act .rxCtrl) 1 then l else { l with rx := { l.rx with anchorValid := false } }

/-- The accepted values of a lane's scope come into force at this boundary (R44, R46, R49, R51, R58, R528). -/
def enterLane (p : PortId) (n : LaneId) (s : State) : State :=
  let s := s.modPort p fun q => (q.modLane n Lane.enterRx).zeroUnused
  let s := applyTxCtrl p n s
  let q := s.port p
  s.modLane p n fun l =>
    let l := l.applyTaps q.walks
    let held := decide (l.tx.state = .safe) || decide (q.link.state ≠ .down) || q.diag.toneSaved.any fun x => x.1 == n.val
    if held then l else l.setTone (l.reg .txToneCtrl).accepted

/-- The accepted values of a port's own registers come into force, LINK_CTRL last (R162, R189, R212, R528); RES_EXTRA waits for the next
link-up. -/
def Port.enterPort (q : Port) : Port :=
  let masks := decide ((q.reg .ieeeCfg).inForce ≠ (q.reg .ieeeCfg).accepted)
  let q := [PortSt.ieeeCfg, .fecCtrl, .sndCtrl, .sndDiffCtrl, .sndCmCtrl, .hostCtrl].foldl (fun q r => q.setReg r StReg.enter) q
  let q := if masks then { q with ieee := q.ieee.map fun b => { b with advMask := 0xFF, advNext := 0xFF } } else q
  let q := q.setReg .codeCtrl fun r =>
    let own := bits r.accepted 3 0
    { r with inForce := setBits r.accepted 3 0 (match q.snd.agreed with | some a => Nat.max own a.minLanes | none => own) }
  let q := q.setReg .lreCtrl fun r =>
    { r with inForce := setBits r.accepted 15 8 (bits r.inForce 15 8) }
  q.setReg .linkCtrl StReg.enter

/-- LINK_CTRL has come into force (R264, R278, Table 10.6): EN = 0 takes the port to DOWN at the next boundary and ends a hold-off;
QUIET_EN = 0 is a wake trigger. -/
def linkCtrlEntered (p : PortId) (s : State) : State :=
  let q := s.port p
  let s := if q.enabled then s
    else
      let s := s.modPort p fun q => { q with link := { q.link with retryHold := false },
                                             ieee := q.ieee.map fun b => { b with retry := false } }
      if q.allDown then setWaiting p false s else downDue p 1 s
  if !bitOf (q.act .linkCtrl) 2 && decide (q.link.state = .quiet) then wakeTrigger p s else s

/-- LANE_OFF has come into force on lane 0 (R558): SOUND and PARLEY end with RESULT 0xB; with BREAKOUT > 1 sub-port 0 alone. -/
def lane0Off (was : Bool) (p : PortId) (s : State) : State :=
  let q := s.port p
  if was || !q.laneOff 0 then s
  else if !q.broken then
    if q.link.state = .sound || q.link.state = .parley then
      downDue p 2 (s.modPort p fun q => { q with snd := { q.snd with result := 0xB } })
    else s
  else if q.ieee[0].state = .parley then
    let s := modSub p 0 (fun b => { b.toDown with lastDown := 2 })
      (s.modPort p fun q => { q.subIdle 0 with snd := { q.snd with result := 0xB } })
    let s := waitingDone p s
    if (s.port p).subState = .down then downDue p 2 s else setLink p (s.port p).subState s
  else s

/-- LANE_OFF = 0 has come into force on lane 0 (R558): sub-port 0 of a broken-out port whose other sub-ports run starts under Table 5.7. -/
def lane0On (was : Bool) (p : PortId) (s : State) : State :=
  let q := s.port p
  if was && !q.laneOff 0 && q.broken && q.ieeeMode && decide (q.link.state ≠ .down) && decide (q.ieee[0].state = .down) && q.enabled
      && !q.ieee[0].retry && !s.portSafe p then
    enterIeee p (fun k => decide (k = 0)) s
  else s

/-- A commit is judged and accepted: the whole scope comes into force (R527, R528), and a port whose link is enabled may start. -/
def acceptCommit (p : PortId) (lane : Option LaneId) (s : State) : State :=
  let was := (s.port p).laneOff 0
  match lane with
  | none =>
    let s := s.modPort p fun q => { (q.mapStaged StReg.accept).enterPort with
      commit := { pend := false, result := 0, ofs := 0, config := false } }
    let s := allLanes.foldl (fun s n => enterLane p n s) s
    startLink p (linkCtrlEntered p (lane0On was p (lane0Off was p s)))
  | some n =>
    let s := s.modPort p fun q => (q.mapStagedLane n StReg.accept).modLane n fun l =>
      { l with commit := { pend := false, result := 0, ofs := 0, config := false } }
    startLink p (lane0On was p (lane0Off was p (enterLane p n s)))

/-- COMMIT_JUDGE (R527, R378, R379): a pending commit of the port or of one of its lanes, at a slot boundary; it waits while the group
relocks. A refusal of the port's own commit after CONFIG_DONE is counted in CFG_SKIP. -/
def commitJudge (p : PortId) (s : State) : State :=
  let q := s.port p
  if s.relocking p then s
  else if q.commit.pend then
    match firstRefused (portChecks s p) with
    | none => acceptCommit p none s
    | some o =>
      let s := s.modPort p fun q => { q with commit := { pend := false, result := 7, ofs := o, config := false } }
      if q.commit.config then { s with boot := { s.boot with cfgSkip := satAdd 16 s.boot.cfgSkip 1 } } else s
  else
    match allLanes.find? fun n => q.lanes[n.val].commit.pend with
    | none => s
    | some n =>
      match firstRefused (laneChecks s p n) with
      | none => acceptCommit p (some n) s
      | some o => s.modLane p n fun l => { l with commit := { pend := false, result := 7, ofs := o, config := false } }

/-- COMMIT_JUDGE (R527). -/
def execCommitJudge (p : PortId) (s : State) : Host.Outcome State Fault Refusal :=
  .next (commitJudge p s)

/-! ### Register writes -/

/-- A live enable register (Table 17.5): only the bits of causes. -/
def enMask : FltScope → Word
  | .lane => 0xFE | .port => 0x7FF | .pod => 0x3FF | .dev => 0x7FFFFFF

/-- GLB_WR_STAT (Table 21.13): bit 31 clears the register and GLB_WR_ADDR, a 1 in bits 4 to 0 its own bit. -/
def writeWrStat (v : Word) (s : State) : State :=
  written { s with reg := { s.reg with
    wrStat := if bitOf v 31 then 0 else s.reg.wrStat &&& ~~~(v.setWidth 5), wrAddr := if bitOf v 31 then 0 else s.reg.wrAddr } }

/-- Writes of the global window. -/
def writeGlob (who : Initiator) (o : Nat) (v : Word) (s : State) : State :=
  match o with
  | 0x010 => writeWrStat v s
  | 0x018 => written { s with reg := { s.reg with scratch := v } }
  | 0x01C => if s.part.hasStore then written { s with reg := { s.reg with capWin := bits v 10 0 } } else ignored who o s
  | 0x300 => writeClkCfg who v s
  | 0x308 => writeClkGate who v s
  | 0x400 => writeFsiCtrl v s
  | 0x610 => written (if inRange (bits v 7 0) 60 104 then { s with pwr := { s.pwr with thermWarn := bits v 7 0 } } else s)
  | 0x708 => written { s with boot := { s.boot with cause := s.boot.cause &&& ~~~v } }
  | _ => ignored who o s

/-- Writes of the fault region (R420, R424, R430, R432). -/
def writeFault (who : Initiator) (o : Nat) (v : Word) (s : State) : State :=
  if 0x40 ≤ o ∧ o < 0xC0 then
    if h : (o - 0x40) / 0x10 < 8 then
      let k : PodId := ⟨(o - 0x40) / 0x10, h⟩
      if !s.part.hasPod k then ignored who (0x10000 + o) s
      else
        match (o - 0x40) % 0x10 with
        | 0x4 => written (clearSticky (.pod k) v s)
        | 0x8 => written (s.modPod k fun q => { q with fltEn := v &&& enMask .pod })
        | _ => ignored who (0x10000 + o) s
    else ignored who (0x10000 + o) s
  else if 0x100 ≤ o ∧ o < 0x200 then
    match Cause.ofCode ((o - 0x100) / 4) with
    | some c => writeFltReact c v s
    | none => ignored who (0x10000 + o) s
  else
    match o with
    | 0x004 => written { s with flt := { s.flt with irqCtrl := v &&& 3 } }
    | 0x008 => written { s with flt := { s.flt with nmi := s.flt.nmi &&& ~~~(v.setWidth 6) } }
    | 0x024 => written (clearSticky .dev v s)
    | 0x028 => written { s with flt := { s.flt with devEn := v &&& enMask .dev } }
    | 0x200 => writeFltSel v s
    | 0x300 => if bits v 6 0 ≤ 104 then written { s with flt := { s.flt with recSel := bits v 6 0 } } else ignored who 0x10300 s
    | 0x318 => writeRecAck who v s
    | 0x500 => written { s with flt := { s.flt with fiEn := bitOf v 0 } }
    | _ => ignored who (0x10000 + o) s

/-- The slot whose memory a mailbox offset lies in. -/
def slotAt (o : Nat) : SlotId := ⟨o / 0x1000 % 8, Nat.mod_lt _ (by decide)⟩

/-- A write of slot memory with any byte enables (R493, R494, R517): ignored while the slot is POSTED or RUNNING. -/
def writeSlotMem (who : Initiator) (o : Nat) (v : Word) (be : BitVec 4) (s : State) : State :=
  let st := s.fw.slots[(slotAt o).val].state
  if st = .posted || st = .running then ignored who (0x50000 + o) s
  else
    let m := (List.range 4).foldl (fun m i => if be.getLsbD i then memWrite m (o + i) (BitVec.ofNat 8 (bits v (8 * i + 7) (8 * i))) else m)
      s.fw.mem
    written { s with fw := { s.fw with mem := m } }

/-- Writes of the mailbox registers. -/
def writeMailbox (who : Initiator) (o : Nat) (v : Word) (s : State) : State :=
  match o with
  | 0x8000 => writeDoorbell who v s
  | 0x8004 => writeRelease who v s
  | 0x800C => written { s with fw := { s.fw with mbxCtrl := v &&& 3 } }
  | _ => ignored who (0x50000 + o) s

/-- Writes of a pod window. -/
def writePodReg (who : Initiator) (k : PodId) (o : Nat) (v : Word) (s : State) : State :=
  match o with
  | 0x100 => writeLpllCtrl k 0 v s
  | 0x104 => writeLpllCtrl k 1 v s
  | 0x108 => writeLpllCtrl k 2 v s
  | 0x10C => writeLpllCtrl k 3 v s
  | 0x200 => writePodAvs who k v s
  | _ => ignored who (podBase k + o) s

/-- A write of TS_CTRL (Table 19.9): a MARK_TYPE from 0xF0 leaves the field and sets WR_IGNORED. -/
def writeTsCtrl (who : Initiator) (p : PortId) (v : Word) (s : State) : State :=
  let bad := decide (0xF0 ≤ bits v 31 24)
  let s := s.modPort p fun q => { q with time := { q.time with
    tsCtrl := fld (if bad then bits q.time.tsCtrl 31 24 else bits v 31 24) 24 8 ||| (v &&& 7) } }
  if bad then ignored who (portBase p + 0xE00) s else written s

/-- A write of DIAG_CTRL (Table 12.11): an SF outside 6 to 12 leaves the field. -/
def writeDiagCtrl (p : PortId) (v : Word) (s : State) : State :=
  written (s.modPort p fun q => { q with diag := { q.diag with
    ctrl := fld (if inRange (bits v 7 4) 6 12 then bits v 7 4 else bits q.diag.ctrl 7 4) 4 4 ||| flg (bitOf v 0) 0 } })

/-- A write of READD_CTRL (Table 4.17): a HOLDOFF of 0 is replaced by 1. -/
def writeReaddCtrl (p : PortId) (v : Word) (s : State) : State :=
  written (s.modPort p fun q => { q with code := { q.code with
    readdCtrl := fld (bits v 31 24) 24 8 ||| fld (if bits v 15 0 = 0 then 1 else bits v 15 0) 0 16 } })

/-- Writes of a port window below its lanes. -/
def writePortReg (who : Initiator) (p : PortId) (o : Nat) (v : Word) (s : State) : State :=
  match PortSt.all.find? fun r => r.ofs == o with
  | some r => written (s.modPort p fun q => q.setReg r fun x => { x with staged := v &&& stMask s.part r })
  | none =>
    match o with
    | 0x0000 => writePortCommit who p v s
    | 0x0104 => written (clearSticky (.port p) v s)
    | 0x0108 => written (s.modPort p fun q => { q with fltEn := v &&& enMask .port })
    | 0x080C => writeLinkReq who p v s
    | 0x0818 => writeLinkSnap who p v s
    | 0x0A00 => writeDiagCtrl p v s
    | 0x0E00 => writeTsCtrl who p v s
    | 0x1020 => writeLaneReq who p v s
    | 0x1024 => writeReaddCtrl p v s
    | 0x4010 => writeHostReq who p v s
    | _ => ignored who (portBase p + o) s

/-- Writes of a lane window. -/
def writeLaneReg (who : Initiator) (p : PortId) (n : LaneId) (o : Nat) (v : Word) (s : State) : State :=
  match LaneSt.all.find? fun r => r.ofs == o with
  | some r => written (s.modLane p n fun l => l.setReg r fun x => { x with staged := v &&& r.mask })
  | none =>
    match o with
    | 0x040 => writeTxComp p n v s
    | 0x058 => writeToneReg who p n 0 v s
    | 0x05C => writeToneReg who p n 1 v s
    | 0x060 => writeToneReg who p n 2 v s
    | 0x134 => written (s.modLane p n fun l => { l with rx := { l.rx with agcTarget := Nat.max 0x10 (Nat.min 0x50 (bits v 7 0)) } })
    | 0x500 => writePrbsCtrl who p n v s
    | 0x604 => written (clearSticky (.lane p n) v s)
    | 0x608 => written (s.modLane p n fun l => { l with fltEn := v &&& enMask .lane })
    | 0x7F0 => writeLaneCommit who p n v s
    | _ => ignored who (laneBase p n + o) s

/-- A write of a whole word at a place (R516, R521, R523): a register of RO or RC fields alone and a hole ignore it. -/
def writePlace (who : Initiator) (a : Nat) (v : Word) : Place → State → State
  | .glob o, s => writeGlob who o v s
  | .fault o, s => writeFault who o v s
  | .time 0x00, s => writeTimeCfg v s
  | .time 0x08, s => writeTimeRate who v s
  | .time 0x20, s => writePpsCtrl v s
  | .stack 0x00, s => written { s with stack := { s.stack with acceptTunnel := bitOf v 1, autoEnum := bitOf v 0 } }
  | .mailbox o, s => writeMailbox who o v s
  | .pod k o, s => writePodReg who k o v s
  | .port p o, s => writePortReg who p o v s
  | .lane p n o, s => writeLaneReg who p n o v s
  | _, s => ignored who a s

/-- A register write of any initiator (R517, R523). -/
def writeReg (who : Initiator) (a : Nat) (v : Word) (be : BitVec 4) (s : State) : State :=
  match Place.ofAddr a with
  | .mailbox o =>
    if o < 0x8000 then writeSlotMem who o v be s
    else if be = 0xF then writeMailbox who o v s else ignored who a s
  | pl => if be = 0xF then writePlace who a v pl s else ignored who a s

/-- REGISTER_WRITE (R516, R517, R521 to R523, R526, R377). -/
def execRegisterWrite (who : Initiator) (addr : BitVec 32) (v : Word) (be : BitVec 4) (s : State) :
    Host.Outcome State Fault Refusal :=
  .next (regWrite who (wordAddr addr) s (writeReg who (wordAddr addr) v be))

/-- GLB_WR_STAT_CLEAR (R531). -/
def execGlbWrStatClear (who : Initiator) (v : Word) (s : State) : Host.Outcome State Fault Refusal :=
  .next (regWrite who 0x10 s (writeWrStat v))

end Sys2Proof.Machine
end

