-- ==== Sys2Proof/Machine/BootConfig.lean ====
section
/-!
DEFINITION. The steps that write registers from the image (R374 step 6, R377 to R381, R389), the end of a flash operation
(R303, R305, R390, R391), and PORT_INFO (R497).
-/
namespace Sys2Proof.Machine

/-- Count one skip of the configuration (R389). -/
def cfgSkip (s : State) : State := { s with boot := { s.boot with cfgSkip := satAdd 16 s.boot.cfgSkip 1 } }

/-- A configuration write is counted when it sets WR_IGNORED or finds no register (R389, R516). -/
def countIgnored (s : State) : State :=
  if s.reg.reply = .ignored || s.reg.reply = .busError then cfgSkip s else s

/-! ### Stage L -/

/-- A lane's transmitter value of stage L is put in force with no commit (R51). -/
def stageLTx (p : PortId) (n : LaneId) (r : LaneSt) (v : Word) (s : State) : State :=
  s.modLane p n fun l => l.setReg r fun _ => StReg.mk0 v

/-- Stage L's write of TX_CTRL (R49, R51): a reserved RANGE is skipped; LANE_OFF = 1 keeps the lane in OFF. -/
def stageLTxCtrl (p : PortId) (n : LaneId) (v : Word) (s : State) : State :=
  if bits v 1 0 = 3 then cfgSkip s
  else
    let s := stageLTx p n .txCtrl (v &&& LaneSt.txCtrl.mask) s
    if bitOf v 12 then txOff p n s
    else s.modLane p n fun l => if l.tx.state = .off && !(s.pwr.lost.contains .vddhLine) then
        { l with tx := { l.tx with state := .idle } } else l

/-- Stage L's write of TX_FFE0 or TX_FFE1 (R45, R51): taps outside the limits are skipped. -/
def stageLTaps (p : PortId) (n : LaneId) (r : LaneSt) (v : Word) (s : State) : State :=
  let l := s.lane p n
  let w := v &&& r.mask
  let t := if r = .txFfe0 then Taps.ofWords w (l.reg .txFfe1).accepted else Taps.ofWords (l.reg .txFfe0).accepted w
  if t.ok then s.modLane p n fun l => (l.setReg r fun _ => StReg.mk0 w).applyTaps false else cfgSkip s

/-- Stage L's write of a lane window (R389). -/
def stageLLane (p : PortId) (n : LaneId) (o : Nat) (v : Word) (s : State) : State :=
  if !s.part.hasPort p then cfgSkip s
  else
    match o with
    | 0x000 => stageLTxCtrl p n v s
    | 0x010 => stageLTaps p n .txFfe0 v s
    | 0x014 => stageLTaps p n .txFfe1 v s
    | _ => cfgSkip s

/-- Stage L's write of a pod window (R22, R389). -/
def stageLPod (k : PodId) (o : Nat) (v : Word) (s : State) : State :=
  if !s.part.hasPod k then cfgSkip s
  else
    let lpll := fun (g : GroupId) => if 4 < bits v 3 0 then cfgSkip s else countIgnored (writeLpllCtrl k g v s)
    match o with
    | 0x100 => lpll 0
    | 0x104 => lpll 1
    | 0x108 => lpll 2
    | 0x10C => lpll 3
    | 0x200 => if 1 < bits v 31 30 then cfgSkip s else countIgnored (writePodAvs .lib k v s)
    | _ => cfgSkip s

/-- A stage L WRITE (R389): another address, an absent port or a reserved value is skipped and counted. -/
def stageLWrite (a : Nat) (v : Word) (s : State) : State :=
  match Place.ofAddr a with
  | .glob 0x300 =>
    if bits v 1 0 = 3 || 1 < bits v 3 2 || bits v 7 6 = 3 then cfgSkip s else countIgnored (writeClkCfg .lib v s)
  | .glob 0x308 => countIgnored (writeClkGate .lib v s)
  | .glob 0x610 => if inRange (bits v 7 0) 60 104 then countIgnored (writeGlob .lib 0x610 v s) else cfgSkip s
  | .pod k o => stageLPod k o v s
  | .port p o =>
    if o = PortSt.linkCtrl.ofs && s.part.hasPort p then
      s.modPort p fun q => q.setReg .linkCtrl fun x => { x with staged := v &&& PortSt.linkCtrl.mask }
    else cfgSkip s
  | .lane p n o => stageLLane p n o v s
  | _ => cfgSkip s

/-- The stage L list (R389): END ends it, 0b11 ends it and is counted once, and CMD is not an operation of stage L. -/
def stageL : List (BitVec 32 × Word) → State → State
  | [], s => s
  | (a, v) :: rest, s =>
    match bits a 1 0 with
    | 0 => stageL rest (stageLWrite (a.toNat / 4 * 4) v s)
    | 1 => s
    | 2 => stageL rest (cfgSkip s)
    | _ => cfgSkip s

/-- The lanes of present ports leave OFF together (R51), unless their supply is lost. -/
def linesToIdle (s : State) : State :=
  if s.pwr.lost.contains .vddhLine then s
  else s.mapPorts fun p q =>
    if s.part.hasPort p then q.mapLanes fun _ l =>
      if l.tx.state = .off then { l with tx := { l.tx with state := .idle } } else l
    else q

/-- The parameter block is in force (Table 15.8, R53, R187, R217, R239, R285). -/
def applyParams (par : DevParams) (s : State) : State :=
  { s with boot := { s.boot with
      verified := true, txIdle := inRangeOr 0x60 0xA0 0x80 par.txIdle, prtad := par.prtad % 32,
      ledgerGib := inRangeOr 1 8 1 par.ledgerGib, limits := par.limits, heq := par.heq } }

/-- What step 6 puts in force of the section (R374 steps 6 and 7, R376, R381, R389): the lanes leave OFF, stage L is applied, FAULT_N
is released unless a cause of class F is pending, and the RPLL is enabled. -/
def applyDeviceConfig (plain : List Byte) (s : State) : State :=
  let s := timingDefaults (applyParams (parseParams plain) s)
  let s := stageL (parseRecords plain 64) (linesToIdle s)
  let hold := !s.flt.safe.isEmpty
  rpllTryStart { s with boot := { s.boot with step := 6, stageC := parseStageC plain, stageCPos := 0 },
                        clk := { s.clk with rpllEn := true }, flt := { s.flt with faultN := s.devSafe || hold, fHold := hold } }

/-- BOOT_DEVICE_CONFIG_READ (R374 step 6, R51): the section is read and checked, and then put in force. -/
def execBootDeviceConfigRead (stored : List Byte) (s : State) : Host.Outcome State Fault Refusal :=
  .next (if s.boot.step ≠ 5 || s.pwr.trip then s else withSection 2 stored s fun plain => applyDeviceConfig plain s)

/-! ### Stage C -/

/-- The stage C list ends (R377, R389). -/
def stageCEnds (s : State) : State := { s with boot := { s.boot with stageCEnd := true, step := 11 } }

/-- STAGE_C_RECORD (R377, R389): the Clerk applies the next record of the list; its start-up is over at the first. A WRITE, a CMD
that runs as though from the mailbox, or the list's end. The next record waits while a CMD runs or may not start yet. -/
def execStageCRecord (port : Option PortId) (lengthOk : Bool) (s : State) : Host.Outcome State Fault Refusal :=
  .next (
    if s.boot.step ≠ 10 || s.boot.stageCEnd || !(s.fw.clerk = .starting || s.fw.clerk = .running) || s.pwr.trip then s
    else if s.fw.running.any fun r => r.origin = .stageC then s
    else
      let s := { s with fw := { s.fw with clerk := .running } }
      let r := stageCAt s.boot.stageC s.boot.stageCPos
      let next := fun (s : State) => { s with boot := { s.boot with stageCPos := r.2 } }
      match r.1 with
      | .write a v => next (countIgnored (regWrite .clerk (wordAddr a) s (writeReg .clerk (wordAddr a) v 0xF)))
      | .cmd packet =>
        let op := natAt packet 0 2
        if mayStart op port s then next (startPacket .stageC op port lengthOk s) else s
      | .ends => stageCEnds s
      | .truncated => cfgSkip (stageCEnds s))

/-- CONFIG_DONE (R374 step 12, R378, R379, R381): every port's commit becomes pending, in ascending order, and FSI and IRQ_N are live. -/
def execConfigDone (s : State) : Host.Outcome State Fault Refusal :=
  .next (
    if s.boot.step ≠ 11 || s.boot.configDone || s.pwr.trip then s
    else
      let s := { s with boot := { s.boot with configDone := true } }
      driveFsi (s.mapPorts fun p q => if s.part.hasPort p then q.startCommit true else q))

/-! ### The flash -/

/-- Program WRITTEN of the inactive slot (R391): a failed read-back leaves a value the spec does not give. -/
def commitWritten (ok : Bool) (s : State) : State :=
  let d := s.freeNat
  let w := if ok then 0x5A3CA5C3 else d.1 % 2 ^ 32
  let s := if ok then s else d.2
  let slot := inactiveSlot s
  let s := { s with boot := { s.boot with hdr := updAt s.boot.hdr slot fun h => { h with written := w } } }
  if ok then imageRecord 2 slot.val s.boot.hdr[slot.val] s else s

/-- FLASH_OPERATION_DONE (R303, R305, R390, R391): the operation that holds the flash ends, well or not. -/
def execFlashOperationDone (ok : Bool) (s : State) : Host.Outcome State Fault Refusal :=
  .next (match s.boot.job with
    | none => s
    | some j =>
      let status := if ok then 0x00 else 0x09
      match j.op with
      | .calStore | .calImport => storeStep j ok s
      | .imgErase => s
      | .imgWrite => reply j.origin j.opcode status [] { s with boot := { s.boot with job := none } }
      | .imgCommit => reply j.origin j.opcode status [] (commitWritten ok { s with boot := { s.boot with job := none } })
      | .imgConfirm => { s with boot := { s.boot with job := none } })

/-! ### PORT_INFO -/

/-- The body of PORT_INFO (Table 20.7). -/
def portInfoBody (s : State) (p : PortId) : List Byte :=
  let q := s.port p
  let w := fun (x : Word) => beBytes 4 x.toNat
  w q.linkStat ++ w ((readPort s p 0x3020).getD 0) ++ w q.negResult ++ w ((readPort s p 0x1010).getD 0)
    ++ beBytes 2 (s.fsiWord p).toNat ++ beBytes 1 q.cls ++ beBytes 8 q.snd.negUid ++ beBytes 1 (bits q.snd.negPartner 31 24)

/-- PORT_INFO (0x0101): asked by the far end, it answers for the port on which the request arrived (R499). -/
def execPortInfo (via : Origin) (port : Nat) (s : State) : Host.Outcome State Fault Refusal :=
  .next (command via 0x0101 s fun s =>
    let port := match via with
      | .farEnd p _ => p.val
      | _ => port
    if h : port < 96 then
      if s.part.hasPort ⟨port, h⟩ then reply via 0x0101 0x00 (portInfoBody s ⟨port, h⟩) s else reply via 0x0101 0x03 [] s
    else reply via 0x0101 0x03 [] s)

end Sys2Proof.Machine
end

