-- ==== Sys2Proof/Machine/Dispatch.lean ====
section
/-!
DEFINITION. One arm for each command: its meaning.
-/
namespace Sys2Proof.Machine

def exec (i : Instr) (s : State) : Host.Outcome State Fault Refusal :=
  match i with
  | .slotBoundary p => Sys2Proof.Machine.execSlotBoundary p s
  | .lpllRetune p f => Sys2Proof.Machine.execLpllRetune p f s
  | .lpllRelockDone k g => Sys2Proof.Machine.execLpllRelockDone k g s
  | .lpllPlanApply k g => Sys2Proof.Machine.execLpllPlanApply k g s
  | .podLpllCtrlWrite who k g v => Sys2Proof.Machine.execPodLpllCtrlWrite who k g v s
  | .bridgeFlitReceive k toHub crcOk => Sys2Proof.Machine.execBridgeFlitReceive k toHub crcOk s
  | .bridgeFlitSend k toHub waiting newUs => Sys2Proof.Machine.execBridgeFlitSend k toHub waiting newUs s
  | .bridgeTrained k => Sys2Proof.Machine.execBridgeTrained k s
  | .ffeWalkStep p n => Sys2Proof.Machine.execFfeWalkStep p n s
  | .dacCellExchange p n => Sys2Proof.Machine.execDacCellExchange p n s
  | .rangeIdleStart p n => Sys2Proof.Machine.execRangeIdleStart p n s
  | .rangeTakeEffect p n => Sys2Proof.Machine.execRangeTakeEffect p n s
  | .complianceInterval p n vcm pMax pMin nMax nMin swing => Sys2Proof.Machine.execComplianceInterval p n vcm pMax pMin nMax nMin swing s
  | .toneRampReload p n samples => Sys2Proof.Machine.execToneRampReload p n samples s
  | .txToneRegWrite who p n reg v => Sys2Proof.Machine.execTxToneRegWrite who p n reg v s
  | .spillInit via ideReq capture sh1 sh2 sh3 links w r pods => Sys2Proof.Machine.execSpillInit via ideReq capture sh1 sh2 sh3 links w r pods s
  | .spillMeasure via d w r pods => Sys2Proof.Machine.execSpillMeasure via d w r pods s
  | .classSet via cls min floor weight ceil portCap => Sys2Proof.Machine.execClassSet via cls min floor weight ceil portCap s
  | .portClass via mask cls => Sys2Proof.Machine.execPortClass via mask cls s
  | .shelfSet via capture sh1 sh2 sh3 => Sys2Proof.Machine.execShelfSet via capture sh1 sh2 sh3 s
  | .linkUnfence via m => Sys2Proof.Machine.execLinkUnfence via m s
  | .cxlLinkDrop m => Sys2Proof.Machine.execCxlLinkDrop m s
  | .cxlLinkDowntrain m width rate => Sys2Proof.Machine.execCxlLinkDowntrain m width rate s
  | .cxlLinkFence m => Sys2Proof.Machine.execCxlLinkFence m s
  | .cxlLinkReturn m => Sys2Proof.Machine.execCxlLinkReturn m s
  | .cxlRetrainDone m width rate => Sys2Proof.Machine.execCxlRetrainDone m width rate s
  | .minEffRestore => Sys2Proof.Machine.execMinEffRestore s
  | .parcelClose p l2h => Sys2Proof.Machine.execParcelClose p l2h s
  | .parcelWriteGrant p l2h read => Sys2Proof.Machine.execParcelWriteGrant p l2h read s
  | .parcelReadDone p l2h slot => Sys2Proof.Machine.execParcelReadDone p l2h slot s
  | .guarWindowEnd p => Sys2Proof.Machine.execGuarWindowEnd p s
  | .calRun via ports lanes stk items => Sys2Proof.Machine.execCalRun via ports lanes stk items s
  | .calRunDone meas us => Sys2Proof.Machine.execCalRunDone meas us s
  | .calStore via => Sys2Proof.Machine.execCalStore via s
  | .calExport via chunk => Sys2Proof.Machine.execCalExport via chunk s
  | .calImport via chunk data last => Sys2Proof.Machine.execCalImport via chunk data last s
  | .calCoefRead via port n stage first count anchor => Sys2Proof.Machine.execCalCoefRead via port n stage first count anchor s
  | .calLimitsRead via => Sys2Proof.Machine.execCalLimitsRead via s
  | .dacMeasureDone p n e => Sys2Proof.Machine.execDacMeasureDone p n e s
  | .ctleStepApply p n => Sys2Proof.Machine.execCtleStepApply p n s
  | .ctleCheckTimeout p n => Sys2Proof.Machine.execCtleCheckTimeout p n s
  | .ctleFreezeEnd p n => Sys2Proof.Machine.execCtleFreezeEnd p n s
  | .diagTdr via p pairs vf threshold => Sys2Proof.Machine.execDiagTdr via p pairs vf threshold s
  | .diagRl via p pairs => Sys2Proof.Machine.execDiagRl via p pairs s
  | .diagNext via p mask => Sys2Proof.Machine.execDiagNext via p mask s
  | .diagIl via p mask cable range sf => Sys2Proof.Machine.execDiagIl via p mask cable range sf s
  | .diagRead via p kind index => Sys2Proof.Machine.execDiagRead via p kind index s
  | .diagLive via p vf => Sys2Proof.Machine.execDiagLive via p vf s
  | .diagRunDone p listens meas => Sys2Proof.Machine.execDiagRunDone p listens meas s
  | .ilReqReceive p session uid port mask range fs => Sys2Proof.Machine.execIlReqReceive p session uid port mask range fs s
  | .ilAckReceive p session fs => Sys2Proof.Machine.execIlAckReceive p session fs s
  | .ilDeclineReceive p session reason => Sys2Proof.Machine.execIlDeclineReceive p session reason s
  | .ilScheduleStart p => Sys2Proof.Machine.execIlScheduleStart p s
  | .ilDoneReceive p session meas => Sys2Proof.Machine.execIlDoneReceive p session meas s
  | .ilDoneTimeout p meas => Sys2Proof.Machine.execIlDoneTimeout p meas s
  | .captureStart via p lanes txGroup vga peak s1 count trigger => Sys2Proof.Machine.execCaptureStart via p lanes txGroup vga peak s1 count trigger s
  | .captureStatus via => Sys2Proof.Machine.execCaptureStatus via s
  | .captureRead via segment ofs => Sys2Proof.Machine.execCaptureRead via segment ofs s
  | .captureStop via => Sys2Proof.Machine.execCaptureStop via s
  | .captureTrigger samples => Sys2Proof.Machine.execCaptureTrigger samples s
  | .captureSegmentStored link => Sys2Proof.Machine.execCaptureSegmentStored link s
  | .captureTimeout => Sys2Proof.Machine.execCaptureTimeout s
  | .xaDelayExpire => Sys2Proof.Machine.execXaDelayExpire s
  | .refJudgedGood r counts => Sys2Proof.Machine.execRefJudgedGood r counts s
  | .froTrimUpdate count => Sys2Proof.Machine.execFroTrimUpdate count s
  | .flashAccessTimeout => Sys2Proof.Machine.execFlashAccessTimeout s
  | .xbDetect => Sys2Proof.Machine.execXbDetect s
  | .xbLoss => Sys2Proof.Machine.execXbLoss s
  | .rpllLock pass => Sys2Proof.Machine.execRpllLock pass s
  | .domainRampStep d => Sys2Proof.Machine.execDomainRampStep d s
  | .forcedSwitch d => Sys2Proof.Machine.execForcedSwitch d s
  | .clockMonitorWindow r count early => Sys2Proof.Machine.execClockMonitorWindow r count early s
  | .rpllHoldover => Sys2Proof.Machine.execRpllHoldover s
  | .rpllUnlock => Sys2Proof.Machine.execRpllUnlock s
  | .rpllAltRestart => Sys2Proof.Machine.execRpllAltRestart s
  | .froCheck count => Sys2Proof.Machine.execFroCheck count s
  | .pllUnlock pll => Sys2Proof.Machine.execPllUnlock pll s
  | .pllLockRegained pll => Sys2Proof.Machine.execPllLockRegained pll s
  | .clkCfgWrite who v => Sys2Proof.Machine.execClkCfgWrite who v s
  | .clkGateWrite who v => Sys2Proof.Machine.execClkGateWrite who v s
  | .xaFirstJudgementEnd => Sys2Proof.Machine.execXaFirstJudgementEnd s
  | .avsExamine k slacks => Sys2Proof.Machine.execAvsExamine k slacks s
  | .avsWriteRetry k ok => Sys2Proof.Machine.execAvsWriteRetry k ok s
  | .avsStatusPoll k alert iout => Sys2Proof.Machine.execAvsStatusPoll k alert iout s
  | .podAvsCtrlWrite who k v => Sys2Proof.Machine.execPodAvsCtrlWrite who k v s
  | .regionSample pair x => Sys2Proof.Machine.execRegionSample pair x s
  | .regionFaultClear pair => Sys2Proof.Machine.execRegionFaultClear pair s
  | .supplyLoss r mv ns => Sys2Proof.Machine.execSupplyLoss r mv ns s
  | .supplyRestore r level straps pass => Sys2Proof.Machine.execSupplyRestore r level straps pass s
  | .sensorConversion i1 ok reading => Sys2Proof.Machine.execSensorConversion i1 ok reading s
  | .powerOnReset => Sys2Proof.Machine.execPowerOnReset s
  | .porstNAssert => Sys2Proof.Machine.execPorstNAssert s
  | .porstNRelease straps pass => Sys2Proof.Machine.execPorstNRelease straps pass s
  | .pePerstNAssert => Sys2Proof.Machine.execPePerstNAssert s
  | .trstNAssert => Sys2Proof.Machine.execTrstNAssert s
  | .bootTrimmed h0 h1 flash => Sys2Proof.Machine.execBootTrimmed h0 h1 flash s
  | .bootTrimTimeout => Sys2Proof.Machine.execBootTrimTimeout s
  | .bootLibConfigRead stored secA secB => Sys2Proof.Machine.execBootLibConfigRead stored secA secB s
  | .bootDeviceConfigRead stored => Sys2Proof.Machine.execBootDeviceConfigRead stored s
  | .bootRpllTimeout => Sys2Proof.Machine.execBootRpllTimeout s
  | .bootClerkFwRead stored => Sys2Proof.Machine.execBootClerkFwRead stored s
  | .bootLedgerAnchor ring failedBits => Sys2Proof.Machine.execBootLedgerAnchor ring failedBits s
  | .bootUserAreaRead stored pass => Sys2Proof.Machine.execBootUserAreaRead stored pass s
  | .stageCRecord port lengthOk => Sys2Proof.Machine.execStageCRecord port lengthOk s
  | .configDone => Sys2Proof.Machine.execConfigDone s
  | .imgInfo via => Sys2Proof.Machine.execImgInfo via s
  | .imgErase via blocks => Sys2Proof.Machine.execImgErase via blocks s
  | .imgEraseBlockDone => Sys2Proof.Machine.execImgEraseBlockDone s
  | .imgWrite via ofs data => Sys2Proof.Machine.execImgWrite via ofs data s
  | .imgWriteStream via ofs data => Sys2Proof.Machine.execImgWriteStream via ofs data s
  | .imgCommit via rest => Sys2Proof.Machine.execImgCommit via rest s
  | .imgConfirm via raiseSvn => Sys2Proof.Machine.execImgConfirm via raiseSvn s
  | .devReset via delay => Sys2Proof.Machine.execDevReset via delay s
  | .devResetExpire straps pass => Sys2Proof.Machine.execDevResetExpire straps pass s
  | .pePerstNRelease => Sys2Proof.Machine.execPePerstNRelease s
  | .bistRun via pods hub groups banks diag raw repair => Sys2Proof.Machine.execBistRun via pods hub groups banks diag raw repair s
  | .bistBankDone found => Sys2Proof.Machine.execBistBankDone found s
  | .bistRead via pod group bank => Sys2Proof.Machine.execBistRead via pod group bank s
  | .loopSet via p lanes kind heard => Sys2Proof.Machine.execLoopSet via p lanes kind heard s
  | .refCheck via bandgap slope inl => Sys2Proof.Machine.execRefCheck via bandgap slope inl s
  | .repairRead via pod group => Sys2Proof.Machine.execRepairRead via pod group s
  | .fuseRepair via pods hub vppOk good => Sys2Proof.Machine.execFuseRepair via pods hub vppOk good s
  | .scanChallenge via pods hub => Sys2Proof.Machine.execScanChallenge via pods hub s
  | .scanAuth via response stepsOk => Sys2Proof.Machine.execScanAuth via response stepsOk s
  | .scanChallengeExpire => Sys2Proof.Machine.execScanChallengeExpire s
  | .loopbackReqReceive p n => Sys2Proof.Machine.execLoopbackReqReceive p n s
  | .loopbackAckReceive p n => Sys2Proof.Machine.execLoopbackAckReceive p n s
  | .loopbackDeclineReceive p n reason => Sys2Proof.Machine.execLoopbackDeclineReceive p n reason s
  | .farLoopbackStart p n => Sys2Proof.Machine.execFarLoopbackStart p n s
  | .loopbackEndReceive p n => Sys2Proof.Machine.execLoopbackEndReceive p n s
  | .prbsLock p n rx => Sys2Proof.Machine.execPrbsLock p n rx s
  | .prbsLockLoss p n rx => Sys2Proof.Machine.execPrbsLockLoss p n rx s
  | .stPrbsCtrlWrite who p n v => Sys2Proof.Machine.execStPrbsCtrlWrite who p n v s
  | .prbsClear who p n => Sys2Proof.Machine.execPrbsClear who p n s
  | .bandgapCheck die diff => Sys2Proof.Machine.execBandgapCheck die diff s
  | .jtagInstruction opcode => Sys2Proof.Machine.execJtagInstruction opcode s
  | .faultMessage k => Sys2Proof.Machine.execFaultMessage k s
  | .eventCauseExpire c i1 => Sys2Proof.Machine.execEventCauseExpire c i1 s
  | .stickyClear who i1 v => Sys2Proof.Machine.execStickyClear who i1 v s
  | .recAck who index => Sys2Proof.Machine.execRecAck who index s
  | .recAckAll who => Sys2Proof.Machine.execRecAckAll who s
  | .fltSelWrite who v => Sys2Proof.Machine.execFltSelWrite who v s
  | .fltSelClear who v => Sys2Proof.Machine.execFltSelClear who v s
  | .fltReactWrite who c v => Sys2Proof.Machine.execFltReactWrite who c v s
  | .fiArm via code inst delay rep period count hold => Sys2Proof.Machine.execFiArm via code inst delay rep period count hold s
  | .fiStop via what => Sys2Proof.Machine.execFiStop via what s
  | .fiList via => Sys2Proof.Machine.execFiList via s
  | .injectionDeliver c i1 => Sys2Proof.Machine.execInjectionDeliver c i1 s
  | .injectHoldEnd c i1 => Sys2Proof.Machine.execInjectHoldEnd c i1 s
  | .stackClockDetect p => Sys2Proof.Machine.execStackClockDetect p s
  | .stackLaneLock p d sofs inv centre => Sys2Proof.Machine.execStackLaneLock p d sofs inv centre s
  | .stackPortAlign p spread frame compl => Sys2Proof.Machine.execStackPortAlign p spread frame compl s
  | .stackAlignTimeout p => Sys2Proof.Machine.execStackAlignTimeout p s
  | .stackLaneLockLoss p d missed errored => Sys2Proof.Machine.execStackLaneLockLoss p d missed errored s
  | .stackSofReceive p frame dt => Sys2Proof.Machine.execStackSofReceive p frame dt s
  | .stackSofSend residence cols spoil => Sys2Proof.Machine.execStackSofSend residence cols spoil s
  | .helloSend p => Sys2Proof.Machine.execHelloSend p s
  | .helloReceive p h => Sys2Proof.Machine.execHelloReceive p h s
  | .stackLinkTimeout p => Sys2Proof.Machine.execStackLinkTimeout p s
  | .stackMsgReceive p quads => Sys2Proof.Machine.execStackMsgReceive p quads s
  | .linkAckReceive p next nak => Sys2Proof.Machine.execLinkAckReceive p next nak s
  | .linkAckSend p => Sys2Proof.Machine.execLinkAckSend p s
  | .stackResendTimeout p => Sys2Proof.Machine.execStackResendTimeout p s
  | .enumRunStart => Sys2Proof.Machine.execEnumRunStart s
  | .discoverReceive p gen depth master renumber => Sys2Proof.Machine.execDiscoverReceive p gen depth master renumber s
  | .orphanNoticeReceive p => Sys2Proof.Machine.execOrphanNoticeReceive p s
  | .parentChoose => Sys2Proof.Machine.execParentChoose s
  | .reportReceive p gen r => Sys2Proof.Machine.execReportReceive p gen r s
  | .reportDue expired => Sys2Proof.Machine.execReportDue expired s
  | .assignReceive p gen b => Sys2Proof.Machine.execAssignReceive p gen b s
  | .topoChangeReceive p => Sys2Proof.Machine.execTopoChangeReceive p s
  | .stackLinkFail p clockLost => Sys2Proof.Machine.execStackLinkFail p clockLost s
  | .faultWindowClose => Sys2Proof.Machine.execFaultWindowClose s
  | .faultReportReceive p entries => Sys2Proof.Machine.execFaultReportReceive p entries s
  | .mgmtReqReceive src tag frag last data => Sys2Proof.Machine.execMgmtReqReceive src tag frag last data s
  | .mgmtRespReceive src tag frag last data => Sys2Proof.Machine.execMgmtRespReceive src tag frag last data s
  | .tunnelTimeout tag => Sys2Proof.Machine.execTunnelTimeout tag s
  | .ledgerAnchorReceive member uid accession chain => Sys2Proof.Machine.execLedgerAnchorReceive member uid accession chain s
  | .stkEnum via => Sys2Proof.Machine.execStkEnum via s
  | .stkRenumber via => Sys2Proof.Machine.execStkRenumber via s
  | .stkTunnel via dst packet => Sys2Proof.Machine.execStkTunnel via dst packet s
  | .stkPortInfo via => Sys2Proof.Machine.execStkPortInfo via s
  | .stkFrecRead via count => Sys2Proof.Machine.execStkFrecRead via count s
  | .timeCfgWrite who v => Sys2Proof.Machine.execTimeCfgWrite who v s
  | .timeRateWrite who v => Sys2Proof.Machine.execTimeRateWrite who v s
  | .timeSet via sec ns frac => Sys2Proof.Machine.execTimeSet via sec ns frac s
  | .timeStep via ns => Sys2Proof.Machine.execTimeStep via ns s
  | .timePtpSample via t1 t2 t3 t4 corr => Sys2Proof.Machine.execTimePtpSample via t1 t2 t3 t4 corr s
  | .timeStatus via => Sys2Proof.Machine.execTimeStatus via s
  | .timeHoldoverTimeout => Sys2Proof.Machine.execTimeHoldoverTimeout s
  | .ppsInEdge => Sys2Proof.Machine.execPpsInEdge s
  | .ppsOutPulse => Sys2Proof.Machine.execPpsOutPulse s
  | .ppsOutFall => Sys2Proof.Machine.execPpsOutFall s
  | .timeFrameSend p => Sys2Proof.Machine.execTimeFrameSend p s
  | .timeFrameReceive p slotTx t1 slotRx t2 => Sys2Proof.Machine.execTimeFrameReceive p slotTx t1 slotRx t2 s
  | .timeSyncSend => Sys2Proof.Machine.execTimeSyncSend s
  | .timeSyncReceive frame t r => Sys2Proof.Machine.execTimeSyncReceive frame t r s
  | .tsEntryRead who p => Sys2Proof.Machine.execTsEntryRead who p s
  | .timeNowRead who => Sys2Proof.Machine.execTimeNowRead who s
  | .ppsinRead who => Sys2Proof.Machine.execPpsinRead who s
  | .mbxDoorbell who v => Sys2Proof.Machine.execMbxDoorbell who v s
  | .mbxRelease who v => Sys2Proof.Machine.execMbxRelease who v s
  | .commandStart via port lengthOk => Sys2Proof.Machine.execCommandStart via port lengthOk s
  | .commandTimeout via => Sys2Proof.Machine.execCommandTimeout via s
  | .portInfo via port => Sys2Proof.Machine.execPortInfo via port s
  | .farCmd via p packet => Sys2Proof.Machine.execFarCmd via p packet s
  | .farRequestReceive p session tag frag last data => Sys2Proof.Machine.execFarRequestReceive p session tag frag last data s
  | .farReplyReceive p session tag frag last data => Sys2Proof.Machine.execFarReplyReceive p session tag frag last data s
  | .farCmdTimeout p => Sys2Proof.Machine.execFarCmdTimeout p s
  | .ledgerInfo via => Sys2Proof.Machine.execLedgerInfo via s
  | .ledgerRead via first count => Sys2Proof.Machine.execLedgerRead via first count s
  | .ledgerSeal via programOk => Sys2Proof.Machine.execLedgerSeal via programOk s
  | .ledgerNote via text => Sys2Proof.Machine.execLedgerNote via text s
  | .attestQuote via nonce => Sys2Proof.Machine.execAttestQuote via nonce s
  | .certRead via chunk => Sys2Proof.Machine.execCertRead via chunk s
  | .keyRevoke via slot sig vppOk => Sys2Proof.Machine.execKeyRevoke via slot sig vppOk s
  | .sealDue programOk => Sys2Proof.Machine.execSealDue programOk s
  | .countersRecordDue => Sys2Proof.Machine.execCountersRecordDue s
  | .witnessSend => Sys2Proof.Machine.execWitnessSend s
  | .allowanceRefill => Sys2Proof.Machine.execAllowanceRefill s
  | .clerkWatchdogExpire => Sys2Proof.Machine.execClerkWatchdogExpire s
  | .clerkRestartDone stored => Sys2Proof.Machine.execClerkRestartDone stored s
  | .firewallViolation addr core => Sys2Proof.Machine.execFirewallViolation addr core s
  | .libRomCheck ok => Sys2Proof.Machine.execLibRomCheck ok s
  | .libFirewallCheck ok => Sys2Proof.Machine.execLibFirewallCheck ok s
  | .libWatchdogExpire => Sys2Proof.Machine.execLibWatchdogExpire s
  | .portCommit who p v => Sys2Proof.Machine.execPortCommit who p v s
  | .portRevert who p v => Sys2Proof.Machine.execPortRevert who p v s
  | .laneCommit who p n v => Sys2Proof.Machine.execLaneCommit who p n v s
  | .laneRevert who p n v => Sys2Proof.Machine.execLaneRevert who p n v s
  | .commitJudge p => Sys2Proof.Machine.execCommitJudge p s
  | .registerWrite who addr v be => Sys2Proof.Machine.execRegisterWrite who addr v be s
  | .rcRead who addr => Sys2Proof.Machine.execRcRead who addr s
  | .wideLoRead who addr => Sys2Proof.Machine.execWideLoRead who addr s
  | .glbWrStatClear who v => Sys2Proof.Machine.execGlbWrStatClear who v s
  | .spiStatusRead => Sys2Proof.Machine.execSpiStatusRead s
  | .bar2Read ofs => Sys2Proof.Machine.execBar2Read ofs s
  | .bar2Write => Sys2Proof.Machine.execBar2Write s
  | .agcStep p n samples => Sys2Proof.Machine.execAgcStep p n samples s
  | .sliceSwap p n => Sys2Proof.Machine.execSliceSwap p n s
  | .sliceCalDone p n cal diff comps slope inl => Sys2Proof.Machine.execSliceCalDone p n cal diff comps slope inl s
  | .cdrLockLost p n => Sys2Proof.Machine.execCdrLockLost p n s
  | .echoSearchEnd p n samples => Sys2Proof.Machine.execEchoSearchEnd p n samples s
  | .echoConverge p n powers samples => Sys2Proof.Machine.execEchoConverge p n powers samples s
  | .snrWindowEnd p n lock trials samples => Sys2Proof.Machine.execSnrWindowEnd p n lock trials samples s
  | .alignFolioReceive p n decisions samples => Sys2Proof.Machine.execAlignFolioReceive p n decisions samples s
  | .anchorRevert p n => Sys2Proof.Machine.execAnchorRevert p n s
  | .hostCodewordReceive p h period errs units late => Sys2Proof.Machine.execHostCodewordReceive p h period errs units late s
  | .folioReceive p n f => Sys2Proof.Machine.execFolioReceive p n f s
  | .nakRepeatDue p n slot => Sys2Proof.Machine.execNakRepeatDue p n slot s
  | .blockLockAcquire p n headers => Sys2Proof.Machine.execBlockLockAcquire p n headers s
  | .blockLockLoss p n => Sys2Proof.Machine.execBlockLockLoss p n s
  | .alignmentLoss p n => Sys2Proof.Machine.execAlignmentLoss p n s
  | .followerCountLoad p n => Sys2Proof.Machine.execFollowerCountLoad p n s
  | .alignTimeout p => Sys2Proof.Machine.execAlignTimeout p s
  | .changeEpoch p => Sys2Proof.Machine.execChangeEpoch p s
  | .laneQuarantine p n => Sys2Proof.Machine.execLaneQuarantine p n s
  | .partnerQuarantine p n => Sys2Proof.Machine.execPartnerQuarantine p n s
  | .laneReqShed who p v => Sys2Proof.Machine.execLaneReqShed who p v s
  | .laneReqAdd who p v => Sys2Proof.Machine.execLaneReqAdd who p v s
  | .plannedShedDeadline p => Sys2Proof.Machine.execPlannedShedDeadline p s
  | .readdHoldoffExpire p n => Sys2Proof.Machine.execReaddHoldoffExpire p n s
  | .addAttemptTimeout p n => Sys2Proof.Machine.execAddAttemptTimeout p n s
  | .laneNoticeReceive p id kind quar nextMap epoch => Sys2Proof.Machine.execLaneNoticeReceive p id kind quar nextMap epoch s
  | .addNoticeReceive p id n => Sys2Proof.Machine.execAddNoticeReceive p id n s
  | .noticeAckReceive p id typ what epoch => Sys2Proof.Machine.execNoticeAckReceive p id typ what epoch s
  | .noticeDeclineReceive p id typ lane reason epoch => Sys2Proof.Machine.execNoticeDeclineReceive p id typ lane reason epoch s
  | .preambleDetect p cm rx0 tx0 since => Sys2Proof.Machine.execPreambleDetect p cm rx0 tx0 since s
  | .falseDetect p cm => Sys2Proof.Machine.execFalseDetect p cm s
  | .newPreambleDetect p cm power timing bin synced tx0 => Sys2Proof.Machine.execNewPreambleDetect p cm power timing bin synced tx0 s
  | .sndReceptionTruncate p cm w1 w2 => Sys2Proof.Machine.execSndReceptionTruncate p cm w1 w2 s
  | .sndHeaderReceive p cm w => Sys2Proof.Machine.execSndHeaderReceive p cm w s
  | .sndFrameReceive p cm raw => Sys2Proof.Machine.execSndFrameReceive p cm raw s
  | .turnReply p => Sys2Proof.Machine.execTurnReply p s
  | .cmFrameSend p clear => Sys2Proof.Machine.execCmFrameSend p clear s
  | .sndFrameResend p k => Sys2Proof.Machine.execSndFrameResend p k s
  | .wakeBurstDetect p => Sys2Proof.Machine.execWakeBurstDetect p s
  | .soundRound p => Sys2Proof.Machine.execSoundRound p s
  | .callSend p => Sys2Proof.Machine.execCallSend p s
  | .soundWindowEnd p => Sys2Proof.Machine.execSoundWindowEnd p s
  | .callReceive p c sf snr => Sys2Proof.Machine.execCallReceive p c sf snr s
  | .returnReceive p c cRand cUid cPort pairTx sf => Sys2Proof.Machine.execReturnReceive p c cRand cUid cPort pairTx sf s
  | .probeReceive p session mask est measured rtt => Sys2Proof.Machine.execProbeReceive p session mask est measured rtt s
  | .offerReceive p session o => Sys2Proof.Machine.execOfferReceive p session o s
  | .acceptReceive p session no => Sys2Proof.Machine.execAcceptReceive p session no s
  | .refuseReceive p session no rates => Sys2Proof.Machine.execRefuseReceive p session no rates s
  | .goReceive p session => Sys2Proof.Machine.execGoReceive p session s
  | .parleyResend p => Sys2Proof.Machine.execParleyResend p s
  | .parleyTimeout p exhausted => Sys2Proof.Machine.execParleyTimeout p exhausted s
  | .negRetryExpire p sub => Sys2Proof.Machine.execNegRetryExpire p sub s
  | .trainStart p => Sys2Proof.Machine.execTrainStart p s
  | .clause73PageReceive p i1 page able => Sys2Proof.Machine.execClause73PageReceive p i1 page able s
  | .clause73Resolve p i1 => Sys2Proof.Machine.execClause73Resolve p i1 s
  | .anAttemptTimeout p i1 => Sys2Proof.Machine.execAnAttemptTimeout p i1 s
  | .trainStatSend p req => Sys2Proof.Machine.execTrainStatSend p req s
  | .trainStatReceive p session step seq conv cdr req ack set => Sys2Proof.Machine.execTrainStatReceive p session step seq conv cdr req ack set s
  | .trainStepSwitch p => Sys2Proof.Machine.execTrainStepSwitch p s
  | .trainStepTimeout p => Sys2Proof.Machine.execTrainStepTimeout p s
  | .trainPartnerTimeout p => Sys2Proof.Machine.execTrainPartnerTimeout p s
  | .trainTimeout p => Sys2Proof.Machine.execTrainTimeout p s
  | .ieeeTrainDone p i1 partnerAsks wants reqs => Sys2Proof.Machine.execIeeeTrainDone p i1 partnerAsks wants reqs s
  | .ieeeTrainTimeout p i1 => Sys2Proof.Machine.execIeeeTrainTimeout p i1 s
  | .ieeeSubportFail p i1 why => Sys2Proof.Machine.execIeeeSubportFail p i1 why s
  | .ieeeCodewordReceive p i1 host order blocks errs drift => Sys2Proof.Machine.execIeeeCodewordReceive p i1 host order blocks errs drift s
  | .mdioPageWrite prtad v => Sys2Proof.Machine.execMdioPageWrite prtad v s
  | .mdioPmaReset prtad => Sys2Proof.Machine.execMdioPmaReset prtad s
  | .mdioAnRestart prtad => Sys2Proof.Machine.execMdioAnRestart prtad s
  | .mdioAdvMaskWrite prtad covers sets => Sys2Proof.Machine.execMdioAdvMaskWrite prtad covers sets s
  | .portDownEnter p => Sys2Proof.Machine.execPortDownEnter p s
  | .hostMarkerReceive p h d => Sys2Proof.Machine.execHostMarkerReceive p h d s
  | .hostFrameStart p tx => Sys2Proof.Machine.execHostFrameStart p tx s
  | .hostLaneFail p h why => Sys2Proof.Machine.execHostLaneFail p h why s
  | .hostReqTxMove who p v => Sys2Proof.Machine.execHostReqTxMove who p v s
  | .fsiCtrlWrite who v => Sys2Proof.Machine.execFsiCtrlWrite who v s
  | .fsiClkLoss => Sys2Proof.Machine.execFsiClkLoss s
  | .fsiClkRestore => Sys2Proof.Machine.execFsiClkRestore s
  | .fsiEventExpire p => Sys2Proof.Machine.execFsiEventExpire p s
  | .linkReqWake who p v => Sys2Proof.Machine.execLinkReqWake who p v s
  | .linkReqRestart who p v => Sys2Proof.Machine.execLinkReqRestart who p v s
  | .linkSnapRequest who p v => Sys2Proof.Machine.execLinkSnapRequest who p v s
  | .linkSnapTake p => Sys2Proof.Machine.execLinkSnapTake p s
  | .eyeHeightUpdate p n codes => Sys2Proof.Machine.execEyeHeightUpdate p n codes s
  | .eyeWidthUpdate p n offsets => Sys2Proof.Machine.execEyeWidthUpdate p n offsets s
  | .quietRequest p => Sys2Proof.Machine.execQuietRequest p s
  | .quietReqReceive p epoch => Sys2Proof.Machine.execQuietReqReceive p epoch s
  | .quietAckReceive p epoch => Sys2Proof.Machine.execQuietAckReceive p epoch s
  | .quietDeclineReceive p epoch => Sys2Proof.Machine.execQuietDeclineReceive p epoch s
  | .quietEnter p => Sys2Proof.Machine.execQuietEnter p s
  | .refreshWindowStart p => Sys2Proof.Machine.execRefreshWindowStart p s
  | .refreshWindowEnd p => Sys2Proof.Machine.execRefreshWindowEnd p s
  | .wakeTrigger p why => Sys2Proof.Machine.execWakeTrigger p why s
  | .wakeTxData p => Sys2Proof.Machine.execWakeTxData p s
  | .wakeRespond p => Sys2Proof.Machine.execWakeRespond p s
  | .wakeBurstTimeout p => Sys2Proof.Machine.execWakeBurstTimeout p s
  | .wakeTimeout p => Sys2Proof.Machine.execWakeTimeout p s
  | .soundingFrameSent p kind => Sys2Proof.Machine.execSoundingFrameSent p kind s
  | .fsiClkEdge sel => Sys2Proof.Machine.execFsiClkEdge sel s
  | .fsiSelChange sel => Sys2Proof.Machine.execFsiSelChange sel s
  | .flashOperationDone ok => Sys2Proof.Machine.execFlashOperationDone ok s

end Sys2Proof.Machine
end

