-- ==== Sys2Proof/Machine/Tick.lean ====
section
/-!
DEFINITION. One CLK_CTRL cycle: what the passing of time does with no command (R421, R464). It is what a step does on an empty
queue (DESIGN CHOICE); every other effect of time is a row of the table.
-/
namespace Sys2Proof.Machine

/-- The nominal period of CLK_CTRL in units of 2^-40 ns: 2.7027027 ns on the root, 5 ns on the FRO (R464). -/
def nominalPeriod (fro : Bool) : Nat := if fro then 5 * 2 ^ 40 else 27027027 * 2 ^ 40 / 10000000

/-- What the counter advances by at a cycle, corrected by ADJ in units of 2^-10 ppb (R464). -/
def cycleAdvance (fro : Bool) (adj : Int) : Int :=
  (nominalPeriod fro : Int) + (nominalPeriod fro : Int) * adj / 1024000000000

/-- One CLK_CTRL cycle: the uptime and a running time counter advance; neither does while the device is held in reset. -/
def tick (s : State) : State :=
  if s.boot.inReset then s
  else
    let fro := s.ctrlOnFro
    let s := { s with uptime := s.uptime + if fro then 185 else 100 }
    if s.time.run && bitOf s.clk.gate 10 then
      { s with time := { s.time with ctr := (((s.time.ctr : Int) + cycleAdvance fro s.time.adj) % (timeModulus : Int)).toNat } }
    else s

end Sys2Proof.Machine
end

