-- ==== Sys2Proof/Safety.lean ====
section
/-!
DEFINITION. The terms in which the claims are stated: what every step keeps, and when a register access or a command packet is
served.
-/
namespace Sys2Proof

open Sys2Proof.Machine

/-- Slot memory is in its canonical form: addresses strictly rising, no zero byte listed. -/
def MemInv (s : State) : Prop := memWf s.fw.mem = true

/-- What fuses hold only ever grows from s to t (R487, R488, R503): the anchor counter, the minimum SVN and the revoked keys. -/
def FusesGrow (s t : State) : Prop :=
  s.ledger.ctr ≤ t.ledger.ctr ∧ s.fw.svnMin ≤ t.fw.svnMin ∧ ∀ k, s.fw.revoked.testBit k = true → t.fw.revoked.testBit k = true

/-- A write of an address reaches its register: the address is accessible (R347, R516), and CONFIG_DONE is set or the write is the
Clerk's, the Librarian's or one to the mailbox region (R377). -/
def WriteReaches (who : Initiator) (s : State) (addr : Nat) : Prop :=
  accessible s addr = true ∧
    (s.boot.configDone = true ∨ who = .clerk ∨ who = .lib ∨ (0x50000 ≤ addr ∧ addr < 0x60000))

/-- A command's packet is running, and its processor serves it: the part has the opcode (R8); the Librarian works, for a command of
its own (R486, R490); for one of the Clerk's, the Clerk runs, nothing that the command needs is gated, and the configuration is
done or the command is one of stage C (R347, R377, R492, R495). -/
def Serves (via : Origin) (opcode : Nat) (s : State) : Prop :=
  (s.fw.running.any fun r => decide (r.origin = via) && r.opcode == opcode) = true ∧ partLacks s.part opcode = false ∧
    (libGroup opcode = true → s.fw.libDead = false) ∧
    (libGroup opcode = false → (s.boot.configDone = true ∨ via = .stageC) ∧ s.boot.step ≠ 14 ∧ s.fw.clerk = .running ∧
      cmdGated s opcode = false ∧ s.clerkMemBad = false)

/-- The port of a command that works within one port: its link, its lanes and its messages, with no cause raised, no record made and
nothing of the hub or of another port reached. -/
def ownPort : Instr → Option PortId
  | .parcelClose p _ => some p
  | .ctleStepApply p _ => some p
  | .ctleCheckTimeout p _ => some p
  | .ctleFreezeEnd p _ => some p
  | .loopbackReqReceive p _ => some p
  | .loopbackAckReceive p _ => some p
  | .loopbackEndReceive p _ => some p
  | .prbsLock p _ _ => some p
  | .prbsLockLoss p _ _ => some p
  | .ffeWalkStep p _ => some p
  | .dacCellExchange p _ => some p
  | .rangeIdleStart p _ => some p
  | .rangeTakeEffect p _ => some p
  | .toneRampReload p _ _ => some p
  | .agcStep p _ _ => some p
  | .sliceSwap p _ => some p
  | .echoSearchEnd p _ _ => some p
  | .echoConverge p _ _ _ => some p
  | .snrWindowEnd p _ _ _ _ => some p
  | .eyeHeightUpdate p _ _ => some p
  | .eyeWidthUpdate p _ _ => some p
  | .nakRepeatDue p _ _ => some p
  | .blockLockAcquire p _ _ => some p
  | .followerCountLoad p _ => some p
  | .alignTimeout p => some p
  | .readdHoldoffExpire p _ => some p
  | .noticeAckReceive p _ _ _ _ => some p
  | .preambleDetect p _ _ _ _ => some p
  | .falseDetect p _ => some p
  | .sndReceptionTruncate p _ _ _ => some p
  | .sndHeaderReceive p _ _ => some p
  | .sndFrameReceive p _ _ => some p
  | .cmFrameSend p _ => some p
  | .callSend p => some p
  | .probeReceive p _ _ _ _ _ => some p
  | .refuseReceive p _ _ _ => some p
  | .goReceive p _ => some p
  | .trainStatSend p _ => some p
  | .trainStatReceive p _ _ _ _ _ _ _ _ => some p
  | .trainStepTimeout p => some p
  | .trainPartnerTimeout p => some p
  | .trainTimeout p => some p
  | .linkSnapTake p => some p
  | .quietRequest p => some p
  | .quietReqReceive p _ => some p
  | .quietAckReceive p _ => some p
  | .quietDeclineReceive p _ => some p
  | .wakeTimeout p => some p
  | .fsiEventExpire p => some p
  | .ilAckReceive p _ _ => some p
  | .ilScheduleStart p => some p
  | _ => none

/-- The commands that reach neither the clocks, the power state, the time counter, the fast status bus, the register file's own state
nor the hub side of the spill store. -/
def calmCommand : Instr → Bool
  | .portClass _ _ _ | .parcelClose _ _ | .timeStatus _ | .timeSyncSend | .flashAccessTimeout | .lpllRetune _ _ |
    .lpllPlanApply _ _ | .bridgeFlitReceive _ _ _ | .bridgeFlitSend _ _ _ _ | .bridgeTrained _ |
    .stackLaneLock _ _ _ _ _ | .stackPortAlign _ _ _ _ | .stackAlignTimeout _ | .helloSend _ | .helloReceive _ _ |
    .linkAckSend _ | .topoChangeReceive _ |
    .orphanNoticeReceive _ | .faultWindowClose | .faultReportReceive _ _ | .mgmtRespReceive _ _ _ _ _ | .tunnelTimeout _ |
    .ledgerAnchorReceive _ _ _ _ | .stkTunnel _ _ _ | .stkPortInfo _ | .stkFrecRead _ _ |
    .calRun _ _ _ _ _ | .calRunDone _ _ | .dacMeasureDone _ _ _ | .ctleStepApply _ _ | .ctleCheckTimeout _ _ |
    .ctleFreezeEnd _ _ | .calStore _ | .calExport _ _ | .calImport _ _ _ _ | .calCoefRead _ _ _ _ _ _ _ | .calLimitsRead _ |
    .bistRun _ _ _ _ _ _ _ _ | .bistBankDone _ | .bistRead _ _ _ _ | .repairRead _ _ _ | .fuseRepair _ _ _ _ _ |
    .loopSet _ _ _ _ _ | .loopbackReqReceive _ _ | .loopbackAckReceive _ _ | .loopbackDeclineReceive _ _ _ |
    .farLoopbackStart _ _ | .loopbackEndReceive _ _ | .prbsLock _ _ _ | .prbsLockLoss _ _ _ | .bandgapCheck _ _ |
    .refCheck _ _ _ _ | .jtagInstruction _ | .scanChallenge _ _ _ | .scanChallengeExpire | .avsExamine _ _ |
    .avsWriteRetry _ _ | .avsStatusPoll _ _ _ | .pePerstNRelease | .trstNAssert | .bootRpllTimeout |
    .bootLedgerAnchor _ _ | .imgInfo _ | .imgErase _ _ | .imgEraseBlockDone | .imgWrite _ _ _ | .imgWriteStream _ _ _ |
    .imgConfirm _ _ | .devReset _ _ | .faultMessage _ | .eventCauseExpire _ _ | .fiArm _ _ _ _ _ _ _ _ | .fiStop _ _ |
    .fiList _ | .injectionDeliver _ _ | .injectHoldEnd _ _ | .commandStart _ _ _ | .commandTimeout _ | .farCmd _ _ _ |
    .farRequestReceive _ _ _ _ _ _ | .farReplyReceive _ _ _ _ _ _ | .farCmdTimeout _ | .clerkRestartDone _ |
    .firewallViolation _ _ | .libRomCheck _ | .libFirewallCheck _ | .libWatchdogExpire | .ledgerInfo _ | .ledgerRead _ _ _ |
    .ledgerSeal _ _ | .ledgerNote _ _ | .attestQuote _ _ | .certRead _ _ | .keyRevoke _ _ _ _ | .sealDue _ |
    .countersRecordDue | .witnessSend | .allowanceRefill | .ffeWalkStep _ _ | .dacCellExchange _ _ | .rangeIdleStart _ _ |
    .rangeTakeEffect _ _ | .complianceInterval _ _ _ _ _ _ _ _ | .toneRampReload _ _ _ | .agcStep _ _ _ | .sliceSwap _ _ |
    .sliceCalDone _ _ _ _ _ _ _ | .echoSearchEnd _ _ _ | .echoConverge _ _ _ _ | .snrWindowEnd _ _ _ _ _ |
    .alignFolioReceive _ _ _ _ | .anchorRevert _ _ | .eyeHeightUpdate _ _ _ | .eyeWidthUpdate _ _ _ |
    .nakRepeatDue _ _ _ | .blockLockAcquire _ _ _ | .blockLockLoss _ _ |
    .followerCountLoad _ _ | .alignTimeout _ | .laneQuarantine _ _ | .partnerQuarantine _ _ | .readdHoldoffExpire _ _ |
    .laneNoticeReceive _ _ _ _ _ _ | .addNoticeReceive _ _ _ | .noticeAckReceive _ _ _ _ _ | .preambleDetect _ _ _ _ _ |
    .falseDetect _ _ | .sndReceptionTruncate _ _ _ _ | .sndHeaderReceive _ _ _ | .sndFrameReceive _ _ _ | .cmFrameSend _ _ |
    .soundRound _ | .callSend _ | .soundWindowEnd _ | .turnReply _ | .callReceive _ _ _ _ | .returnReceive _ _ _ _ _ _ _ |
    .probeReceive _ _ _ _ _ _ | .offerReceive _ _ _ | .acceptReceive _ _ _ | .refuseReceive _ _ _ _ | .goReceive _ _ |
    .parleyResend _ | .parleyTimeout _ _ | .negRetryExpire _ _ | .soundingFrameSent _ _ | .trainStart _ | .trainStatSend _ _ |
    .trainStatReceive _ _ _ _ _ _ _ _ _ | .trainStepSwitch _ | .trainStepTimeout _ | .trainPartnerTimeout _ | .trainTimeout _ |
    .portDownEnter _ | .linkSnapTake _ | .quietRequest _ | .quietReqReceive _ _ | .quietAckReceive _ _ |
    .quietDeclineReceive _ _ | .quietEnter _ | .refreshWindowStart _ | .refreshWindowEnd _ | .wakeTrigger _ _ |
    .wakeTxData _ | .wakeRespond _ | .wakeBurstTimeout _ | .wakeTimeout _ | .wakeBurstDetect _ | .lpllRelockDone _ _ |
    .clause73PageReceive _ _ _ _ | .clause73Resolve _ _ | .anAttemptTimeout _ _ | .ieeeTrainDone _ _ _ _ _ |
    .ieeeTrainTimeout _ _ | .ieeeSubportFail _ _ _ | .ieeeCodewordReceive _ _ _ _ _ _ _ | .mdioPmaReset _ | .mdioAnRestart _ |
    .mdioAdvMaskWrite _ _ _ | .hostMarkerReceive _ _ _ | .hostLaneFail _ _ _ | .hostCodewordReceive _ _ _ _ _ _ |
    .fsiEventExpire _ | .diagTdr _ _ _ _ _ | .diagRl _ _ _ | .diagNext _ _ _ | .diagRunDone _ _ _ | .diagRead _ _ _ _ |
    .diagLive _ _ _ | .diagIl _ _ _ _ _ _ | .ilReqReceive _ _ _ _ _ _ _ | .ilAckReceive _ _ _ | .ilDeclineReceive _ _ _ |
    .ilScheduleStart _ | .ilDoneReceive _ _ _ | .ilDoneTimeout _ _ | .captureStart _ _ _ _ _ _ _ _ _ | .captureTrigger _ |
    .captureTimeout | .captureStop _ | .captureStatus _ | .captureRead _ _ _ | .commitJudge _ |
    .portInfo _ _ => true
  | _ => false

/-- The stack's commands after which the trim and the stack PLL may take another clock (R333, R440, R450, R451), and nothing else of what
Calm holds changes. -/
def clockCommand : Instr → Bool
  | .stackClockDetect _ | .enumRunStart | .parentChoose | .reportReceive _ _ _ | .reportDue _ | .stkEnum _ | .stkRenumber _ => true
  | _ => false

/-- The commands of a lane after which a request that waited may be found too late (R557), and nothing else of what Calm holds changes. -/
def lateCommand : Instr → Bool
  | .alignmentLoss _ _ | .cdrLockLost _ _ | .addAttemptTimeout _ _ | .noticeDeclineReceive _ _ _ _ _ _ => true
  | _ => false

/-- From s to t, a command on a port changes at most that port and the count of random draws. -/
def PortOnly (p : PortId) (s t : State) : Prop :=
  (∀ q, q ≠ p → t.port q = s.port q) ∧ t = { s with ports := t.ports, fresh := t.fresh }

/-- As Calm, but that the clocks may settle on another source (ck), and that a request found too late may be marked in GLB_WR_STAT
and GLB_WR_ADDR (lt). -/
def CalmBut (ck lt : Bool) (s t : State) : Prop :=
  t.uptime = s.uptime ∧ t.store = s.store ∧ t.fsi = s.fsi ∧
    t.reg = (if lt then { s.reg with wrStat := t.reg.wrStat, wrAddr := t.reg.wrAddr } else s.reg) ∧
    (ck = false → t.clk = s.clk) ∧ t.pwr = s.pwr ∧ t.time = s.time

/-- From s to t, the uptime, the spill store's hub side, the fast status bus, the register file's own state, the clocks, the power
state and the time counter are unchanged. -/
def Calm (s t : State) : Prop :=
  t.uptime = s.uptime ∧ t.store = s.store ∧ t.fsi = s.fsi ∧ t.reg = s.reg ∧ t.clk = s.clk ∧ t.pwr = s.pwr ∧ t.time = s.time

end Sys2Proof
end

