-- ==== Sys2Proof/Certificates/Slice0/Obligations.lean ====
section
/-!
DEFINITION. The statements about the model: what every step keeps, what each command does where it completes, what the rules of
the register map, of faults, of the mailbox and of the ledger say, and what reset leaves.
-/
open Sys2Proof Sys2Proof.Machine

/-- Chapters 1 and 2, lane PLL groups and bridges (R19 to R22, R25, R26, R30): where LPLL_RETUNE, LPLL_RELOCK_DONE, LPLL_PLAN_APPLY,
POD_LPLL_CTRL_WRITE, BRIDGE_FLIT_RECEIVE, BRIDGE_FLIT_SEND and BRIDGE_TRAINED complete, and with what. -/
def Obligations.PllAndBridgeCommandsComplete : Prop :=
  (∀ p f s, s.part.hasPort p = true → f ≠ .none → (s.group p).lock = true → (s.group p).freq = f →
    exec (.lpllRetune p f) s = .next (setWaiting p false s)) ∧
  (∀ p f s, s.part.hasPort p = true → f ≠ .none → (s.group p).freq ≠ f → (s.group p).target ≠ some f →
    (s.group p).planInForce = 0 → retunable s (podOf p) (groupOf p) = true → groupSounding s (podOf p) (groupOf p) = false →
    exec (.lpllRetune p f) s = .next (setWaiting p false (startRetune (podOf p) (groupOf p) f s))) ∧
  (∀ k g s, s.part.hasPod k = true → s.clk.rpllLock = true → s.pwr.trip = false → (s.pod k).groups[g.val].lock = false →
    exec (.lpllRelockDone k g) s = .next (groupLocked k g s)) ∧
  (∀ k g s, retunable s k g = true → groupSounding s k g = false →
    (s.pod k).groups[g.val].plan ≠ (s.pod k).groups[g.val].planInForce →
    ∃ u, u = planWaitEnd k g (s.modGroup k g fun x => { x with planInForce := x.plan }) ∧
      exec (.lpllPlanApply k g) s = .next (if (s.pod k).groups[g.val].plan = 0 ∨
          (s.pod k).groups[g.val].freq = planFreq (s.pod k).groups[g.val].plan then u
        else startRetune k g (planFreq (s.pod k).groups[g.val].plan) u)) ∧
  (∀ who k g v s, WriteReaches who s (podBase k + 0x100 + g.val * 4) → bits v 3 0 ≤ 4 →
    ∃ t, exec (.podLpllCtrlWrite who k g v) s = .next t ∧ (t.pod k).groups[g.val].plan = bits v 3 0 ∧
      (t.pod k).groups[g.val].planInForce = (s.pod k).groups[g.val].planInForce ∧ t.ports = s.ports ∧
      t.reg.reply = .written) ∧
  (∀ k d s, s.podOpen k = true → exec (.bridgeFlitReceive k d true) s =
    .next (s.modPod k fun q => { q with bridge := q.bridge.modDir d fun x => { x with replays := 0 } })) ∧
  (∀ k d w new s, s.podOpen k = true → ∃ t, exec (.bridgeFlitSend k d w new) s = .next t ∧
    ((t.pod k).bridge.dir d).last = nextKind s.fabOnFro (if new then ((s.pod k).bridge.dir d).newUs s.fabOnFro else (s.pod k).bridge.dir d) d w ∧
      t.ports = s.ports ∧ t.flt = s.flt) ∧
  (∀ k s, s.part.hasPod k = true → s.boot.inReset = false → s.pwr.lost.contains (.pod k) = false →
    (s.pod k).bridge.up = false → (s.pod k).fltQueue = [] →
    ∃ t, exec (.bridgeTrained k) s = .next t ∧ t = endCond .bridgeFail (.pod k)
      (s.modPod k fun q => { q with fltQueue := [], bridge := { q.bridge with up := true } }))

/-- Chapter 2, the line transmitter (R40, R46, R47, R49, R54, R56 to R60): where SLOT_BOUNDARY, FFE_WALK_STEP, DAC_CELL_EXCHANGE,
RANGE_IDLE_START, RANGE_TAKE_EFFECT, COMPLIANCE_INTERVAL, TONE_RAMP_RELOAD and TX_TONE_REG_WRITE complete, and with what. -/
def Obligations.TransmitterCommandsComplete : Prop :=
  (∀ p s, s.part.hasPort p = true → s.podStopped (podOf p) = false → ((slotDue p (slotAdvance p s)).port p).link.state ≠ .down →
    exec (.slotBoundary p) s = .next ((if ((slotDue p (slotAdvance p s)).port p).alignSlot
      then sendAlignSlot p (slotDue p (slotAdvance p s)) else sendSlot p (slotDue p (slotAdvance p s))).modPort p
        fun q => q.sendPatterns.sendPrbs.drive)) ∧
  (∀ p n s target, (s.port p).walks = true → (s.lane p n).tx.walkLeft = 0 → (s.lane p n).tx.state ≠ .safe →
    (s.lane p n).tx.walk = some target →
    ∃ t, exec (.ffeWalkStep p n) s = .next t ∧ (t.lane p n).act .txFfe0 = ((s.lane p n).taps.step target).word0 ∧
      (t.lane p n).act .txFfe1 = ((s.lane p n).taps.step target).word1 ∧ (t.lane p n).tx.walkLeft = 64 ∧
      (t.lane p n).tx.walk = (if (s.lane p n).taps.step target = target then none else some target)) ∧
  (∀ p n s a b, (s.lane p n).tx.cellNext = some (a, b) → exchangeDue s p n = true → a ≠ b → a ≤ 8 → b ≤ 8 →
    ∃ t, exec (.dacCellExchange p n) s = .next t ∧ (t.lane p n).tx.retireA = a ∧ (t.lane p n).tx.retireB = b ∧
      (t.lane p n).tx.cellAge = 0 ∧ (t.lane p n).tx.cellNext = (s.lane p n).cal.dacNext) ∧
  (∀ p n s r, (s.lane p n).tx.rangeNext = some r → (s.lane p n).tx.rangeIdle = false → (s.lane p n).tx.state = .data →
    (s.port p).soundsOn n = false →
    ∃ t, exec (.rangeIdleStart p n) s = .next t ∧ (t.lane p n).tx.rangeIdle = true ∧ (t.lane p n).tx.state = .idle ∧
      (t.lane p n).tx.resume = .data) ∧
  (∀ p n s r, (s.lane p n).tx.rangeNext = some r → (s.lane p n).tx.rangeIdle = true → (s.lane p n).tx.state ≠ .safe → r < 4 →
    ∃ t, exec (.rangeTakeEffect p n) s = .next t ∧ bits ((t.lane p n).act .txCtrl) 1 0 = r ∧
      (t.lane p n).tx.rangeNext = none ∧ (t.lane p n).tx.rangeIdle = false) ∧
  (∀ p n vcm pMax pMin nMax nMin swing s, (s.lane p n).tx.compEn = true → (s.lane p n).tx.state = .idle →
    (s.port p).duplex = true → pMax ≤ 13500 → 500 ≤ pMin → nMax ≤ 13500 → 500 ≤ nMin →
    ∃ t, exec (.complianceInterval p n vcm pMax pMin nMax nMin swing) s = .next (endCond .compliance (.lane p n) t) ∧
      (t.lane p n).tx.compRun = Vector.replicate 5 0) ∧
  (∀ p n s k, toneMode ((s.lane p n).act .txToneCtrl) = 2 →
    ∃ t, exec (.toneRampReload p n k) s = .next t ∧ (t.lane p n).tx.toneStart = (s.lane p n).tx.toneStart ∧
      ((t.lane p n).tx.facc.toNat, (t.lane p n).tx.phase.toNat) =
        let r := toneRun (s.lane p n).tx.toneStart.toNat (s.lane p n).tx.toneStop.toNat (signed 32 (s.lane p n).tx.toneRamp.toNat) k
          ((s.lane p n).tx.facc.toNat, (s.lane p n).tx.phase.toNat)
        (r.1 % 2 ^ 48, r.2 % 2 ^ 32)) ∧
  (∀ p n s k g rest, toneMode ((s.lane p n).act .txToneCtrl) = 3 → (s.lane p n).tx.segs = g :: rest →
    ∃ t, exec (.toneRampReload p n k) s = .next t ∧ (t.lane p n).tx.toneStart = BitVec.ofNat 32 g.start ∧
      (t.lane p n).tx.toneRamp = BitVec.ofInt 32 g.ramp ∧ (t.lane p n).tx.toneStop = BitVec.ofNat 32 g.stop ∧
      (t.lane p n).tx.facc = BitVec.ofNat 48 (g.first * 65536) ∧ (t.lane p n).tx.segs = rest) ∧
  (∀ who p n v s, WriteReaches who s (laneBase p n + 0x60) → (s.port p).link.state = .down →
    ∃ t, exec (.txToneRegWrite who p n 2 v) s = .next t ∧
      (t.lane p n).tx.toneStop = (if 0x79200000 < v.toNat then 0x79200000#32 else v) ∧
      (t.lane p n).tx.toneStart = (s.lane p n).tx.toneStart ∧ t.reg.reply = .written)

/-- Chapter 3, the line receiver (R64, R65, R68 to R70, R77, R86 to R91, R266 to R268): where AGC_STEP, SLICE_SWAP, SLICE_CAL_DONE,
ECHO_SEARCH_END, ECHO_CONVERGE, SNR_WINDOW_END, ALIGN_FOLIO_RECEIVE, ANCHOR_REVERT, EYE_HEIGHT_UPDATE and EYE_WIDTH_UPDATE complete,
and with what. -/
def Obligations.ReceiverCommandsComplete : Prop :=
  (∀ p n xs s x, x = ((receive p n xs s).lane p n).rx → x.phase = .joint → bits ((s.lane p n).act .rxCtrl) 13 12 ≠ 2 →
    agcSymbols ≤ x.run.agcCnt → agcOk x.agcTarget x.run.agcSq x.run.agcCnt = false →
    agcActive x.agcTarget x.run.epSq x.run.epCnt = true →
    ∃ t, exec (.agcStep p n xs) s = .next t ∧ (t.lane p n).rx.vga = agcMove x.agcTarget x.run.agcSq x.run.agcCnt x.vga ∧
      (t.lane p n).rx.coefs = x.coefs ∧ (t.lane p n).tx = (s.lane p n).tx) ∧
  (∀ p n xs s x, x = ((receive p n xs s).lane p n).rx → x.phase = .track → bits ((s.lane p n).act .rxCtrl) 13 12 ≠ 2 →
    epochSymbols ≤ x.run.epCnt → agcOk x.agcTarget x.run.epSq x.run.epCnt = false →
    agcActive x.agcTarget x.run.epSq x.run.epCnt = true → agcMove x.agcTarget x.run.epSq x.run.epCnt x.vga ≠ x.vga → 64 ≤ x.vgaAge →
    ∃ t, exec (.agcStep p n xs) s = .next t ∧
      (t.lane p n).rx.vgaDue = some (decide (x.vga < agcMove x.agcTarget x.run.epSq x.run.epCnt x.vga)) ∧
      (t.lane p n).rx.vga = x.vga ∧ (t.lane p n).rx.coefs = x.coefs) ∧
  (∀ p n s, swapDue (s.lane p n) = true → (s.lane p n).rx.phase = .far →
    ∃ t, exec (.sliceSwap p n) s = .next t ∧ (t.lane p n).rx.slices = (s.lane p n).rx.slices.swap ∧
      (t.lane p n).rx.sinceChange = 0 ∧ (t.lane p n).rx.coefs = (s.lane p n).rx.coefs) ∧
  (∀ p n cal diff comps slope inl s, (s.lane p n).rx.slices.stopped = false → (s.lane p n).rx.slices.calDone = false →
    (s.lane p n).rx.phase ≠ .off → (s.lane p n).rx.phase ≠ .hold → comparisonFits (s.port p) = true →
    chooseComparator s.boot.limits.compNoise comps = none →
    ∃ t, exec (.sliceCalDone p n cal diff comps slope inl) s = .next t ∧
      t = (let u := checkSpare p n (s.modLane p n fun l => { l.calResult 1 2 with
            rx := { l.rx with slices := { (s.lane p n).rx.slices.failInCal with calCount := (s.lane p n).rx.slices.calCount + 1 } } })
           if podSliceCals (podOf p) u % 1024 = 0 then rampSample (podOf p) slope inl u else u)) ∧
  (∀ p n cal diff v slope inl s, (s.lane p n).rx.slices.stopped = false → (s.lane p n).rx.slices.calDone = false →
    (s.lane p n).rx.phase ≠ .off → (s.lane p n).rx.phase ≠ .hold → comparisonFits (s.port p) = true →
    chooseComparator s.boot.limits.compNoise [(0, v)] = some 0 → refCheckBad s p = false → diff = (0, 0, 0) →
    s.boot.limits.sliceOk cal.1 cal.2.1 cal.2.2 v = true →
    s.boot.limits.sliceStepOk ((s.lane p n).rx.slices.results.getD (s.lane p n).rx.slices.inCal (0, 0, 0)) cal = true →
    ∃ t, exec (.sliceCalDone p n cal diff [(0, v)] slope inl) s = .next t ∧
      t = (let u := checkSpare p n (s.modLane p n fun l => { l.calResult 1 1 with
            rx := { l.rx with slices := { (s.lane p n).rx.slices.accept (s.lane p n).rx.slices.inCal cal cal 0 with
              calDone := true, calCount := (s.lane p n).rx.slices.calCount + 1 } } })
           if podSliceCals (podOf p) u % 1024 = 0 then rampSample (podOf p) slope inl u else u)) ∧
  (∀ p n xs s, (s.lane p n).rx.phase = .echo → (s.lane p n).rx.searched = false →
    ∃ t, exec (.echoSearchEnd p n xs) s = .next t ∧
      (t.lane p n).rx.ecStart = (s.lane p n).ecPlaced (searchLags (bitOf ((s.lane p n).act .rxCtrl) 8) xs) ∧
      (t.lane p n).rx.phase = .echo ∧ (t.lane p n).rx.searched = true) ∧
  (∀ p n k ks xs s x, x = ((receive p n xs s).lane p n).rx → (s.lane p n).rx.phase = .echo →
    ∃ t, exec (.echoConverge p n (k :: ks) xs) s = .next t ∧ (t.lane p n).rx.coefs = x.coefs ∧
      (t.lane p n).rx.hybR = leastAt ((k :: ks).take 256) / 16 ∧ (t.lane p n).rx.hybC = leastAt ((k :: ks).take 256) % 16 ∧
      (t.lane p n).rx.echoLvl = echoLevel x.echoPeak.1 ∧ (t.lane p n).rx.conv = (x.conv || decide (16384 ≤ x.run.echoRun))) ∧
  (∀ p n lock trials xs s x, x = ((receive p n xs s).lane p n).rx → x.phase = .track → x.run.errCnt ≠ 0 →
    ∃ t, exec (.snrWindowEnd p n lock trials xs) s = .next t ∧
      (t.lane p n).rx.snr = snrOf (s.port p).ieeeMode (x.estUnit (s.port p).ieeeMode) x.run.errSum x.run.errCnt ∧
      (t.lane p n).rx.coefs = x.coefs ∧ (t.lane p n).rx.peak = x.peak ∧ (t.lane p n).rx.lf = x.lf ∧
      (t.lane p n).rx.snrHist = ((t.lane p n).rx.snr :: x.snrHist).take 4 ∧ (t.lane p n).rx.conv = true) ∧
  (∀ p n lock trials xs s x, x = ((receive p n xs s).lane p n).rx → x.phase = .far → x.run.errCnt ≠ 0 → 128 ≤ trials.length →
    x.searched = false →
    ∃ t, exec (.snrWindowEnd p n lock trials xs) s = .next t ∧
      ((t.lane p n).rx.peak, (t.lane p n).rx.lf) = bestCtle trials ∧ (t.lane p n).rx.searched = true) ∧
  (∀ p n ds xs s u, u = receive p n xs s → (u.lane p n).rx.phase = .track →
    exec (.alignFolioReceive p n ds xs) s =
      .next (anchorPoint p n (patternMatches ds && decide ((u.lane p n).rx.uncSince = 0)
          && decide ((u.lane p n).snrMin ≤ (u.lane p n).rx.snr) && (u.lane p n).rx.run.halfActive)
        ((echoReport p n u).modLane p n fun l =>
          { l with rx := { l.rx with uncSince := 0,
                                     run := { l.rx.run with epochs := 0, epochsActive := 0, farSum := 0, ownSum := 0, farCnt := 0 } },
                   cal := { l.cal with ctleAge := l.cal.ctleAge + 1 } }))) ∧
  (∀ p n s, (s.lane p n).rx.revDue = true → (s.lane p n).rx.held = false → (s.lane p n).rx.unstable = false →
    (s.lane p n).rx.revSince < 2 →
    ∃ t, exec (.anchorRevert p n) s = .next t ∧ (t.lane p n).rx.coefs = (s.lane p n).rx.anchor ∧
      (t.lane p n).rx.revert = satAdd 16 (s.lane p n).rx.revert 1 ∧ (t.lane p n).rx.revDue = false ∧
      (t.lane p n).rx.anchor = (s.lane p n).rx.anchor) ∧
  (∀ p n codes s, (s.lane p n).rx.phase = .track →
    ∃ t, exec (.eyeHeightUpdate p n codes) s = .next t ∧ (t.lane p n).qual.eyeH = Nat.min 255 (emptyRun (histOf codes)) ∧
      (t.lane p n).qual.eyeW = (s.lane p n).qual.eyeW ∧ (t.lane p n).rx = (s.lane p n).rx) ∧
  (∀ p n offsets s, (s.lane p n).rx.phase = .track → (s.lane p n).rx.slices.stopped = false →
    ∃ t, exec (.eyeWidthUpdate p n offsets) s = .next t ∧
      (t.lane p n).qual.eyeW = 2 * openRun (offsets.map fun l => decide (0 < emptyRun (histOf l))) ∧
      (t.lane p n).qual.eyeH = (s.lane p n).qual.eyeH ∧ (t.lane p n).rx = (s.lane p n).rx)

/-- Chapter 4, folios and alignment (R102, R106, R108 to R112, R120, R182, R200): where FOLIO_RECEIVE, NAK_REPEAT_DUE, BLOCK_LOCK_ACQUIRE,
BLOCK_LOCK_LOSS, ALIGNMENT_LOSS, CDR_LOCK_LOST, FOLLOWER_COUNT_LOAD and ALIGN_TIMEOUT complete, and with what. -/
def Obligations.FolioCommandsComplete : Prop :=
  (∀ p n f s, (s.port p).takesFolio n = true → (s.port p).recv n = none →
    decodeFolio (bitOf ((s.port p).act .fecCtrl) 15) (bits ((s.port p).act .fecCtrl) 3 0)
      (bits ((s.port p).act .fecCtrl) 14 8) f = none →
    exec (.folioReceive p n f) s =
      .next (folioBad p n (missAlign p n ((s.modLane p n fun l => { l with code := l.code.headers f.invalid }).modPort p
        fun q => { q with code := { q.code with winRecv := q.code.winRecv + 1 } })))) ∧
  (∀ p n slot s, (s.port p).lre.naks = [{ lane := n.val, slot := slot, sends := 1, due := false, busy := false, waited := true }] →
    1 < bits ((s.port p).act .lreCtrl) 5 4 →
    ∃ t, exec (.nakRepeatDue p n slot) s = .next t ∧
      (t.port p).lre.naks = [{ lane := n.val, slot := slot, sends := 1, due := true, busy := false, waited := true }] ∧
      t.fw = s.fw ∧ t.flt = s.flt) ∧
  (∀ p n headers i s, (s.lane p n).code.hunting = true → (huntRound headers).1 = some i →
    ∃ t, exec (.blockLockAcquire p n headers) s = .next t ∧ (t.lane p n).code.lock = true ∧
      (t.lane p n).code.hyp = ((s.lane p n).code.hyp + i) % 3440 ∧ (t.lane p n).code.consecUnc = 0 ∧
      (t.lane p n).rx = (s.lane p n).rx) ∧
  (∀ p n headers s, (s.lane p n).code.hunting = true → huntRound headers = (none, true) →
    ∃ t, exec (.blockLockAcquire p n headers) s = .next t ∧ (t.lane p n).code.lock = (s.lane p n).code.lock ∧
      (t.lane p n).code.hyp = ((s.lane p n).code.hyp + 172) % 3440) ∧
  (∀ p n s, (s.lane p n).code.lock = true → (s.lane p n).code.lockDue = true → (s.lane p n).code.state = .locked →
    ∃ u, exec (.blockLockLoss p n) s = .next (ownTrigger p n 1 u) ∧ (u.lane p n).code.lock = false ∧
      (u.lane p n).code.state = .hunt ∧ (u.lane p n).code.hyp = ((s.lane p n).code.hyp + 1) % 3440 ∧
      (u.lane p n).code.lockLoss = satAdd 8 (s.lane p n).code.lockLoss 1 ∧ (u.lane p n).code.alignedF = false) ∧
  (∀ p n s, (s.lane p n).code.alignedF = true → 2 ≤ (s.lane p n).code.alignMiss →
    exec (.alignmentLoss p n) s = .next (framingFails p n (ownTrigger p n 3 (s.modLane p n fun l =>
      { l with code := { l.code with
          alignedF := false, deskewed := false, lastSlot := none, alignMiss := 0, alignLoss := satAdd 8 l.code.alignLoss 1,
          state := if l.code.state = .aligned then .locked else l.code.state } })))) ∧
  (∀ p n s u, (s.lane p n).rx.cdrLock = true → (s.lane p n).rx.phase ≠ .hold →
    u = s.modLane p n (fun l => { l with rx := { l.rx with cdrLock := false } }) →
    ((u.port p).subOf n = none → exec (.cdrLockLost p n) s = .next (framingFails p n (ownTrigger p n 2 u))) ∧
    (∀ i, (u.port p).subOf n = some i → exec (.cdrLockLost p n) s = .next (subDown p i 3 true u))) ∧
  (∀ p n r s, (s.port p).recv n = some r → (s.port p).snd.leader = false → (s.port p).code.loaded = false →
    (s.port p).link.state = .align → (s.lane p n).code.alignedF = true →
    ∃ t, exec (.followerCountLoad p n) s = .next t ∧ (t.port p).code.slotCnt = r ∧ (t.port p).code.loaded = true ∧
      (t.port p).link = (s.port p).link) ∧
  (∀ p s, (s.port p).link.state = .align → 16 ≤ (s.port p).code.alignPeriods → (s.port p).code.chg = none →
    (s.port p).bothReady ≠ 0 → (s.port p).minLanes ≤ popcount8 (s.port p).bothReady →
    ∃ t, exec (.alignTimeout p) s = .next t ∧ (t.port p).code.chg = some .linkUp ∧
      (t.port p).code.nextMap = (s.port p).bothReady ∧ (t.port p).code.chgEpoch = (s.port p).epochAfter 16) ∧
  (∀ p s, (s.port p).link.state = .align → 16 ≤ (s.port p).code.alignPeriods → (s.port p).code.chg = none →
    popcount8 (s.port p).bothReady < (s.port p).minLanes → exec (.alignTimeout p) s = .next (downDue p 3 s))

/-- Chapter 4, lanes leaving and joining the map (R117, R122, R123, R126, R128, R129, R556, R557): where CHANGE_EPOCH, LANE_QUARANTINE,
PARTNER_QUARANTINE, LANE_REQ_SHED, LANE_REQ_ADD, PLANNED_SHED_DEADLINE, READD_HOLDOFF_EXPIRE, ADD_ATTEMPT_TIMEOUT, LANE_NOTICE_RECEIVE,
ADD_NOTICE_RECEIVE, NOTICE_ACK_RECEIVE and NOTICE_DECLINE_RECEIVE complete, and with what. -/
def Obligations.LaneChangeCommandsComplete : Prop :=
  (∀ p k s, (s.port p).code.chg = some k → epochReached ((s.port p).nextSlot / 64) (s.port p).code.chgEpoch = true →
    k ≠ .planned → exec (.changeEpoch p) s = .next (judgeWaiting p (applyChange p k s))) ∧
  (∀ p n c ep s, (s.lane p n).code.trig = some (c, ep) → c ≠ 6 → (s.lane p n).code.state = .active →
    exec (.laneQuarantine p n) s = .next (sendLaneNotice p 1 (quarantine p n c ep s))) ∧
  (∀ p n ep s, (s.lane p n).code.trig = some (6, ep) → (s.lane p n).code.state = .active →
    exec (.partnerQuarantine p n) s = .next (quarantine p n 6 ep s)) ∧
  (∀ who p v s, WriteReaches who s (portBase p + 0x1020) →
    exec (.laneReqShed who p v) s = .next (writeLaneReq who p v s) ∧
    exec (.laneReqAdd who p v) s = .next (writeLaneReq who p v s)) ∧
  (∀ p s, (s.port p).code.plan = .proposed →
    epochReached ((s.port p).nextSlot / 64) ((s.port p).code.chgEpoch + epochMod - 16) = true →
    exec (.plannedShedDeadline p) s = .next (judgeWaiting p (shedRecord p 0xA
      (lowLane ((s.port p).code.map &&& (0xFF ^^^ (s.port p).code.nextMap))) (s.modPort p Port.dropPlan)))) ∧
  (∀ p n s, (s.lane p n).code.state = .shed → (s.lane p n).code.autoAdd = true → (s.lane p n).code.shedCap = false →
    bitOf ((s.port p).act .codeCtrl) 6 = true → bits (s.port p).code.readdCtrl 31 24 = 0 →
    (s.port p).code.addSent.testBit n.val = false → (s.port p).link.state = .degraded → (s.lane p n).test.loop.isFar = false →
    exec (.readdHoldoffExpire p n) s = .next (sendAddNotice p n s)) ∧
  (∀ p n s, (s.lane p n).code.state = .adding →
    exec (.addAttemptTimeout p n) s = .next (judgeWaiting p (failAdd p n s))) ∧
  (∀ p id quar nextMap epoch s u, (s.port p).noticesOk = true →
    u = wakeTrigger p (s.modPort p fun q => { q with code := { q.code with noticeSeen := id % 256 } }) →
    (u.port p).code.plan = .responder → (u.port p).code.nextMap = nextMap →
    exec (.laneNoticeReceive p id 2 quar nextMap epoch) s =
      .next (sendAck p id 0x10 nextMap (u.port p).code.chgEpoch u)) ∧
  (∀ p id n s k, (s.port p).noticesOk = true → ((wakeTrigger p s).port p).code.chg = some k →
    exec (.addNoticeReceive p id n) s =
      .next (sendDecline p id 0x11 n.val 1 ((wakeTrigger p s).port p).code.chgEpoch (wakeTrigger p s))) ∧
  (∀ p id n s, (s.port p).noticesOk = true → ((wakeTrigger p s).port p).code.chg = none →
    ((wakeTrigger p s).lane p n).test.loop = .none → ((wakeTrigger p s).lane p n).code.state = .shed →
    ∃ u, exec (.addNoticeReceive p id n) s = .next (beginAdd p n (sendAck p id 0x11 n.val 0 u)) ∧
      (u.port p).lanes = ((wakeTrigger p s).port p).lanes ∧ (u.port p).code = ((wakeTrigger p s).port p).code) ∧
  (∀ p id what epoch s, (s.port p).noticesOk = true → ((s.port p).takeNotice id 0x10).1 = true →
    ((s.port p).takeNotice id 0x10).2.code.plan = .proposed → ((s.port p).takeNotice id 0x10).2.code.nextMap = what →
    ∃ t, exec (.noticeAckReceive p id 0x10 what epoch) s = .next t ∧ (t.port p).code.plan = .acked ∧
      (t.port p).code.nextMap = what) ∧
  (∀ p id lane epoch s, (s.port p).noticesOk = true → ((s.port p).takeNotice id 0x11).1 = true → lane < 8 →
    ((s.port p).takeNotice id 0x11).2.code.addSent.testBit lane = true →
    ∃ t, exec (.noticeDeclineReceive p id 0x11 lane 1 epoch) s = .next t ∧
      (t.port p).code.addSent = ((s.port p).takeNotice id 0x11).2.code.addSent &&& (0xFF ^^^ 2 ^ lane) ∧
      ((t.port p).code.addWait.map fun w => w.2) = some epoch) ∧
  (∀ p id (n : LaneId) reason epoch s, (s.port p).noticesOk = true → ((s.port p).takeNotice id 0x11).1 = true →
    ((s.port p).takeNotice id 0x11).2.code.addSent.testBit n.val = true → reason ≠ 1 →
    exec (.noticeDeclineReceive p id 0x11 n.val reason epoch) s =
      .next (judgeWaiting p (failAdd p n (s.modPort p fun q => (q.takeNotice id 0x11).2))))

/-- Chapter 5, the sounding channel (R136 to R155, R160): where PREAMBLE_DETECT, FALSE_DETECT, NEW_PREAMBLE_DETECT, SND_RECEPTION_TRUNCATE,
SND_HEADER_RECEIVE, SND_FRAME_RECEIVE, CM_FRAME_SEND, SOUND_ROUND, CALL_SEND, SOUND_WINDOW_END and SOUNDING_FRAME_SENT complete,
and with what. -/
def Obligations.SoundingCommandsComplete : Prop :=
  (∀ p cm rx0 tx0 since s pair, pair = (!cm && (s.port p).pairOf rx0 tx0 since) → (s.port p).instRuns cm = true →
    ((s.port p).snd.inst cm).rx = .none → (cm && (s.port p).blanksCm since) = false →
    ∃ t, exec (.preambleDetect p cm rx0 tx0 since) s = .next t ∧ ((t.port p).snd.inst cm).rx = .preamble ∧
      ((t.port p).snd.inst cm).refPow = (if pair then tx0 else rx0) ∧ ((t.port p).snd.inst cm).pair = pair ∧
      ((t.port p).snd.inst cm).detect = satAdd 8 ((s.port p).snd.inst cm).detect 1 ∧ (t.port p).link = (s.port p).link) ∧
  (∀ p cm s, ((s.port p).snd.inst cm).rx = .preamble →
    ∃ t, exec (.falseDetect p cm) s = .next t ∧ ((t.port p).snd.inst cm).rx = .none ∧
      ((t.port p).snd.inst cm).falseDet = satAdd 8 ((s.port p).snd.inst cm).falseDet 1) ∧
  (∀ p cm power timing bin tx0 s, ((s.port p).snd.inst cm).rx = .preamble → 1 ≤ timing → 2 < bin →
    ∃ t, exec (.newPreambleDetect p cm power timing bin false tx0) s = .next t ∧ ((t.port p).snd.inst cm).pair = (!cm && tx0) ∧ ((t.port p).snd.inst cm).rx = .preamble ∧
      ((t.port p).snd.inst cm).refPow = power ∧
      ((t.port p).snd.inst cm).superseded = satAdd 8 ((s.port p).snd.inst cm).superseded 1 ∧
      ((t.port p).snd.inst cm).detect = ((s.port p).snd.inst cm).detect) ∧
  (∀ p cm w1 w2 s, ((s.port p).snd.inst cm).rx ≠ .none → w1 ≤ ((s.port p).snd.inst cm).refPow - 24 →
    w2 ≤ ((s.port p).snd.inst cm).refPow - 24 →
    ∃ t, exec (.sndReceptionTruncate p cm w1 w2) s = .next t ∧ ((t.port p).snd.inst cm).rx = .none ∧
      ((t.port p).snd.inst cm).trunc = satAdd 8 ((s.port p).snd.inst cm).trunc 1) ∧
  (∀ p cm w s, ((s.port p).snd.inst cm).rx = .preamble → hdrOk cm w = true →
    ∃ t, exec (.sndHeaderReceive p cm w) s = .next t ∧ ((t.port p).snd.inst cm).rx = .payload ∧
      ((t.port p).snd.inst cm).hdr = some (bits w 31 24, bits w 23 16, bits w 15 12)) ∧
  (∀ p cm raw typ len psf s, ((s.port p).snd.inst cm).rx = .payload → ((s.port p).snd.inst cm).hdr = some (typ, len, psf) →
    ∃ t, exec (.sndFrameReceive p cm raw) s = .next t ∧ ((t.port p).snd.inst cm).rx = .none ∧
      ((t.port p).snd.inst cm).rxOk = satAdd 8 ((s.port p).snd.inst cm).rxOk (b2n (payloadOk typ len psf raw)) ∧
      ((t.port p).snd.inst cm).crcErr = satAdd 8 ((s.port p).snd.inst cm).crcErr (b2n (!payloadOk typ len psf raw))) ∧
  (∀ p f s, (s.port p).instRuns true = true → (s.port p).link.burst = false → (s.group p).relocking = false →
    (s.port p).duplex = false → cmNext (s.port p).snd.queue = some f → (s.port p).snd.cur = none →
    exec (.cmFrameSend p true) s = .next (s.modPort p fun q => q.cmStart (sampleKhz (s.group p).freq) f)) ∧
  (∀ p s, (s.port p).link.state = .sound → (s.port p).snd.round < bits (s.port p).snd.diffCtrl 31 24 →
    (s.port p).snd.partner = none → (s.group p).relocking = false →
    ∃ t, exec (.soundRound p) s = .next t ∧ (t.port p).snd.round = (s.port p).snd.round + 1 ∧
      (∃ k, (t.port p).snd.callOfs = some k ∧ k < 900) ∧ t.fresh = s.fresh + 1) ∧
  (∀ p ofs s, (s.port p).link.state = .sound → (s.port p).snd.callOfs = some ofs → (s.port p).snd.diff.rx = .none →
    (s.port p).snd.diffCur = none → (s.port p).snd.diffDue = none → (s.group p).relocking = false →
    ∃ t, exec (.callSend p) s = .next t ∧ (t.port p).snd.callOfs = none ∧
      (t.port p).snd.diffCur = some { typ := 0x01, payload := (s.ownCall p).bytes, resends := 0 } ∧
      (t.port p).lanes = ((s.port p).diffStart (sampleKhz (s.group p).freq) (s.port p).callSf
        { typ := 0x01, payload := (s.ownCall p).bytes, resends := 0 }).lanes) ∧
  (∀ p s, (s.port p).link.state = .sound → bits (s.port p).snd.diffCtrl 31 24 ≤ (s.port p).snd.round →
    (s.port p).snd.partner = none → (s.group p).relocking = false → bitOf (s.port p).snd.ctrl 4 = true →
    exec (.soundWindowEnd p) s = .next (toClause73 p s)) ∧
  (∀ p s, (s.port p).link.state = .sound → bits (s.port p).snd.diffCtrl 31 24 ≤ (s.port p).snd.round →
    (s.port p).snd.partner = none → (s.group p).relocking = false → bitOf (s.port p).snd.ctrl 4 = false →
    exec (.soundWindowEnd p) s =
      .next (soundWindow p (s.modPort p fun q => { q with snd := { q.snd with result := 3 } }))) ∧
  (∀ p f s, (s.port p).snd.cur = some f →
    ∃ t, exec (.soundingFrameSent p .cm) s = .next t ∧ (t.port p).snd.cur = none ∧
      (t.port p).snd.await = (if f.expects then (s.port p).snd.await ++ [f] else (s.port p).snd.await)) ∧
  (∀ p f s, (s.port p).snd.diffCur = some f → exec (.soundingFrameSent p .diff) s = .next (diffSent p f s)) ∧
  (∀ p i s, (s.port p).snd.train = some i →
    exec (.soundingFrameSent p .chirp) s = .next (s.modPort p fun q =>
      Port.nextBurst (sampleKhz (s.group p).freq) (q.mapLanes fun n l => if n.val = i then l.endChirps false false else l)
        (Port.probeMask (q.mapLanes fun n l => if n.val = i then l.endChirps false false else l)) (i + 1)))

/-- Chapter 5, negotiation (R154, R157 to R164, R182): where TURN_REPLY, CALL_RECEIVE, RETURN_RECEIVE, PROBE_RECEIVE, OFFER_RECEIVE,
ACCEPT_RECEIVE, REFUSE_RECEIVE, GO_RECEIVE, PARLEY_RESEND, PARLEY_TIMEOUT and NEG_RETRY_EXPIRE complete, and with what. -/
def Obligations.NegotiationCommandsComplete : Prop :=
  (∀ p f sf b s, (s.port p).snd.diffDue = some (f, sf, b) → f.typ = 0x06 → (s.group p).relocking = false →
    (s.port p).snd.diffCur = none → (s.port p).snd.train = none → (b = true ∨ (s.port p).snd.diff.rx = .none) →
    ∃ t, exec (.turnReply p) s = .next t ∧ (t.port p).snd.diffLast = some f ∧ (t.port p).snd.diffCur = some f ∧
      (t.port p).snd.diffDue = none ∧
      (t.port p).lanes = ((s.port p).diffStart (sampleKhz (s.group p).freq) sf f).lanes) ∧
  (∀ p c sf snr s, callOk p c s = true → (s.port p).hears sf = true → (s.port p).link.state = .sound →
    (s.port p).snd.partner = none →
    exec (.callReceive p c sf snr) s = .next (answerCall p c sf (s.port p).snd.diff.pair snr s)) ∧
  (∀ p c pairTx sf s, (s.port p).link.state = .sound → callOk p c s = true →
    exec (.returnReceive p c (s.port p).snd.rand Config.uid.toNat p.val pairTx sf) s =
      .next ((enterParley p c sf pairTx (s.modPort p fun q => q.loadPartner c)).modPort p fun q =>
        if q.snd.leader then ({ q with snd := { q.snd with diffDue := none } } : Port).firstProbe
        else { q with snd := { q.snd with diffDue := none } })) ∧
  (∀ p session mask est measured rtt f s, (s.port p).sessionIs session = true → (s.port p).snd.goDone = false →
    (s.port p).snd.leader = true → (s.port p).snd.diffLast = some f → f.typ = 0x03 →
    exec (.probeReceive p session mask est measured rtt) s = .next (sendOffer p 1 (s.modPort p fun q =>
      { q with snd := { q.snd with estRx := measured, estTx := est, rtt0 := rtt } }))) ∧
  (∀ p session o s, (s.port p).sessionIs session = true → (s.port p).snd.goDone = false → (s.port p).snd.leader = false →
    (s.port p).snd.offer = none → o.mode ≠ 0 → s.canProvide p (rateFreq o.rate) = false →
    ∃ u : State, exec (.offerReceive p session o) s =
        .next (u.modPort p fun q => q.answerOffer 0x06 o.no (beBytes 1 (u.ratesByte p))) ∧
      (u.port p).snd.offer = some o ∧ (u.port p).link = (s.port p).link) ∧
  (∀ p session o f s, (s.port p).sessionIs session = true → (s.port p).snd.leader = true → (s.port p).snd.goDone = false →
    (s.port p).snd.offer = some o → (s.port p).snd.diffLast = some f → f.typ = 0x04 → (s.port p).snd.closing = none →
    s.canProvide p (rateFreq o.rate) = true →
    exec (.acceptReceive p session o.no) s = .next ((needFreq p (rateFreq o.rate) s).modPort p fun q =>
      q.due 0x07 (beBytes 2 q.snd.session))) ∧
  (∀ p session o rates s, (s.port p).sessionIs session = true → (s.port p).snd.leader = true → (s.port p).snd.goDone = false →
    (s.port p).snd.offer = some o → (s.port p).snd.closing = none →
    exec (.refuseReceive p session o.no rates) s = .next (sendOffer p (o.no + 1) (s.modPort p fun q =>
      { q with snd := { q.snd with partner := q.snd.partner.map fun c => { c with rates := rates } } }))) ∧
  (∀ p session o f s, (s.port p).sessionIs session = true → (s.port p).snd.leader = false → (s.port p).snd.goDone = false →
    (s.port p).snd.offer = some o → (s.port p).snd.diffLast = some f → f.typ = 0x05 → o.mode ≠ 0 →
    exec (.goReceive p session) s = .next (applyGo p s)) ∧
  (∀ p f s, (s.port p).snd.diffLast = some f → f.typ = 0x04 → (s.port p).inParley = true → (s.port p).snd.leader = true →
    (s.port p).snd.goDone = false → (s.port p).snd.diffDue = none → (s.port p).snd.diffResends < 3 →
    (s.group p).relocking = false →
    ∃ t, exec (.parleyResend p) s = .next t ∧ (t.port p).snd.diffResends = (s.port p).snd.diffResends + 1 ∧
      (t.port p).snd.diffDue = some (f, (s.port p).snd.sessionSf, false)) ∧
  (∀ p s, (s.port p).inParley = true → (s.port p).snd.goDone = false → (s.port p).link.downDue = none →
    (s.group p).relocking = false → exec (.parleyTimeout p false) s = .next (failParley p 4 s)) ∧
  (∀ p code s, (s.port p).inParley = true → (s.port p).snd.goDone = false → (s.port p).link.downDue = none →
    (s.group p).relocking = false → (s.port p).snd.leader = true → 3 ≤ (s.port p).snd.diffResends →
    (s.port p).snd.closing = some code → exec (.parleyTimeout p true) s = .next (failParley p code s)) ∧
  (∀ p s, (s.port p).link.retryHold = true → (s.group p).relocking = false →
    exec (.negRetryExpire p none) s =
      .next (startLink p (s.modPort p fun q => { q with link := { q.link with retryHold := false } })))

/-- Chapter 5, training and the entry into DOWN (R166 to R169, R264): where TRAIN_START, TRAIN_STAT_SEND, TRAIN_STAT_RECEIVE,
TRAIN_STEP_SWITCH, TRAIN_STEP_TIMEOUT, TRAIN_PARTNER_TIMEOUT, TRAIN_TIMEOUT and PORT_DOWN_ENTER complete, and with what. -/
def Obligations.TrainingCommandsComplete : Prop :=
  (∀ p s, (s.port p).inParley = true → (s.port p).snd.goDone = true → (s.port p).link.downDue = none →
    (s.group p).relocking = false → s.provides p (rateFreq (s.port p).modeRate.2) = true → (s.port p).rangesWait = false →
    ∃ u, exec (.trainStart p) s = .next (setLink p .train u) ∧
      (u.port p).snd.cmCtrl = (s.port p).act .sndCmCtrl ∧ (u.port p).snd.tsDue = false ∧ (u.port p).snd.queue = []) ∧
  (∀ p req s, (s.port p).link.state = .train → (s.port p).snd.path = .native →
    exec (.trainStatSend p req) s = .next (queueTs p (s.modPort p fun q =>
      { q with snd := { q.snd with tapReq := (List.range 8).map fun i => (req.getD i 0).setWidth 32 } }))) ∧
  (∀ p step seq conv cdr req ack set s, (s.port p).snd.path = .native → (s.port p).link.state = .align →
    (s.port p).snd.leader = true → (s.port p).snd.step < step →
    ∃ t, exec (.trainStatReceive p (s.port p).snd.session step seq conv cdr req ack set) s = .next t ∧
      (t.port p).snd.partnerStep = step ∧ (t.port p).snd.tsAck = seq ∧ (t.port p).snd.step = (s.port p).snd.step ∧
      (t.port p).lanes = (s.port p).lanes) ∧
  (∀ p k s, (s.port p).snd.switchTo = some k → (s.port p).link.state = .train → k < 4 →
    exec (.trainStepSwitch p) s = .next (s.modPort p fun q => q.trainStep k)) ∧
  (∀ p s, (s.port p).snd.switchTo = some 4 → (s.port p).link.state = .train →
    exec (.trainStepSwitch p) s = .next (toAlign p s)) ∧
  (∀ p s, (s.port p).link.state = .train → (s.port p).snd.path = .native → (s.port p).snd.leader = true →
    (s.port p).snd.switchTo = none → (s.port p).minLanes ≤ popcount8 (s.port p).stepMet →
    exec (.trainStepTimeout p) s = .next (queueTs p (s.modPort p fun q => q.adoptSet (s.port p).stepMet))) ∧
  (∀ p s, (s.port p).link.state = .train → (s.port p).snd.path = .native →
    exec (.trainPartnerTimeout p) s = .next (failTrain p 0xA s) ∧ exec (.trainTimeout p) s = .next (failTrain p 9 s)) ∧
  (∀ p c s, (s.port p).link.downDue = some c → (s.port p).diag.running = none → c ≠ 2 →
    exec (.portDownEnter p) s = .next (startLink p ((setWaiting p false (enterDown p c s)).modPort p fun q =>
      { q with link := { q.link with restart := false, retryHold := q.link.retryHold && !(s.port p).link.restart } })))

/-- Chapter 6, IEEE modes (R155, R156, R176 to R182, R187 to R189): where CLAUSE73_PAGE_RECEIVE, CLAUSE73_RESOLVE, AN_ATTEMPT_TIMEOUT,
IEEE_TRAIN_DONE, IEEE_TRAIN_TIMEOUT, IEEE_SUBPORT_FAIL, IEEE_CODEWORD_RECEIVE, MDIO_PAGE_WRITE, MDIO_PMA_RESET, MDIO_AN_RESTART and
MDIO_ADV_MASK_WRITE complete, and with what. -/
def Obligations.IeeeCommandsComplete : Prop :=
  (∀ p i page able s, (s.port p).link.state ≠ .sound → (s.port p).subRuns i .parley = true → (s.group p).relocking = false →
    ∃ t, exec (.clause73PageReceive p i page able) s = .next t ∧ (t.port p).ieee[i.val].page = some page ∧
      (t.port p).ieee[i.val].able = able.toNat ∧
      (t.port p).ieee[i.val].state = (s.port p).ieee[i.val].state ∧ (t.port p).link = (s.port p).link) ∧
  (∀ p i phy page s, (s.port p).subRuns i .parley = true → (s.port p).ieee[i.val].page = some page → phy ≠ 0 →
    phy = phyResolved ((s.port p).advertised i &&& (s.port p).ieee[i.val].able) →
    exec (.clause73Resolve p i) s =
      .next (if (needFreq p .f53125 (modSub p i (fun b => { b with phy := phy }) s)).provides p .f53125
        then subTrain p i (needFreq p .f53125 (modSub p i (fun b => { b with phy := phy }) s))
        else modSub p i (fun b => { b with waitGroup := true }) (needFreq p .f53125 (modSub p i (fun b => { b with phy := phy }) s)))) ∧
  (∀ p i s, (s.port p).subRuns i .parley = true → (s.port p).ieee[i.val].page = none → (s.port p).soundsFirst = false →
    (s.port p).ieee[i.val].waitGroup = false → (s.group p).relocking = false →
    exec (.anAttemptTimeout p i) s =
      .next (waitingDone p (modSub p i IeeeSub.startAn (modSub p i (fun b => { b with lastDown := 6 }) s)))) ∧
  (∀ p i asks wants reqs s, (s.port p).subRuns i .train = true →
    ∃ u, exec (.ieeeTrainDone p i asks wants reqs) s = .next (setLink p (u.port p).subState u) ∧
      (u.port p).ieee[i.val].state = .up ∧ (u.port p).ieee[i.val].precodeTx = asks ∧
      (u.port p).ieee[i.val].precodeRx = (wants && bitOf ((s.port p).act .ieeeCfg) 4)) ∧
  (∀ p i s, (s.port p).subRuns i .train = true → exec (.ieeeTrainTimeout p i) s = .next (subDown p i 1 true s)) ∧
  (∀ p i why s, (s.port p).subRuns i .up = true →
    exec (.ieeeSubportFail p i why) s = .next (subDown p i why.code true s)) ∧
  (∀ p i order blocks errs drift s r, (s.port p).subRuns i .up = true → amOk (phyLanes (s.port p).ieee[i.val].phy) order = true →
    0 < errs → errs ≤ 15 →
    r = rateComp (s.port p).ieee[i.val].comp (s.port p).ieee[i.val].drop drift (codewordBlocks true blocks) → r.2 = false →
    ∃ t, exec (.ieeeCodewordReceive p i false order blocks errs drift) s = .next t ∧
      (t.port p).ieee[i.val].toHost = r.1.out ∧ (t.port p).ieee[i.val].comp = r.1.depth ∧
      (t.port p).ieee[i.val].pcsOrder = order ∧
      (t.port p).ieee[i.val].corrCw = wrapAdd 48 (s.port p).ieee[i.val].corrCw 1 ∧
      (t.port p).ieee[i.val].uncCw = wrapAdd 48 (s.port p).ieee[i.val].uncCw 0 ∧
      (t.port p).ieee[i.val].sym = wrapAdd 48 (s.port p).ieee[i.val].sym errs ∧ t.flt = s.flt) ∧
  (∀ ad v s, s.boot.configDone = true → ad.toNat = s.boot.prtad →
    exec (.mdioPageWrite ad v) s = .next { s with reg := { s.reg with mdioPage := v &&& 0xFE07 } }) ∧
  (∀ ad p i s, s.boot.configDone = true → ad.toNat = s.boot.prtad → s.mdioSub = some (p, i) →
    ((s.port p).ieee[i.val].state = .down → exec (.mdioPmaReset ad) s = .next (subRestart p i s)) ∧
    ((s.port p).ieee[i.val].state ≠ .down → ((subDown p i 5 false s).port p).subState ≠ .down →
      exec (.mdioPmaReset ad) s = .next (subRestart p i (subDown p i 5 false s)))) ∧
  (∀ ad p i s, s.boot.configDone = true → ad.toNat = s.boot.prtad → s.mdioSub = some (p, i) → (s.port p).ieeeMode = true →
    (s.port p).ieee[i.val].state = .up →
    ∃ u, exec (.mdioAnRestart ad) s = .next (setLink p (u.port p).subState u) ∧
      u = waitingDone p (modSub p i IeeeSub.startAn (s.modPort p fun q => q.subIdle i))) ∧
  (∀ ad p i covers sets s, s.boot.configDone = true → ad.toNat = s.boot.prtad → s.mdioSub = some (p, i) →
    ∃ t, exec (.mdioAdvMaskWrite ad covers sets) s = .next t ∧
      (t.port p).ieee[i.val].advNext =
        ((s.port p).ieee[i.val].advNext &&& (0xFF ^^^ covers.toNat)) ||| (sets.toNat &&& covers.toNat) ∧
      (t.port p).ieee[i.val].advMask = (s.port p).ieee[i.val].advMask)

/-- Chapter 8, the spill-store and class commands (R214 to R228): where SPILL_INIT, SPILL_MEASURE, CLASS_SET, PORT_CLASS, SHELF_SET and
LINK_UNFENCE complete, and with what. -/
def Obligations.SpillCommandsComplete : Prop :=
  (∀ via ideReq capture sh1 sh2 sh3 links w r pods s, Serves via 0x0401 s → sizesOk capture sh1 sh2 sh3 = true →
    anyParcel s = false → captureRuns s = false → s.test.unrep = [] → s.test.bist = none →
    layoutFits ((mapCaps 2048 (links.map fun t => if t.usable ideReq then t else { t with capGib := 0 })).take 8).sum
      s.boot.ledgerGib capture sh1 sh2 sh3 = true →
    ∃ u, exec (.spillInit via ideReq capture sh1 sh2 sh3 links w r pods) s =
        .next (reply via 0x0401 (if u.store.reduced then 0x08 else 0x00) []
          (reHoldAll (classRecord 0x0401 (beBytes 1 (b2n ideReq) ++ beBytes 2 capture ++ beBytes 2 sh1 ++ beBytes 2 sh2
            ++ beBytes 2 sh3) (if u.store.reduced then reduceEffs u else u)))) ∧
      u.store.state = 2 ∧ u.store.cfgD = Nat.min w r - 10 ∧ u.store.nowD = Nat.min w r - 10 ∧
      u.store.gen = (s.store.gen + 1) % 65536 ∧ u.store.captureGib = capture ∧ u.store.shelf = #v[sh1, sh2, sh3] ∧
      u.store.podBw = podBwOf s pods ∧ u.ledger.reserveOk = true ∧ u.ports = s.ports) ∧
  (∀ via d w r pods s, Serves via 0x0402 s → s.store.state = 2 → anyParcel s = false →
    admitted { s with store := { s.store with cfgD := Nat.min w r - 10, podBw := podBwOf s pods } } = true →
    ∃ u, exec (.spillMeasure via d w r pods) s = .next (reply via 0x0402 0x00 [] (recomputeNowD u)) ∧
      u.store.cfgD = Nat.min w r - 10 ∧ u.store.podBw = podBwOf s pods ∧ u.store.cls = s.store.cls ∧
      (∀ m : CxlId, u.store.mx[m.val].dM = if s.store.mx[m.val].takes then d.getD m.val 0 else s.store.mx[m.val].dM) ∧
      u.ports = s.ports ∧ u.fw = s.fw) ∧
  (∀ via d w r pods s, Serves via 0x0402 s → s.store.state = 2 → anyParcel s = false →
    admitted { s with store := { s.store with cfgD := Nat.min w r - 10, podBw := podBwOf s pods } } = false →
    exec (.spillMeasure via d w r pods) s = .next (reply via 0x0402 0x0B [] s)) ∧
  (∀ via cls min floor weight ceil portCap s, Serves via 0x0403 s → 1 ≤ cls → cls ≤ 3 →
    classParOk min floor weight ceil portCap = true →
    admitted { s with store := { s.store with cls := updNat s.store.cls (cls - 1) fun _ =>
      { min := min, floor := floor, weight := weight, ceil := ceil, portCap := portCap, minEff := min } } } = true →
    ∃ u, exec (.classSet via cls min floor weight ceil portCap) s = .next (reply via 0x0403 0x00 [] (reHoldAll
        (classRecord 0x0403 (beBytes 1 cls ++ beBytes 2 min ++ beBytes 2 floor ++ beBytes 1 weight ++ beBytes 2 ceil
          ++ beBytes 2 portCap) u))) ∧
      u.store.nowD = s.store.nowD ∧ u.store.cfgD = s.store.cfgD ∧
      (∃ e, u.store.par cls =
        { min := min, floor := floor, weight := weight, ceil := ceil, portCap := portCap, minEff := e }) ∧
      (∀ d, 1 ≤ d → d ≤ 3 → d ≠ cls → ∃ e, u.store.par d = { s.store.par d with minEff := e })) ∧
  (∀ via cls min floor weight ceil portCap s, Serves via 0x0403 s → 1 ≤ cls → cls ≤ 3 →
    classParOk min floor weight ceil portCap = true →
    admitted { s with store := { s.store with cls := updNat s.store.cls (cls - 1) fun _ =>
      { min := min, floor := floor, weight := weight, ceil := ceil, portCap := portCap, minEff := min } } } = false →
    exec (.classSet via cls min floor weight ceil portCap) s = .next (reply via 0x0403 0x0B [] s)) ∧
  (∀ via mask s, Serves via 0x0404 s → s.part.hasStore = false → ((maskPorts mask).any fun p => !s.part.hasPort p) = false →
    exec (.portClass via mask 0) s = .next (reply via 0x0404 0x00 [] s)) ∧
  (∀ via p s, Serves via 0x0404 s → s.part.hasStore = true → s.part.hasPort p = true → maskPorts (1 <<< p.val) = [p] →
    (s.port p).spill.h2l.inStore = false → (s.port p).spill.l2h.inStore = false →
    admitted (s.mapPorts fun q x => if [p].contains q then { x with cls := 2 } else x) = true →
    ∃ u, exec (.portClass via (1 <<< p.val) 2) s = .next (reply via 0x0404 0x00 [] (classRecord 0x0404
        (beBytes 12 (1 <<< p.val : BitVec 96).toNat ++ beBytes 1 2) (guarRise p (reHold p u)))) ∧ (u.port p).cls = 2) ∧
  (∀ via capture sh1 sh2 sh3 s, Serves via 0x0405 s → sizesOk capture sh1 sh2 sh3 = true →
    layoutFits (s.store.mx.toList.map CxlLink.capGib).sum s.store.ledgerGib capture sh1 sh2 sh3 = true →
    anyParcel s = false → captureRuns s = false →
    ∃ u, exec (.shelfSet via capture sh1 sh2 sh3) s = .next (reply via 0x0405 0x00 [] (reHoldAll (classRecord 0x0405
        (beBytes 2 capture ++ beBytes 2 sh1 ++ beBytes 2 sh2 ++ beBytes 2 sh3) u))) ∧
      u = { s with store := { s.store with captureGib := capture, shelf := #v[sh1, sh2, sh3], commonGib :=
        (s.store.mx.toList.map CxlLink.capGib).sum - (s.store.ledgerGib + 1 + capture + sh1 + sh2 + sh3) } }) ∧
  (∀ via m s, Serves via 0x0406 s → s.store.mx[m.val].state = 2 →
    ∃ u, exec (.linkUnfence via m) s = .next (reply via 0x0406 0x00 [] (reHoldAll u)) ∧
      u.store.mx[m.val] = { s.store.mx[m.val] with fenced := false } ∧
      (∀ n : CxlId, n ≠ m → u.store.mx[n.val] = s.store.mx[n.val]) ∧ u.store.nowD = u.store.deliverable) ∧
  (∀ via m s, Serves via 0x0406 s → s.store.mx[m.val].state ≠ 2 →
    exec (.linkUnfence via m) s = .next (reply via 0x0406 0x07 [] s))

/-- Chapter 8, the events of the CXL links and of the parcels (R216, R218, R219, R228, R229, R236): where CXL_LINK_DROP,
CXL_LINK_DOWNTRAIN, CXL_LINK_FENCE, CXL_LINK_RETURN, CXL_RETRAIN_DONE, MIN_EFF_RESTORE, PARCEL_CLOSE, PARCEL_WRITE_GRANT,
PARCEL_READ_DONE and GUAR_WINDOW_END complete, and with what. -/
def Obligations.SpillEventsComplete : Prop :=
  (∀ m s, s.store.mx[m.val].state = 2 → exec (.cxlLinkDrop m) s = .next (cxlDrop m s) ∧
    (cxlDrop m s).store.mx[m.val].state = 3 ∧ (cxlDrop m s).store.mx[m.val].ide = false) ∧
  (∀ m s, s.store.mx[m.val].state ≠ 2 → exec (.cxlLinkDrop m) s = .next s) ∧
  (∀ m width rate s, s.store.mx[m.val].state = 2 → width ≤ 2 → rate ≤ 1 →
    exec (.cxlLinkDowntrain m width rate) s = .next (recomputeNowD (raise .cxlLink .dev (m.val + 0x10)
      (modMx m (fun l => { l with width := width, rate := rate }) s)))) ∧
  (∀ m s, s.store.mx[m.val].state = 2 → s.store.mx[m.val].fenced = false →
    exec (.cxlLinkFence m) s = .next (reHoldAll (recomputeNowD (raise .cxlLink .dev (m.val + 0x20)
      (loseSegments m (modMx m (fun l => { l with fenced := true }) s)))))) ∧
  (∀ m s, s.store.mx[m.val].state = 2 → s.store.mx[m.val].qual = true →
    exec (.cxlLinkReturn m) s = .next (reHoldAll (recomputeNowD (modMx m
      (fun l => if l.qual then { l with qual := false } else { l with width := 0, rate := 0 }) s)))) ∧
  (∀ m width rate s, s.store.mx[m.val].state = 3 → s.store.mx[m.val].excluded = false → width ≤ 2 → rate ≤ 1 →
    ∃ t, exec (.cxlRetrainDone m width rate) s = .next t ∧ t.store.mx[m.val].state = 2 ∧ t.store.mx[m.val].qual = true ∧
      t.store.mx[m.val].width = width ∧ t.store.mx[m.val].rate = rate ∧
      t.store.mx[m.val].ide = s.store.mx[m.val].hasIde ∧ t.ports = s.ports) ∧
  (∀ s, exec .minEffRestore s = .next { s with store := s.store.setEffs (minEffs s.store s.store.nowD) }) ∧
  (∀ p l2h s, exec (.parcelClose p l2h) s = .next (reHold p (s.modPort p fun q => q.modQ l2h SpillQ.close))) ∧
  (∀ p l2h s, (grantInterval s).store.state = 2 → grantAllowed (grantInterval s) true p = true →
    (((grantInterval s).port p).spill.q l2h).readable ((grantInterval s).port p).headRoom = true →
    exec (.parcelWriteGrant p l2h true) s = .next (countGrant true p ((grantInterval s).modPort p fun q =>
      q.modQ l2h fun x => { x with reading := x.reading + 1 }))) ∧
  (∀ p l2h m r v s, (grantInterval s).store.state = 2 → grantAllowed (grantInterval s) false p = true →
    (((grantInterval s).port p).spill.q l2h).wantsWrite = true → placeNext (grantInterval s) p = some (m, r, v) →
    ∃ u, exec (.parcelWriteGrant p l2h false) s = .next (reHold p u) ∧ u.store.rot = v ∧
      (u.port p).spill.q l2h = (((grantInterval s).port p).spill.q l2h).writeFirst m r (grantInterval s).store.gen
        (freeStoreSlot (grantInterval s) m.val r)) ∧
  (∀ p l2h slot i c lk rg g k h blocks s, ((s.port p).spill.q l2h).first = some i →
    ((s.port p).spill.q l2h).parcels[i]? = some c → c.place = .stored lk rg g k → ((s.port p).spill.q l2h).reading ≠ 0 →
    readSlot slot = some (h, blocks, false) → h.expected p l2h g c.pseq = true →
    exec (.parcelReadDone p l2h (some slot)) s = .next (reHoldAll (s.modPort p fun q =>
      (q.modQ l2h fun x => x.back q.headRoom i blocks).pull l2h))) ∧
  (∀ p l2h i c lk rg g k s, ((s.port p).spill.q l2h).first = some i →
    ((s.port p).spill.q l2h).parcels[i]? = some c → c.place = .stored lk rg g k → ((s.port p).spill.q l2h).reading ≠ 0 →
    exec (.parcelReadDone p l2h none) s = .next (parcelLoss p l2h i s)) ∧
  (∀ p s, (s.port p).snd.path = .native → (s.port p).guarWindow = 0 → (s.port p).spill.winFail = 0 →
    ∃ t, exec (.guarWindowEnd p) s = .next t ∧ (t.port p).link.winUnc = Nat.min 0xFFFF (s.port p).code.winUnc ∧
      (t.port p).code.winDecoded = 0 ∧ (t.port p).code.winCorr = 0 ∧ (t.port p).code.winUnc = 0 ∧
      (t.port p).code.winRecv = 0 ∧ (t.port p).spill.winViol = false)

/-- Chapter 9, the host interface and the fast status bus (R239 to R259): where HOST_MARKER_RECEIVE, HOST_FRAME_START, HOST_LANE_FAIL,
HOST_REQ_TX_MOVE, HOST_CODEWORD_RECEIVE, FSI_CTRL_WRITE, FSI_CLK_LOSS, FSI_CLK_RESTORE, FSI_EVENT_EXPIRE, FSI_CLK_EDGE and FSI_SEL_CHANGE
complete, and with what. -/
def Obligations.HostCommandsComplete : Prop :=
  (∀ p h s, (s.port p).host.tx = .framing → (s.port p).host.rxLock.testBit h.val = false →
    ∃ t, exec (.hostMarkerReceive p h none) s = .next t ∧ (t.port p).host = (s.port p).host.markLock h.val none ∧
      (t.port p).link = (s.port p).link) ∧
  (∀ p h d k s, (s.port p).host.tx = .framing → readMarker h.val d = some k → (s.port p).host.rxLock.testBit h.val = false →
    (((s.port p).host.markLock h.val (some k)).markTake k).txFail &&&
      (0xFFF ^^^ ((s.port p).host.markLock h.val (some k)).txFail) = 0 →
    ∃ t, exec (.hostMarkerReceive p h (some d)) s = .next t ∧
      (t.port p).host = ((s.port p).host.markLock h.val (some k)).markTake k ∧ (t.port p).link = (s.port p).link) ∧
  (∀ p h s, (s.port p).host.tx = .framing → (s.port p).host.rxLock.testBit h.val = true →
    ((s.port p).host.markLock h.val none).rxLock.testBit h.val = false →
    exec (.hostMarkerReceive p h none) s = .next (failHostLane p h
      (s.modPort p fun q => { q with host := q.host.markLock h.val none }))) ∧
  (∀ p s, (s.port p).host.tx = .framing →
    ∃ u, exec (.hostFrameStart p true) s = .next (capacityAdds p (judgeWaiting p u)) ∧
      (u.port p).host.frame = wrapAdd 32 (s.port p).host.frame 1 ∧ (u.port p).host.txAnn = (s.port p).host.txNext ∧
      (u.port p).host.txNext = none ∧ (∀ m, (s.port p).host.txAnn = some m → (u.port p).host.txMap = mapOfList m)) ∧
  (∀ p m n s, (s.port p).host.tx = .framing → (s.port p).host.rxLock ≠ 0 → (s.port p).host.rxNext = some (m, n) → 2 ≤ n →
    ∃ t, exec (.hostFrameStart p false) s = .next t ∧ (t.port p).host.rxMap = mapOfList m ∧ (t.port p).host.rxNext = none ∧
      (t.port p).host.rxFrame = wrapAdd 32 (s.port p).host.rxFrame 1) ∧
  (∀ p h s, (s.port p).host.tx = .framing → carries (s.port p).host.rxMap h.val = true →
    (s.port p).host.rxFail.testBit h.val = false →
    ∃ u, exec (.hostLaneFail p h .cdr) s = .next (raise .hostLaneFail (.port p) h.val u) ∧
      (u.port p).host.rxFail = (s.port p).host.rxFail ||| 2 ^ h.val ∧
      (u.port p).host.rxFails = satAdd 8 (s.port p).host.rxFails 1) ∧
  (∀ who p v s, WriteReaches who s (portBase p + 0x4010) → exec (.hostReqTxMove who p v) s = .next (writeHostReq who p v s)) ∧
  (∀ p h period units late s, (s.port p).host.tx = .framing → carries (s.port p).host.rxMap h.val = true → period ≠ 16 * h.val →
    (s.port p).host.rxFail.testBit h.val = false → (s.port p).host.rxLock.testBit h.val = true →
    ∃ u, exec (.hostCodewordReceive p h period none units late) s =
        .next (reHold p ((if 4 ≤ (((raise .hostFecUnc (.port p) h.val u).port p).host.uncAt[h.val]).length
          then failHostLane p h (raise .hostFecUnc (.port p) h.val u)
          else raise .hostFecUnc (.port p) h.val u).modPort p fun q => q.hostBlock Block.errored)) ∧
      (u.port p).host.uncCw = wrapAdd 48 (s.port p).host.uncCw 1 ∧
      (u.port p).code.hostBad = satAdd 16 (s.port p).code.hostBad 1) ∧
  (∀ p h period units late s, (s.port p).host.tx = .framing → carries (s.port p).host.rxMap h.val = true → period ≠ 16 * h.val →
    (s.port p).host.rxFail.testBit h.val = false → (s.port p).host.rxLock.testBit h.val = true → (s.port p).cls = 0 →
    ∃ u blocks, exec (.hostCodewordReceive p h period (some 0) units late) s =
        .next (blocks.foldl (fun s b => hostArrive p late b.1 s) u) ∧
      blocks = (List.zipWith (fun a b => unitBlock (a ^^^ b)) units
        (hostKs 20 (ksRun 64 (ksSeed (hostKey h.val (s.port p).host.rxFrame period))))).filterMap id ∧
      (u.port p).host.corrCw = wrapAdd 48 (s.port p).host.corrCw 0) ∧
  (∀ who v s, WriteReaches who s 0x400 → exec (.fsiCtrlWrite who v) s = .next (writeFsiCtrl v s)) ∧
  (∀ s, s.fsi.clkOk = true →
    exec .fsiClkLoss s = .next (raise .fsiClkLoss .dev 0 { s with fsi := { s.fsi with clkOk := false } })) ∧
  (∀ s, s.fsi.clkOk = false → exec .fsiClkRestore s = .next (endCond .fsiClkLoss .dev
    { s with fsi := { s.fsi with clkOk := true, holds := Vector.ofFn fun p => s.busHeld p } })) ∧
  (∀ p s, ∃ t, exec (.fsiEventExpire p) s = .next t ∧ (t.port p).host.event = false ∧ t.fsi = s.fsi ∧
    ∀ q, q ≠ p → t.port q = s.port q) ∧
  (∀ sel s, exec (.fsiClkEdge sel) s =
    .next (driveFsi (judgeEvents { s with fsi := { fsiAdvance s.fsi sel with holds := Vector.ofFn fun p => s.busHeld p } }))) ∧
  (∀ sel s, s.fsi.mode = 2 → exec (.fsiSelChange sel) s = .next (driveFsi { s with fsi := { s.fsi with sel := sel.toNat } }))

/-- Chapter 10, link control, QUIET and waking (R149, R151, R264, R269, R271 to R279): where LINK_REQ_WAKE, LINK_REQ_RESTART,
LINK_SNAP_REQUEST, LINK_SNAP_TAKE, QUIET_REQUEST, QUIET_REQ_RECEIVE, QUIET_ACK_RECEIVE, QUIET_DECLINE_RECEIVE, QUIET_ENTER,
REFRESH_WINDOW_START, REFRESH_WINDOW_END, WAKE_TRIGGER, WAKE_TX_DATA, WAKE_RESPOND, WAKE_BURST_TIMEOUT, WAKE_TIMEOUT, WAKE_BURST_DETECT
and SND_FRAME_RESEND complete, and with what. -/
def Obligations.LinkCommandsComplete : Prop :=
  (∀ who p v s, WriteReaches who s (portBase p + 0x80C) → exec (.linkReqWake who p v) s = .next (writeLinkReq who p v s) ∧
    exec (.linkReqRestart who p v) s = .next (writeLinkReq who p v s)) ∧
  (∀ who p v s, WriteReaches who s (portBase p + 0x818) → exec (.linkSnapRequest who p v) s = .next (writeLinkSnap who p v s)) ∧
  (∀ p n s, (s.port p).link.snapDone = false →
    ∃ t, exec (.linkSnapTake p) s = .next t ∧ (t.port p).link.snapDone = true ∧
      (t.lane p n).qual.snap = (s.lane p n).qual.word ∧ (t.port p).link.state = (s.port p).link.state) ∧
  (∀ p s, (s.port p).quietOk = true → (s.port p).farLoop = false → (s.port p).link.quietPend = false →
    (s.port p).link.quietReq = none →
    exec (.quietRequest p) s = .next (queueCm p 0x20 (linkMsg 1 ((s.port p).epochAfter 256)) (s.modPort p fun q =>
      { q with link := { q.link with quietReq := some ((s.port p).epochAfter 256) } }))) ∧
  (∀ p e s, (s.port p).noticesOk = true → (s.port p).link.quietReq = none → (s.port p).link.quietPend = false →
    (s.port p).quietOk = true → e < epochMod →
    exec (.quietReqReceive p e) s = .next (queueCm p 0x20 (linkMsg 2 e) (s.modPort p fun q => q.quietAt e))) ∧
  (∀ p e s, (s.port p).noticesOk = true → (s.port p).link.quietReq = some e →
    exec (.quietAckReceive p e) s = .next (s.modPort p fun q => q.quietAt e)) ∧
  (∀ p e s, (s.port p).noticesOk = true → (s.port p).link.quietReq = some e →
    ∃ t, exec (.quietDeclineReceive p e) s = .next t ∧ (t.port p).link.quietPend = false ∧
      (t.port p).link.quietReq = ((s.port p).quietAt e).link.quietReq) ∧
  (∀ p s, (s.port p).link.quietPend = true → (s.port p).link.state = .up →
    epochReached ((s.port p).nextSlot / 64) (s.port p).link.quietEpoch = true →
    ∃ u, exec (.quietEnter p) s = .next (reHold p (holdFall p (guarJudge p (setLink p .quiet u)))) ∧
      (u.port p).link.quietPend = false ∧ (u.port p).link.refreshK = 1 ∧ (u.port p).link.quietHold = true ∧
      (u.port p).link.quietQ = (s.port p).link.quietEpoch * 64 % slotMod) ∧
  (∀ p s, (s.port p).link.state = .quiet → (s.port p).link.inWindow = false →
    (s.port p).inWindowK (s.port p).link.refreshK (s.port p).nextSlot = true →
    ∃ u, exec (.refreshWindowStart p) s = .next (standingTriggers p u) ∧ (u.port p).link.inWindow = true ∧
      (u.port p).link.winSlot = 0) ∧
  (∀ p s, (s.port p).link.state = .quiet → (s.port p).link.inWindow = true → (s.port p).code.map = 0 →
    (s.port p).inWindowK (s.port p).link.refreshK (s.port p).nextSlot = false →
    ((s.modPort p fun q => { q with link := { q.link with refreshK := q.link.refreshK + 1 } }).port p).unsettled = false →
    ∃ t, exec (.refreshWindowEnd p) s = .next t ∧ (t.port p).link.inWindow = false ∧
      (t.port p).link.refreshK = (s.port p).link.refreshK + 1 ∧ (t.port p).link.winSlot = 0) ∧
  (∀ p s, exec (.wakeTrigger p .request) s = .next (wakeTrigger p s) ∧
    ((s.port p).cls ≠ 0 → exec (.wakeTrigger p .hostBlock) s = .next (wakeTrigger p s)) ∧
    ((s.port p).cls = 0 → exec (.wakeTrigger p .hostBlock) s = .next s)) ∧
  (∀ p s, (s.port p).link.state = .wake → (s.port p).link.wakeRole = .initiator → (s.port p).link.wakeData = false →
    exec (.wakeTxData p) s = .next (wakeComplete p (s.modPort p fun q =>
      ({ q.txMap true with link := { q.link with wakeData := true } } : Port).burstAnswered))) ∧
  (∀ p s, (s.port p).link.state = .wake → (s.port p).link.wakeRole = .responder → (s.port p).link.wakeData = false →
    exec (.wakeRespond p) s = .next (wakeComplete p (s.modPort p fun q =>
      { (q.txMap true).rxTrack with link := { q.link with wakeData := true } }))) ∧
  (∀ p s, (s.port p).link.burst = true → (s.port p).link.wakeHeads < 2 → (s.port p).link.bursts < 2 →
    ∃ t, exec (.wakeBurstTimeout p) s = .next t ∧ (t.port p).link.bursts = (s.port p).link.bursts + 1 ∧
      (t.port p).link.burst = true) ∧
  (∀ p s, (s.port p).link.state = .wake → exec (.wakeTimeout p) s = .next (downDue p 7 (s.modPort p fun q =>
    { q with link := { q.link with wakeFail := satAdd 8 q.link.wakeFail 1 } }))) ∧
  (∀ p s, (s.port p).link.state = .quiet → (s.port p).cls ≠ 0 → ((setLink p .wake s).port p).cls ≠ 0 →
    ∃ u, exec (.wakeBurstDetect p) s = .next (reHold p u) ∧ (u.port p).link.wakeRole = .responder ∧
      (u.port p).link.wakeData = false ∧ (u.port p).link.inWindow = false) ∧
  (∀ p k f s, (s.port p).snd.await[k]? = some f → f.resends < 4 →
    ∃ t, exec (.sndFrameResend p k) s = .next t ∧
      (t.port p).snd.queue = (s.port p).snd.queue ++ [{ f with resends := f.resends + 1 }] ∧
      (t.port p).snd.await = (s.port p).snd.await.eraseIdx k)

/-- Chapter 11, calibration (R285 to R305): where CAL_RUN, CAL_RUN_DONE, DAC_MEASURE_DONE, CTLE_STEP_APPLY, CTLE_CHECK_TIMEOUT,
CTLE_FREEZE_END, CAL_STORE, CAL_EXPORT, CAL_IMPORT, CAL_COEF_READ, CAL_LIMITS_READ and FLASH_OPERATION_DONE complete, and with what. -/
def Obligations.CalibrationCommandsComplete : Prop :=
  (∀ via stk s, Serves via 0x0201 s → stk ≠ 0 → s.cal.run = none →
    ∃ t, exec (.calRun via 0 0 stk 0x0200) s = .next t ∧
      t.cal.run = some { origin := via, ports := [], laneMask := 0, stkMask := stk.toNat, items := 0x0200 } ∧
      t.ports = s.ports ∧ t.fw = s.fw) ∧
  (∀ r p n i x us s, s.cal.run = some r → r.names (.listen p n i x) = true → x.active s.boot.limits.quiet = true →
    exec (.calRunDone [.listen p n i x] us) s = .next (reply r.origin 0x0201 0x0A []
      (({ s with cal := { s.cal with run := none } } : State).modLane p n fun l => l.calResult i 4))) ∧
  (∀ r us s, s.cal.run = some r → skippedStk r { s with cal := { s.cal with run := none } } = 0 →
    exec (.calRunDone [] us) s = .next (reply r.origin 0x0201 0x00
      (beBytes 2 0 ++ beBytes 2 0 ++ beBytes 2 0 ++ beBytes 2 0 ++ beBytes 4 us) { s with cal := { s.cal with run := none } })) ∧
  (∀ r p n v us s, s.cal.run = some r → r.names (.ctleTrim p n v) = true → v.natAbs ≤ s.boot.limits.ctleTrim →
    skippedStk r { s with cal := { s.cal with run := none } } = 0 →
    ∃ u, exec (.calRunDone [.ctleTrim p n v] us) s = .next (reply r.origin 0x0201 0x00
        (beBytes 2 1 ++ beBytes 2 0 ++ beBytes 2 0 ++ beBytes 2 0 ++ beBytes 4 us) u) ∧ u.cal.run = none ∧
      (u.lane p n).cal.ctleTrim = v ∧ (u.lane p n).cal.trimMeas = true ∧ (u.lane p n).cal.lastItem = 6 ∧
      (u.lane p n).cal.lastResult = 1) ∧
  (∀ p n e w s, (s.lane p n).tx.state = .data → (s.port p).link.state ≠ .quiet →
    bitOf ((s.lane p n).act .calLaneCtrl) 0 = true → 16 ≤ (s.lane p n).cal.dacFolios → (s.lane p n).tx.cellNext = none →
    (s.lane p n).cal.dacNext = none →
    dacJudge s.boot.limits s.boot.limits.dacHyst ((s.lane p n).tx.retireA, (s.lane p n).tx.retireB) e = .kept w →
    ∃ t, exec (.dacMeasureDone p n e) s = .next t ∧ (t.lane p n).cal.dacErr = e ∧ (t.lane p n).cal.dacWorst = w ∧
      (t.lane p n).tx = (s.lane p n).tx) ∧
  (∀ p n d k s, (s.lane p n).cal.ctleDue = some (d, k) → (s.lane p n).rx.phase = .track → liveAllowed s p n = true →
    swapDue (s.lane p n) = false →
    ∃ t, exec (.ctleStepApply p n) s = .next t ∧ (t.lane p n).rx.peak = stepPeak (s.lane p n).rx.peak d ∧
      (t.lane p n).rx.held = true ∧ (t.lane p n).rx.revDue = false ∧ (t.lane p n).cal.ctleDue = none ∧
      (t.lane p n).cal.cntCtle = satAdd 8 (s.lane p n).cal.cntCtle 1) ∧
  (∀ p n k d s, (s.lane p n).cal.ctleCheck = some (k, d) → (s.lane p n).cal.ctleDue = none → (s.lane p n).rx.phase = .track →
    exec (.ctleCheckTimeout p n) s = .next (s.modLane p n fun l => l.ctleRevert d)) ∧
  (∀ p n s, ∃ t, exec (.ctleFreezeEnd p n) s = .next t ∧ (t.lane p n).cal.ctleFrozen = false ∧
    (t.lane p n).rx = (s.lane p n).rx ∧ (t.lane p n).tx = (s.lane p n).tx) ∧
  (∀ via s, Serves via 0x0202 s → s.boot.job = none →
    exec (.calStore via) s = .next (startStore .calStore via 0x0202 (calSnapshot s) s)) ∧
  (∀ via chunk c s, Serves via 0x0203 s → chunk ≤ 127 → s.cal.inForce ≠ 0 → (s.cal.sector s.cal.inForce).set = some c →
    s.storeBusy = false →
    exec (.calExport via chunk) s = .next (reply via 0x0203 0x00 ((c.bytes.drop (chunk * 2048)).take 2048) s)) ∧
  (∀ via chunk data s, Serves via 0x0204 s → chunk ≤ 127 → data.length = 2048 → s.boot.job = none →
    exec (.calImport via chunk data false) s = .next (reply via 0x0204 0x00 []
      { s with cal := { s.cal with staged := stageChunk s.cal.staged chunk data } })) ∧
  (∀ via (q : StackPortId) n first count s, Serves via 0x0205 s → first + count ≤ (s.stk q).deskew.length → count ≤ 1024 →
    exec (.calCoefRead via q.val n 0xA first count false) s = .next (reply via 0x0205 0x00
      (beBytes 2 0 ++ (((s.stk q).deskew.drop first).take count).flatMap fun v => beBytes 2 (unsigned 16 v)) s)) ∧
  (∀ via s, Serves via 0x0206 s → exec (.calLimitsRead via) s = .next (reply via 0x0206 0x00 s.boot.limits.bytes s)) ∧
  (∀ j s, s.boot.job = some j → j.op = .imgWrite →
    exec (.flashOperationDone true) s = .next (reply j.origin j.opcode 0x00 [] { s with boot := { s.boot with job := none } })) ∧
  (∀ j ok s, s.boot.job = some j → j.op = .calStore → exec (.flashOperationDone ok) s = .next (storeStep j ok s))

/-- Chapter 12, cable diagnostics (R308 to R318): where DIAG_TDR, DIAG_RL, DIAG_NEXT, DIAG_IL, DIAG_READ, DIAG_LIVE, DIAG_RUN_DONE,
IL_REQ_RECEIVE, IL_ACK_RECEIVE, IL_DECLINE_RECEIVE, IL_SCHEDULE_START, IL_DONE_RECEIVE and IL_DONE_TIMEOUT complete, and with
what. -/
def Obligations.DiagnosticCommandsComplete : Prop :=
  (∀ via p pairs vf th s, Serves via 0x0301 s → s.portOpen p = true → diagAdmits p false s = true →
    (s.port p).diag.running = none → 100 ≤ vf → vf ≤ 190 →
    ∃ t, exec (.diagTdr via p pairs vf th) s = .next t ∧ (t.port p).diag.running = some .tdr ∧ (t.port p).diag.vf = vf ∧
      (t.port p).diag.threshold = th ∧ (t.port p).diag.mask = pairs.toNat ∧ (t.port p).link = (s.port p).link ∧
      t.fw.running = s.fw.running) ∧
  (∀ via p pairs s, Serves via 0x0302 s → s.portOpen p = true → diagAdmits p false s = true →
    (s.port p).diag.running = none →
    ∃ t, exec (.diagRl via p pairs) s = .next t ∧ (t.port p).diag.running = some .rl ∧ (t.port p).diag.mask = pairs.toNat ∧
      (t.port p).link = (s.port p).link ∧ t.fw.running = s.fw.running) ∧
  (∀ via p mask s, Serves via 0x0303 s → s.portOpen p = true → diagAdmits p false s = true →
    (s.port p).diag.running = none →
    ∃ t, exec (.diagNext via p mask) s = .next t ∧ (t.port p).diag.running = some .next ∧
      (t.port p).diag.mask = mask.toNat ∧ (t.port p).link = (s.port p).link ∧ t.fw.running = s.fw.running) ∧
  (∀ via p mask cable range sf s, Serves via 0x0304 s → s.portOpen p = true → diagAdmits p true s = true →
    (s.port p).diag.running = none → 6 ≤ sf → sf ≤ 12 → range ≤ 2 → (s.port p).snd.path ≠ .soundingOnly →
    ∃ t f, exec (.diagIl via p mask cable range sf) s = .next t ∧ (t.port p).diag.running = some .il ∧
      (t.port p).diag.il = .requested ∧ (t.port p).diag.ilMask = mask.toNat ∧ (t.port p).diag.ilUid = Config.uid.toNat ∧
      (t.port p).diag.ilPort = p.val ∧ (t.port p).snd.diffDue = some (f, sf, false) ∧ f.typ = 0x40 ∧
      (t.port p).link = (s.port p).link) ∧
  (∀ via p q kind index r s, via.portFor p = q → Serves via 0x0305 s → s.portOpen q = true → 1 ≤ kind → kind ≤ 4 → index < 8 →
    ((s.port q).diag.kept.find? fun r => r.kind == kind && r.index == index) = some r →
    exec (.diagRead via p kind index) s = .next (reply via 0x0305 0x00
      (if (s.port q).diag.notQuiet.contains (kind, index) then { r with result := 4 } else r).bytes s)) ∧
  (∀ via p q kind index s, via.portFor p = q → Serves via 0x0305 s → s.portOpen q = true → 1 ≤ kind → kind ≤ 2 → 0x10 ≤ index →
    index < 0x18 → ((s.port q).diag.kept.find? fun r => r.kind == kind && r.index == index) = none →
    (s.port q).diag.notQuiet.contains (kind, index) = false →
    exec (.diagRead via p kind index) s =
      .next (reply via 0x0305 0x00 (beBytes 1 kind ++ beBytes 1 index ++ List.replicate 6 0) s)) ∧
  (∀ via p vf s, Serves via 0x0306 s → s.portOpen p = true → 100 ≤ vf → vf ≤ 190 → (s.port p).snd.path = .native →
    ((s.port p).link.state = .up ∨ (s.port p).link.state = .degraded) →
    ∃ payload u, exec (.diagLive via p vf) s = .next (reply via 0x0306 0x00 payload u) ∧ u.ports = s.ports ∧ u.fw = s.fw) ∧
  (∀ p meas s, (s.port p).diag.running = some .tdr →
    exec (.diagRunDone p [] meas) s = .next (diagFinish p .tdr 0x00
      (keepResults p .tdr (planPoints (s.group p).freq.code) (pairIds (s.port p).diag.mask) meas s))) ∧
  (∀ p i x meas s, (s.port p).diag.running = some .rl → x.active s.boot.limits.quiet = true →
    exec (.diagRunDone p [(i, x)] meas) s = .next (diagEnd p 0x0A (s.modPort p fun q =>
      { q with diag := { q.diag with notQuiet := q.diag.notQuiet ++ [(2, i)] } }))) ∧
  (∀ p listens meas s, (s.port p).diag.running = some .serving → (s.port p).diag.il = .driving →
    ∃ t f, exec (.diagRunDone p listens meas) s = .next t ∧ (t.port p).diag.running = none ∧ (t.port p).diag.il = .none ∧
      (t.port p).snd.diffDue = some (f, (s.port p).diag.ilSf, true) ∧ f.typ = 0x40) ∧
  (∀ p session uid port mask range fs s, (s.port p).diagState true = true → (s.port p).diagSession session = true →
    uid ≠ Config.uid → bitOf (s.port p).diag.ctrl 0 = true → (s.port p).diag.running = none →
    (s.port p).diag.il ≠ .granted → diagAdmits p true s = true →
    ∃ t f b, exec (.ilReqReceive p session uid port mask range fs) s = .next t ∧ (t.port p).diag.running = some .serving ∧
      (t.port p).diag.il = .granted ∧ (t.port p).diag.ilMask = mask ∧ (t.port p).diag.ilUid = uid.toNat ∧
      (t.port p).diag.ilPort = port ∧ (t.port p).snd.diffDue = some (f, b) ∧ f.typ = 0x40) ∧
  (∀ p session uid port mask range fs k s, (s.port p).diagState true = true → (s.port p).diagSession session = true →
    uid ≠ Config.uid → bitOf (s.port p).diag.ctrl 0 = true → (s.port p).diag.running = some k →
    (s.port p).diag.il ≠ .granted →
    ∃ t f b, exec (.ilReqReceive p session uid port mask range fs) s = .next t ∧ (t.port p).diag = (s.port p).diag ∧
      (t.port p).snd.diffDue = some (f, b) ∧ f.typ = 0x40) ∧
  (∀ p session port mask range fs s, port = p.val →
    exec (.ilReqReceive p session Config.uid port mask range fs) s = .next s) ∧
  (∀ p session fs s, (s.port p).diag.il = .requested → (s.port p).diagSession session = true →
    ∃ t, exec (.ilAckReceive p session fs) s = .next t ∧ (t.port p).diag.il = .measuring ∧ (t.port p).diag.ilFs = fs ∧
      (t.port p).lanes = (s.port p).lanes) ∧
  (∀ p session why s, (s.port p).diag.il = .requested → (s.port p).diagSession session = true →
    exec (.ilDeclineReceive p session why) s = .next (diagEnd p 0x05 s)) ∧
  (∀ p s, (s.port p).diag.il = .granted →
    ∃ t, exec (.ilScheduleStart p) s = .next t ∧ (t.port p).diag.il = .driving ∧
      (t.port p).diag.running = (s.port p).diag.running ∧ (t.port p).link = (s.port p).link) ∧
  (∀ p session meas s, (s.port p).diag.il = .measuring → (s.port p).diagSession session = true →
    exec (.ilDoneReceive p session meas) s = .next (ilFinish p 0x00 meas s)) ∧
  (∀ p meas s, (s.port p).diag.il = .measuring →
    exec (.ilDoneTimeout p meas) s = .next (ilFinish p 0x08 meas s))

/-- Chapter 12, capture (R319 to R323): where CAPTURE_START, CAPTURE_TRIGGER, CAPTURE_SEGMENT_STORED, CAPTURE_TIMEOUT, CAPTURE_STATUS,
CAPTURE_READ and CAPTURE_STOP complete, and with what. -/
def Obligations.CaptureCommandsComplete : Prop :=
  (∀ via p (lanes : BitVec 8) txg vga peak n count (trig : CapTrigger) s, Serves via 0x0310 s → s.portOpen p = true →
    lanes.toNat ≠ 0 → vga ≤ 96 → peak ≤ 31 → n ≠ 0 → n % 4096 = 0 → n ≤ capShare (popcount8 lanes.toNat) → count ≠ 0 →
    count * n ≤ capLimit (s.group p).freq.code → trig.ok lanes.toNat = true → diagAdmits p false s = true →
    s.store.state = 2 → s.store.captureGib ≠ 0 → (s.port p).diag.running = none → s.cap.outcome ≠ .running →
    ∃ u, exec (.captureStart via p lanes txg vga peak n count trig) s = .next (diagReply via 0x0310 p 0x00 [] u) ∧
      u.cap.outcome = .running ∧ u.cap.port = some p ∧ u.cap.laneMask = lanes.toNat ∧ u.cap.s = n ∧ u.cap.count = count ∧
      u.cap.taken = 0 ∧ u.cap.missed = 0 ∧ u.cap.stored = [] ∧ (u.port p).diag.running = some .capture) ∧
  (∀ samples p s, s.cap.outcome = .running → s.cap.port = some p → s.cap.taken < s.cap.count → s.cap.due (s.port p) = true →
    (s.cap.staging.length + 1) * s.cap.s ≤ capShare (popcount8 s.cap.laneMask) →
    ∃ t g, exec (.captureTrigger samples) s = .next t ∧ t.cap.taken = s.cap.taken + 1 ∧ t.cap.missed = s.cap.missed ∧
      t.cap.staging = s.cap.staging ++ [g] ∧ g.number = s.cap.taken ∧ g.samples = samples ∧ g.port = p ∧
      g.slot = (s.port p).code.slotCnt ∧ g.lost = false ∧ t.ports = s.ports) ∧
  (∀ samples p s, s.cap.outcome = .running → s.cap.port = some p → s.cap.taken < s.cap.count → s.cap.due (s.port p) = true →
    capShare (popcount8 s.cap.laneMask) < (s.cap.staging.length + 1) * s.cap.s →
    exec (.captureTrigger samples) s = .next (if s.cap.trigger = .immediate then s
      else { s with cap := { s.cap with missed := s.cap.missed + 1, mark := (s.port p).code.slotCnt } })) ∧
  (∀ link g rest s, s.cap.staging = g :: rest → s.cap.outcome = .running →
    (getNat s.store.mx link.val CxlLink.reset).takes = true → captureRoom (grantInterval s) = true →
    s.cap.stored.length + 1 < s.cap.count → (s.cap.stored.length + 2) * s.cap.segSlots ≤ s.store.captureGib * 2 ^ 18 →
    ∃ t, exec (.captureSegmentStored link) s = .next t ∧ t.cap.staging = rest ∧
      t.cap.stored = s.cap.stored ++ [{ g with link := link.val }] ∧ t.cap.outcome = .running ∧
      t.store.gC = (grantInterval s).store.gC + s.cap.segSlots ∧ t.ports = (grantInterval s).ports) ∧
  (∀ s, s.cap.outcome = .running →
    ∃ t, exec .captureTimeout s = .next t ∧ t.cap.outcome = .timeout ∧ t.cap.staging = [] ∧ t.cap.stored = s.cap.stored) ∧
  (∀ via s, Serves via 0x0313 s → exec (.captureStop via) s = .next (reply via 0x0313 0x00 [] (captureEnd .stopped s))) ∧
  (∀ via s, Serves via 0x0311 s → exec (.captureStatus via) s = .next (reply via 0x0311 0x00
    (beBytes 1 s.cap.outcome.code ++ beBytes 4 s.cap.stored.length ++ beBytes 4 (s.cap.stored.countP fun g => g.lost)
      ++ beBytes 4 s.cap.missed) s)) ∧
  (∀ via k ofs g s, Serves via 0x0312 s → s.cap.stored[k]? = some g → ofs + 2048 ≤ s.cap.segSlots * 4096 → g.lost = false →
    ∃ payload u, exec (.captureRead via k ofs) s = .next (reply via 0x0312 0x00 payload u) ∧ payload.length = 2048 ∧
      (∀ i b, i < 2048 → (g.header ++ g.samples)[ofs + i]? = some b → payload[i]? = some b) ∧
      u.cap = s.cap ∧ u.ports = s.ports)

/-- Chapter 13, references and the root (R325 to R333, R339 to R343, R349): where XA_DELAY_EXPIRE, XA_FIRST_JUDGEMENT_END,
REF_JUDGED_GOOD, FRO_TRIM_UPDATE, FLASH_ACCESS_TIMEOUT, FRO_CHECK, XB_DETECT, XB_LOSS, RPLL_LOCK, RPLL_UNLOCK, RPLL_HOLDOVER,
RPLL_ALT_RESTART, DOMAIN_RAMP_STEP, FORCED_SWITCH, CLOCK_MONITOR_WINDOW, PLL_UNLOCK, PLL_LOCK_REGAINED, CLK_CFG_WRITE and
CLK_GATE_WRITE complete, and with what. -/
def Obligations.ClockCommandsComplete : Prop :=
  (∀ s, exec .xaDelayExpire s = .next { s with clk := { s.clk with xaDelay := true } }) ∧
  (∀ s, exec .xaFirstJudgementEnd s = .next (rpllTryStart { s with clk := { s.clk with xaFirst := true } })) ∧
  (∀ counts s, countsGood .refclk counts = true →
    exec (.refJudgedGood .refclk counts) s = .next (rpllTryStart (retrim { s with clk := s.clk.setGood .refclk true }))) ∧
  (∀ counts s, countsGood .xa counts = true → s.clk.xaDelay = true →
    exec (.refJudgedGood .xa counts) s = .next (rpllTryStart (retrim { s with clk := s.clk.setGood .xa true }))) ∧
  (∀ n s, s.clk.trimSrc ≠ 0 → trimNominal s.clk.trimSrc < 10 * n →
    ∃ t, exec (.froTrimUpdate n) s = .next t ∧ t.clk.froCode = s.clk.froCode - 1 ∧
      t.clk.trimmed = decide ((10 * n - trimNominal s.clk.trimSrc) * 2000 ≤ trimNominal s.clk.trimSrc) ∧ t.ports = s.ports) ∧
  (∀ n s, s.clk.trimSrc ≠ 0 → 10 * n < trimNominal s.clk.trimSrc →
    ∃ t, exec (.froTrimUpdate n) s = .next t ∧ t.clk.froCode = min 0x3FF (s.clk.froCode + 1) ∧
      t.clk.trimmed = decide ((trimNominal s.clk.trimSrc - 10 * n) * 2000 ≤ trimNominal s.clk.trimSrc) ∧ t.ports = s.ports) ∧
  (∀ s, s.clk.trimmed = false → exec .flashAccessTimeout s = .next (flashTimeout s)) ∧
  (∀ n s, 10000 ≤ n → n ≤ 15000 →
    exec (.froCheck (some n)) s = .next (endCond .froFail .dev { s with clk := { s.clk with froOk := true } })) ∧
  (∀ s, exec (.froCheck none) s = .next (raiseAs .froFail .dev 0 (if s.clk.anyFro then .f else .u)
    { s with clk := { s.clk with froOk := false } })) ∧
  (∀ s, ∃ t, exec .xbDetect s = .next t ∧ t.clk.xb = true ∧ t.clk.slowXb = decide (bits s.clk.cfg 3 2 = 0) ∧
    t.clk.sroCode < 1024 ∧ t.ports = s.ports) ∧
  (∀ s, s.clk.trimmed = false →
    exec .xbLoss s = .next { s with clk := { s.clk with xb := false, slowXb := false } }) ∧
  (∀ s, s.clk.trimmed = true → ∃ t, exec .xbLoss s = .next t ∧ t.clk.xb = false ∧ t.clk.slowXb = false ∧
    t.clk.sroCode < 1024 ∧ t.ports = s.ports) ∧
  (∀ pass r s, s.clk.rpllSrc = some r → s.clk.rpllLock = false → s.pwr.trip = false → (s.clk.judge r).good = true →
    ∃ u, exec (.rpllLock pass) s = .next (dspPass pass (endCond .rpllUnlock .dev u)) ∧ u.clk.rpllLock = true ∧
      u.clk.dspRun = true ∧ u.clk.holdover = false ∧ u.ports = s.ports ∧ u.pods = s.pods) ∧
  (∀ s, s.clk.rpllLock = true → exec .rpllUnlock s = .next (raiseWith .rpllUnlock .dev 0 .f { React.none with devSafe := true }
    (rootLost { s with clk := { s.clk with cntUnlock := satAdd 8 s.clk.cntUnlock 1 } }))) ∧
  (∀ s, s.clk.rpllLock = true →
    exec .rpllHoldover s = .next (timeToHoldover { s with clk := { s.clk with holdover := true } })) ∧
  (∀ r s, s.clk.rpllSrc = some r → s.clk.altWait = true → s.clk.allFro = true → (s.clk.judge r).good = false →
    (s.clk.judge r.other).good = true →
    exec .rpllAltRestart s = .next { s with clk := { s.clk with rpllSrc := some r.other, holdover := false } }) ∧
  (∀ (d : Fin 4) s, s.clk.dom[d.val].ramp ≠ 0 →
    ∃ u, exec (.domainRampStep d) s = .next (refMoveStep u) ∧ u.clk.dom[d.val].ramp = s.clk.dom[d.val].ramp - 1 ∧
      u.clk.dom[d.val].fro = (if s.clk.dom[d.val].ramp = 8 then s.clk.dom[d.val].toFro else s.clk.dom[d.val].fro) ∧
      u.ports = s.ports) ∧
  (∀ (d : Fin 4) s, 8 ≤ s.clk.dom[d.val].ramp →
    ∃ u, exec (.forcedSwitch d) s = .next (refMoveStep (truncateOn d u)) ∧ u.clk.dom[d.val].ramp = 7 ∧
      u.clk.dom[d.val].fro = s.clk.dom[d.val].toFro ∧ u.clk.cntForced = satAdd 8 s.clk.cntForced 1 ∧ u.ports = s.ports) ∧
  (∀ count s, (s.clk.judge .refclk).good = true → s.clk.froOk = true →
    absDiff (10 * count) (nominalCount10 .refclk) * 100 ≤ nominalCount10 .refclk →
    exec (.clockMonitorWindow .refclk count false) s =
      .next { s with clk := { s.clk with refDev := clockDev .refclk count } }) ∧
  (∀ count s, (s.clk.judge .xa).good = true → s.clk.froOk = true →
    nominalCount10 .xa * 4 < absDiff (10 * count) (nominalCount10 .xa) * 100 →
    exec (.clockMonitorWindow .xa count false) s =
      .next (refFailed .xa { s with clk := { s.clk with xaDev := clockDev .xa count } })) ∧
  (∀ k (g : GroupId) s, (s.pod k).groups[g.val].lock = true →
    ∃ u, exec (.pllUnlock (.lane k g)) s = .next (raiseAgain .pllUnlock (.pod k) g.val u) ∧
      (u.pod k).groups[g.val].lock = false ∧ (u.pod k).groups[g.val].freq = .none ∧
      (u.pod k).groups[g.val].target = some (s.pod k).groups[g.val].freq ∧
      (u.pod k).pllLost = (s.pod k).pllLost ||| 1 <<< g.val ∧ u.ports = s.ports) ∧
  (∀ s, s.clk.stkLock = true → exec (.pllUnlock .stack) s = .next (raiseAgain .hubPllUnlock .dev 0
    { s with clk := { s.clk with stkLock := false, pllLost := s.clk.pllLost ||| 1 } })) ∧
  (∀ k (g : GroupId) s, s.pwr.trip = false → s.clk.rpllLock = true → s.part.hasPod k = true →
    (s.pod k).groups[g.val].lock = false → exec (.pllLockRegained (.lane k g)) s = .next (groupLocked k g s)) ∧
  (∀ who v s, WriteReaches who s 0x300 → exec (.clkCfgWrite who v) s = .next (writeClkCfg who v s)) ∧
  (∀ who v s, WriteReaches who s 0x308 → exec (.clkGateWrite who v) s = .next (writeClkGate who v s))

/-- Chapter 14, power (R359 to R361, R363 to R370): where AVS_EXAMINE, AVS_WRITE_RETRY, AVS_STATUS_POLL, POD_AVS_CTRL_WRITE,
REGION_SAMPLE, REGION_FAULT_CLEAR, SUPPLY_LOSS, SUPPLY_RESTORE and SENSOR_CONVERSION complete, and with what. -/
def Obligations.PowerCommandsComplete : Prop :=
  (∀ k slacks s, s.part.hasPod k = true → avsHeld s k = false → bits (s.pod k).avs.ctrl 31 30 = 0 →
    ∃ u, exec (.avsExamine k slacks) s = .next (setCond .podTiming (.pod k) 0 (u.pod k).avs.atMax u) ∧
      (u.pod k).avs.target = avsTarget (s.pod k).avs (minSlack slacks) ∧
      (u.pod k).avs.margin = unsigned 8 (minSlack slacks) ∧
      (u.pod k).avs.lowRun = (if minSlack slacks < 6 ∧ (s.pod k).avs.target = bits (s.pod k).avs.ctrl 22 16
        then (s.pod k).avs.lowRun + 1 else 0) ∧
      (u.pod k).avs.atMax = decide (4 ≤ (u.pod k).avs.lowRun) ∧ u.ports = s.ports) ∧
  (∀ k slacks s, s.part.hasPod k = true → avsHeld s k = true →
    ∃ u, exec (.avsExamine k slacks) s = .next (setCond .podTiming (.pod k) 0 (u.pod k).avs.atMax u) ∧
      (u.pod k).avs.target = (s.pod k).avs.target) ∧
  (∀ k s, s.part.hasPod k = true → (s.pod k).avs.writePend = true →
    exec (.avsWriteRetry k true) s =
      .next (s.modPod k fun q => { q with avs := { q.avs with retries := 0, writePend := false } })) ∧
  (∀ k s, s.part.hasPod k = true → (s.pod k).avs.writePend = true → (s.pod k).avs.retries = 2 →
    exec (.avsWriteRetry k false) s = .next (raise .avsBus (.pod k) 0
      (s.modPod k fun q => { q with avs := { q.avs with retries := 0, busErr := true } }))) ∧
  (∀ k iout s, s.part.hasPod k = true →
    ∃ t, exec (.avsStatusPoll k true iout) s = .next t ∧ (t.pod k).avs.iout = iout % 256 ∧
      (t.pod k).avs.busErr = (s.pod k).avs.busErr ∧ t.ports = s.ports) ∧
  (∀ k iout s, s.part.hasPod k = true →
    ∃ u, exec (.avsStatusPoll k false iout) s = .next (endCond .avsBus (.pod k) u) ∧ (u.pod k).avs.busErr = false) ∧
  (∀ who k v s, WriteReaches who s (podBase k + 0x200) →
    exec (.podAvsCtrlWrite who k v) s = .next (writePodAvs who k v s)) ∧
  (∀ k x dev s, s.part.hasPod k = true → podDeviation s k x = some dev →
    exec (.regionSample (some k) x) s = .next (setCondUp .region (.pod k) 0 ((s.pod k).region.sample x.elem dev).fault
      (s.modPod k fun q => { q with region := (s.pod k).region.sample x.elem dev }))) ∧
  (∀ mv hub s, exec (.regionSample none (.supply mv hub)) s = .next (setCondUp .regionAon .dev 0
    (s.pwr.aon.sample .supply (intDist ((mv : Int) - 800) ((hub : Int) - 750))).fault
    { s with pwr := { s.pwr with aon := s.pwr.aon.sample .supply (intDist ((mv : Int) - 800) ((hub : Int) - 750)) } })) ∧
  (∀ k s, (s.pod k).region.quiet = true → exec (.regionFaultClear (some k)) s =
    .next (endCond .region (.pod k) (s.modPod k fun q => { q with region := RegionPair.zero }))) ∧
  (∀ s, s.pwr.aon.quiet = true → exec (.regionFaultClear none) s =
    .next (endCond .regionAon .dev { s with pwr := { s.pwr with aon := RegionPair.zero } })) ∧
  (∀ r mv ns s, r.falling ≤ mv ∨ ns < 100 → exec (.supplyLoss r mv ns) s = .next s) ∧
  (∀ mv ns s, mv < 670 → 100 ≤ ns → ∃ t, exec (.supplyLoss .hub mv ns) s = .next t ∧ t.boot.inReset = true ∧
    t.boot.configDone = false ∧ t.pwr.lost = .hub :: s.pwr.lost.filter (fun x => x ≠ .hub) ∧ bitOf t.boot.cause 2 = true ∧
    t.flt.lastF0 = s.flt.lastF0 ∧ t.part = s.part) ∧
  (∀ mv ns s, mv < 800 → 100 ≤ ns → ∃ u, exec (.supplyLoss .vddaLine mv ns) s = .next (raise .supplyLoss .dev 0 u) ∧
    u.ports = s.ports ∧ u.pwr.lost = .vddaLine :: s.pwr.lost.filter (fun x => x ≠ .vddaLine)) ∧
  (∀ mv ns s, mv < 1080 → 100 ≤ ns → ∃ u, exec (.supplyLoss .vddhLine mv ns) s = .next (raise .supplyLoss .dev 0 (allTxOff u)) ∧
    u.ports = s.ports ∧ u.pwr.lost = .vddhLine :: s.pwr.lost.filter (fun x => x ≠ .vddhLine)) ∧
  (∀ level straps pass s, s.pwr.lost = [.aon] → 7600 ≤ level → level ≤ 8400 →
    exec (.supplyRestore .aon level straps pass) s = .next (startBoot straps pass { s with pwr := { s.pwr with lost := [] } })) ∧
  (∀ level straps pass s, s.pwr.lost = [.vddaLine] → 8730 ≤ level → level ≤ 9270 →
    exec (.supplyRestore .vddaLine level straps pass) s =
      .next (endCond .supplyLoss .dev { s with pwr := { s.pwr with lost := [] } })) ∧
  (∀ (i : Fin 24) (j : Fin 8) ok reading s, i.val = 16 + j.val →
    ∃ u, exec (.sensorConversion i ok reading) s = .next (if 2 ≤ (s.pwr.hubSensors[j.val].convert ok reading).tripRun ∧
        u.pwr.trip = false then thermalTrip i.val u else u) ∧
      u = judgeTemps i.val (judgeSensors i.val (decide ((s.pwr.hubSensors[j.val].convert ok reading).fails = 16) &&
          decide (s.pwr.hubSensors[j.val].fails = 0))
        { s with pwr := { s.pwr with hubSensors := updAt s.pwr.hubSensors j fun _ => s.pwr.hubSensors[j.val].convert ok reading } }))

/-- Chapter 15, resets and boot (R371 to R393): where POWER_ON_RESET, PORST_N_ASSERT, PORST_N_RELEASE, PE_PERST_N_ASSERT,
PE_PERST_N_RELEASE, TRST_N_ASSERT, DEV_RESET, DEV_RESET_EXPIRE, BOOT_TRIMMED, BOOT_TRIM_TIMEOUT, BOOT_LIB_CONFIG_READ,
BOOT_DEVICE_CONFIG_READ, BOOT_RPLL_TIMEOUT, BOOT_CLERK_FW_READ, BOOT_LEDGER_ANCHOR, BOOT_USER_AREA_READ, STAGE_C_RECORD and
CONFIG_DONE complete, and with what. -/
def Obligations.BootCommandsComplete : Prop :=
  (∀ s, ∃ t, exec .powerOnReset s = .next t ∧ t.boot.cause = 0x01 ∧ t.boot.inReset = true ∧ t.boot.configDone = false ∧
    t.boot.step = 0 ∧ t.flt.lastF0 = 0 ∧ t.flt.lastF1 = 0 ∧ t.fw.mem = [] ∧ t.part = s.part ∧ t.pending = s.pending ∧
    t.cal.secA = s.cal.secA ∧ t.ledger.ring = s.ledger.ring ∧ t.fw.revoked = s.fw.revoked ∧ t.fw.svnMin = s.fw.svnMin) ∧
  (∀ s, ∃ t, exec .porstNAssert s = .next t ∧ t.boot.cause = (s.boot.cause ||| 0x02 ||| flg s.pwr.trip 4) ∧
    t.boot.inReset = true ∧ t.boot.configDone = false ∧ t.boot.step = 0 ∧ t.pwr.trip = false ∧ t.flt.lastF0 = s.flt.lastF0 ∧
    t.flt.lastF1 = s.flt.lastF1 ∧ t.fw.mem = [] ∧ t.ports = State.reset.ports ∧ t.part = s.part ∧ t.pending = s.pending ∧
    t.ledger.ctr = s.ledger.ctr ∧ t.fw.revoked = s.fw.revoked ∧ t.fw.svnMin = s.fw.svnMin) ∧
  (∀ straps pass s, s.boot.step = 0 → s.pwr.lost = [] →
    exec (.porstNRelease straps pass) s = .next (startBoot straps pass s)) ∧
  (∀ s, exec .pePerstNAssert s = .next { s with
      boot := { s.boot with peReset := true },
      reg := { s.reg with latches := s.reg.latches.filter fun l => l.who ≠ .pcie } }) ∧
  (∀ s, exec .pePerstNRelease s = .next { s with boot := { s.boot with peReset := false } }) ∧
  (∀ s, exec .trstNAssert s = .next (endCond .bscanCtrl .dev { s with test := { s.test with jtag := .idcode } })) ∧
  (∀ via delay s, Serves via 0x0706 s → 10 ≤ delay → delay ≤ 1000 → s.boot.job = none →
    exec (.devReset via delay) s =
      .next (reply via 0x0706 0x00 [] { s with boot := { s.boot with devReset := some delay } })) ∧
  (∀ straps pass d s, s.boot.devReset = some d →
    ∃ u, exec (.devResetExpire straps pass) s = .next (startBoot straps pass u) ∧
      u.boot.cause = (s.boot.cause ||| 0x08 ||| flg s.pwr.trip 4) ∧ u.boot.configDone = false ∧ u.boot.step = 0 ∧
      u.boot.devReset = none ∧ u.pwr.trip = s.pwr.trip ∧ u.ports = State.reset.ports ∧ u.fw.mem = []) ∧
  (∀ h0 h1 flash s, s.boot.step = 1 → s.clk.trimmed = true → s.pwr.trip = false → bitOf s.boot.straps 3 = true →
    ∃ t, exec (.bootTrimmed h0 h1 flash) s = .next t ∧ t.boot.step = 15 ∧ t.boot.stream = true ∧ t.boot.streamBuf = [] ∧
      t.boot.hdr = #v[parseHeader h0, parseHeader h1] ∧ t.ports = s.ports) ∧
  (∀ h0 h1 (x : Sfdp) s, s.boot.step = 1 → s.clk.trimmed = true → s.pwr.trip = false → bitOf s.boot.straps 3 = false →
    x.fit = true → 32 ≤ x.mib →
    exec (.bootTrimmed h0 h1 (some x)) s = .next (tryCandidates
      (noCandidate s.part s.fw.svnMin [parseHeader h0, parseHeader h1])
      (rankSlots s.part s.fw.revoked s.fw.svnMin (parseHeader h0) (parseHeader h1) false)
      { s with boot := { s.boot with hdr := #v[parseHeader h0, parseHeader h1], singleSlot := false } })) ∧
  (∀ h0 h1 s, s.boot.step = 1 → s.clk.trimmed = true → s.pwr.trip = false → bitOf s.boot.straps 3 = false →
    exec (.bootTrimmed h0 h1 none) s = .next (bootFailed 2 s)) ∧
  (∀ s, s.boot.step = 1 → s.clk.trimmed = false → s.pwr.trip = false →
    exec .bootTrimTimeout s = .next (bootFailed 1 s)) ∧
  (∀ stored a b x s, s.boot.step = 3 → s.sectionStored 1 stored = some x →
    ∃ u : List Byte → State, exec (.bootLibConfigRead stored a b) s = .next (match s.bootedHdr.read 1 x with
        | .error why => tryCandidates why s.boot.cands s
        | .ok plain => u plain) ∧
      ∀ plain, (u plain).boot.step = 5 ∧ (u plain).fw.config = LibConfig.ofBytes plain ∧
        (u plain).ledger.allowance = (LibConfig.ofBytes plain).burst) ∧
  (∀ stored x s, s.boot.step = 5 → s.pwr.trip = false → s.sectionStored 2 stored = some x →
    exec (.bootDeviceConfigRead stored) s = .next (match s.bootedHdr.read 2 x with
      | .error why => tryCandidates why s.boot.cands s
      | .ok plain => applyDeviceConfig plain s) ∧
    ∀ plain, (applyDeviceConfig plain s).boot.step = 6 ∧ (applyDeviceConfig plain s).clk.rpllEn = true ∧
      (applyDeviceConfig plain s).boot.stageC = parseStageC plain) ∧
  (∀ s, s.boot.step = 6 → s.clk.rpllLock = false →
    exec .bootRpllTimeout s = .next { s with boot := { s.boot with step := 7, noRoot := true } }) ∧
  (∀ stored x s, s.boot.step = 7 → s.sectionStored 3 stored = some x →
    ∃ u : State, exec (.bootClerkFwRead stored) s = .next (match s.bootedHdr.read 3 x with
        | .error why => tryCandidates why s.boot.cands s
        | .ok _ => u) ∧
      u.boot.step = 8 ∧ u.ports = s.ports ∧ u.fw.imageStore = (if s.boot.stream then x else [])) ∧
  (∀ ring failed s, s.boot.step = 8 →
    ∃ t, exec (.bootLedgerAnchor ring failed) s = .next t ∧ t.boot.step = 9) ∧
  (∀ stored pass x (k : Fin 2) s, s.boot.step = 9 → s.pwr.trip = false → s.boot.stream = false →
    s.sectionStored 7 stored = some x → k = (if s.boot.slot = 1 then 1 else 0) →
    ∃ u v : State, exec (.bootUserAreaRead stored pass) s = .next (if s.bootedHdr.userOk x
        then (if (corePass pass u).clerkMemBad then corePass pass u else v) else bootFailed 5 s) ∧
      u.boot.trial = decide (s.boot.hdr[k.val].state = 0xFFFFFFFF) ∧
      u.boot.hdr[k.val].state = (if s.boot.hdr[k.val].state = 0xFFFFFFFF then 0xFFFF0000 else s.boot.hdr[k.val].state) ∧
      u.fw = s.fw ∧ u.ports = s.ports ∧
      v.boot.step = 10 ∧ v.fw.clerk = .starting ∧ bitOf v.clk.gate 9 = true ∧ v.ports = (corePass pass u).ports) ∧
  (∀ port ok n s, s.boot.step = 10 → s.boot.stageCEnd = false → s.fw.clerk = .starting → s.pwr.trip = false →
    (s.fw.running.any fun r => r.origin = .stageC) = false → stageCAt s.boot.stageC s.boot.stageCPos = (.ends, n) →
    ∃ t, exec (.stageCRecord port ok) s = .next t ∧ t.boot.step = 11 ∧ t.boot.stageCEnd = true ∧ t.fw.clerk = .running) ∧
  (∀ port ok packet n s, s.boot.step = 10 → s.boot.stageCEnd = false → s.fw.clerk = .running → s.pwr.trip = false →
    (s.fw.running.any fun r => r.origin = .stageC) = false →
    stageCAt s.boot.stageC s.boot.stageCPos = (.cmd packet, n) → mayStart (natAt packet 0 2) port s = true →
    ∃ u : State, exec (.stageCRecord port ok) s = .next { u with boot := { u.boot with stageCPos := n } } ∧
      u = startPacket .stageC (natAt packet 0 2) port ok s) ∧
  (∀ port ok a v n s, s.boot.step = 10 → s.boot.stageCEnd = false → s.fw.clerk = .running → s.pwr.trip = false →
    (s.fw.running.any fun r => r.origin = .stageC) = false → stageCAt s.boot.stageC s.boot.stageCPos = (.write a v, n) →
    ∃ u : State, exec (.stageCRecord port ok) s = .next { u with boot := { u.boot with stageCPos := n } } ∧
      u = countIgnored (regWrite .clerk (wordAddr a) s (writeReg .clerk (wordAddr a) v 0xF))) ∧
  (∀ s, s.boot.step = 11 → s.boot.configDone = false → s.pwr.trip = false →
    ∃ u, exec .configDone s = .next (driveFsi u) ∧ u.boot.configDone = true ∧ u.fw = s.fw ∧
      (∀ p, u.port p = if s.part.hasPort p then (s.port p).startCommit true else s.port p))

/-- Chapter 15, images in flash (R388, R390 to R393): where IMG_INFO, IMG_ERASE, IMG_ERASE_BLOCK_DONE, IMG_WRITE, IMG_WRITE to the
stream, IMG_COMMIT and IMG_CONFIRM complete, and with what; and PORT_INFO (R499). -/
def Obligations.ImageCommandsComplete : Prop :=
  (∀ via s, Serves via 0x0701 s → exec (.imgInfo via) s = .next (reply via 0x0701 0x00
    ((beBytes 4 s.boot.hdr[0].gen ++ beBytes 4 s.boot.hdr[0].svn ++ s.boot.hdr[0].version ++ beBytes 4 s.boot.hdr[0].written
        ++ beBytes 4 s.boot.hdr[0].state)
      ++ (beBytes 4 s.boot.hdr[1].gen ++ beBytes 4 s.boot.hdr[1].svn ++ s.boot.hdr[1].version
        ++ beBytes 4 s.boot.hdr[1].written ++ beBytes 4 s.boot.hdr[1].state)
      ++ beBytes 1 s.boot.slot) s)) ∧
  (∀ via blocks s, Serves via 0x0702 s → 1 ≤ blocks → blocks ≤ 256 → s.boot.singleSlot = false → s.boot.job = none →
    ∃ u j, exec (.imgErase via blocks) s = .next (reply via 0x0702 0x00 [] u) ∧ u.boot.job = some j ∧ j.op = .imgErase ∧
      u.boot.left = blocks ∧ u.boot.erased = 0 ∧ u.boot.writes = [] ∧
      u.boot.hdr[(inactiveSlot s).val] = SlotHdr.blank ∧ u.ports = s.ports) ∧
  (∀ via blocks s, Serves via 0x0702 s → 1 ≤ blocks → blocks ≤ 256 → s.boot.singleSlot = true →
    s.fw.clerk = .running →
    exec (.imgErase via blocks) s = .next (reply via 0x0702 0x07 [] s)) ∧
  (∀ j s, s.boot.job = some j → j.op = .imgErase → 2 ≤ s.boot.left →
    ∃ t, exec .imgEraseBlockDone s = .next t ∧ t.boot.left = s.boot.left - 1 ∧ t.boot.erased = s.boot.erased + 1 ∧
      t.boot.job = some j ∧ t.ports = s.ports) ∧
  (∀ j s, s.boot.job = some j → j.op = .imgErase → s.boot.left = 1 →
    ∃ t, exec .imgEraseBlockDone s = .next t ∧ t.boot.left = 0 ∧ t.boot.job = none) ∧
  (∀ via ofs data s, Serves via 0x0703 s → 1 ≤ data.length → data.length ≤ 2048 → ofs + data.length ≤ 0x1000000 →
    erasedRange s.boot ofs data.length = true → s.boot.job = none →
    ∃ t j, exec (.imgWrite via ofs data) s = .next t ∧ t.boot.job = some j ∧ j.op = .imgWrite ∧ j.origin = via ∧
      t.boot.writes = s.boot.writes ++ [(ofs, data)] ∧ t.fw = s.fw) ∧
  (∀ via ofs data s, Serves via 0x0703 s → 1 ≤ data.length → data.length ≤ 2048 → ofs + data.length ≤ 0x1000000 →
    erasedRange s.boot ofs data.length = false →
    exec (.imgWrite via ofs data) s = .next (reply via 0x0703 0x03 [] s)) ∧
  (∀ via data s, Serves via 0x0703 s → s.boot.stream = true → s.boot.configDone = false →
    1 ≤ data.length → data.length ≤ 2048 → (s.boot.streamBuf ++ data).length < 4096 →
    exec (.imgWriteStream via s.boot.streamOfs data) s = .next (reply via 0x0703 0x00 []
      { s with boot := { s.boot with streamBuf := s.boot.streamBuf ++ data } })) ∧
  (∀ via data why s, Serves via 0x0703 s → s.boot.stream = true → s.boot.configDone = false →
    1 ≤ data.length → data.length ≤ 2048 → s.boot.streamOfs < 4096 → 4096 ≤ (s.boot.streamBuf ++ data).length →
    streamHeader (parseHeader ((s.boot.streamBuf ++ data).take 4096)) s = some why →
    exec (.imgWriteStream via s.boot.streamOfs data) s = .next (reply via 0x0703 why [] (streamRestart s))) ∧
  (∀ via rest s, Serves via 0x0704 s → s.boot.job = none →
    (s.boot.step = 14 ∨ ((parseHeader ((slotContent s.boot rest).take 4096)).placements = s.bootedHdr.placements ∧
      laterGen (parseHeader ((slotContent s.boot rest).take 4096)).gen s.bootedHdr.gen = true)) →
    ∃ (t : State) (j : FlashJob), exec (.imgCommit via rest) s = .next
        (match slotCheck s.part s.fw.revoked s.fw.svnMin (slotContent s.boot rest) with
          | some why => reply via 0x0704 why [] s
          | none => t) ∧
      t.boot.job = some j ∧ j.op = .imgCommit ∧ j.origin = via ∧ t.fw = s.fw ∧
      t.boot.hdr[(inactiveSlot s).val] =
        { parseHeader ((slotContent s.boot rest).take 4096) with written := 0xFFFFFFFF }) ∧
  (∀ via (k : Fin 2) s, Serves via 0x0705 s → s.boot.stream = false → s.boot.job = none →
    k = (if s.boot.slot = 1 then 1 else 0) → triedState s.boot.hdr[k.val].state = true →
    ∃ u, exec (.imgConfirm via false) s = .next (reply via 0x0705 0x00 [] u) ∧ u.boot.hdr[k.val].state = 0 ∧
      u.fw.svnMin = s.fw.svnMin ∧ u.ports = s.ports) ∧
  (∀ via (k : Fin 2) s, Serves via 0x0705 s → s.boot.stream = false → s.boot.job = none →
    k = (if s.boot.slot = 1 then 1 else 0) → triedState s.boot.hdr[k.val].state = true → s.boot.hdr[k.val].svn ≤ 256 →
    ∃ u, exec (.imgConfirm via true) s = .next (reply via 0x0705 0x00 [] u) ∧ u.boot.hdr[k.val].state = 0 ∧
      u.fw.svnMin = Nat.max s.fw.svnMin s.boot.hdr[k.val].svn ∧ u.ports = s.ports) ∧
  (∀ p tag (port : Nat) s, Serves (.farEnd p tag) 0x0101 s → s.part.hasPort p = true →
    exec (.portInfo (.farEnd p tag) port) s = .next (reply (.farEnd p tag) 0x0101 0x00 (portInfoBody s p) s)) ∧
  (∀ n (p : PortId) s, Serves (.slot n) 0x0101 s → s.part.hasPort p = true →
    exec (.portInfo (.slot n) p.val) s = .next (reply (.slot n) 0x0101 0x00 (portInfoBody s p) s))

/-- Chapter 16, memory tests and repair (R397 to R403, R413): where BIST_RUN, BIST_BANK_DONE, BIST_READ, REPAIR_READ, FUSE_REPAIR,
SCAN_CHALLENGE, SCAN_AUTH, SCAN_CHALLENGE_EXPIRE, JTAG_INSTRUCTION, BANDGAP_CHECK and REF_CHECK complete, and with what. -/
def Obligations.SelfTestCommandsComplete : Prop :=
  (∀ via pods hub (groups : BitVec 8) banks diag raw repair scope here s,
    Serves via 0x0A01 s →
    scope = bistScope pods.toNat hub groups.toNat banks.toNat → here = scope.filter (fun b => b.present s.part) →
    here.any (bankGated s) = false → groups &&& 0xE1 = 0 → scope ≠ [] → here.all (bankFree s) = true → s.test.bist = none →
    otherRuns via 0x0A01 s = false →
    exec (.bistRun via pods hub groups banks diag raw repair) s = .next (bistNext
      { origin := via, left := here, all := here, diag := diag, raw := raw, repair := repair, partialF := false }
      { s with test := { s.test with lastMode := diag, lastFail := 0, lastTrunc := 0 } })) ∧
  (∀ found r b rest s, s.test.bist = some r → r.left = b :: rest → r.repair = false → bistCode b found = 1 →
    exec (.bistBankDone found) s = .next (bistNext { r with left := rest }
      (setBankResult b 1 (b2n r.diag) (if r.diag then keepFails found.fails else []) found.misr s))) ∧
  (∀ found r b rest s, s.test.bist = some r → r.left = b :: rest → r.repair = false →
    ∃ u, exec (.bistBankDone found) s =
        .next (bistNext { r with left := rest, partialF := r.partialF || decide (bistCode b found = 3) } u) ∧
      u.test.lastFail = (if bistCode b found = 2 then satAdd 8 s.test.lastFail 1 else s.test.lastFail) ∧
      u.test.lastTrunc = (if bistCode b found = 3 then satAdd 8 s.test.lastTrunc 1 else s.test.lastTrunc) ∧
      u.ports = s.ports ∧ u.fw = s.fw) ∧
  (∀ via pod group bank b x s, Serves via 0x0A02 s → namedBank pod group bank = some b → b.present s.part = true →
    (s.test.results.find? fun r => r.bank = b) = some x →
    exec (.bistRead via pod group bank) s = .next (reply via 0x0A02 0x00 (beBytes 1 x.code ++ beBytes 1 x.kind
      ++ beBytes 2 x.fails.length ++ beBytes 8 x.misr.toNat ++ x.fails.flatMap BitFail.bytes) s)) ∧
  (∀ via pod group bank b s, Serves via 0x0A02 s → namedBank pod group bank = some b → b.present s.part = false →
    exec (.bistRead via pod group bank) s = .next (reply via 0x0A02 0x00 (beBytes 1 4 ++ beBytes 1 0xFF ++ beBytes 2 0
      ++ beBytes 8 0) s)) ∧
  (∀ via pod group b s, Serves via 0x0A05 s → namedBank pod group 0 = some b → s.test.soft = [] → s.test.map = [] →
    exec (.repairRead via pod group) s = .next (reply via 0x0A05 0x00 (beBytes 2 0 ++ beBytes 2 0) s)) ∧
  (∀ via pods hub good s, Serves via 0x0A06 s → s.test.soft = [] → s.test.map.length < 512 →
    otherRuns via 0x0A06 s = false → otherRuns via 0x0A08 s = false →
    exec (.fuseRepair via pods hub true good) s = .next (reply via 0x0A06 0x00 []
      (fuseRecords (programMap 5 [] good 0 s).1 (programMap 5 [] good 0 s).2.2))) ∧
  (∀ via pods hub good s, Serves via 0x0A06 s → s.test.map.length < 512 → otherRuns via 0x0A06 s = false →
    otherRuns via 0x0A08 s = false →
    exec (.fuseRepair via pods hub false good) s = .next (reply via 0x0A06 0x06 [] s)) ∧
  (∀ via pods hub s, Serves via 0x0A07 s → s.test.scanLocked = false → otherRuns via 0x0A07 s = false →
    exec (.scanChallenge (some via) pods hub) s = .next (reply via 0x0A07 0x00 (issueChallenge pods.toNat hub s).1
      (issueChallenge pods.toNat hub s).2)) ∧
  (∀ pods hub s, s.test.jtag = .auth → s.test.scanLocked = false → s.fw.libDead = false →
    exec (.scanChallenge none pods hub) s = .next (issueChallenge pods.toNat hub s).2) ∧
  (∀ via response ok s, Serves via 0x0A08 s → s.test.scanLocked = false → s.test.challenge.isSome = true →
    response.length = 96 → otherRuns via 0x0A06 s = false → otherRuns via 0x0A08 s = false → s.test.bist = none →
    exec (.scanAuth (some via) response ok) s = .next (reply via 0x0A08 (scanResponse response ok s).1 []
      (scanResponse response ok s).2)) ∧
  (∀ s, exec .scanChallengeExpire s = .next { s with test := { s.test with challenge := none } }) ∧
  (∀ (op : BitVec 8) s, s.pwr.lost = [] → JtagInstr.ofOpcode op.toNat = .auth →
    exec (.jtagInstruction op) s = .next { s with test := { s.test with jtag := .auth } }) ∧
  (∀ (op : BitVec 8) s, s.pwr.lost = [] → JtagInstr.ofOpcode op.toNat = .bypass →
    exec (.jtagInstruction op) s = .next (endCond .bscanCtrl .dev { s with test := { s.test with jtag := .bypass } })) ∧
  (∀ die diff s, exec (.bandgapCheck die diff) s = .next (bandgapSample die diff s)) ∧
  (∀ via bg slope inl s, Serves via 0x0A04 s →
    ∃ payload u, exec (.refCheck via bg slope inl) s = .next (reply via 0x0A04 0x00 payload u) ∧
      payload.length = 50)

/-- Chapter 16, loopback and patterns (R404 to R407, R415): where LOOP_SET, LOOPBACK_REQ_RECEIVE, LOOPBACK_ACK_RECEIVE,
LOOPBACK_DECLINE_RECEIVE, FAR_LOOPBACK_START, LOOPBACK_END_RECEIVE, PRBS_LOCK, PRBS_LOCK_LOSS, ST_PRBS_CTRL writes and PRBS_CLEAR
complete, and with what. -/
def Obligations.LoopbackCommandsComplete : Prop :=
  (∀ via p n heard s, Serves via 0x0A03 s → s.portOpen p = true → (s.port p).idleDown = true → s.portSafe p = false →
    s.calHolds p = false → diagUses s p (1#8 <<< (n : LaneId).val).toNat = false → otherRuns via 0x0A03 s = false →
    exec (.loopSet via p (1#8 <<< n.val) 1 heard) s =
      .next (reply via 0x0A03 0x00 [] (s.modLane p n fun l => l.startNearLoop .serial))) ∧
  (∀ via p n heard s, Serves via 0x0A03 s → s.portOpen p = true → (s.port p).idleDown = true → s.portSafe p = false →
    s.calHolds p = false → diagUses s p (1#8 <<< (n : LaneId).val).toNat = false → otherRuns via 0x0A03 s = false →
    (heard.any fun x => x.active s.boot.limits.quiet) = false →
    exec (.loopSet via p (1#8 <<< n.val) 2 heard) s =
      .next (reply via 0x0A03 0x00 [] (s.modLane p n fun l => l.startNearLoop .parallel))) ∧
  (∀ via p n heard s, Serves via 0x0A03 s → s.portOpen p = true → (s.port p).idleDown = true → s.portSafe p = false →
    s.calHolds p = false → diagUses s p (1#8 <<< (n : LaneId).val).toNat = false → otherRuns via 0x0A03 s = false →
    (heard.any fun x => x.active s.boot.limits.quiet) = true →
    exec (.loopSet via p (1#8 <<< n.val) 2 heard) s = .next (reply via 0x0A03 0x0A [] s)) ∧
  (∀ via p n heard s, Serves via 0x0A03 s → s.portOpen p = true → otherRuns via 0x0A03 s = false →
    (s.lane p n).test.loop = .serial →
    exec (.loopSet via p (1#8 <<< n.val) 0 heard) s =
      .next (reply via 0x0A03 0x00 [] (s.modLane p n Lane.endNearLoop))) ∧
  (∀ via p n heard s, Serves via 0x0A03 s → s.portOpen p = true → farAllowed (s.port p) n = true →
    (s.port p).loopFeature = true → (s.port p).changePending = false → (s.lane p n).test.loop = .none →
    otherRuns via 0x0A03 s = false →
    ∃ t, exec (.loopSet via p (1#8 <<< n.val) 3 heard) s = .next t ∧ (t.lane p n).test.loop = .farAsked ∧
      t.test.loopReqs = s.test.loopReqs ++ [(p, n, via)] ∧ t.fw.running = s.fw.running) ∧
  (∀ p n s, (s.port p).loopFeature = true → farAllowed (s.port p) n = true → (s.port p).changePending = false →
    (s.lane p n).test.loop = .none →
    exec (.loopbackReqReceive p n) s = .next (queueCm p 0x21 (loopPayload 2 n 0) (setLoop p n .farGranted s))) ∧
  (∀ p n s, (s.port p).loopFeature = false →
    exec (.loopbackReqReceive p n) s = .next (queueCm p 0x21 (loopPayload 3 n 1) s)) ∧
  (∀ p n s, (s.lane p n).test.loop = .farAsked →
    ∃ t, exec (.loopbackAckReceive p n) s = .next t ∧ (t.lane p n).test.loop = .farAcked ∧
      (t.lane p n).tx = (s.lane p n).tx ∧ (t.port p).link = (s.port p).link) ∧
  (∀ p n why s, (s.lane p n).test.loop = .farAsked →
    exec (.loopbackDeclineReceive p n why) s = .next (loopReqFails p n 0x05 s)) ∧
  (∀ p n s, (s.lane p n).test.loop = .farGranted →
    ∃ t, exec (.farLoopbackStart p n) s = .next t ∧ (t.lane p n).test.loop = .farServe ∧ (t.lane p n).test.genOn = false ∧
      (t.lane p n).tx.state = .data ∧ (t.lane p n).rx.phase = .joint ∧ (t.lane p n).rx.conv = false) ∧
  (∀ p n s, (s.lane p n).test.loop = .farServe →
    exec (.loopbackEndReceive p n) s = .next (s.modLane p n Lane.endFarLoop)) ∧
  (∀ p n rx s, (s.lane p n).test.chkEn = true → (s.lane p n).test.chkLock = false → prbsStarts s p n = true →
    ∃ t, exec (.prbsLock p n rx) s = .next t ∧
      (t.lane p n).test.chkLock = decide (256 ≤ (prbsHunt (s.lane p n).test.pattern (s.lane p n).test.chkReg 0 rx).2) ∧
      (t.lane p n).test.errs = (s.lane p n).test.errs ∧ (t.lane p n).test.bitCnt = (s.lane p n).test.bitCnt) ∧
  (∀ p n rx s, (s.lane p n).test.chkEn = true → (s.lane p n).test.chkLock = true → prbsAllowed s p n = true →
    ∃ t, exec (.prbsLockLoss p n rx) s = .next t ∧
      (t.lane p n).test.bitCnt = wrapAdd 48 (s.lane p n).test.bitCnt rx.length ∧
      (t.lane p n).test.errs = wrapAdd 48 (s.lane p n).test.errs
        ((prbsCompare (s.lane p n).test.pattern (s.lane p n).test.chkReg rx).2.countP id) ∧
      (t.lane p n).test.chkLock = !prbsLost (prbsCompare (s.lane p n).test.pattern (s.lane p n).test.chkReg rx).2) ∧
  (∀ who p n v s, WriteReaches who s (laneBase p n + 0x500) →
    exec (.stPrbsCtrlWrite who p n v) s = .next (writePrbsCtrl who p n v s) ∧
    ∃ t, exec (.prbsClear who p n) s = .next t ∧ (t.lane p n).test = (s.lane p n).test.clear ∧
      (t.lane p n).tx = (s.lane p n).tx ∧ (t.lane p n).rx = (s.lane p n).rx)

/-- Chapter 17, faults (R417 to R433): where FAULT_MESSAGE, EVENT_CAUSE_EXPIRE, STICKY_CLEAR, REC_ACK, REC_ACK_ALL, FLT_SEL writes,
FLT_REACT writes, FI_ARM, FI_STOP, FI_LIST, INJECTION_DELIVER and INJECT_HOLD_END complete, and with what. -/
def Obligations.FaultCommandsComplete : Prop :=
  (∀ k s, s.podOpen k = true →
    exec (.faultMessage k) s = .next (settleSafe ((nextMessage (maySend (recentMessages k s)) (s.pod k).fltQueue).1.foldl
      (fun s o => hubApply o s) (messageLeaves k s))) ∧
    ((messageLeaves k s).pod k).fltQueue = (nextMessage (maySend (recentMessages k s)) (s.pod k).fltQueue).2) ∧
  (∀ c i s, Cause.isCondition c = false → exec (.eventCauseExpire c i) s =
    .next (settleSafe (fltMod c i (fun x => { x with real := false, injLive := false }) s))) ∧
  (∀ who i v s, WriteReaches who s (fltBase i + 4) → exec (.stickyClear who i v) s = .next (written (clearSticky i v s))) ∧
  (∀ who (k : BitVec 7) s, WriteReaches who s 0x10318 →
    exec (.recAck who k) s = .next (writeRecAck who (k.setWidth 32) s) ∧
    exec (.recAckAll who) s = .next (writeRecAck who 0x80000000 s)) ∧
  (∀ who v s, WriteReaches who s 0x10200 →
    exec (.fltSelWrite who v) s = .next (writeFltSel (v &&& 0xBFFFFFFF) s) ∧
    exec (.fltSelClear who v) s = .next (writeFltSel (v ||| 0x40000000) s)) ∧
  (∀ who c v s, WriteReaches who s (0x10100 + 4 * Cause.code c) →
    exec (.fltReactWrite who c v) s = .next (writeFltReact c v s)) ∧
  (∀ via code inst delay hold c i s, Serves via 0x0901 s → s.flt.fiEn = true → namedInst s.part code inst = some (c, i) →
    delay ≤ 1000000 → 1 ≤ hold → hold ≤ 1000000 → (s.flt.armed.any fun a => a.is c i) = false → s.flt.armed.length < 16 →
    ∃ u, exec (.fiArm via code inst delay false 0 0 hold) s = .next (reply via 0x0901 0x00 []
        (ledgerAppend 0x24 code 0 (fiBytes code inst delay false 0 0 hold) u)) ∧
      u.flt.armed = s.flt.armed ++ [{ cause := c, inst := i, delay := delay, repeatMode := false, period := 0, left := 1,
                                      hold := hold }] ∧ u.ports = s.ports) ∧
  (∀ via code inst delay rep period count hold s, Serves via 0x0901 s → s.flt.fiEn = false →
    exec (.fiArm via code inst delay rep period count hold) s = .next (reply via 0x0901 0x05 [] s)) ∧
  (∀ via a rest s, Serves via 0x0902 s → s.flt.fiEn = true → s.flt.armed = a :: rest →
    exec (.fiStop via none) s = .next (reply via 0x0902 0x00 [] { s with flt := { s.flt with armed := [] } })) ∧
  (∀ via s, Serves via 0x0903 s → s.flt.fiEn = true →
    exec (.fiList via) s = .next (reply via 0x0903 0x00
      (s.flt.armed.flatMap fun a => beBytes 1 a.cause.code ++ beBytes 2 a.inst.num ++ beBytes 2 a.left) s)) ∧
  (∀ c i a s, s.flt.armed = [a] → a.is c i = true → a.left = 1 →
    exec (.injectionDeliver c i) s = .next (raiseInjected c i i.detail { s with flt := { s.flt with armed := [] } })) ∧
  (∀ c i a s, s.flt.armed = [a] → a.is c i = true → 2 ≤ a.left →
    exec (.injectionDeliver c i) s = .next (raiseInjected c i i.detail
      { s with flt := { s.flt with armed := [{ a with left := a.left - 1 }] } })) ∧
  (∀ c i s, exec (.injectHoldEnd c i) s = .next (settleSafe (fltMod c i (fun x => { x with injLive := false }) s)))

/-- Chapter 18, stack links (R438 to R448, R453, R454, R476): where STACK_CLOCK_DETECT, STACK_LANE_LOCK, STACK_PORT_ALIGN,
STACK_ALIGN_TIMEOUT, STACK_LANE_LOCK_LOSS, STACK_SOF_RECEIVE, STACK_SOF_SEND, HELLO_SEND, HELLO_RECEIVE, STACK_LINK_TIMEOUT,
STACK_LINK_FAIL, STACK_MSG_RECEIVE, LINK_ACK_RECEIVE, LINK_ACK_SEND and STACK_RESEND_TIMEOUT complete, and with what. -/
def Obligations.StackLinkCommandsComplete : Prop :=
  (∀ p s, (s.stk p).state = .clock → s.clk.stkLock = true →
    stackPllSource s.clk (s.modStk p fun x => { x with rclk := true }).upstreamClock = s.clk.stkSrc →
    exec (.stackClockDetect p) s = .next (stkToLock p (s.modStk p fun x => { x with rclk := true }))) ∧
  (∀ p s, (s.stk p).state ≠ .off →
    ∃ t, exec (.stackClockDetect p) s = .next t ∧ (t.stk p).rclk = true ∧
      t.clk.stkSrc = stackPllSource s.clk (s.modStk p fun x => { x with rclk := true }).upstreamClock ∧ t.ports = s.ports) ∧
  (∀ p (d : Fin 4) sofs centre s, (s.stk p).state = .lock → sofsLock sofs = true →
    (s.stk p).lockMask ||| (1#4 <<< d.val) = 0xF →
    ∃ t, exec (.stackLaneLock p d sofs true centre) s = .next t ∧ (t.stk p).state = .align ∧ (t.stk p).lockMask = 0xF ∧
      (t.stk p).polInv = (s.stk p).polInv ||| (1#4 <<< d.val) ∧
      (∀ q, q ≠ p → t.stk q = s.stk q) ∧ t.ports = s.ports) ∧
  (∀ p spread frame s, (s.stk p).state = .align → spread ≤ 4 →
    ∃ t, exec (.stackPortAlign p spread frame (~~~frame)) s = .next t ∧ (t.stk p).state = .hello ∧
      (t.stk p).laneErr = false ∧ (∀ q, q ≠ p → t.stk q = s.stk q)) ∧
  (∀ p s, (s.stk p).state = .align →
    ∃ t, exec (.stackAlignTimeout p) s = .next t ∧ t.stk p = { ((stkToLock p s).stk p) with laneErr := true }) ∧
  (∀ p (d : Fin 4) missed errored s, (s.stk p).state = .lock → (4 ≤ missed ∨ 64 ≤ errored) →
    ∃ t, exec (.stackLaneLockLoss p d missed errored) s = .next t ∧ (t.stk p).state = .lock ∧
      (t.stk p).lockMask = (s.stk p).lockMask &&& ~~~(1#4 <<< d.val) ∧
      (t.stk p).symErr = min 4095 ((s.stk p).symErr + errored)) ∧
  (∀ p (d : Fin 4) missed errored s, (s.stk p).state = .up → (4 ≤ missed ∨ 64 ≤ errored) →
    exec (.stackLaneLockLoss p d missed errored) s =
      .next (stkFail p false (s.modStk p fun x => { x with symErr := Nat.min 4095 (x.symErr + errored) }))) ∧
  (∀ p frame dt s, (s.stk p).state = .up → s.stack.upstream = some p →
    exec (.stackSofReceive p frame dt) s = .next { s with stack := { s.stack with frameIn := frame.toNat } }) ∧
  (∀ p frame dt s, (s.stk p).state = .up → s.stack.upstream ≠ some p → (s.stk p).role = .downstream →
    ∃ t, exec (.stackSofReceive p frame dt) s = .next t ∧ t.time.rtt[(p : StackPortId).val] = (dt :: s.time.rtt[p.val]).take 16 ∧
      t.stack = s.stack) ∧
  (∀ residence cols spoil s, s.clk.stkLock = true → s.isMaster = true → s.stack.sofSent = true →
    ∃ t, exec (.stackSofSend residence cols spoil) s = .next t ∧ t.stack.frame = (s.stack.frame + 1) % 2 ^ 32 ∧
      t.stack.sofTime = s.uptime ∧ t.ports = s.ports ∧
      ∀ p, t.stk p = (s.stk p).sendFrame ((s.stack.frame + 1) % 2 ^ 32) 1000 (spoil.getLsbD p.val)) ∧
  (∀ residence cols spoil s, s.clk.stkLock = true → s.isMaster = true → s.stack.sofSent = false →
    ∃ t, exec (.stackSofSend residence cols spoil) s = .next t ∧ t.stack.frame = 0 ∧ t.stack.sofSent = true) ∧
  (∀ residence cols spoil s, s.clk.stkLock = true → s.isMaster = false → s.upstreamUp = true →
    ∃ t, exec (.stackSofSend residence cols spoil) s = .next t ∧ t.stack.frame = s.stack.frameIn ∧
      ∀ p, t.stk p = (s.stk p).sendFrame s.stack.frameIn (max 999 (min 1001 cols)) (spoil.getLsbD p.val)) ∧
  (∀ p s, ((s.stk p).state = .hello ∨ (s.stk p).state = .up) → exec (.helloSend p) s =
    .next (s.modStk p fun x => { x with lastOut := some (stkLocal 0x50 (helloBytes p s) s),
                                         queue := x.queue ++ [stkLocal 0x50 (helloBytes p s) s] })) ∧
  (∀ p h s, (s.stk p).state = .hello → h.peer ≠ Config.uid →
    exec (.helloReceive p h) s = .next (s.modStk p fun x => { x with partner := some h })) ∧
  (∀ p h s, (s.stk p).state = .hello → h.peer = Config.uid →
    exec (.helloReceive p h) s = .next (stkUp p h (s.modStk p fun x => { x with partner := some h }))) ∧
  (∀ p h s, (s.stk p).state = .up →
    exec (.helloReceive p h) s = .next (judgeRole p h (s.modStk p fun x => { x with partner := some h }))) ∧
  (∀ p s, exec (.stackLinkTimeout p) s = .next (stkFail p false s)) ∧
  (∀ p lost s, exec (.stackLinkFail p lost) s = .next (stkFail p lost s)) ∧
  (∀ p quads s, (s.stk p).state = .up → (stkReassemble (stkColumns (s.stk p).polInv quads)).bind stkParse = none →
    exec (.stackMsgReceive p quads) s = .next (stkDiscard p
      (s.modStk p fun x => { x with symErr := Nat.min 4095 (x.symErr + ((stkColumns (s.stk p).polInv quads).map StkCol.groups).sum) }))) ∧
  (∀ p quads msg s, (s.stk p).state = .up → (stkReassemble (stkColumns (s.stk p).polInv quads)).bind stkParse = some msg → stkSequenced msg.typ = true →
    msg.lseq = (s.stk p).rxSeq → (s.stk p).toAck < 7 → (stkClass msg.typ).isNone = false →
    exec (.stackMsgReceive p quads) s = .next (stkRouteOn p msg (s.modStk p fun x =>
      { x with symErr := Nat.min 4095 (x.symErr + ((stkColumns (s.stk p).polInv quads).map StkCol.groups).sum),
               rxSeq := (x.rxSeq + 1) % 256, toAck := x.toAck + 1 }))) ∧
  (∀ p quads msg s, (s.stk p).state = .up → (stkReassemble (stkColumns (s.stk p).polInv quads)).bind stkParse = some msg → stkSequenced msg.typ = true →
    msg.lseq = (s.stk p).rxSeq → (s.stk p).toAck < 7 → (stkClass msg.typ).isNone = false →
    (msg.dst = 0xFFFE ∨ s.stack.id = some msg.dst) →
    ∃ t, exec (.stackMsgReceive p quads) s = .next t ∧ (t.stk p).rxSeq = ((s.stk p).rxSeq + 1) % 256 ∧
      (t.stk p).toAck = (s.stk p).toAck + 1 ∧ (t.stk p).msgErr = (s.stk p).msgErr ∧ t.stack.id = s.stack.id ∧
      (∀ q, q ≠ p → t.stk q = s.stk q) ∧ t.ports = s.ports) ∧
  (∀ p quads msg s, (s.stk p).state = .up → (stkReassemble (stkColumns (s.stk p).polInv quads)).bind stkParse = some msg → stkSequenced msg.typ = true →
    msg.lseq = (s.stk p).rxSeq → (s.stk p).toAck < 7 → (stkClass msg.typ).isNone = true →
    ∃ t, exec (.stackMsgReceive p quads) s = .next t ∧ (t.stk p).rxSeq = ((s.stk p).rxSeq + 1) % 256 ∧
      (t.stk p).toAck = (s.stk p).toAck + 1 ∧ (t.stk p).msgErr = satAdd 8 (s.stk p).msgErr 1) ∧
  (∀ p quads msg s, (s.stk p).state = .up → (stkReassemble (stkColumns (s.stk p).polInv quads)).bind stkParse = some msg → stkSequenced msg.typ = true →
    msg.lseq ≠ (s.stk p).rxSeq →
    exec (.stackMsgReceive p quads) s = .next (linkAck p true
      (s.modStk p fun x => { x with symErr := Nat.min 4095 (x.symErr + ((stkColumns (s.stk p).polInv quads).map StkCol.groups).sum) }))) ∧
  (∀ p (next : BitVec 8) s, (s.stk p).state = .up → next.toNat = (s.stk p).txSeq →
    ∃ u : State, exec (.linkAckReceive p next false) s = .next u ∧
      exec (.linkAckReceive p next true) s = .next (stkResend p u) ∧ (∀ q, q ≠ p → u.stk q = s.stk q) ∧
      u.ports = s.ports) ∧
  (∀ p s, (s.stk p).state = .up → 0 < (s.stk p).toAck → exec (.linkAckSend p) s = .next (linkAck p false s)) ∧
  (∀ p s, exec (.stackResendTimeout p) s = .next (stkResend p s))

/-- Chapter 18, enumeration (R449 to R452, R454): where ENUM_RUN_START, DISCOVER_RECEIVE, PARENT_CHOOSE, REPORT_RECEIVE, REPORT_DUE,
ASSIGN_RECEIVE, TOPO_CHANGE_RECEIVE, ORPHAN_NOTICE_RECEIVE, STK_ENUM and STK_RENUMBER complete, and with what. -/
def Obligations.EnumerationCommandsComplete : Prop :=
  (∀ s, s.stack.busy = false → (s.stack.wantCmd = true ∨ (s.stack.wanted = true ∧ s.stack.autoEnum = true)) →
    exec .enumRunStart s = .next (enumStart s)) ∧
  (∀ s, s.stack.busy = false → s.isMaster = true → (enumStart s).stack.gen = (s.stack.gen + 1) % 65536) ∧
  (∀ p (gen : BitVec 16) depth master renumber s, s.isMaster = false → (s.stk p).enumerable = true → depth < 8 →
    s.stack.master = 0 → (s.stack.genSeen = false ∨ laterGen16 gen.toNat s.stack.gen = true) →
    ∃ t, exec (.discoverReceive p gen depth master renumber) s = .next t ∧ t.stack.gen = gen.toNat ∧ t.stack.busy = true ∧
      t.stack.runMaster = master ∧ t.stack.runRenumber = renumber ∧ t.stack.parent = none ∧ (t.stk p).disc = some depth ∧
      t.ports = s.ports) ∧
  (∀ p gen depth master renumber s, s.isMaster = true →
    exec (.discoverReceive p gen depth master renumber) s = .next s) ∧
  (∀ p d s, s.stack.busy = true → s.isMaster = false → s.stack.parent = none → bestParent s = some (p, d) →
    s.stack.runRenumber = false → d < 7 →
    ∃ u : State, exec .parentChoose s = .next (reportTry false
        (allStk.foldl (fun s r => if r ≠ p && (s.stk r).disc.isSome then answerStandby r s else s)
          (forwardDiscover (some p) (d + 1) u))) ∧
      u.stack.parent = some p ∧ u.stack.depth = some (d + 1) ∧ u.stack.id = s.stack.id ∧
      u.stack.master = s.stack.master ∧ (∀ q, u.stk q = s.stk q)) ∧
  (∀ p (gen : BitVec 16) r s, s.stack.busy = true → gen.toNat = s.stack.gen → (s.stk p).fwd = true →
    exec (.reportReceive p gen r) s = .next (reportTry false (s.modStk p fun x => { x with report := some r }))) ∧
  (∀ expired s, exec (.reportDue expired) s = .next (reportTry expired s)) ∧
  (∀ p (gen : BitVec 16) k rest s, s.stack.busy = true → s.stack.reported = true → gen.toNat = s.stack.gen →
    s.stack.parent = some p → s.stack.id = none → k < 1024 →
    ∃ u : State, exec (.assignReceive p gen (k :: rest)) s = .next (releaseHeld (endEnum u)) ∧ u.stack.id = some k ∧
      u.stack.master = s.stack.runMaster) ∧
  (∀ p s, s.isMaster = true → s.stackUp p = true → exec (.topoChangeReceive p) s = .next (topoChange s)) ∧
  (∀ p s, s.stack.upstream = some p → s.isMaster = false → exec (.orphanNoticeReceive p) s =
    .next (orphanNotice { s with stack := { s.stack with orphan := true } })) ∧
  (∀ via s, Serves via 0x0501 s → s.isMaster = true → s.stack.busy = true → exec (.stkEnum via) s =
    .next (reply via 0x0501 0x00 [] { s with stack := { s.stack with wantCmd := true } })) ∧
  (∀ via s, Serves via 0x0501 s → s.isMaster = true → s.stack.busy = false →
    exec (.stkEnum via) s = .next (reply via 0x0501 0x00 [] (enumStart s))) ∧
  (∀ via s, Serves via 0x0502 s → s.isMaster = true → s.stack.busy = false → exec (.stkRenumber via) s =
    .next (reply via 0x0502 0x00 [] (enumStart { s with stack := { s.stack with wantRenumber := true } }))) ∧
  (∀ via s, Serves via 0x0502 s → s.isMaster = false → exec (.stkRenumber via) s = .next (reply via 0x0502 0x07 [] s))

/-- Chapter 18, fault reports and the tunnel (R455 to R458, R507): where FAULT_WINDOW_CLOSE, FAULT_REPORT_RECEIVE, MGMT_REQ_RECEIVE,
MGMT_RESP_RECEIVE, TUNNEL_TIMEOUT, STK_TUNNEL, STK_PORT_INFO, STK_FREC_READ and LEDGER_ANCHOR_RECEIVE complete, and with what. -/
def Obligations.StackMessageCommandsComplete : Prop :=
  (∀ w s, closedWindow s.stack.frame (s.stack.depth.getD 8) = some w → s.isMaster = true →
    exec .faultWindowClose s = .next ((s.stack.entries.filter (windowClosed w)).foldl (fun s e => stackRecord e s)
      { s with stack := { s.stack with entries := s.stack.entries.filter (fun e => !windowClosed w e), closedTo := w + 1 } })) ∧
  (∀ w s, closedWindow s.stack.frame (s.stack.depth.getD 8) = some w → s.isMaster = false → s.hasPath = false →
    ∃ t, exec .faultWindowClose s = .next t ∧ t.stack.closedTo = w + 1 ∧
      t.stack.entries = foldOldest 256 (s.stack.entries.filter (windowClosed w))
        ++ s.stack.entries.filter (fun e => !windowClosed w e) ∧ t.ports = s.ports) ∧
  (∀ p entries s, (s.stk p).role = .downstream → s.stackUp p = true → s.isMaster = true → 0 < s.stack.closedTo →
    ∃ t, exec (.faultReportReceive p entries) s = .next t ∧
      t.stack.entries = (entries.map fun e => { e with own := false }).foldl (fun l e => aggAdd e l) s.stack.entries ∧
      t.stack.late = satAdd 8 s.stack.late (entries.countP (windowClosed (s.stack.closedTo - 1))) ∧ t.ports = s.ports) ∧
  (∀ src tag frag last data l s, tunnelAdd src tag frag last data s.stack.tunIn = (l, none) →
    exec (.mgmtReqReceive src tag frag last data) s = .next { s with stack := { s.stack with tunIn := l } }) ∧
  (∀ src tag frag last data l bytes s, tunnelAdd src tag frag last data s.stack.tunIn = (l, some bytes) →
    exec (.mgmtReqReceive src tag frag last data) s = .next (acceptPacket (.tunnel src tag) s.stack.acceptTunnel bytes
      { s with stack := { s.stack with tunIn := l } })) ∧
  (∀ src tag frag last data t l bytes s, (s.stack.tunOut.find? fun t => t.tag == tag && t.dst == src) = some t →
    tunnelAdd src tag frag last data s.stack.respIn = (l, some bytes) →
    exec (.mgmtRespReceive src tag frag last data) s = .next (reply t.origin 0x0503 (beNat ((bytes.drop 6).take 1)) bytes
      { s with stack := { s.stack with respIn := l, tunOut := s.stack.tunOut.erase t } })) ∧
  (∀ tag t s, (s.stack.tunOut.find? fun t => t.tag == tag) = some t →
    exec (.tunnelTimeout tag) s = .next (reply t.origin 0x0503 0x06 []
      { s with stack := { s.stack with tunOut := s.stack.tunOut.erase t,
                                       respIn := s.stack.respIn.filter fun b => b.tag != tag } })) ∧
  (∀ via dst packet s, Serves via 0x0503 s → 8 ≤ packet.length → packet.length ≤ 4096 → dstHeld s dst = true →
    s.stack.id ≠ some dst →
    ∃ u : State, exec (.stkTunnel via dst packet) s =
        .next ((stkFragments 0x30 dst s.stack.tunTag packet u).foldl (fun s m => stkDeliver m s) u) ∧
      u.stack.tunTag = (s.stack.tunTag + 1) % 256 ∧
      u.stack.tunOut = s.stack.tunOut ++ [{ tag := s.stack.tunTag, dst := dst, origin := via }] ∧ u.fw = s.fw) ∧
  (∀ via dst packet s, Serves via 0x0503 s → 8 ≤ packet.length → packet.length ≤ 4096 → dstHeld s dst = true →
    s.stack.id = some dst →
    ∃ t, exec (.stkTunnel via dst packet) s = .next t ∧
      t.fw.waiting = s.fw.waiting ++ [(.tunnel dst s.stack.tunTag, packet)] ∧ t.ports = s.ports) ∧
  (∀ via s, Serves via 0x0504 s →
    ∃ payload, exec (.stkPortInfo via) s = .next (reply via 0x0504 0x00 payload s) ∧ payload.length = 56) ∧
  (∀ via count s, Serves via 0x0505 s → 1 ≤ count → count ≤ 32 → s.isMaster = true →
    exec (.stkFrecRead via count) s = .next (reply via 0x0505 0x00
      (beBytes 1 (s.stack.recs.take count).length ++ (s.stack.recs.take count).flatMap AggEntry.bytes)
      { s with stack := { s.stack with recs := s.stack.recs.drop count } })) ∧
  (∀ member uid accession chain s, s.isMaster = true → exec (.ledgerAnchorReceive member uid accession chain) s =
    .next (ledgerAppend 0x28 member 0 (beBytes 8 uid.toNat ++ beBytes 8 accession ++ beBytes 48 chain.toNat) s))

/-- Chapter 19, time (R464 to R483): where TIME_CFG and TIME_RATE writes, TIME_SET, TIME_STEP, TIME_PTP_SAMPLE, TIME_STATUS,
TIME_HOLDOVER_TIMEOUT, PPS_IN_EDGE, PPS_OUT_PULSE, PPS_OUT_FALL, TIME_FRAME_SEND, TIME_FRAME_RECEIVE, TIME_SYNC_SEND,
TIME_SYNC_RECEIVE, TS_ENTRY_READ, TIME_NOW reads and PPSIN reads complete, and with what. -/
def Obligations.TimeCommandsComplete : Prop :=
  (∀ who v s, WriteReaches who s 0x20000 → exec (.timeCfgWrite who v) s = .next (writeTimeCfg v s)) ∧
  (∀ who v s, WriteReaches who s 0x20008 → exec (.timeRateWrite who v) s = .next (writeTimeRate who v s)) ∧
  (∀ via sec ns frac s, Serves via 0x0601 s → sec < 2 ^ 48 → ns < 1000000000 → frac < 65536 → s.time.src ≠ 4 →
    s.time.run = true →
    exec (.timeSet via sec ns frac) s =
      .next (reply via 0x0601 0x00 [] (timeLoad (sec * secUnits + ns * 2 ^ 40 + frac * 2 ^ 24) s))) ∧
  (∀ via ns s, Serves via 0x0602 s → -2147483648 ≤ ns → ns ≤ 2147483648 → s.time.src ≠ 4 → s.time.run = true →
    exec (.timeStep via ns) s = .next (reply via 0x0602 0x00 [] (timeAdd (ns * 2 ^ 40) s))) ∧
  (∀ via t1 t2 t3 t4 corr s, Serves via 0x0603 s → s.time.stamps.contains t2 = true → s.time.stamps.contains t3 = true →
    s.time.src = 1 → s.time.run = true →
    exec (.timePtpSample via t1 t2 t3 t4 corr) s = .next (reply via 0x0603 0x00 []
      (timeSample false (-((((t2 : Int) - t1) - ((t4 : Int) - t3) - corr) / 2)) s))) ∧
  (∀ via s, Serves via 0x0604 s → exec (.timeStatus via) s = .next (reply via 0x0604 0x00
    (beBytes 1 s.time.state.code ++ beBytes 1 s.time.src ++ beBytes 4 (unsigned 32 s.time.ofs)
      ++ beBytes 4 (unsigned 32 s.time.adj) ++ beBytes 1 s.time.epoch) s)) ∧
  (∀ s, s.time.state = .locked → exec .timeHoldoverTimeout s = .next (timeToHoldover s)) ∧
  (∀ s, bitOf s.clk.gate 10 = true → s.time.src ≠ 2 →
    exec .ppsInEdge s = .next (s.modTime fun t => { t with ppsIn := s.time.ctr, ppsNew := true })) ∧
  (∀ f : Nat, ∀ s, bitOf s.clk.gate 10 = true → s.time.src = 2 → s.time.run = true → s.fw.clerk = .running →
    s.time.ctr % secUnits / 2 ^ 24 = f → f ≤ 6553600000 →
    exec .ppsInEdge s = .next (timeSample false (-(f : Int)) (s.modTime fun t => { t with ppsIn := s.time.ctr, ppsNew := true }))) ∧
  (∀ s, s.time.ppsAllowed = true → s.time.reached < s.time.boundary → s.time.pulsed.contains s.time.boundary = false →
    exec .ppsOutPulse s = .next (s.modTime fun t =>
      { t with ppsOut := true, reached := s.time.boundary, pulsed := s.time.boundary :: t.pulsed })) ∧
  (∀ s, exec .ppsOutFall s = .next (s.modTime fun t => { t with ppsOut := false })) ∧
  (∀ p a b sent recv s, (s.port p).snd.path = .native → bitOf (s.port p).time.tsCtrl 2 = true →
    (s.port p).time.sentAl = a :: sent → (s.port p).time.recvAl = b :: recv →
    exec (.timeFrameSend p) s =
      .next (queueCm p 0x30 (beBytes 4 a.1 ++ time12 a.2 ++ beBytes 4 b.1 ++ time12 b.2) s)) ∧
  (∀ p slotTx t1 slotRx t2 a b s, (s.port p).snd.path = .native → bitOf (s.port p).time.tsCtrl 2 = true →
    ((s.port p).time.sentAl.find? fun a => a.1 == slotRx) = some a →
    ((s.port p).time.recvAl.find? fun a => a.1 == slotTx) = some b → s.time.src ≠ 3 →
    ∃ t, exec (.timeFrameReceive p slotTx t1 slotRx t2) s = .next t ∧
      (t.port p).time.ofs = ((((timeTo16 b.2 : Int) - t1) - ((t2 : Int) - timeTo16 a.2)) / 2) / 256 ∧
      (t.port p).time.dly = ((((timeTo16 b.2 : Int) - t1) + ((t2 : Int) - timeTo16 a.2)) / 2) / 256 ∧
      (t.port p).link = (s.port p).link ∧ t.time = s.time) ∧
  (∀ f res own s, s.time.lastSof = some (f, res, own) → s.timeValid = true → f % 16 = 0 →
    exec .timeSyncSend s = .next (allStk.foldl (fun s p =>
      if (s.stk p).state = .up && (s.stk p).role = .downstream && !(s.time.rtt[p.val]).isEmpty then
        stkSend p (stkLocal 0x20 (beBytes 4 f ++ time12 own ++ beBytes 4 (rttMean s.time.rtt[p.val])) s) s
      else s) s)) ∧
  (∀ f t r res own s, s.time.lastSof = some (f, res, own) → s.time.run = true → s.time.src = 4 → s.upstreamUp = true →
    exec (.timeSyncReceive f t r) s =
      .next (timeSample true ((t : Int) + ((r + res) / 2 : Nat) - timeTo16 own) s)) ∧
  (∀ who p s, accessible s (portBase p + 0xE10) = true → exec (.tsEntryRead who p) s = .next (spiData who (readTsEntry p s))) ∧
  (∀ who s, accessible s 0x20010 = true → exec (.timeNowRead who) s = .next (spiData who (readTimeNow who s))) ∧
  (∀ who s, accessible s 0x20024 = true → exec (.ppsinRead who) s = .next (spiData who (readPpsin s)))

/-- Chapter 20, the mailbox and the processors (R484 to R486, R490 to R500): where MBX_DOORBELL and MBX_RELEASE writes,
COMMAND_START, COMMAND_TIMEOUT, FAR_CMD, FAR_REQUEST_RECEIVE, FAR_REPLY_RECEIVE, FAR_CMD_TIMEOUT, CLERK_WATCHDOG_EXPIRE,
CLERK_RESTART_DONE, FIREWALL_VIOLATION, LIB_ROM_CHECK, LIB_FIREWALL_CHECK and LIB_WATCHDOG_EXPIRE complete, and with what. -/
def Obligations.FirmwareCommandsComplete : Prop :=
  (∀ who v s, WriteReaches who s 0x58000 → exec (.mbxDoorbell who v) s = .next (writeDoorbell who v s)) ∧
  (∀ who v s, WriteReaches who s 0x58004 → exec (.mbxRelease who v) s = .next (writeRelease who v s)) ∧
  (∀ (n : SlotId) port ok op s, s.fw.slots[n.val].state = .posted → op = beNat (memReadList s.fw.mem (slotBase n) 2) →
    secondOfLong s n = false → postedBefore s n (libGroup op) = false → mayStart op port s = true →
    exec (.commandStart (.slot n) port ok) s = .next (startPacket (.slot n) op port ok s)) ∧
  (∀ via r s, (s.fw.running.find? fun r => r.origin = via) = some r →
    exec (.commandTimeout via) s = .next (endCommand r 0x06 s)) ∧
  (∀ via p packet s, Serves via 0x0102 s → s.portOpen p = true → packet.length ≤ 1016 → (s.port p).farOpen = true →
    (s.fw.far.any fun f => f.1 = p) = false →
    ∃ u : State, exec (.farCmd via p packet) s = .next (sendMgmt p 0x01 s.fw.farTag packet u) ∧
      u.fw.far = s.fw.far ++ [(p, s.fw.farTag, via)] ∧ u.fw.farTag = (s.fw.farTag + 1) % 256 ∧ u.ports = s.ports) ∧
  (∀ p session tag frag last data l s, (s.port p).farTakes session = true →
    farAdd p tag frag last data s.fw.farIn = (l, none) →
    exec (.farRequestReceive p session tag frag last data) s = .next { s with fw := { s.fw with farIn := l } }) ∧
  (∀ p session tag frag last data s, (s.port p).farTakes session = false →
    exec (.farRequestReceive p session tag frag last data) s = .next s) ∧
  (∀ p session tag frag last data l bytes s, (s.port p).farTakes session = true →
    farAdd p tag frag last data s.fw.farIn = (l, some bytes) →
    bitOf s.fw.mbxCtrl 1 = true → farPermits (beNat (bytes.take 2)) = true →
    exec (.farRequestReceive p session tag frag last data) s = .next { s with fw := { s.fw with
      farIn := l, waiting := s.fw.waiting ++ [(.farEnd p tag, bytes)] } }) ∧
  (∀ p session tag frag last data f l bytes s, (s.port p).farTakes session = true → (s.fw.far.find? fun f => f.1 = p && f.2.1 == tag) = some f →
    farAdd p tag frag last data s.fw.farResp = (l, some bytes) →
    exec (.farReplyReceive p session tag frag last data) s = .next (reply f.2.2 0x0102 0x00 bytes
      { s with fw := { s.fw with farResp := l, far := s.fw.far.erase f } })) ∧
  (∀ p f s, (s.fw.far.find? fun f => f.1 = p) = some f →
    exec (.farCmdTimeout p) s = .next (reply f.2.2 0x0102 0x06 [] { s with fw := { s.fw with
      far := s.fw.far.erase f, farResp := s.fw.farResp.filter fun b => b.port ≠ p } })) ∧
  (∀ s, s.clerkRuns = true →
    ∃ u : State, u = endClerkCommands 0x09 (raise .clerkWdog .dev 0 s) ∧
      ((u.fw.restartTimes.filter fun t => u.nowNs < t + 60000000000).length < u.fw.config.giveUp →
        ∃ t, exec .clerkWatchdogExpire s = .next t ∧ t.fw.clerk = .restarting ∧
          t.fw.restarts = satAdd 8 u.fw.restarts 1 ∧ t.ledger = u.ledger) ∧
      (u.fw.config.giveUp ≤ (u.fw.restartTimes.filter fun t => u.nowNs < t + 60000000000).length →
        ∃ t, exec .clerkWatchdogExpire s = .next t ∧ t.fw.clerk = .givenUp ∧ t.fw.restarts = u.fw.restarts ∧
          bitOf t.clk.gate 9 = false)) ∧
  (∀ stored s, s.fw.clerk = .restarting → s.boot.configDone = true → exec (.clerkRestartDone stored) s =
    .next (if restartFwOk stored s then { s with fw := { s.fw with clerk := .running, violSeen := false } } else s)) ∧
  (∀ stored s, s.fw.clerk = .restarting → s.boot.configDone = false →
    ∃ t, exec (.clerkRestartDone stored) s = .next (if restartFwOk stored s then t else s) ∧ t.fw.clerk = .starting ∧
      t.boot.stageCEnd = false ∧ t.boot.stageCPos = 0 ∧ t.ports = s.ports) ∧
  (∀ addr core s, s.clerkRuns = true → s.fw.violSeen = true →
    exec (.firewallViolation addr core) s = .next { s with fw := { s.fw with viol := satAdd 16 s.fw.viol 1, violSeen := true } }) ∧
  (∀ addr (core : Fin 4) s, s.clerkRuns = true → s.fw.violSeen = false →
    exec (.firewallViolation addr core) s = .next (ledgerAppend 0x26 0 0 (beBytes 8 addr.toNat ++ beBytes 1 core.val)
      { s with fw := { s.fw with viol := satAdd 16 s.fw.viol 1, violSeen := true } })) ∧
  (∀ s, s.boot.inReset = false → exec (.libRomCheck false) s = .next (libIntegrity 1 s) ∧
    exec (.libFirewallCheck false) s = .next (libIntegrity 3 s) ∧ exec .libWatchdogExpire s = .next (libIntegrity 5 s)) ∧
  (∀ s, exec (.libRomCheck true) s = .next s ∧ exec (.libFirewallCheck true) s = .next s)

/-- Chapter 20, the ledger (R501 to R511): where LEDGER_INFO, LEDGER_READ, LEDGER_SEAL, LEDGER_NOTE, ATTEST_QUOTE, CERT_READ,
KEY_REVOKE, SEAL_DUE, COUNTERS_RECORD_DUE, WITNESS_SEND and ALLOWANCE_REFILL complete, and with what. -/
def Obligations.LedgerCommandsComplete : Prop :=
  (∀ via s, Serves via 0x0801 s → s.ledger.ring = [] → s.ledger.reserveOk = false →
    exec (.ledgerInfo via) s = .next (reply via 0x0801 0x00 (beBytes 8 0 ++ beBytes 8 (2 ^ 64 - 1) ++ beBytes 8 s.ledger.newest
      ++ beBytes 8 s.ledger.newestSealed ++ beBytes 8 s.ledger.ctr ++ beBytes 4 (131072 - s.ledger.ctr)
      ++ beBytes 4 s.ledger.stat.toNat) s)) ∧
  (∀ via first count s, Serves via 0x0802 s → 1 ≤ count → count ≤ 21 →
    exec (.ledgerRead via first count) s = .next (reply via 0x0802 0x00 (beBytes 1 (ledgerFind s.ledger first count).length
      ++ (ledgerFind s.ledger first count).flatMap LedgerRec.bytes) s)) ∧
  (∀ via first s, Serves via 0x0802 s → exec (.ledgerRead via first 22) s = .next (reply via 0x0802 0x03 [] s)) ∧
  (∀ via ok s, Serves via 0x0803 s → s.ledger.run = true → exec (.ledgerSeal via ok) s =
    .next (reply via 0x0803 0x00 (beBytes 8 (ledgerMakeSeal ok s).ledger.sealAcc) (ledgerMakeSeal ok s))) ∧
  (∀ via text s, Serves via 0x0804 s → 1 ≤ text.length → text.length ≤ 96 → s.ledger.run = true → s.ledger.allowance ≠ 0 →
    exec (.ledgerNote via text) s = .next (reply via 0x0804 0x00 (beBytes 8 (ledgerAppend 0x27 0 4 text s).ledger.newest)
      (ledgerAppend 0x27 0 4 text s))) ∧
  (∀ via text s, Serves via 0x0804 s → 1 ≤ text.length → text.length ≤ 96 → s.ledger.run = true → s.ledger.allowance = 0 →
    exec (.ledgerNote via text) s = .next (reply via 0x0804 0x01 [] s)) ∧
  (∀ via nonce s, Serves via 0x0805 s → nonce.length = 48 → exec (.attestQuote via nonce) s =
    .next (reply via 0x0805 0x00 (quoteHead nonce s ++ beBytes 96 (Config.sign (quoteHead nonce s)).toNat) s)) ∧
  (∀ via chunk s, Serves via 0x0806 s → chunk ≤ 1 →
    ∃ payload, exec (.certRead via chunk) s = .next (reply via 0x0806 0x00 payload { s with fresh := s.fresh + 2048 }) ∧
      payload.length = 2048 ∧
      (∀ i, i < 2048 → chunk * 2048 + i < 3072 → payload[i]? = some (Config.certByte (chunk * 2048 + i)))) ∧
  (∀ via slot sig s, Serves via 0x0807 s → slot ≤ 3 → sig.length = 96 → s.fw.revoked.testBit slot = false →
    ∃ u : State, exec (.keyRevoke via slot sig true) s = .next
        (if ((List.range 4).filter fun k => decide (k ≠ slot) && !s.fw.revoked.testBit k).any
            (fun k => Config.verifyKey k (revokeMessage slot) sig) = true
          then reply via 0x0807 0x00 [] (imageRecord 5 slot s.bootedHdr u) else reply via 0x0807 0x05 [] s) ∧
      u.fw.revoked = s.fw.revoked ||| (1 <<< slot) ∧ u.ledger = s.ledger ∧ u.ports = s.ports) ∧
  (∀ ok s, s.ledger.run = true → s.ledger.unsealed.length ≤ (openRecs s.ledger.unsealed).length →
    exec (.sealDue ok) s = .next (ledgerMakeSeal ok s)) ∧
  (∀ ok s, s.ledger.run = true → (openRecs s.ledger.unsealed).length < s.ledger.unsealed.length →
    exec (.sealDue ok) s = .next (ledgerProgram ok s)) ∧
  (∀ s, s.ledger.run = true → ∃ t, exec .countersRecordDue s = .next t ∧
    (∀ p, (t.port p).ctr = { PortCtr.zero with since := s.uptime }) ∧ (∀ p, (t.port p).link = (s.port p).link)) ∧
  (∀ id acc chain s, s.stack.id = some id → s.ledger.lastSeal = some (acc, chain) → s.isMaster = false →
    ∃ m, exec .witnessSend s = .next (stkDeliver m s) ∧ m.typ = 0x40 ∧ m.dst = 0 ∧ m.src = s.srcId ∧
      m.payload = beBytes 8 Config.uid.toNat ++ beBytes 8 acc ++ beBytes 48 chain.toNat) ∧
  (∀ s, s.ledger.run = true → exec .allowanceRefill s = .next (summaries s.ledger.coalesced.length { s with ledger := { s.ledger with
    allowance := Nat.min s.fw.config.burst (s.ledger.allowance + 1) } })) ∧
  (∀ s, s.ledger.run = false → exec .allowanceRefill s = .next { s with ledger := { s.ledger with
    allowance := Nat.min s.fw.config.burst (s.ledger.allowance + 1) } })

/-- Chapter 21, the register map (R516 to R531): where PORT_COMMIT and PORT_REVERT writes, LANE_COMMIT and LANE_REVERT writes,
COMMIT_JUDGE, REGISTER_WRITE, RC_READ, WIDE_LO reads, GLB_WR_STAT writes, SPI_STATUS_READ, BAR2_READ and BAR2_WRITE complete,
and with what. -/
def Obligations.RegisterMapCommandsComplete : Prop :=
  (∀ who p v s, WriteReaches who s (portBase p) → exec (.portCommit who p v) s = .next (writePortCommit who p v s) ∧
    exec (.portRevert who p v) s = .next (writePortCommit who p v s)) ∧
  (∀ who p n v s, WriteReaches who s (laneBase p n + 0x7F0) → exec (.laneCommit who p n v) s = .next (writeLaneCommit who p n v s) ∧
    exec (.laneRevert who p n v) s = .next (writeLaneCommit who p n v s)) ∧
  (∀ p s, exec (.commitJudge p) s = .next (commitJudge p s)) ∧
  (∀ who (addr : BitVec 32) v be s, WriteReaches who s (wordAddr addr) →
    exec (.registerWrite who addr v be) s = .next (writeReg who (wordAddr addr) v be s)) ∧
  (∀ who (addr : BitVec 32) s, accessible s (wordAddr addr) = true →
    exec (.rcRead who addr) s = .next (spiData who (readReg who (wordAddr addr) s)) ∧
    exec (.wideLoRead who addr) s = .next (spiData who (readReg who (wordAddr addr) s))) ∧
  (∀ who s, who ≠ .spi ∨ s.hubSlow = false → spiData who s = s) ∧
  (∀ s, s.hubSlow = true → ((spiData .spi s).reg.reply = s.reg.reply ∧ (spiData .spi s).reg.spiLate = s.reg.spiLate) ∨
    ((spiData .spi s).reg.reply = .value 0xFFFFFFFF ∧ (spiData .spi s).reg.spiLate = true)) ∧
  (∀ who v s, WriteReaches who s 0x10 → exec (.glbWrStatClear who v) s = .next (writeWrStat v s)) ∧
  (∀ s, exec .spiStatusRead s = .next (readValue (flg s.reg.spiWrIgn 7 ||| flg s.reg.spiLate 1 ||| flg s.reg.spiErr 0)
    { s with reg := { s.reg with spiWrIgn := false, spiLate := false, spiErr := false } })) ∧
  (∀ ofs s, s.part.hasStore = true → s.reg.capWin * 2 ^ 30 + ofs / 4 * 4 < s.store.captureGib * 2 ^ 30 → ofs < 2 ^ 30 →
    s.store.state = 2 → s.cap.outcome ≠ .running →
    ∃ w, exec (.bar2Read ofs) s = .next (readValue w { s with fresh := s.fresh + 4 })) ∧
  (∀ s, exec .bar2Write s = .next (ignored .pcie 0 s))


/-! ### The whole machine -/

/-- A step takes the command at the front of the queue and runs it on the state with the rest of the queue. -/
def Obligations.StepTakesTheFront : Prop :=
  ∀ c rest s, s.pending = c :: rest → step s = exec c { s with pending := rest }

/-- The step on an empty queue is one CLK_CTRL cycle (the model's choice, log entry 2): held in reset nothing changes; otherwise the
uptime advances by the cycle, and a time counter that runs advances by the cycle's nominal period corrected by ADJ, modulo its width
(R464); nothing else changes. -/
def Obligations.IdleStepIsOneCycle : Prop :=
  (∀ s, s.pending = [] → s.boot.inReset = true → step s = .next s) ∧
  (∀ s, s.pending = [] → s.boot.inReset = false → (s.time.run && bitOf s.clk.gate 10) = false →
    step s = .next { s with uptime := s.uptime + if s.ctrlOnFro then 185 else 100 }) ∧
  (∀ s, s.pending = [] → s.boot.inReset = false → (s.time.run && bitOf s.clk.gate 10) = true →
    step s = .next { s with
      uptime := s.uptime + (if s.ctrlOnFro then 185 else 100),
      time := { s.time with
        ctr := (((s.time.ctr : Int) + cycleAdvance s.ctrlOnFro s.time.adj) % (timeModulus : Int)).toNat } })

/-- No row of the table has a word: the decoder answers none, and placing a word leaves the state. -/
def Obligations.NoWordSpellsACommand : Prop :=
  ∀ nbits w, decodeTableWord nbits w = none ∧ ∀ s : State, s.withFetchWord nbits w = s

/-- No step stops: every command completes, on every state, with no fault and no refusal. -/
def Obligations.EveryStepAnswers : Prop :=
  (∀ c s, ∃ t, exec c s = .next t) ∧ ∀ s, ∃ t, step s = .next t

/-- The state after reset has slot memory in its canonical form. -/
def Obligations.ResetMeetsTheInvariant : Prop := MemInv State.reset

/-- Every step keeps slot memory in its canonical form, from every state in which it is. -/
def Obligations.EveryStepKeepsSlotMemory : Prop :=
  ∀ s t, MemInv s → step s = .next t → MemInv t

/-- What fuses hold never falls back, whatever the step, a reset included: the anchor counter and the minimum SVN grow, and a revoked
key stays revoked (R371, R487, R488). -/
def Obligations.FusesOnlyGrow : Prop :=
  ∀ s t, step s = .next t → FusesGrow s t

/-- No command turns the device into another part, and none touches the queue of those that wait; the step removes exactly the front
one. -/
def Obligations.PartAndQueueAreKept : Prop :=
  (∀ c s t, exec c s = .next t → t.part = s.part ∧ t.pending = s.pending) ∧
  ∀ s t, step s = .next t → t.part = s.part ∧ t.pending = s.pending.tail

/-- A command that works within one port (ownPort names them and their ports) leaves every other port, and everything of the device
beside the ports and the count of random draws. -/
def Obligations.OwnPortFrame : Prop :=
  ∀ c p s t, ownPort c = some p → exec c s = .next t → PortOnly p s t

/-- A command of calmCommand leaves the uptime, the hub side of the spill store, the fast status bus, the register file's own state,
the clocks and the gates, the power state and the time counter. One of clockCommand may change the clocks beside; one of lateCommand
may mark in GLB_WR_STAT and GLB_WR_ADDR a request that was found too late (R557), and changes nothing else of these. -/
def Obligations.CalmCommandFrame : Prop :=
  (∀ c s t, calmCommand c = true → exec c s = .next t → Calm s t) ∧
  (∀ c s t, clockCommand c = true → exec c s = .next t → CalmBut true false s t) ∧
  (∀ c s t, lateCommand c = true → exec c s = .next t → CalmBut false true s t)

/-- The state right after reset, by the values that the spec gives: nothing committed or pending, CONFIG_DONE clear, FAULT_N low, every
port in DOWN, every bridge down, every slot FREE, no cause live or sticky, the records free, and the values of GLB_WR_STAT,
GLB_SCRATCH, FAULT_N and the mailbox (R371, R429, R494, R531, Tables 10.1, 15.1, 21.13). The part and the bytes of
slot memory are the model's choices (log entries 3 and 6). -/
def Obligations.ResetState : Prop :=
  State.reset.pending = [] ∧ State.reset.boot.configDone = false ∧ State.reset.boot.cause = 0 ∧ State.reset.boot.step = 0 ∧
  State.reset.flt.faultN = true ∧ State.reset.flt.recs = Vector.replicate 105 FltRec.free ∧ State.reset.flt.fiEn = false ∧
  State.reset.reg.wrStat = 0 ∧ State.reset.reg.wrAddr = 0 ∧ State.reset.reg.scratch = 0 ∧ State.reset.reg.capWin = 0 ∧
  State.reset.fw.slots = Vector.replicate 8 Slot.free ∧ State.reset.fw.mbxCtrl = 0 ∧ State.reset.fw.running = [] ∧
  State.reset.time.run = false ∧ State.reset.stack.id = none ∧ State.reset.store.state = 0 ∧
  (∀ p, (State.reset.port p).link.state = .down ∧ (State.reset.port p).commitPending = false ∧
    (State.reset.port p).fltEn = 0x000006F7) ∧
  (∀ k, (State.reset.pod k).bridge.up = false) ∧
  (∀ c i, fltGet c i State.reset = FltInst.zero)

/-! ### The register map -/

/-- An access to an address that is not accessible is a bus error for any initiator and has no effect beside the SPI error flag (R347,
R516); and which addresses are not accessible: the windows of a gated or absent block, those of a pod whose bridge is down, those of
an absent pod or port (R10, R347), and every address outside Table 21.1. -/
def Obligations.UnreachableAccessIsABusError : Prop :=
  (∀ who (addr : BitVec 32) v be s, accessible s (wordAddr addr) = false →
    exec (.registerWrite who addr v be) s = .next { s with
      reg := { s.reg with reply := .busError, spiErr := s.reg.spiErr || decide (who = .spi) } } ∧
    exec (.rcRead who addr) s = .next { s with
      reg := { s.reg with reply := .busError, spiErr := s.reg.spiErr || decide (who = .spi) } } ∧
    exec (.wideLoRead who addr) s = .next { s with
      reg := { s.reg with reply := .busError, spiErr := s.reg.spiErr || decide (who = .spi) } }) ∧
  (∀ a s, 0x20000 ≤ a → a < 0x30000 → bitOf s.clk.gate 10 = false → accessible s a = false) ∧
  (∀ (i : StackPortId) o s, o < 8 → bitOf s.clk.gate (12 + i.val) = false → accessible s (0x30020 + 8 * i.val + o) = false) ∧
  (∀ a s, 0x40000 ≤ a → a < 0x50000 → bitOf s.clk.gate 11 = false ∨ s.part.hasStore = false → accessible s a = false) ∧
  (∀ (k : PodId) o s, o < 0x10000 → s.part.hasPod k = false ∨ (s.pod k).bridge.up = false → accessible s (podBase k + o) = false) ∧
  (∀ (p : PortId) o s, o < 0x10000 → s.part.hasPort p = false ∨ (s.pod (podOf p)).bridge.up = false →
    accessible s (portBase p + o) = false) ∧
  (∀ a s, (0x60000 ≤ a ∧ a < 0x80000) ∨ (0x100000 ≤ a ∧ a < 0x1000000) ∨ 0x1600000 ≤ a → accessible s a = false)

/-- The writes that every register ignores: until CONFIG_DONE one through PCIe, SPI or MDIO outside the mailbox region (R377), and one
whose byte enables are not all set outside slot memory (R517). Each leaves WR_IGNORED for its initiator, and the address of the
first since the bits were last clear (R523). -/
def Obligations.EarlyAndPartialWritesAreIgnored : Prop :=
  (∀ who (addr : BitVec 32) v be s, who = .pcie ∨ who = .spi ∨ who = .mdio → s.boot.configDone = false →
    accessible s (wordAddr addr) = true → wordAddr addr < 0x50000 ∨ 0x60000 ≤ wordAddr addr →
    exec (.registerWrite who addr v be) s = .next { s with reg := { s.reg with
      wrStat := s.reg.wrStat ||| (1 <<< who.bit),
      wrAddr := (if s.reg.wrStat = 0 then wordAddr addr else s.reg.wrAddr),
      spiWrIgn := s.reg.spiWrIgn || decide (who = .spi), reply := .ignored } }) ∧
  (∀ who (addr : BitVec 32) v be s, WriteReaches who s (wordAddr addr) → be ≠ 0xF →
    wordAddr addr < 0x50000 ∨ 0x58000 ≤ wordAddr addr →
    exec (.registerWrite who addr v be) s = .next (ignored who (wordAddr addr) s))

/-- What an ignored write leaves in GLB_WR_STAT and GLB_WR_ADDR, what the two then read, and what a write of GLB_WR_STAT clears (R523,
Table 21.13). -/
def Obligations.IgnoredWritesAreRecorded : Prop :=
  (∀ who a s, (ignored who a s).reg.wrStat.getLsbD who.bit = true ∧
    (∀ other, other ≠ who → (ignored who a s).reg.wrStat.getLsbD other.bit = s.reg.wrStat.getLsbD other.bit) ∧
    (ignored who a s).reg.wrAddr = (if s.reg.wrStat = 0 then a else s.reg.wrAddr) ∧
    (ignored who a s).reg.reply ≠ .busError ∧ (ignored who a s).reg.spiErr = s.reg.spiErr) ∧
  (∀ who s, (who ≠ .spi ∨ s.hubSlow = false) → 
    ∃ t u, exec (.rcRead who 0x10) s = .next t ∧ t.reg.reply = .value (flg (decide (s.reg.wrStat ≠ 0)) 31 |||
      fld s.reg.wrStat.toNat 0 5) ∧ t.reg.wrStat = s.reg.wrStat ∧
    exec (.rcRead who 0x14) s = .next u ∧ u.reg.reply = .value (BitVec.ofNat 32 s.reg.wrAddr) ∧ u.reg.wrAddr = s.reg.wrAddr) ∧
  (∀ who v s, WriteReaches who s 0x10 → bitOf v 31 = true → ∃ t, exec (.glbWrStatClear who v) s = .next t ∧
    t.reg.wrStat = 0 ∧ t.reg.wrAddr = 0) ∧
  (∀ who v s, WriteReaches who s 0x10 → bitOf v 31 = false → ∃ t, exec (.glbWrStatClear who v) s = .next t ∧
    t.reg.wrAddr = s.reg.wrAddr ∧
    ∀ other : Initiator, t.reg.wrStat.getLsbD other.bit = (s.reg.wrStat.getLsbD other.bit && !bitOf v other.bit))

/-- A write of a staged field changes its staged value alone, unchecked and unseen by the block; PORT_COMMIT takes every staged
register of the port window and of its eight lane windows, and LANE_COMMIT those of its own lane window alone, so that the nine
registers of the port window are taken by no LANE_COMMIT (R526). -/
def Obligations.StagedRegisters : Prop :=
  (∀ who p (r : PortSt) v s, WriteReaches who s (portBase p + r.ofs) →
    exec (.registerWrite who (BitVec.ofNat 32 (portBase p + r.ofs)) v 0xF) s =
      .next (written (s.modPort p fun q => q.setReg r fun x => { x with staged := v &&& stMask s.part r }))) ∧
  (∀ who p n (r : LaneSt) v s, WriteReaches who s (laneBase p n + r.ofs) →
    exec (.registerWrite who (BitVec.ofNat 32 (laneBase p n + r.ofs)) v 0xF) s =
      .next (written (s.modLane p n fun l => l.setReg r fun x => { x with staged := v &&& r.mask }))) ∧
  (∀ who p s, WriteReaches who s (portBase p) → (s.port p).commitPending = false →
    ∃ t, exec (.portCommit who p 1) s = .next t ∧ (t.port p).commit.pend = true ∧
      (∀ r, ((t.port p).reg r).snap = ((s.port p).reg r).staged ∧ ((t.port p).reg r).staged = ((s.port p).reg r).staged ∧
        ((t.port p).reg r).inForce = ((s.port p).reg r).inForce) ∧
      (∀ n r, ((t.lane p n).reg r).snap = ((s.lane p n).reg r).staged ∧ ((t.lane p n).reg r).staged = ((s.lane p n).reg r).staged ∧
        ((t.lane p n).reg r).inForce = ((s.lane p n).reg r).inForce)) ∧
  (∀ who p n s, WriteReaches who s (laneBase p n + 0x7F0) → (s.port p).commitPending = false →
    ∃ t, exec (.laneCommit who p n 1) s = .next t ∧ (t.lane p n).commit.pend = true ∧
      (∀ r, ((t.lane p n).reg r).snap = ((s.lane p n).reg r).staged) ∧
      (∀ m, m ≠ n → t.lane p m = s.lane p m) ∧ ∀ r, (t.port p).reg r = (s.port p).reg r)

/-- The life of a commit. While one is pending on the port or on a lane of it, a further COMMIT or REVERT of either scope is ignored, as
is a write of both bits at any time (R529). At the boundary a port commit waits while the group relocks; the first check that fails
refuses it, changing nothing but COMMIT_STAT; where every check passes the whole snapshot is accepted (R527). REVERT restores the
accepted values (R528). -/
def Obligations.CommitsAreJudged : Prop :=
  (∀ who p v s, WriteReaches who s (portBase p) → bits v 1 0 ≠ 0 → (s.port p).commitPending = true ∨ bits v 1 0 = 3 →
    exec (.portCommit who p v) s = .next (ignored who (portBase p) s)) ∧
  (∀ who p n v s, WriteReaches who s (laneBase p n + 0x7F0) → bits v 1 0 ≠ 0 → (s.port p).commitPending = true ∨ bits v 1 0 = 3 →
    exec (.laneCommit who p n v) s = .next (ignored who (laneBase p n + 0x7F0) s)) ∧
  (∀ p s, (s.group p).relocking = true → exec (.commitJudge p) s = .next s) ∧
  (∀ p s o, (s.group p).relocking = false → (s.port p).commit.pend = true → (s.port p).commit.config = false →
    firstRefused (portChecks s p) = some o → exec (.commitJudge p) s =
      .next (s.modPort p fun q => { q with commit := { pend := false, result := 7, ofs := o, config := false } })) ∧
  (∀ p s, (s.group p).relocking = false → (s.port p).commit.pend = true → firstRefused (portChecks s p) = none →
    ∃ u, exec (.commitJudge p) s = .next (startLink p (linkCtrlEntered p (lane0On ((s.port p).laneOff 0) p
        (lane0Off ((s.port p).laneOff 0) p (allLanes.foldl (fun s n => enterLane p n s) u))))) ∧
      (u.port p).commit.pend = false ∧ (u.port p).commit.result = 0 ∧ (u.port p).commit.ofs = 0 ∧
      (∀ r, ((u.port p).reg r).accepted = ((s.port p).reg r).snap ∧ ((u.port p).reg r).staged = ((s.port p).reg r).staged) ∧
      (∀ n r, ((u.lane p n).reg r).accepted = ((s.lane p n).reg r).snap) ∧
      (∀ r, r ≠ .codeCtrl → r ≠ .lreCtrl → (u.port p).act r = ((s.port p).reg r).snap) ∧
      ∀ q, q ≠ p → u.port q = s.port q) ∧
  (∀ who p s, WriteReaches who s (portBase p) → (s.port p).commitPending = false →
    ∃ t, exec (.portRevert who p 2) s = .next t ∧ (∀ r, ((t.port p).reg r).staged = ((s.port p).reg r).accepted) ∧
      ∀ n r, ((t.lane p n).reg r).staged = ((s.lane p n).reg r).accepted)

/-- A read of a wide register's _LO word answers its low word and latches the rest for the initiator that reads, leaving the latches of
the others and of other registers; a read of its _HI word answers that initiator's latch, and 0 where none stands (R525). -/
def Obligations.WideRegistersLatch : Prop :=
  (∀ who (addr : BitVec 32) s v, accessible s (wordAddr addr) = true → s.wide (Place.ofAddr (wordAddr addr)) = some v →
    (who ≠ .spi ∨ s.hubSlow = false) →
    ∃ t, exec (.wideLoRead who addr) s = .next t ∧ exec (.rcRead who addr) s = .next t ∧
      t.reg.reply = .value (BitVec.ofNat 32 v) ∧ getLatch who (wordAddr addr) t = v / 2 ^ 32 ∧
      ∀ who' a, who' ≠ who ∨ a ≠ wordAddr addr → getLatch who' a t = getLatch who' a s) ∧
  (∀ who (addr : BitVec 32) s, accessible s (wordAddr addr + 4) = true →
    (s.wide (Place.ofAddr (wordAddr addr))).isSome = true → (who ≠ .spi ∨ s.hubSlow = false) →
    ∃ t, exec (.rcRead who (BitVec.ofNat 32 (wordAddr addr + 4))) s = .next t ∧
      t.reg.reply = .value (BitVec.ofNat 32 (getLatch who (wordAddr addr) s)) ∧
      ((s.reg.latches.all fun l => !(decide (l.who = who) && l.addr == wordAddr addr)) = true →
        t.reg.reply = .value 0))

/-! ### The mailbox and slot memory -/

/-- Slot memory reads back what was last written to it, byte by byte under the byte enables, while the slot is neither POSTED nor RUNNING,
and the bytes beside the written word stay (R493, R517). Byte i of the word is at bits 8i + 7 to 8i (the model's choice, log entry 7).
A write while the slot is POSTED or RUNNING is ignored (R494). -/
def Obligations.SlotMemoryReadsBack : Prop :=
  (∀ who (o : Nat) v be s, MemInv s → o < 0x8000 → o % 4 = 0 → s.fw.slots[(slotAt o).val].state ≠ .posted →
    s.fw.slots[(slotAt o).val].state ≠ .running →
    ∃ t, exec (.registerWrite who (BitVec.ofNat 32 (0x50000 + o)) v be) s = .next t ∧ MemInv t ∧ t.reg.reply = .written ∧
      (∀ i, i < 4 → memRead t.fw.mem (o + i) =
        if be.getLsbD i then BitVec.ofNat 8 (bits v (8 * i + 7) (8 * i)) else memRead s.fw.mem (o + i)) ∧
      (∀ a, a < o ∨ o + 4 ≤ a → memRead t.fw.mem a = memRead s.fw.mem a) ∧
      (be = 0xF → (who ≠ .spi ∨ s.hubSlow = false) → ∃ u, exec (.rcRead who (BitVec.ofNat 32 (0x50000 + o))) t = .next u ∧ u.reg.reply = .value v)) ∧
  (∀ who (o : Nat) v be s, o < 0x8000 → o % 4 = 0 → s.fw.slots[(slotAt o).val].state = .posted ∨
      s.fw.slots[(slotAt o).val].state = .running →
    exec (.registerWrite who (BitVec.ofNat 32 (0x50000 + o)) v be) s = .next (ignored who (0x50000 + o) s))

/-- A slot is FREE, POSTED, RUNNING or DONE, as MBX_STAT shows it. A doorbell on a FREE slot posts it and records the path; with LONG the
slot is even, the next one FREE too, and it follows. A reply writes its header with REPLY set, makes the slot and its follower DONE, and
counts one MSI under MSI_EN. A release frees a slot that is DONE. Anything else is ignored, as are writes to the memory of a POSTED or
RUNNING slot (R494). -/
def Obligations.MailboxSlots : Prop :=
  (∀ who (n : SlotId) s, (who ≠ .spi ∨ s.hubSlow = false) → 
    ∃ t w, exec (.rcRead who 0x58008) s = .next t ∧ t.reg.reply = .value w ∧
    bits w (2 * n.val + 1) (2 * n.val) = s.fw.slots[n.val].state.code) ∧
  (∀ who (n : SlotId) s, s.fw.slots[n.val].state = .free →
    bitOf ((memRead s.fw.mem (slotBase n + 3)).setWidth 32) 0 = false →
    ∃ t, exec (.mbxDoorbell who (BitVec.ofNat 32 (2 ^ n.val))) s = .next t ∧ t.reg = (written s).reg ∧
      t.fw.slots = updAt s.fw.slots n (fun _ => Slot.mk .posted (decide (who = .spi)) false s.fw.nextOrder) ∧ t.fw.mem = s.fw.mem) ∧
  (∀ who (n m : SlotId) s, n.val % 2 = 0 → slotAfter n = some m → s.fw.slots[n.val].state = .free → s.fw.slots[m.val].state = .free →
    bitOf ((memRead s.fw.mem (slotBase n + 3)).setWidth 32) 0 = true →
    ∃ t, exec (.mbxDoorbell who (BitVec.ofNat 32 (2 ^ n.val))) s = .next t ∧ t.reg = (written s).reg ∧
      t.fw.slots = updAt (updAt s.fw.slots n (fun _ => Slot.mk .posted (decide (who = .spi)) true s.fw.nextOrder)) m
        (fun _ => Slot.mk .posted (decide (who = .spi)) false s.fw.nextOrder)) ∧
  (∀ who (n : SlotId) s, s.fw.slots[n.val].state ≠ .free →
    exec (.mbxDoorbell who (BitVec.ofNat 32 (2 ^ n.val))) s = .next (ignored who 0x58000 s)) ∧
  (∀ who (n : SlotId) s, bitOf ((memRead s.fw.mem (slotBase n + 3)).setWidth 32) 0 = true →
    n.val % 2 = 1 ∨ (∃ m, slotAfter n = some m ∧ s.fw.slots[m.val].state ≠ .free) →
    exec (.mbxDoorbell who (BitVec.ofNat 32 (2 ^ n.val))) s = .next (ignored who 0x58000 s)) ∧
  (∀ (n : SlotId) op status payload s,
    ((reply (.slot n) op status payload s).fw.slots[n.val].state = .done) ∧
    (∀ m, slotAfter n = some m → s.fw.slots[n.val].long = true →
      (reply (.slot n) op status payload s).fw.slots[m.val].state = .done) ∧
    (reply (.slot n) op status payload s).fw.mem = memWriteList s.fw.mem (slotBase n)
      (beBytes 2 op ++ [memRead s.fw.mem (slotBase n + 2)] ++ [memRead s.fw.mem (slotBase n + 3) ||| 0x80] ++
        beBytes 2 payload.length ++ beBytes 1 status ++ [0] ++ payload) ∧
    (reply (.slot n) op status payload s).fw.msi = if bitOf s.fw.mbxCtrl 0 then s.fw.msi + 1 else s.fw.msi) ∧
  (∀ who (n : SlotId) s, s.fw.slots[n.val].state = .done → secondOfLong s n = false →
    ∃ t, exec (.mbxRelease who (BitVec.ofNat 32 (2 ^ n.val))) s = .next t ∧ t.reg = (written s).reg ∧
      t.fw.slots[n.val].state = .free ∧ t.fw.slots[n.val].long = false ∧
      (∀ m, slotAfter n = some m → s.fw.slots[n.val].long = true → t.fw.slots[m.val].state = .free)) ∧
  (∀ who (n : SlotId) s, s.fw.slots[n.val].state ≠ .done →
    exec (.mbxRelease who (BitVec.ofNat 32 (2 ^ n.val))) s = .next (ignored who 0x58004 s)) ∧
  (∀ who (o : Nat) v be s, o < 0x8000 → o % 4 = 0 → s.fw.slots[(slotAt o).val].state = .posted ∨
      s.fw.slots[(slotAt o).val].state = .running →
    exec (.registerWrite who (BitVec.ofNat 32 (0x50000 + o)) v be) s = .next (ignored who (0x50000 + o) s))

/-! ### Which commands a part and its state admit -/

/-- On the MLB-9620S the spill, shelf and class-configuration opcodes and the capture opcodes return BAD_OPCODE, whatever their
parameters; a PORT_CLASS of class 0 returns OK and changes nothing, and one of class 1 to 3 returns BAD_PARAM and changes nothing
(R8). -/
def Obligations.SmallPartRefusesOpcodes : Prop :=
  (∀ via s, s.part = .s → s.fw.clerk ≠ .restarting →
    (∀ a b c d e f g h i, exec (.spillInit via a b c d e f g h i) s =
      .next (reply via 0x0401 0x02 [] (startCommand via 0x0401 none s))) ∧
    (∀ a b c d, exec (.spillMeasure via a b c d) s = .next (reply via 0x0402 0x02 [] (startCommand via 0x0402 none s))) ∧
    (∀ a b c d e f, exec (.classSet via a b c d e f) s = .next (reply via 0x0403 0x02 [] (startCommand via 0x0403 none s))) ∧
    (∀ a b c d, exec (.shelfSet via a b c d) s = .next (reply via 0x0405 0x02 [] (startCommand via 0x0405 none s))) ∧
    (∀ m, exec (.linkUnfence via m) s = .next (reply via 0x0406 0x02 [] (startCommand via 0x0406 none s))) ∧
    (∀ p a b c d e f g, ∃ u, exec (.captureStart via p a b c d e f g) s = .next (reply via 0x0310 0x02 [] u)) ∧
    exec (.captureStatus via) s = .next (reply via 0x0311 0x02 [] (startCommand via 0x0311 none s)) ∧
    (∀ a b, exec (.captureRead via a b) s = .next (reply via 0x0312 0x02 [] (startCommand via 0x0312 none s))) ∧
    exec (.captureStop via) s = .next (reply via 0x0313 0x02 [] (startCommand via 0x0313 none s))) ∧
  (∀ via mask s, s.part = .s → Serves via 0x0404 s → exec (.portClass via mask 0) s = .next (reply via 0x0404 0x00 [] s)) ∧
  (∀ via mask cls s, s.part = .s → Serves via 0x0404 s → 0 < cls →
    exec (.portClass via mask cls) s = .next (reply via 0x0404 0x03 [] s))

/-- A command that reaches a gated block returns GATED, and one that names a port the part lacks, or whose pod's bridge is down, does too,
before its own parameters are looked at (R10, R347, R496). -/
def Obligations.GatedCommandsReturnGated : Prop :=
  (∀ via op s body, libGroup op = false → partLacks s.part op = false → s.fw.clerk ≠ .restarting → cmdGated s op = true →
    command via op s body = reply via op 0x04 [] (startCommand via op none s)) ∧
  (∀ s, (∀ op, op = 0x0401 ∨ op = 0x0402 ∨ op = 0x0405 ∨ op = 0x0406 → cmdGated s op = !bitOf s.clk.gate 11) ∧
    (∀ op, 0x0601 ≤ op → op ≤ 0x0604 → cmdGated s op = !bitOf s.clk.gate 10)) ∧
  (∀ via op p s body, Serves via op s → s.part.hasPort p = false ∨ (s.pod (podOf p)).bridge.up = false →
    portCommand via op p s body = reply via op 0x04 [] s) ∧
  (∀ p, Part.hasPort .b48 p = decide (p.val < 48))

/-- The Librarian's watchdog of the Clerk: where GIVE_UP restarts lie within the last 60 s, the next expiry clears CLK_GATE.CLERK and leaves
the Clerk stopped, FW_STAT.CLERK reads GIVEN_UP, and every command it serves returns GATED; the ports keep their link states except
where a fault reaction of CLERK_WDOG takes them down. A reset starts the boot again, with the Clerk held until it is loaded (R492). -/
def Obligations.ClerkGivesUp : Prop :=
  (∀ s, s.fw.clerk = .running ∨ s.fw.clerk = .starting →
    ∃ u t, u = endClerkCommands 0x09 (raise .clerkWdog .dev 0 s) ∧ exec .clerkWatchdogExpire s = .next t ∧
      (u.fw.config.giveUp ≤ (u.fw.restartTimes.filter fun x => u.nowNs < x + 60000000000).length →
        t.fw.clerk = .givenUp ∧ bitOf t.clk.gate 9 = false) ∧
      ((u.fw.restartTimes.filter fun x => u.nowNs < x + 60000000000).length < u.fw.config.giveUp →
        t.fw.clerk = .restarting ∧ t.fw.restarts = satAdd 8 u.fw.restarts 1 ∧
        t.fw.restartTimes = u.nowNs :: (u.fw.restartTimes.filter fun x => u.nowNs < x + 60000000000)) ∧
      ∀ p, (t.port p).link = (u.port p).link) ∧
  (∀ via op s body, libGroup op = false → partLacks s.part op = false → s.fw.clerk = .givenUp →
    command via op s body = reply via op 0x04 [] (startCommand via op none s)) ∧
  (∀ who s, s.fw.clerk = .givenUp → (who ≠ .spi ∨ s.hubSlow = false) → ∃ t w, exec (.rcRead who 0x58010) s = .next t ∧ t.reg.reply = .value w ∧
    bits w 31 29 = ClerkState.givenUp.code)

/-! ### Faults -/

/-- Every instance has a live, a sticky and an enable bit in the registers of its scope. A condition that is live already does not occur
again; its rise, and each event, is an occurrence, and an occurrence sets the sticky bit. A write of 1 to the sticky bit clears it
unless the instance is live at that moment (R420). -/
def Obligations.StickyBits : Prop :=
  (∀ who c i s, c.scope = i.scope → i.present s.part = true → accessible s (fltBase i) = true →
    (who ≠ .spi ∨ s.hubSlow = false) →
    (∃ t w, exec (.rcRead who (BitVec.ofNat 32 (fltBase i))) s = .next t ∧ t.reg.reply = .value w ∧
      w.getLsbD (c.code - i.scope.base) = (fltGet c i s).live) ∧
    (∃ t w, exec (.rcRead who (BitVec.ofNat 32 (fltBase i + 4))) s = .next t ∧ t.reg.reply = .value w ∧
      w.getLsbD (c.code - i.scope.base) = (fltGet c i s).sticky) ∧
    ∃ t w, exec (.rcRead who (BitVec.ofNat 32 (fltBase i + 8))) s = .next t ∧ t.reg.reply = .value w ∧
      w = match i with
        | .lane p n => (s.lane p n).fltEn
        | .port p => (s.port p).fltEn
        | .pod k => (s.pod k).fltEn
        | .dev => s.flt.devEn) ∧
  (∀ c i d s, c.isCondition = true → (fltGet c i s).real = true → raise c i d s = s) ∧
  (∀ c i d s, c.isCondition = false ∨ (fltGet c i s).real = false →
    raise c i d s = raiseOcc c i d (c.fixedClass.getD (variableClass c s)) React.none s) ∧
  (∀ c i d cls extra inj s, c.scope = i.scope → (fltGet c i (occur c i d cls extra inj s)).sticky = true ∧
    (fltGet c i (occur c i d cls extra inj s)).live = true) ∧
  (∀ who c i v s, c.scope = i.scope → WriteReaches who s (fltBase i + 4) →
    ∃ t, exec (.stickyClear who i v) s = .next t ∧
      (fltGet c i t).live = (fltGet c i s).live ∧
      (fltGet c i t).sticky = if v.getLsbD (c.code - i.scope.base) then (fltGet c i s).sticky && (fltGet c i s).live
        else (fltGet c i s).sticky)

/-- An occurrence of class F that reaches the hub is copied into FLT_LAST_F0 and FLT_LAST_F1, real or injected, and one of another class
leaves them. PORST_N, a DEV_RESET and every full reset keep the copy; power-on clears it (R435). -/
def Obligations.ClassFIsCopied : Prop :=
  (∀ o s, o.cls = .f → (hubCore o s).flt.lastF0 =
      flg true 31 ||| flg o.inj 30 ||| fld o.inst.num 16 10 ||| fld o.cause.code 0 6 ∧
    (hubCore o s).flt.lastF1 = BitVec.ofNat 32 (o.time / 1000000000)) ∧
  (∀ o s, o.cls ≠ .f → (hubCore o s).flt.lastF0 = s.flt.lastF0 ∧ (hubCore o s).flt.lastF1 = s.flt.lastF1) ∧
  (∀ o s, (hubApply o s).flt.lastF0 = (hubCore o s).flt.lastF0 ∧ (hubApply o s).flt.lastF1 = (hubCore o s).flt.lastF1) ∧
  (∀ s, ∃ t, exec .porstNAssert s = .next t ∧ t.flt.lastF0 = s.flt.lastF0 ∧ t.flt.lastF1 = s.flt.lastF1) ∧
  (∀ porst s, (fullReset porst s).flt.lastF0 = s.flt.lastF0 ∧ (fullReset porst s).flt.lastF1 = s.flt.lastF1) ∧
  (∀ straps pass s, s.boot.devReset.isSome = true → ∃ u, exec (.devResetExpire straps pass) s = .next (startBoot straps pass u) ∧
    u.flt.lastF0 = s.flt.lastF0 ∧ u.flt.lastF1 = s.flt.lastF1) ∧
  (∀ s, ∃ t, exec .powerOnReset s = .next t ∧ t.flt.lastF0 = 0 ∧ t.flt.lastF1 = 0)

/-- The 105 fault records: lane and port causes use their port's, pod causes their pod's, device causes record 0. An occurrence with REC,
or one that took a safe state (R424), creates the record or merges into it, the lower code of two of one time (one cycle) being PRIMARY; the class is the highest it holds; REC_ACK frees it, and is
ignored where none is pending (R429). -/
def Obligations.FaultRecords : Prop :=
  (recOf .dev = 0 ∧ (∀ k : PodId, recOf (.pod k) = 1 + k.val) ∧ (∀ p : PortId, recOf (.port p) = 9 + p.val) ∧
    ∀ (p : PortId) n, recOf (.lane p n) = 9 + p.val) ∧
  (∀ o s, (getNat s.flt.recs (recOf o.inst) FltRec.free).pend = false →
    getNat (recMerge o s).flt.recs (recOf o.inst) FltRec.free =
      { pend := true, inj := o.inj, real := o.real, safe := o.safe, merge := 0, cls := some o.cls, primary := o.cause.code,
        detail := o.detail, time := o.time, secondary := 0 }) ∧
  (∀ o s r k, getNat s.flt.recs (recOf o.inst) FltRec.free = r → r.pend = true → r.cls = some k →
    getNat (recMerge o s).flt.recs (recOf o.inst) FltRec.free =
      (let first := decide (o.time = r.time) && decide (o.cause.code < r.primary)
       { r with merge := Nat.min 255 (r.merge + 1),
                secondary := r.secondary ||| BitVec.ofNat 64 (2 ^ (if first then r.primary else o.cause.code)),
                primary := if first then o.cause.code else r.primary, detail := if first then o.detail else r.detail,
                inj := if first then o.inj else r.inj,
                cls := some (if k.code < o.cls.code then o.cls else k), real := r.real || o.real, safe := r.safe || o.safe })) ∧
  (∀ o s i, recOf i ≠ recOf o.inst →
    getNat (recMerge o s).flt.recs (recOf i) FltRec.free = getNat s.flt.recs (recOf i) FltRec.free) ∧
  (∀ o s, o.react.record = true ∨ o.safe = true →
    (getNat (hubCore o s).flt.recs (recOf o.inst) FltRec.free).pend = true) ∧
  (∀ o s, o.react.record = false → o.safe = false → (hubCore o s).flt.recs = s.flt.recs) ∧
  (∀ who (r : BitVec 7) s, WriteReaches who s 0x10318 → (getNat s.flt.recs r.toNat FltRec.free).pend = true →
    ∃ t, exec (.recAck who r) s = .next t ∧ (getNat t.flt.recs r.toNat FltRec.free).pend = false ∧
      ∀ j, j ≠ r.toNat → getNat t.flt.recs j FltRec.free = getNat s.flt.recs j FltRec.free) ∧
  (∀ who (r : BitVec 7) s, WriteReaches who s 0x10318 → (getNat s.flt.recs r.toNat FltRec.free).pend = false →
    exec (.recAck who r) s = .next (ignored who 0x10318 s))

/-- A fixed action reads 1 in FLT_REACTc after any write of it, and is in force whatever the register holds; an injected occurrence takes a
safe state only under INJ_FULL, and never for a cause that is always report-only (R424, R432). -/
def Obligations.FixedActionsStay : Prop :=
  (∀ who c v s, WriteReaches who s (0x10100 + 4 * c.code) → (who ≠ .spi ∨ s.hubSlow = false) →
    ∃ t u w, exec (.fltReactWrite who c v) s = .next t ∧
      exec (.rcRead who (BitVec.ofNat 32 (0x10100 + 4 * c.code))) t = .next u ∧ u.reg.reply = .value w ∧
      w &&& BitVec.ofNat 32 c.fixedReact = BitVec.ofNat 32 c.fixedReact ∧
      (∀ i, 1 ≤ i → i ≤ 6 → w.getLsbD i = (v.getLsbD i || (BitVec.ofNat 32 c.fixedReact).getLsbD i))) ∧
  (∀ c extra s, (React.ofWord (BitVec.ofNat 32 c.fixedReact)).podSafe = true → (reactInForce c extra false s).podSafe = true) ∧
  (∀ c extra s, (React.ofWord (BitVec.ofNat 32 c.fixedReact)).devSafe = true → (reactInForce c extra false s).devSafe = true) ∧
  (∀ c extra s, bitOf (getNat s.flt.react c.code 0) 8 = false ∨ c.reportOnly = true →
    (reactInForce c extra true s).anySafe = false)

/-! ### Coding, packets and the ledger -/

/-- The scrambler: each step takes s[57] XOR s[38] into s[0] and outputs it; the 64 outputs after seeding are discarded; the seed from a key
places it as the rule says; W is all ones; and no seed is zero (R104). -/
def Obligations.KeystreamGenerator : Prop :=
  (∀ s : BitVec 58, (ksStep s).getLsbD 0 = (s.getLsbD 57 ^^ s.getLsbD 38) ∧
    ∀ i, i < 57 → (ksStep s).getLsbD (i + 1) = s.getLsbD i) ∧
  (∀ seed n k, k < n → ∃ w, (ksWords seed n)[k]? = some w ∧
    ∀ j, j < 256 → w.getLsbD (255 - j) = (ksRun (64 + 256 * k + j + 1) seed).getLsbD 0) ∧
  (∀ key : BitVec 16, (ksSeed key).extractLsb' 42 16 = key ∧ (ksSeed key).extractLsb' 26 16 = ~~~key ∧
    (ksSeed key).extractLsb' 10 16 = key ∧ (ksSeed key).extractLsb' 0 10 = (~~~key).extractLsb' 6 10) ∧
  (∀ i, i < 58 → seedW.getLsbD i = true) ∧ (∀ key, ksSeed key ≠ 0) ∧ seedW ≠ 0

/-- Numbers in packets and records: k bytes, the most significant first, read back as the number modulo 256^k (R495, R501). -/
def Obligations.PacketNumbersReadBack : Prop :=
  ∀ k v, (beBytes k v).length = k ∧ beNat (beBytes k v) = v % 256 ^ k ∧
    ∀ i, i < k → (beBytes k v)[i]? = some (BitVec.ofNat 8 (v / 256 ^ (k - 1 - i)))

/-- CHAIN of a record is SHA-384 of the CHAIN before it and the record's own bytes 0 to 143. The first record after storage was found
empty takes 48 zero bytes for the CHAIN before it, and is an ANCHOR with FRESH set (R503). -/
def Obligations.LedgerChain : Prop :=
  (∀ t code flags body s, ∃ r, (ledgerPut t code flags body s).ledger.unsealed = s.ledger.unsealed ++ [r] ∧
    r.head.length = 144 ∧ r.bytes.length = 192 ∧ r.bytes.take 144 = r.head ∧
    r.chain = Config.sha384 (beBytes 48 s.ledger.chain.toNat ++ r.head) ∧
    (ledgerPut t code flags body s).ledger.chain = r.chain ∧ r.type = t ∧
    (ledgerPut t code flags body s).ledger.newest = r.accession) ∧
  (∀ ring failed s, s.boot.step = 8 → ring = none ∨ ring = some [] →
    ∃ r l t, exec (.bootLedgerAnchor ring failed) s = .next t ∧ t.ledger.unsealed = r :: l ∧ r.type = 1 ∧
      r.chain = Config.sha384 (List.replicate 48 0 ++ r.head) ∧ (r.head[32 + 76]?) = some 2)
end

