-- ==== Sys2Proof/Laws/State.lean ====
section
/-!
SUPPORT. One lemma for each field under each named update of State: what the update sets and what it leaves.
-/
namespace Sys2Proof

open Sys2Proof.Machine

/-! ### Banks -/

/-- A bank reads back what an update put at its index. -/
@[simp] theorem updAt_self {α : Type} {n : Nat} (v : Vector α n) (i : Fin n) (f : α → α) (h : i.val < n) :
    (updAt v i f)[i.val]'h = f v[i.val] := by
  simp [updAt]

/-- An update leaves the other elements of a bank. -/
theorem updAt_other {α : Type} {n : Nat} (v : Vector α n) (i j : Fin n) (f : α → α) (h : i ≠ j) :
    (updAt v i f)[j.val] = v[j.val] := by
  have : i.val ≠ j.val := fun e => h (Fin.ext e)
  simp [updAt, this]

/-- An element of a bank after every element changed. -/
@[simp] theorem mapIdx_get {α : Type} {n : Nat} (v : Vector α n) (f : Fin n → α → α) (i : Fin n) :
    (mapIdx v f)[i.val] = f i v[i.val] := by
  simp [mapIdx]

/-! ### Ports, lanes and pods -/

/-- The port that modPort changes. -/
@[simp] theorem modPort_port (s : State) (p : PortId) (f : Port → Port) : (s.modPort p f).port p = f (s.port p) := by
  simp [State.modPort, State.port]

/-- The ports that modPort leaves. -/
theorem modPort_port_other (s : State) (p q : PortId) (f : Port → Port) (h : p ≠ q) :
    (s.modPort p f).port q = s.port q := by
  simp only [State.modPort, State.port]
  exact updAt_other _ _ _ _ h

/-- The lane that Port.modLane changes. -/
@[simp] theorem portModLane_lane (q : Port) (n : LaneId) (f : Lane → Lane) : (q.modLane n f).lanes[n.val] = f q.lanes[n.val] := by
  simp [Port.modLane]

/-- The lane that modLane changes. -/
@[simp] theorem modLane_lane (s : State) (p : PortId) (n : LaneId) (f : Lane → Lane) :
    (s.modLane p n f).lane p n = f (s.lane p n) := by
  simp [State.modLane, State.lane]

/-- The lanes that modLane leaves on the same port. -/
theorem modLane_lane_other (s : State) (p : PortId) (n m : LaneId) (f : Lane → Lane) (h : n ≠ m) :
    (s.modLane p n f).lane p m = s.lane p m := by
  simp only [State.modLane, State.lane, modPort_port, Port.modLane]
  exact updAt_other _ _ _ _ h

/-- The ports that modLane leaves. -/
theorem modLane_port_other (s : State) (p q : PortId) (n : LaneId) (f : Lane → Lane) (h : p ≠ q) :
    (s.modLane p n f).port q = s.port q := modPort_port_other s p q _ h

/-- The port of the lane that modLane changes. -/
@[simp] theorem modLane_port (s : State) (p : PortId) (n : LaneId) (f : Lane → Lane) :
    (s.modLane p n f).port p = (s.port p).modLane n f := by
  simp [State.modLane]

/-- The pod that modPod changes. -/
@[simp] theorem modPod_pod (s : State) (k : PodId) (f : Pod → Pod) : (s.modPod k f).pod k = f (s.pod k) := by
  simp [State.modPod, State.pod]

/-- The pods that modPod leaves. -/
theorem modPod_pod_other (s : State) (k j : PodId) (f : Pod → Pod) (h : k ≠ j) : (s.modPod k f).pod j = s.pod j := by
  simp only [State.modPod, State.pod]
  exact updAt_other _ _ _ _ h

/-- A port after every port changed. -/
@[simp] theorem mapPorts_port (s : State) (f : PortId → Port → Port) (p : PortId) : (s.mapPorts f).port p = f p (s.port p) := by
  simp [State.mapPorts, State.port]

/-- A lane after every lane of its port changed. -/
@[simp] theorem mapLanes_lane (s : State) (p : PortId) (f : LaneId → Lane → Lane) (n : LaneId) :
    (s.mapLanes p f).lane p n = f n (s.lane p n) := by
  simp [State.mapLanes, State.lane, Port.mapLanes]

/-- A staged register of a port reads back what setReg put there. -/
@[simp] theorem port_setReg_reg (q : Port) (r : PortSt) (f : StReg → StReg) : (q.setReg r f).reg r = f (q.reg r) := by
  simp [Port.setReg, Port.reg]

/-- A staged register of a lane reads back what setReg put there. -/
@[simp] theorem lane_setReg_reg (l : Lane) (r : LaneSt) (f : StReg → StReg) : (l.setReg r f).reg r = f (l.reg r) := by
  simp [Lane.setReg, Lane.reg]

/-! ### Frames of the named updates -/

@[simp] theorem modPort_part (s : State) (p : PortId) (f : Port → Port) : (s.modPort p f).part = s.part := rfl
@[simp] theorem modPort_fresh (s : State) (p : PortId) (f : Port → Port) : (s.modPort p f).fresh = s.fresh := rfl
@[simp] theorem modPort_uptime (s : State) (p : PortId) (f : Port → Port) : (s.modPort p f).uptime = s.uptime := rfl
@[simp] theorem modPort_pods (s : State) (p : PortId) (f : Port → Port) : (s.modPort p f).pods = s.pods := rfl
@[simp] theorem modPort_flt (s : State) (p : PortId) (f : Port → Port) : (s.modPort p f).flt = s.flt := rfl
@[simp] theorem modPort_fw (s : State) (p : PortId) (f : Port → Port) : (s.modPort p f).fw = s.fw := rfl
@[simp] theorem modPort_ledger (s : State) (p : PortId) (f : Port → Port) : (s.modPort p f).ledger = s.ledger := rfl
@[simp] theorem modPort_store (s : State) (p : PortId) (f : Port → Port) : (s.modPort p f).store = s.store := rfl
@[simp] theorem modPort_fsi (s : State) (p : PortId) (f : Port → Port) : (s.modPort p f).fsi = s.fsi := rfl
@[simp] theorem modPort_reg (s : State) (p : PortId) (f : Port → Port) : (s.modPort p f).reg = s.reg := rfl
@[simp] theorem modPort_clk (s : State) (p : PortId) (f : Port → Port) : (s.modPort p f).clk = s.clk := rfl
@[simp] theorem modPort_pwr (s : State) (p : PortId) (f : Port → Port) : (s.modPort p f).pwr = s.pwr := rfl
@[simp] theorem modPort_boot (s : State) (p : PortId) (f : Port → Port) : (s.modPort p f).boot = s.boot := rfl
@[simp] theorem modPort_test (s : State) (p : PortId) (f : Port → Port) : (s.modPort p f).test = s.test := rfl
@[simp] theorem modPort_stack (s : State) (p : PortId) (f : Port → Port) : (s.modPort p f).stack = s.stack := rfl
@[simp] theorem modPort_time (s : State) (p : PortId) (f : Port → Port) : (s.modPort p f).time = s.time := rfl
@[simp] theorem modPort_cal (s : State) (p : PortId) (f : Port → Port) : (s.modPort p f).cal = s.cal := rfl
@[simp] theorem modPort_cap (s : State) (p : PortId) (f : Port → Port) : (s.modPort p f).cap = s.cap := rfl
@[simp] theorem modPort_pending (s : State) (p : PortId) (f : Port → Port) : (s.modPort p f).pending = s.pending := rfl

@[simp] theorem modLane_part (s : State) (p : PortId) (n : LaneId) (f : Lane → Lane) : (s.modLane p n f).part = s.part := rfl
@[simp] theorem modLane_fresh (s : State) (p : PortId) (n : LaneId) (f : Lane → Lane) : (s.modLane p n f).fresh = s.fresh := rfl
@[simp] theorem modLane_uptime (s : State) (p : PortId) (n : LaneId) (f : Lane → Lane) : (s.modLane p n f).uptime = s.uptime := rfl
@[simp] theorem modLane_pods (s : State) (p : PortId) (n : LaneId) (f : Lane → Lane) : (s.modLane p n f).pods = s.pods := rfl
@[simp] theorem modLane_flt (s : State) (p : PortId) (n : LaneId) (f : Lane → Lane) : (s.modLane p n f).flt = s.flt := rfl
@[simp] theorem modLane_fw (s : State) (p : PortId) (n : LaneId) (f : Lane → Lane) : (s.modLane p n f).fw = s.fw := rfl
@[simp] theorem modLane_ledger (s : State) (p : PortId) (n : LaneId) (f : Lane → Lane) : (s.modLane p n f).ledger = s.ledger := rfl
@[simp] theorem modLane_store (s : State) (p : PortId) (n : LaneId) (f : Lane → Lane) : (s.modLane p n f).store = s.store := rfl
@[simp] theorem modLane_fsi (s : State) (p : PortId) (n : LaneId) (f : Lane → Lane) : (s.modLane p n f).fsi = s.fsi := rfl
@[simp] theorem modLane_reg (s : State) (p : PortId) (n : LaneId) (f : Lane → Lane) : (s.modLane p n f).reg = s.reg := rfl
@[simp] theorem modLane_clk (s : State) (p : PortId) (n : LaneId) (f : Lane → Lane) : (s.modLane p n f).clk = s.clk := rfl
@[simp] theorem modLane_pwr (s : State) (p : PortId) (n : LaneId) (f : Lane → Lane) : (s.modLane p n f).pwr = s.pwr := rfl
@[simp] theorem modLane_boot (s : State) (p : PortId) (n : LaneId) (f : Lane → Lane) : (s.modLane p n f).boot = s.boot := rfl
@[simp] theorem modLane_test (s : State) (p : PortId) (n : LaneId) (f : Lane → Lane) : (s.modLane p n f).test = s.test := rfl
@[simp] theorem modLane_stack (s : State) (p : PortId) (n : LaneId) (f : Lane → Lane) : (s.modLane p n f).stack = s.stack := rfl
@[simp] theorem modLane_time (s : State) (p : PortId) (n : LaneId) (f : Lane → Lane) : (s.modLane p n f).time = s.time := rfl
@[simp] theorem modLane_cal (s : State) (p : PortId) (n : LaneId) (f : Lane → Lane) : (s.modLane p n f).cal = s.cal := rfl
@[simp] theorem modLane_cap (s : State) (p : PortId) (n : LaneId) (f : Lane → Lane) : (s.modLane p n f).cap = s.cap := rfl
@[simp] theorem modLane_pending (s : State) (p : PortId) (n : LaneId) (f : Lane → Lane) : (s.modLane p n f).pending = s.pending := rfl

@[simp] theorem modPod_part (s : State) (k : PodId) (f : Pod → Pod) : (s.modPod k f).part = s.part := rfl
@[simp] theorem modPod_fresh (s : State) (k : PodId) (f : Pod → Pod) : (s.modPod k f).fresh = s.fresh := rfl
@[simp] theorem modPod_uptime (s : State) (k : PodId) (f : Pod → Pod) : (s.modPod k f).uptime = s.uptime := rfl
@[simp] theorem modPod_ports (s : State) (k : PodId) (f : Pod → Pod) : (s.modPod k f).ports = s.ports := rfl
@[simp] theorem modPod_flt (s : State) (k : PodId) (f : Pod → Pod) : (s.modPod k f).flt = s.flt := rfl
@[simp] theorem modPod_fw (s : State) (k : PodId) (f : Pod → Pod) : (s.modPod k f).fw = s.fw := rfl
@[simp] theorem modPod_ledger (s : State) (k : PodId) (f : Pod → Pod) : (s.modPod k f).ledger = s.ledger := rfl
@[simp] theorem modPod_store (s : State) (k : PodId) (f : Pod → Pod) : (s.modPod k f).store = s.store := rfl
@[simp] theorem modPod_fsi (s : State) (k : PodId) (f : Pod → Pod) : (s.modPod k f).fsi = s.fsi := rfl
@[simp] theorem modPod_reg (s : State) (k : PodId) (f : Pod → Pod) : (s.modPod k f).reg = s.reg := rfl
@[simp] theorem modPod_clk (s : State) (k : PodId) (f : Pod → Pod) : (s.modPod k f).clk = s.clk := rfl
@[simp] theorem modPod_pwr (s : State) (k : PodId) (f : Pod → Pod) : (s.modPod k f).pwr = s.pwr := rfl
@[simp] theorem modPod_boot (s : State) (k : PodId) (f : Pod → Pod) : (s.modPod k f).boot = s.boot := rfl
@[simp] theorem modPod_test (s : State) (k : PodId) (f : Pod → Pod) : (s.modPod k f).test = s.test := rfl
@[simp] theorem modPod_stack (s : State) (k : PodId) (f : Pod → Pod) : (s.modPod k f).stack = s.stack := rfl
@[simp] theorem modPod_time (s : State) (k : PodId) (f : Pod → Pod) : (s.modPod k f).time = s.time := rfl
@[simp] theorem modPod_cal (s : State) (k : PodId) (f : Pod → Pod) : (s.modPod k f).cal = s.cal := rfl
@[simp] theorem modPod_cap (s : State) (k : PodId) (f : Pod → Pod) : (s.modPod k f).cap = s.cap := rfl
@[simp] theorem modPod_pending (s : State) (k : PodId) (f : Pod → Pod) : (s.modPod k f).pending = s.pending := rfl

@[simp] theorem mapPorts_part (s : State) (f : PortId → Port → Port) : (s.mapPorts f).part = s.part := by simp only [State.mapPorts]
@[simp] theorem mapPorts_fresh (s : State) (f : PortId → Port → Port) : (s.mapPorts f).fresh = s.fresh := by simp only [State.mapPorts]
@[simp] theorem mapPorts_uptime (s : State) (f : PortId → Port → Port) : (s.mapPorts f).uptime = s.uptime := by simp only [State.mapPorts]
@[simp] theorem mapPorts_pods (s : State) (f : PortId → Port → Port) : (s.mapPorts f).pods = s.pods := by simp only [State.mapPorts]
@[simp] theorem mapPorts_flt (s : State) (f : PortId → Port → Port) : (s.mapPorts f).flt = s.flt := by simp only [State.mapPorts]
@[simp] theorem mapPorts_fw (s : State) (f : PortId → Port → Port) : (s.mapPorts f).fw = s.fw := by simp only [State.mapPorts]
@[simp] theorem mapPorts_ledger (s : State) (f : PortId → Port → Port) : (s.mapPorts f).ledger = s.ledger := by simp only [State.mapPorts]
@[simp] theorem mapPorts_store (s : State) (f : PortId → Port → Port) : (s.mapPorts f).store = s.store := by simp only [State.mapPorts]
@[simp] theorem mapPorts_fsi (s : State) (f : PortId → Port → Port) : (s.mapPorts f).fsi = s.fsi := by simp only [State.mapPorts]
@[simp] theorem mapPorts_reg (s : State) (f : PortId → Port → Port) : (s.mapPorts f).reg = s.reg := by simp only [State.mapPorts]
@[simp] theorem mapPorts_clk (s : State) (f : PortId → Port → Port) : (s.mapPorts f).clk = s.clk := by simp only [State.mapPorts]
@[simp] theorem mapPorts_pwr (s : State) (f : PortId → Port → Port) : (s.mapPorts f).pwr = s.pwr := by simp only [State.mapPorts]
@[simp] theorem mapPorts_boot (s : State) (f : PortId → Port → Port) : (s.mapPorts f).boot = s.boot := by simp only [State.mapPorts]
@[simp] theorem mapPorts_test (s : State) (f : PortId → Port → Port) : (s.mapPorts f).test = s.test := by simp only [State.mapPorts]
@[simp] theorem mapPorts_stack (s : State) (f : PortId → Port → Port) : (s.mapPorts f).stack = s.stack := by simp only [State.mapPorts]
@[simp] theorem mapPorts_time (s : State) (f : PortId → Port → Port) : (s.mapPorts f).time = s.time := by simp only [State.mapPorts]
@[simp] theorem mapPorts_cal (s : State) (f : PortId → Port → Port) : (s.mapPorts f).cal = s.cal := by simp only [State.mapPorts]
@[simp] theorem mapPorts_cap (s : State) (f : PortId → Port → Port) : (s.mapPorts f).cap = s.cap := by simp only [State.mapPorts]
@[simp] theorem mapPorts_pending (s : State) (f : PortId → Port → Port) : (s.mapPorts f).pending = s.pending := by simp only [State.mapPorts]

@[simp] theorem mapLanes_part (s : State) (p : PortId) (f : LaneId → Lane → Lane) : (s.mapLanes p f).part = s.part := by simp only [State.mapLanes, State.modPort]
@[simp] theorem mapLanes_fresh (s : State) (p : PortId) (f : LaneId → Lane → Lane) : (s.mapLanes p f).fresh = s.fresh := by simp only [State.mapLanes, State.modPort]
@[simp] theorem mapLanes_uptime (s : State) (p : PortId) (f : LaneId → Lane → Lane) : (s.mapLanes p f).uptime = s.uptime := by simp only [State.mapLanes, State.modPort]
@[simp] theorem mapLanes_pods (s : State) (p : PortId) (f : LaneId → Lane → Lane) : (s.mapLanes p f).pods = s.pods := by simp only [State.mapLanes, State.modPort]
@[simp] theorem mapLanes_flt (s : State) (p : PortId) (f : LaneId → Lane → Lane) : (s.mapLanes p f).flt = s.flt := by simp only [State.mapLanes, State.modPort]
@[simp] theorem mapLanes_fw (s : State) (p : PortId) (f : LaneId → Lane → Lane) : (s.mapLanes p f).fw = s.fw := by simp only [State.mapLanes, State.modPort]
@[simp] theorem mapLanes_ledger (s : State) (p : PortId) (f : LaneId → Lane → Lane) : (s.mapLanes p f).ledger = s.ledger := by simp only [State.mapLanes, State.modPort]
@[simp] theorem mapLanes_store (s : State) (p : PortId) (f : LaneId → Lane → Lane) : (s.mapLanes p f).store = s.store := by simp only [State.mapLanes, State.modPort]
@[simp] theorem mapLanes_fsi (s : State) (p : PortId) (f : LaneId → Lane → Lane) : (s.mapLanes p f).fsi = s.fsi := by simp only [State.mapLanes, State.modPort]
@[simp] theorem mapLanes_reg (s : State) (p : PortId) (f : LaneId → Lane → Lane) : (s.mapLanes p f).reg = s.reg := by simp only [State.mapLanes, State.modPort]
@[simp] theorem mapLanes_clk (s : State) (p : PortId) (f : LaneId → Lane → Lane) : (s.mapLanes p f).clk = s.clk := by simp only [State.mapLanes, State.modPort]
@[simp] theorem mapLanes_pwr (s : State) (p : PortId) (f : LaneId → Lane → Lane) : (s.mapLanes p f).pwr = s.pwr := by simp only [State.mapLanes, State.modPort]
@[simp] theorem mapLanes_boot (s : State) (p : PortId) (f : LaneId → Lane → Lane) : (s.mapLanes p f).boot = s.boot := by simp only [State.mapLanes, State.modPort]
@[simp] theorem mapLanes_test (s : State) (p : PortId) (f : LaneId → Lane → Lane) : (s.mapLanes p f).test = s.test := by simp only [State.mapLanes, State.modPort]
@[simp] theorem mapLanes_stack (s : State) (p : PortId) (f : LaneId → Lane → Lane) : (s.mapLanes p f).stack = s.stack := by simp only [State.mapLanes, State.modPort]
@[simp] theorem mapLanes_time (s : State) (p : PortId) (f : LaneId → Lane → Lane) : (s.mapLanes p f).time = s.time := by simp only [State.mapLanes, State.modPort]
@[simp] theorem mapLanes_cal (s : State) (p : PortId) (f : LaneId → Lane → Lane) : (s.mapLanes p f).cal = s.cal := by simp only [State.mapLanes, State.modPort]
@[simp] theorem mapLanes_cap (s : State) (p : PortId) (f : LaneId → Lane → Lane) : (s.mapLanes p f).cap = s.cap := by simp only [State.mapLanes, State.modPort]
@[simp] theorem mapLanes_pending (s : State) (p : PortId) (f : LaneId → Lane → Lane) : (s.mapLanes p f).pending = s.pending := by simp only [State.mapLanes, State.modPort]

@[simp] theorem mapPods_part (s : State) (f : PodId → Pod → Pod) : (s.mapPods f).part = s.part := by simp only [State.mapPods]
@[simp] theorem mapPods_fresh (s : State) (f : PodId → Pod → Pod) : (s.mapPods f).fresh = s.fresh := by simp only [State.mapPods]
@[simp] theorem mapPods_uptime (s : State) (f : PodId → Pod → Pod) : (s.mapPods f).uptime = s.uptime := by simp only [State.mapPods]
@[simp] theorem mapPods_ports (s : State) (f : PodId → Pod → Pod) : (s.mapPods f).ports = s.ports := by simp only [State.mapPods]
@[simp] theorem mapPods_flt (s : State) (f : PodId → Pod → Pod) : (s.mapPods f).flt = s.flt := by simp only [State.mapPods]
@[simp] theorem mapPods_fw (s : State) (f : PodId → Pod → Pod) : (s.mapPods f).fw = s.fw := by simp only [State.mapPods]
@[simp] theorem mapPods_ledger (s : State) (f : PodId → Pod → Pod) : (s.mapPods f).ledger = s.ledger := by simp only [State.mapPods]
@[simp] theorem mapPods_store (s : State) (f : PodId → Pod → Pod) : (s.mapPods f).store = s.store := by simp only [State.mapPods]
@[simp] theorem mapPods_fsi (s : State) (f : PodId → Pod → Pod) : (s.mapPods f).fsi = s.fsi := by simp only [State.mapPods]
@[simp] theorem mapPods_reg (s : State) (f : PodId → Pod → Pod) : (s.mapPods f).reg = s.reg := by simp only [State.mapPods]
@[simp] theorem mapPods_clk (s : State) (f : PodId → Pod → Pod) : (s.mapPods f).clk = s.clk := by simp only [State.mapPods]
@[simp] theorem mapPods_pwr (s : State) (f : PodId → Pod → Pod) : (s.mapPods f).pwr = s.pwr := by simp only [State.mapPods]
@[simp] theorem mapPods_boot (s : State) (f : PodId → Pod → Pod) : (s.mapPods f).boot = s.boot := by simp only [State.mapPods]
@[simp] theorem mapPods_test (s : State) (f : PodId → Pod → Pod) : (s.mapPods f).test = s.test := by simp only [State.mapPods]
@[simp] theorem mapPods_stack (s : State) (f : PodId → Pod → Pod) : (s.mapPods f).stack = s.stack := by simp only [State.mapPods]
@[simp] theorem mapPods_time (s : State) (f : PodId → Pod → Pod) : (s.mapPods f).time = s.time := by simp only [State.mapPods]
@[simp] theorem mapPods_cal (s : State) (f : PodId → Pod → Pod) : (s.mapPods f).cal = s.cal := by simp only [State.mapPods]
@[simp] theorem mapPods_cap (s : State) (f : PodId → Pod → Pod) : (s.mapPods f).cap = s.cap := by simp only [State.mapPods]
@[simp] theorem mapPods_pending (s : State) (f : PodId → Pod → Pod) : (s.mapPods f).pending = s.pending := by simp only [State.mapPods]

@[simp] theorem written_part (s : State) : (written s).part = s.part := rfl
@[simp] theorem written_fresh (s : State) : (written s).fresh = s.fresh := rfl
@[simp] theorem written_uptime (s : State) : (written s).uptime = s.uptime := rfl
@[simp] theorem written_ports (s : State) : (written s).ports = s.ports := rfl
@[simp] theorem written_pods (s : State) : (written s).pods = s.pods := rfl
@[simp] theorem written_flt (s : State) : (written s).flt = s.flt := rfl
@[simp] theorem written_fw (s : State) : (written s).fw = s.fw := rfl
@[simp] theorem written_ledger (s : State) : (written s).ledger = s.ledger := rfl
@[simp] theorem written_store (s : State) : (written s).store = s.store := rfl
@[simp] theorem written_fsi (s : State) : (written s).fsi = s.fsi := rfl
@[simp] theorem written_clk (s : State) : (written s).clk = s.clk := rfl
@[simp] theorem written_pwr (s : State) : (written s).pwr = s.pwr := rfl
@[simp] theorem written_boot (s : State) : (written s).boot = s.boot := rfl
@[simp] theorem written_test (s : State) : (written s).test = s.test := rfl
@[simp] theorem written_stack (s : State) : (written s).stack = s.stack := rfl
@[simp] theorem written_time (s : State) : (written s).time = s.time := rfl
@[simp] theorem written_cal (s : State) : (written s).cal = s.cal := rfl
@[simp] theorem written_cap (s : State) : (written s).cap = s.cap := rfl
@[simp] theorem written_pending (s : State) : (written s).pending = s.pending := rfl

@[simp] theorem readValue_part (w : Word) (s : State) : (readValue w s).part = s.part := rfl
@[simp] theorem readValue_fresh (w : Word) (s : State) : (readValue w s).fresh = s.fresh := rfl
@[simp] theorem readValue_uptime (w : Word) (s : State) : (readValue w s).uptime = s.uptime := rfl
@[simp] theorem readValue_ports (w : Word) (s : State) : (readValue w s).ports = s.ports := rfl
@[simp] theorem readValue_pods (w : Word) (s : State) : (readValue w s).pods = s.pods := rfl
@[simp] theorem readValue_flt (w : Word) (s : State) : (readValue w s).flt = s.flt := rfl
@[simp] theorem readValue_fw (w : Word) (s : State) : (readValue w s).fw = s.fw := rfl
@[simp] theorem readValue_ledger (w : Word) (s : State) : (readValue w s).ledger = s.ledger := rfl
@[simp] theorem readValue_store (w : Word) (s : State) : (readValue w s).store = s.store := rfl
@[simp] theorem readValue_fsi (w : Word) (s : State) : (readValue w s).fsi = s.fsi := rfl
@[simp] theorem readValue_clk (w : Word) (s : State) : (readValue w s).clk = s.clk := rfl
@[simp] theorem readValue_pwr (w : Word) (s : State) : (readValue w s).pwr = s.pwr := rfl
@[simp] theorem readValue_boot (w : Word) (s : State) : (readValue w s).boot = s.boot := rfl
@[simp] theorem readValue_test (w : Word) (s : State) : (readValue w s).test = s.test := rfl
@[simp] theorem readValue_stack (w : Word) (s : State) : (readValue w s).stack = s.stack := rfl
@[simp] theorem readValue_time (w : Word) (s : State) : (readValue w s).time = s.time := rfl
@[simp] theorem readValue_cal (w : Word) (s : State) : (readValue w s).cal = s.cal := rfl
@[simp] theorem readValue_cap (w : Word) (s : State) : (readValue w s).cap = s.cap := rfl
@[simp] theorem readValue_pending (w : Word) (s : State) : (readValue w s).pending = s.pending := rfl

@[simp] theorem ignored_part (who : Initiator) (a : Nat) (s : State) : (ignored who a s).part = s.part := rfl
@[simp] theorem ignored_fresh (who : Initiator) (a : Nat) (s : State) : (ignored who a s).fresh = s.fresh := rfl
@[simp] theorem ignored_uptime (who : Initiator) (a : Nat) (s : State) : (ignored who a s).uptime = s.uptime := rfl
@[simp] theorem ignored_ports (who : Initiator) (a : Nat) (s : State) : (ignored who a s).ports = s.ports := rfl
@[simp] theorem ignored_pods (who : Initiator) (a : Nat) (s : State) : (ignored who a s).pods = s.pods := rfl
@[simp] theorem ignored_flt (who : Initiator) (a : Nat) (s : State) : (ignored who a s).flt = s.flt := rfl
@[simp] theorem ignored_fw (who : Initiator) (a : Nat) (s : State) : (ignored who a s).fw = s.fw := rfl
@[simp] theorem ignored_ledger (who : Initiator) (a : Nat) (s : State) : (ignored who a s).ledger = s.ledger := rfl
@[simp] theorem ignored_store (who : Initiator) (a : Nat) (s : State) : (ignored who a s).store = s.store := rfl
@[simp] theorem ignored_fsi (who : Initiator) (a : Nat) (s : State) : (ignored who a s).fsi = s.fsi := rfl
@[simp] theorem ignored_clk (who : Initiator) (a : Nat) (s : State) : (ignored who a s).clk = s.clk := rfl
@[simp] theorem ignored_pwr (who : Initiator) (a : Nat) (s : State) : (ignored who a s).pwr = s.pwr := rfl
@[simp] theorem ignored_boot (who : Initiator) (a : Nat) (s : State) : (ignored who a s).boot = s.boot := rfl
@[simp] theorem ignored_test (who : Initiator) (a : Nat) (s : State) : (ignored who a s).test = s.test := rfl
@[simp] theorem ignored_stack (who : Initiator) (a : Nat) (s : State) : (ignored who a s).stack = s.stack := rfl
@[simp] theorem ignored_time (who : Initiator) (a : Nat) (s : State) : (ignored who a s).time = s.time := rfl
@[simp] theorem ignored_cal (who : Initiator) (a : Nat) (s : State) : (ignored who a s).cal = s.cal := rfl
@[simp] theorem ignored_cap (who : Initiator) (a : Nat) (s : State) : (ignored who a s).cap = s.cap := rfl
@[simp] theorem ignored_pending (who : Initiator) (a : Nat) (s : State) : (ignored who a s).pending = s.pending := rfl

@[simp] theorem busError_part (who : Initiator) (s : State) : (busError who s).part = s.part := rfl
@[simp] theorem busError_fresh (who : Initiator) (s : State) : (busError who s).fresh = s.fresh := rfl
@[simp] theorem busError_uptime (who : Initiator) (s : State) : (busError who s).uptime = s.uptime := rfl
@[simp] theorem busError_ports (who : Initiator) (s : State) : (busError who s).ports = s.ports := rfl
@[simp] theorem busError_pods (who : Initiator) (s : State) : (busError who s).pods = s.pods := rfl
@[simp] theorem busError_flt (who : Initiator) (s : State) : (busError who s).flt = s.flt := rfl
@[simp] theorem busError_fw (who : Initiator) (s : State) : (busError who s).fw = s.fw := rfl
@[simp] theorem busError_ledger (who : Initiator) (s : State) : (busError who s).ledger = s.ledger := rfl
@[simp] theorem busError_store (who : Initiator) (s : State) : (busError who s).store = s.store := rfl
@[simp] theorem busError_fsi (who : Initiator) (s : State) : (busError who s).fsi = s.fsi := rfl
@[simp] theorem busError_clk (who : Initiator) (s : State) : (busError who s).clk = s.clk := rfl
@[simp] theorem busError_pwr (who : Initiator) (s : State) : (busError who s).pwr = s.pwr := rfl
@[simp] theorem busError_boot (who : Initiator) (s : State) : (busError who s).boot = s.boot := rfl
@[simp] theorem busError_test (who : Initiator) (s : State) : (busError who s).test = s.test := rfl
@[simp] theorem busError_stack (who : Initiator) (s : State) : (busError who s).stack = s.stack := rfl
@[simp] theorem busError_time (who : Initiator) (s : State) : (busError who s).time = s.time := rfl
@[simp] theorem busError_cal (who : Initiator) (s : State) : (busError who s).cal = s.cal := rfl
@[simp] theorem busError_cap (who : Initiator) (s : State) : (busError who s).cap = s.cap := rfl
@[simp] theorem busError_pending (who : Initiator) (s : State) : (busError who s).pending = s.pending := rfl

@[simp] theorem written_port (s : State) (p : PortId) : (written s).port p = s.port p := rfl
@[simp] theorem written_lane (s : State) (p : PortId) (n : LaneId) : (written s).lane p n = s.lane p n := rfl
@[simp] theorem written_pod (s : State) (k : PodId) : (written s).pod k = s.pod k := rfl
@[simp] theorem readValue_port (w : Word) (s : State) (p : PortId) : (readValue w s).port p = s.port p := rfl
@[simp] theorem readValue_lane (w : Word) (s : State) (p : PortId) (n : LaneId) : (readValue w s).lane p n = s.lane p n := rfl
@[simp] theorem readValue_pod (w : Word) (s : State) (k : PodId) : (readValue w s).pod k = s.pod k := rfl
@[simp] theorem ignored_port (who : Initiator) (a : Nat) (s : State) (p : PortId) : (ignored who a s).port p = s.port p := rfl
@[simp] theorem ignored_lane (who : Initiator) (a : Nat) (s : State) (p : PortId) (n : LaneId) : (ignored who a s).lane p n = s.lane p n := rfl
@[simp] theorem ignored_pod (who : Initiator) (a : Nat) (s : State) (k : PodId) : (ignored who a s).pod k = s.pod k := rfl
@[simp] theorem busError_port (who : Initiator) (s : State) (p : PortId) : (busError who s).port p = s.port p := rfl
@[simp] theorem busError_lane (who : Initiator) (s : State) (p : PortId) (n : LaneId) : (busError who s).lane p n = s.lane p n := rfl
@[simp] theorem busError_pod (who : Initiator) (s : State) (k : PodId) : (busError who s).pod k = s.pod k := rfl
@[simp] theorem modLane_pod (s : State) (p : PortId) (n : LaneId) (f : Lane → Lane) (k : PodId) : (s.modLane p n f).pod k = s.pod k := rfl
@[simp] theorem modPort_pod (s : State) (p : PortId) (f : Port → Port) (k : PodId) : (s.modPort p f).pod k = s.pod k := rfl
@[simp] theorem modPod_port (s : State) (k : PodId) (f : Pod → Pod) (p : PortId) : (s.modPod k f).port p = s.port p := rfl
@[simp] theorem modPod_lane (s : State) (k : PodId) (f : Pod → Pod) (p : PortId) (n : LaneId) : (s.modPod k f).lane p n = s.lane p n := rfl

/-- What a write that took effect answers. -/
@[simp] theorem written_reply (s : State) : (written s).reg.reply = .written := rfl
/-- What an ignored write answers. -/
@[simp] theorem ignored_reply (who : Initiator) (a : Nat) (s : State) : (ignored who a s).reg.reply = .ignored := rfl
/-- What a bus error answers. -/
@[simp] theorem busError_reply (who : Initiator) (s : State) : (busError who s).reg.reply = .busError := rfl
/-- What a read answers. -/
@[simp] theorem readValue_reply (w : Word) (s : State) : (readValue w s).reg.reply = .value w := rfl

end Sys2Proof
end

