-- ==== Sys2Proof/Laws/Units.lean ====
section
/-!
SUPPORT. What the named updates of a sounding instance, a sub-port, a lane PLL group and a stack port set and leave.
-/
namespace Sys2Proof

open Sys2Proof.Machine

/-- The instance that modInst changes. -/
@[simp] theorem modInst_inst (p : PortId) (cm : Bool) (f : SndInst → SndInst) (s : State) :
    ((modInst p cm f s).port p).snd.inst cm = f ((s.port p).snd.inst cm) := by
  cases cm <;> simp [modInst, Port.modInst, SndSt.inst]

/-- The link that modInst leaves. -/
@[simp] theorem modInst_link (p : PortId) (cm : Bool) (f : SndInst → SndInst) (s : State) :
    ((modInst p cm f s).port p).link = (s.port p).link := by
  cases cm <;> simp [modInst, Port.modInst]

/-- The sub-port that modSub changes. -/
@[simp] theorem modSub_sub (p : PortId) (i : SubId) (f : IeeeSub → IeeeSub) (s : State) :
    ((modSub p i f s).port p).ieee[i.val] = f (s.port p).ieee[i.val] := by
  simp [modSub]

/-- The link that modSub leaves. -/
@[simp] theorem modSub_link (p : PortId) (i : SubId) (f : IeeeSub → IeeeSub) (s : State) :
    ((modSub p i f s).port p).link = (s.port p).link := by
  simp [modSub]

/-- The lanes that modSub leaves. -/
@[simp] theorem modSub_lanes (p : PortId) (i : SubId) (f : IeeeSub → IeeeSub) (s : State) :
    ((modSub p i f s).port p).lanes = (s.port p).lanes := by
  simp [modSub]

/-- The group that modGroup changes. -/
@[simp] theorem modGroup_group (s : State) (k : PodId) (g : GroupId) (f : LpllGroup → LpllGroup) :
    ((s.modGroup k g f).pod k).groups[g.val] = f (s.pod k).groups[g.val] := by
  simp [State.modGroup]

/-- The ports that modGroup leaves. -/
@[simp] theorem modGroup_ports (s : State) (k : PodId) (g : GroupId) (f : LpllGroup → LpllGroup) :
    (s.modGroup k g f).ports = s.ports := rfl

/-- The stack port that modStk changes. -/
@[simp] theorem modStk_stk (s : State) (p : StackPortId) (f : StkPort → StkPort) : (s.modStk p f).stk p = f (s.stk p) := by
  simp [State.modStk, State.stk]

/-- The stack ports that modStk leaves. -/
theorem modStk_stk_other (s : State) (p q : StackPortId) (f : StkPort → StkPort) (h : p ≠ q) :
    (s.modStk p f).stk q = s.stk q := by
  simp only [State.modStk, State.stk]
  exact updAt_other _ _ _ _ h

/-- The ports that modStk leaves. -/
@[simp] theorem modStk_ports (s : State) (p : StackPortId) (f : StkPort → StkPort) : (s.modStk p f).ports = s.ports := rfl

end Sys2Proof
end

