-- ==== Sys2Proof/Laws/Commands.lean ====
section
/-!
SUPPORT. What a register access and a command packet come to where they are served, and what they come to where they are not.
-/
namespace Sys2Proof

open Sys2Proof.Machine

/-- A write that reaches its register is the register's own effect. -/
theorem regWrite_reaches {who : Initiator} {addr : Nat} {s : State} {f : State → State} (h : WriteReaches who s addr) :
    regWrite who addr s f = f s := by
  obtain ⟨ha, hc | rfl | rfl | hm⟩ := h
  · simp [regWrite, ha, hc]
  · simp [regWrite, ha]
  · simp [regWrite, ha]
  · simp [regWrite, ha, hm.1, hm.2]

/-- A write of an inaccessible address is a bus error. -/
theorem regWrite_gated {who : Initiator} {addr : Nat} {s : State} {f : State → State} (h : accessible s addr = false) :
    regWrite who addr s f = busError who s := by
  simp [regWrite, h]

/-- A read of an accessible address is the register's own effect, as far as its initiator sees it. -/
theorem regRead_reaches {who : Initiator} {addr : Nat} {s : State} {f : State → State} (h : accessible s addr = true) :
    regRead who addr s f = spiData who (f s) := by
  simp [regRead, h]

/-- Only a read through SPI can come late, and only while the hub is slow. -/
theorem spiData_ready {who : Initiator} {s : State} (h : who ≠ .spi ∨ s.hubSlow = false) : spiData who s = s := by
  rcases h with h | h <;> simp [spiData, h]

/-- A command that runs already starts nothing more. -/
theorem startCommand_running {via : Origin} {opcode : Nat} {port : Option PortId} {s : State} (h : Serves via opcode s) :
    startCommand via opcode port s = s := by
  unfold startCommand
  rw [if_pos h.1]

/-- A command that is served is its own effect. -/
theorem command_serves {via : Origin} {opcode : Nat} {s : State} {body : State → State} (h : Serves via opcode s) :
    command via opcode s body = body s := by
  have h0 := startCommand_running (port := none) h
  obtain ⟨_, h2, h3, h4⟩ := h
  cases hl : libGroup opcode
  · obtain ⟨h5, h6, h7, h8, h9⟩ := h4 hl
    have hc : (!s.boot.configDone && decide (via ≠ .stageC)) = false := by
      rcases h5 with h5 | h5 <;> simp [h5]
    simp only [command, h0, hl, h2, h7, h8, h9, hc]
    simp [h6]
  · simp [command, h0, hl, h2, h3 hl]

/-- A port command that is served on an open port is its own effect. -/
theorem portCommand_serves {via : Origin} {opcode : Nat} {p : PortId} {s : State} {body : State → State}
    (h : Serves via opcode s) (hp : s.portOpen p = true) : portCommand via opcode p s body = body s := by
  simp only [portCommand, startCommand_running h, ite_self]
  rw [command_serves h]
  simp [hp]

end Sys2Proof
end

