-- ==== Sys2Proof/Laws/Memory.lean ====
section
/-!
SUPPORT. Slot memory: every write keeps its canonical form, and a read gives what was last written to its address.
-/
namespace Sys2Proof

open Sys2Proof.Machine

/-- A canonical memory behind a lower address. -/
theorem memWf_cons {c : Nat × Byte} {m : List (Nat × Byte)} :
    memWf (c :: m) = true ↔ c.2 ≠ 0 ∧ (∀ d ∈ m.head?, c.1 < d.1) ∧ memWf m = true := by
  cases m with
  | nil => simp [memWf]
  | cons d m => simp [memWf, and_assoc]

/-- The lowest address after a write: the lower of the old lowest and the address written, or one above the old lowest. -/
theorem memWrite_head {m : List (Nat × Byte)} {a k : Nat} {b : Byte} (hm : memWf m = true) (ha : k < a)
    (hk : ∀ d ∈ m.head?, k < d.1) : ∀ d ∈ (memWrite m a b).head?, k < d.1 := by
  cases m with
  | nil => simp only [memWrite]; split_ifs <;> simp [ha]
  | cons c m =>
    have hc : k < c.1 := hk c rfl
    have hd : ∀ d ∈ m.head?, k < d.1 := fun d h => hc.trans ((memWf_cons.mp hm).2.1 d h)
    unfold memWrite
    split_ifs <;> simp_all

/-- A write of one byte keeps the canonical form. -/
theorem memWrite_wf {m : List (Nat × Byte)} (a : Nat) (b : Byte) (h : memWf m = true) : memWf (memWrite m a b) = true := by
  induction m with
  | nil => simp only [memWrite]; split_ifs with hb <;> simp [memWf]; exact hb
  | cons c m ih =>
    obtain ⟨h1, h2, h3⟩ := memWf_cons.mp h
    unfold memWrite
    split_ifs with ha hb he hb
    · exact h
    · exact memWf_cons.mpr ⟨hb, by simpa using ha, h⟩
    · exact h3
    · exact memWf_cons.mpr ⟨hb, by rw [he]; exact h2, h3⟩
    · exact memWf_cons.mpr ⟨h1, memWrite_head h3 (by omega) h2, ih h3⟩

/-- A write of several bytes keeps the canonical form. -/
theorem memWriteList_wf {m : List (Nat × Byte)} (a : Nat) (l : List Byte) (h : memWf m = true) :
    memWf (memWriteList m a l) = true := by
  induction l generalizing m a with
  | nil => exact h
  | cons b l ih => exact ih _ (memWrite_wf a b h)

/-- An address below every listed one reads 0. -/
theorem memRead_below {m : List (Nat × Byte)} {a : Nat} (h : memWf m = true) (ha : ∀ d ∈ m.head?, a < d.1) : memRead m a = 0 := by
  have key : ∀ d ∈ m, a < d.1 := by
    induction m with
    | nil => simp
    | cons c m ih =>
      have hc : a < c.1 := ha c rfl
      intro d hd
      rcases List.mem_cons.mp hd with rfl | hd
      · exact hc
      · exact ih (memWf_cons.mp h).2.2 (fun d h' => hc.trans ((memWf_cons.mp h).2.1 d h')) d hd
  have : m.find? (fun c => c.1 == a) = none := by
    rw [List.find?_eq_none]
    intro d hd
    have := key d hd
    simp; omega
  simp [memRead, this]

/-- A read at an address, of a memory by its first cell. -/
theorem memRead_cons (c : Nat × Byte) (m : List (Nat × Byte)) (a : Nat) :
    memRead (c :: m) a = if c.1 = a then c.2 else memRead m a := by
  by_cases h : c.1 = a
  · simp [memRead, h]
  · simp [memRead, h]

/-- What a byte written reads. -/
theorem memRead_memWrite_same {m : List (Nat × Byte)} (a : Nat) (b : Byte) (h : memWf m = true) :
    memRead (memWrite m a b) a = b := by
  induction m with
  | nil => simp only [memWrite]; split_ifs with hb <;> simp [memRead]; exact hb.symm
  | cons c m ih =>
    obtain ⟨h1, h2, h3⟩ := memWf_cons.mp h
    unfold memWrite
    split_ifs with ha hb he hb
    · rw [hb]
      exact memRead_below h (by simpa using ha)
    · simp [memRead_cons]
    · rw [hb]
      exact memRead_below h3 (by rw [he]; exact h2)
    · simp [memRead_cons]
    · rw [memRead_cons, if_neg (by omega)]
      exact ih h3

/-- A write leaves every other address as it reads. -/
theorem memRead_memWrite_other {m : List (Nat × Byte)} {a x : Nat} (b : Byte) (hx : x ≠ a) :
    memRead (memWrite m a b) x = memRead m x := by
  induction m with
  | nil => simp only [memWrite]; split_ifs <;> simp [memRead, hx.symm]
  | cons c m ih =>
    unfold memWrite
    split_ifs with ha hb he hb
    · rfl
    · rw [memRead_cons, if_neg (Ne.symm hx)]
    · rw [memRead_cons, if_neg (by omega)]
    · rw [memRead_cons, memRead_cons, if_neg (Ne.symm hx), if_neg (by omega)]
    · rw [memRead_cons, memRead_cons, ih]

/-- A write of several bytes leaves every address outside them as it reads. -/
theorem memRead_memWriteList_other {m : List (Nat × Byte)} {a x : Nat} {l : List Byte} (hx : x < a ∨ a + l.length ≤ x) :
    memRead (memWriteList m a l) x = memRead m x := by
  induction l generalizing m a with
  | nil => rfl
  | cons b l ih =>
    simp only [List.length_cons] at hx
    rw [memWriteList, ih (by omega), memRead_memWrite_other b (by omega)]

/-- What bytes written one after another read. -/
theorem memRead_memWriteList_same {m : List (Nat × Byte)} {a i : Nat} {l : List Byte} (h : memWf m = true) (hi : i < l.length) :
    memRead (memWriteList m a l) (a + i) = l[i] := by
  induction l generalizing m a i with
  | nil => simp at hi
  | cons b l ih =>
    cases i with
    | zero =>
      rw [memWriteList, memRead_memWriteList_other (by omega)]
      exact memRead_memWrite_same a b h
    | succ i =>
      have := ih (m := memWrite m a b) (a := a + 1) (i := i) (memWrite_wf a b h) (by simpa using hi)
      rw [memWriteList, ← Nat.add_assoc a i 1, Nat.add_right_comm a i 1]
      simpa using this

/-- The memory of the state after reset is canonical. -/
theorem reset_memWf : memWf State.reset.fw.mem = true := rfl

end Sys2Proof
end

