-- ==== Sys2Proof/Laws/Calm.lean ====
section
/-!
SUPPORT. What an operation that stays clear of the hub's registers, clocks, power, time and fast status bus leaves: each such operation keeps
CalmBut from any earlier state; one that settles the clocks keeps it with ck, one that can find a request too late with lt.
-/
namespace Sys2Proof

open Sys2Proof.Machine

variable {ck lt : Bool}

theorem calm_iff (s t : State) : Calm s t ↔ CalmBut false false s t :=
  ⟨fun ⟨a, b, c, d, e, f, g⟩ => ⟨a, b, c, d, fun _ => e, f, g⟩, fun ⟨a, b, c, d, e, f, g⟩ => ⟨a, b, c, d, e rfl, f, g⟩⟩

theorem CalmBut.refl (s : State) : CalmBut ck lt s s := ⟨rfl, rfl, rfl, by split <;> rfl, fun _ => rfl, rfl, rfl⟩

theorem CalmBut.trans {s t u : State} (h : CalmBut ck lt s t) (k : CalmBut ck lt t u) : CalmBut ck lt s u := by
  obtain ⟨h1, h2, h3, h4, h5, h6, h7⟩ := h
  obtain ⟨k1, k2, k3, k4, k5, k6, k7⟩ := k
  refine ⟨k1.trans h1, k2.trans h2, k3.trans h3, ?_, fun e => (k5 e).trans (h5 e), k6.trans h6, k7.trans h7⟩
  cases lt
  · exact k4.trans h4
  · exact k4.trans (congrArg (fun r : RegSt => { r with wrStat := u.reg.wrStat, wrAddr := u.reg.wrAddr }) h4)

theorem CalmBut.upd {s t : State} {pa fr po pd fl fw le bo te sk ca cp pe} (h : CalmBut ck lt s t) :
    CalmBut ck lt s
      ⟨pa, fr, t.uptime, po, pd, fl, fw, le, t.store, t.fsi, t.reg, t.clk, t.pwr, bo, te, sk, t.time, ca, cp, pe⟩ :=
  h.trans ⟨rfl, rfl, rfl, by split <;> rfl, fun _ => rfl, rfl, rfl⟩

theorem CalmBut.clk {s t : State} {cl : ClkSt} (h : CalmBut true lt s t) : CalmBut true lt s { t with clk := cl } :=
  h.trans ⟨rfl, rfl, rfl, by split <;> rfl, fun e => Bool.noConfusion e, rfl, rfl⟩

theorem CalmBut.late {s t : State} {w a} (h : CalmBut ck true s t) :
    CalmBut ck true s { t with reg := { t.reg with wrStat := w, wrAddr := a } } :=
  h.trans ⟨rfl, rfl, rfl, rfl, fun _ => rfl, rfl, rfl⟩

theorem CalmBut.foldl {α} {s t : State} {l : List α} {f : State → α → State}
    (k : ∀ t x, CalmBut ck lt s t → CalmBut ck lt s (f t x)) (h : CalmBut ck lt s t) : CalmBut ck lt s (l.foldl f t) := by
  induction l generalizing t with
  | nil => exact h
  | cons x xs ih => exact ih (k _ _ h)

theorem CalmBut.ite {c : Prop} [Decidable c] {s a b : State} (ha : CalmBut ck lt s a) (hb : CalmBut ck lt s b) :
    CalmBut ck lt s (if c then a else b) := by
  split
  · exact ha
  · exact hb

theorem CalmBut.ite2 {α : Type} {c : Prop} [Decidable c] {s : State} {a b : α × State} (ha : CalmBut ck lt s a.2)
    (hb : CalmBut ck lt s b.2) : CalmBut ck lt s (if c then a else b).2 := by
  split
  · exact ha
  · exact hb

theorem modPort_calm {s₀ s₁ : State} (h₀ : CalmBut ck lt s₀ s₁) (p : PortId) (f : Port → Port) :
    CalmBut ck lt s₀ (State.modPort s₁ p f) := by
  unfold State.modPort
  repeat' (first | with_reducible assumption | with_reducible apply CalmBut.foldl | intro x | with_reducible apply CalmBut.ite
                 | split | with_reducible apply CalmBut.upd)

theorem modLane_calm {s₀ s₁ : State} (h₀ : CalmBut ck lt s₀ s₁) (p : PortId) (n : LaneId) (f : Lane → Lane) :
    CalmBut ck lt s₀ (State.modLane s₁ p n f) := by
  unfold State.modLane
  repeat' (first | with_reducible assumption | with_reducible apply modPort_calm)

theorem mapPorts_calm {s₀ s₁ : State} (h₀ : CalmBut ck lt s₀ s₁) (f : PortId → Port → Port) :
    CalmBut ck lt s₀ (State.mapPorts s₁ f) := by
  unfold State.mapPorts
  repeat' (first | with_reducible assumption | with_reducible apply CalmBut.foldl | intro x | with_reducible apply CalmBut.ite
                 | split | with_reducible apply CalmBut.upd)

theorem mapLanes_calm {s₀ s₁ : State} (h₀ : CalmBut ck lt s₀ s₁) (p : PortId) (f : LaneId → Lane → Lane) :
    CalmBut ck lt s₀ (State.mapLanes s₁ p f) := by
  unfold State.mapLanes
  repeat' (first | with_reducible assumption | with_reducible apply modPort_calm)

theorem modPod_calm {s₀ s₁ : State} (h₀ : CalmBut ck lt s₀ s₁) (k : PodId) (f : Pod → Pod) :
    CalmBut ck lt s₀ (State.modPod s₁ k f) := by
  unfold State.modPod
  repeat' (first | with_reducible assumption | with_reducible apply CalmBut.foldl | intro x | with_reducible apply CalmBut.ite
                 | split | with_reducible apply CalmBut.upd)

theorem mapPods_calm {s₀ s₁ : State} (h₀ : CalmBut ck lt s₀ s₁) (f : PodId → Pod → Pod) :
    CalmBut ck lt s₀ (State.mapPods s₁ f) := by
  unfold State.mapPods
  repeat' (first | with_reducible assumption | with_reducible apply CalmBut.foldl | intro x | with_reducible apply CalmBut.ite
                 | split | with_reducible apply CalmBut.upd)

theorem draw_calm {s₀ s₁ : State} (h₀ : CalmBut ck lt s₀ s₁) :
    CalmBut ck lt s₀ (State.draw s₁).2 := by
  unfold State.draw
  repeat' (first | with_reducible assumption | with_reducible apply CalmBut.foldl | intro x | with_reducible apply CalmBut.ite
                 | split | with_reducible apply CalmBut.upd)

theorem freeNat_calm {s₀ s₁ : State} (h₀ : CalmBut ck lt s₀ s₁) :
    CalmBut ck lt s₀ (State.freeNat s₁).2 := by
  unfold State.freeNat
  repeat' (first | with_reducible assumption | with_reducible apply CalmBut.foldl | intro x | with_reducible apply CalmBut.ite
                 | split | with_reducible apply CalmBut.upd)

theorem modGroup_calm {s₀ s₁ : State} (h₀ : CalmBut ck lt s₀ s₁) (k : PodId) (g : GroupId) (f : LpllGroup → LpllGroup) :
    CalmBut ck lt s₀ (State.modGroup s₁ k g f) := by
  unfold State.modGroup
  repeat' (first | with_reducible assumption | with_reducible apply modPod_calm)

theorem modStk_calm {s₀ s₁ : State} (h₀ : CalmBut ck lt s₀ s₁) (p : StackPortId) (f : StkPort → StkPort) :
    CalmBut ck lt s₀ (State.modStk s₁ p f) := by
  unfold State.modStk
  repeat' (first | with_reducible assumption | with_reducible apply CalmBut.foldl | intro x | with_reducible apply CalmBut.ite
                 | split | with_reducible apply CalmBut.upd)

theorem stkSend_calm {s₀ s₁ : State} (h₀ : CalmBut ck lt s₀ s₁) (p : StackPortId) (m : StkMsg) :
    CalmBut ck lt s₀ (stkSend p m s₁) := by
  unfold stkSend
  repeat' (first | with_reducible assumption | with_reducible apply modStk_calm | with_reducible apply CalmBut.foldl | intro x
                 | with_reducible apply CalmBut.ite)

theorem stkUpstream_calm {s₀ s₁ : State} (h₀ : CalmBut ck lt s₀ s₁) (m : StkMsg) :
    CalmBut ck lt s₀ (stkUpstream m s₁) := by
  unfold stkUpstream
  repeat' (first | with_reducible assumption | with_reducible apply modStk_calm | with_reducible apply stkSend_calm
                 | with_reducible apply CalmBut.foldl | intro x | with_reducible apply CalmBut.ite | split
                 | with_reducible apply CalmBut.upd)

theorem stkDeliver_calm {s₀ s₁ : State} (h₀ : CalmBut ck lt s₀ s₁) (m : StkMsg) :
    CalmBut ck lt s₀ (stkDeliver m s₁) := by
  unfold stkDeliver
  repeat' (first | with_reducible assumption | with_reducible apply stkSend_calm | with_reducible apply stkUpstream_calm
                 | with_reducible apply CalmBut.foldl | intro x | with_reducible apply CalmBut.ite | split)

theorem queueCm_calm {s₀ s₁ : State} (h₀ : CalmBut ck lt s₀ s₁) (p : PortId) (t : Nat) (payload : List Byte) :
    CalmBut ck lt s₀ (queueCm p t payload s₁) := by
  unfold queueCm
  repeat' (first | with_reducible assumption | with_reducible apply modPort_calm)

theorem sendDiff_calm {s₀ s₁ : State} (h₀ : CalmBut ck lt s₀ s₁) (p : PortId) (t sf : Nat) (reply : Bool) (payload : List Byte) :
    CalmBut ck lt s₀ (sendDiff p t sf reply payload s₁) := by
  unfold sendDiff
  repeat' (first | with_reducible assumption | with_reducible apply modPort_calm)

theorem sendMgmt_calm {s₀ s₁ : State} (h₀ : CalmBut ck lt s₀ s₁) (p : PortId) (kind tag : Nat) (packet : List Byte) :
    CalmBut ck lt s₀ (sendMgmt p kind tag packet s₁) := by
  unfold sendMgmt
  repeat' (first | with_reducible assumption | with_reducible apply queueCm_calm | with_reducible apply sendDiff_calm
                 | with_reducible apply CalmBut.foldl | (intro x; intros) | with_reducible apply CalmBut.ite)

theorem ledgerPut_calm {s₀ s₁ : State} (h₀ : CalmBut ck lt s₀ s₁) (t code flags : Nat) (body : List Byte) :
    CalmBut ck lt s₀ (ledgerPut t code flags body s₁) := by
  unfold ledgerPut
  repeat' (first | with_reducible assumption | with_reducible apply CalmBut.foldl | intro x | with_reducible apply CalmBut.ite
                 | split | with_reducible apply CalmBut.upd)

theorem ledgerCoalesce_calm {s₀ s₁ : State} (h₀ : CalmBut ck lt s₀ s₁) (t code : Nat) :
    CalmBut ck lt s₀ (ledgerCoalesce t code s₁) := by
  unfold ledgerCoalesce
  repeat' (first | with_reducible assumption | with_reducible apply CalmBut.foldl | intro x | with_reducible apply CalmBut.ite
                 | split | with_reducible apply CalmBut.upd)

theorem fltMod_calm {s₀ s₁ : State} (h₀ : CalmBut ck lt s₀ s₁) (c : Cause) (i : Inst) (f : FltInst → FltInst) :
    CalmBut ck lt s₀ (fltMod c i f s₁) := by
  unfold fltMod
  repeat' (first | with_reducible assumption | with_reducible apply modLane_calm | with_reducible apply modPod_calm
                 | with_reducible apply modPort_calm | with_reducible apply CalmBut.foldl | intro x
                 | with_reducible apply CalmBut.ite | split | with_reducible apply CalmBut.upd)

theorem stackReport_calm {s₀ s₁ : State} (h₀ : CalmBut ck lt s₀ s₁) (o : Occ) :
    CalmBut ck lt s₀ (stackReport o s₁) := by
  unfold stackReport
  repeat' (first | with_reducible assumption | with_reducible apply CalmBut.foldl | intro x | with_reducible apply CalmBut.ite
                 | split | with_reducible apply CalmBut.upd)

theorem recMerge_calm {s₀ s₁ : State} (h₀ : CalmBut ck lt s₀ s₁) (o : Occ) :
    CalmBut ck lt s₀ (recMerge o s₁) := by
  unfold recMerge
  repeat' (first | with_reducible assumption | with_reducible apply CalmBut.foldl | intro x | with_reducible apply CalmBut.ite
                 | split | with_reducible apply CalmBut.upd)

theorem hubCore_calm {s₀ s₁ : State} (h₀ : CalmBut ck lt s₀ s₁) (o : Occ) :
    CalmBut ck lt s₀ (hubCore o s₁) := by
  unfold hubCore
  repeat' (first | with_reducible assumption | with_reducible apply fltMod_calm | with_reducible apply recMerge_calm
                 | with_reducible apply stackReport_calm | with_reducible apply CalmBut.foldl | intro x
                 | with_reducible apply CalmBut.ite | split | with_reducible apply CalmBut.upd)

theorem txToSafe_calm {s₀ s₁ : State} (h₀ : CalmBut ck lt s₀ s₁) (p : PortId) :
    CalmBut ck lt s₀ (txToSafe p s₁) := by
  unfold txToSafe
  repeat' (first | with_reducible assumption | with_reducible apply mapLanes_calm)

theorem hostToSafe_calm {s₀ s₁ : State} (h₀ : CalmBut ck lt s₀ s₁) (p : PortId) :
    CalmBut ck lt s₀ (hostToSafe p s₁) := by
  unfold hostToSafe
  repeat' (first | with_reducible assumption | with_reducible apply modPort_calm)

theorem takeSafe_calm {s₀ s₁ : State} (h₀ : CalmBut ck lt s₀ s₁) (c : Cause) (i : Inst) (d : Nat) (r : React) :
    CalmBut ck lt s₀ (takeSafe c i d r s₁) := by
  unfold takeSafe
  repeat' (first | with_reducible assumption | with_reducible apply hostToSafe_calm | with_reducible apply txToSafe_calm
                 | with_reducible apply CalmBut.foldl | (intro x; intros) | with_reducible apply CalmBut.ite | split
                 | with_reducible apply CalmBut.upd)

theorem occurWith_calm {s₀ s₁ : State} (h₀ : CalmBut ck lt s₀ s₁) (toLedger : Occ → State → State) (c : Cause) (i : Inst) (d : Nat)
    (cls : FltClass) (extra : React) (inj : Bool) (h_toLedger : ∀ o x, CalmBut ck lt s₀ x → CalmBut ck lt s₀ (toLedger o x)) :
    CalmBut ck lt s₀ (occurWith toLedger c i d cls extra inj s₁) := by
  unfold occurWith
  repeat' (first | with_reducible assumption | with_reducible apply h_toLedger | with_reducible apply modPod_calm
                 | with_reducible apply fltMod_calm | with_reducible apply hubCore_calm
                 | with_reducible apply takeSafe_calm | with_reducible apply CalmBut.foldl | intro x
                 | with_reducible apply CalmBut.ite | split)

theorem ledgerTake_calm {s₀ s₁ : State} (h₀ : CalmBut ck lt s₀ s₁) (t code flags : Nat) (body : List Byte) :
    CalmBut ck lt s₀ (ledgerTake t code flags body s₁) := by
  unfold ledgerTake
  refine CalmBut.ite (ledgerCoalesce_calm h₀ _ _) ?_
  exact ledgerPut_calm (CalmBut.ite h₀ (CalmBut.upd h₀)) _ _ _ _

theorem ledgerFault_calm {s₀ s₁ : State} (h₀ : CalmBut ck lt s₀ s₁) (d : Nat) :
    CalmBut ck lt s₀ (ledgerFault d s₁) := by
  unfold ledgerFault
  refine occurWith_calm h₀ _ _ _ _ _ _ _ fun o x h => ?_
  exact CalmBut.ite h (CalmBut.ite (ledgerCoalesce_calm h _ _) (ledgerTake_calm h _ _ _ _))

theorem ledgerSign_calm {s₀ s₁ : State} (h₀ : CalmBut ck lt s₀ s₁) :
    CalmBut ck lt s₀ (ledgerSign s₁) := by
  unfold ledgerSign
  repeat' (first | with_reducible assumption | with_reducible apply ledgerPut_calm | with_reducible apply CalmBut.foldl
                 | intro x | with_reducible apply CalmBut.ite | split | with_reducible apply CalmBut.upd)

theorem ledgerProgram_calm {s₀ s₁ : State} (h₀ : CalmBut ck lt s₀ s₁) (ok : Bool) :
    CalmBut ck lt s₀ (ledgerProgram ok s₁) := by
  unfold ledgerProgram
  repeat' (first | with_reducible assumption | with_reducible apply ledgerFault_calm | with_reducible apply CalmBut.foldl
                 | intro x | with_reducible apply CalmBut.ite | split | with_reducible apply CalmBut.upd)

theorem ledgerMakeSeal_calm {s₀ s₁ : State} (h₀ : CalmBut ck lt s₀ s₁) (programOk : Bool) :
    CalmBut ck lt s₀ (ledgerMakeSeal programOk s₁) := by
  unfold ledgerMakeSeal
  repeat' (first | with_reducible assumption | with_reducible apply ledgerProgram_calm | with_reducible apply ledgerSign_calm)

theorem ledgerBlock_calm {s₀ s₁ : State} (h₀ : CalmBut ck lt s₀ s₁) (reason prev : Nat) (prevChain : BitVec 384)
    (discarded flags failed : Nat) : CalmBut ck lt s₀ (ledgerBlock reason prev prevChain discarded flags failed s₁) := by
  have h₁ : CalmBut ck lt s₀ { s₁ with ledger := s₁.ledger.increment failed } := CalmBut.upd h₀
  unfold ledgerBlock
  generalize { s₁ with ledger := s₁.ledger.increment failed } = x at h₁ ⊢
  have h₂ := ledgerPut_calm h₁ 0x01 reason 0 (anchorBody prev prevChain discarded flags x)
  cases s₁.ledger.stuck failed with
  | none => exact h₂
  | some d => exact ledgerFault_calm h₂ d

theorem ledgerRollover_calm {s₀ s₁ : State} (h₀ : CalmBut ck lt s₀ s₁) : CalmBut ck lt s₀ (ledgerRollover s₁) :=
  ledgerBlock_calm (ledgerMakeSeal_calm h₀ true) _ _ _ _ _ _

theorem ledgerAppend_calm {s₀ s₁ : State} (h₀ : CalmBut ck lt s₀ s₁) (t code flags : Nat) (body : List Byte) :
    CalmBut ck lt s₀ (ledgerAppend t code flags body s₁) := by
  unfold ledgerAppend
  refine CalmBut.ite h₀ ?_
  have h₁ : CalmBut ck lt s₀ (if s₁.ledger.blockFull = true then ledgerRollover s₁ else s₁) := CalmBut.ite (ledgerRollover_calm h₀) h₀
  generalize (if s₁.ledger.blockFull = true then ledgerRollover s₁ else s₁) = x at h₁ ⊢
  have h₂ := ledgerTake_calm h₁ t code flags body
  exact CalmBut.ite (ledgerFault_calm h₂ 6) h₂

theorem ledgerFaultRecord_calm {s₀ s₁ : State} (h₀ : CalmBut ck lt s₀ s₁) (o : Occ) :
    CalmBut ck lt s₀ (ledgerFaultRecord o s₁) := by
  unfold ledgerFaultRecord
  repeat' (first | with_reducible assumption | with_reducible apply ledgerAppend_calm | with_reducible apply CalmBut.foldl
                 | intro x | with_reducible apply CalmBut.ite)

theorem hubApply_calm {s₀ s₁ : State} (h₀ : CalmBut ck lt s₀ s₁) (o : Occ) :
    CalmBut ck lt s₀ (hubApply o s₁) := by
  unfold hubApply
  repeat' (first | with_reducible assumption | with_reducible apply hubCore_calm | with_reducible apply ledgerFaultRecord_calm)

theorem occur_calm {s₀ s₁ : State} (h₀ : CalmBut ck lt s₀ s₁) (c : Cause) (i : Inst) (d : Nat) (cls : FltClass) (extra : React)
    (inj : Bool) :
    CalmBut ck lt s₀ (occur c i d cls extra inj s₁) := by
  unfold occur
  repeat' (first | with_reducible assumption | with_reducible apply ledgerFaultRecord_calm
                 | with_reducible apply occurWith_calm | with_reducible apply CalmBut.foldl | (intro x; intros))

theorem linkRecord_calm {s₀ s₁ : State} (h₀ : CalmBut ck lt s₀ s₁) (p : PortId) (old : LinkState) :
    CalmBut ck lt s₀ (linkRecord p old s₁) := by
  unfold linkRecord
  repeat' (first | with_reducible assumption | with_reducible apply ledgerAppend_calm)

theorem setLink_calm {s₀ s₁ : State} (h₀ : CalmBut ck lt s₀ s₁) (p : PortId) (st : LinkState) :
    CalmBut ck lt s₀ (setLink p st s₁) := by
  unfold setLink
  repeat' (first | with_reducible assumption | with_reducible apply modPort_calm | with_reducible apply linkRecord_calm
                 | with_reducible apply CalmBut.foldl | intro x | with_reducible apply CalmBut.ite)

theorem guarFail_calm {s₀ s₁ : State} (h₀ : CalmBut ck lt s₀ s₁) (p : PortId) (code : Nat) :
    CalmBut ck lt s₀ (guarFail p code s₁) := by
  unfold guarFail
  repeat' (first | with_reducible assumption | with_reducible apply modPort_calm | with_reducible apply occur_calm
                 | with_reducible apply CalmBut.foldl | intro x | with_reducible apply CalmBut.ite)

theorem enterDown_calm {s₀ s₁ : State} (h₀ : CalmBut ck lt s₀ s₁) (p : PortId) (cause : Nat) :
    CalmBut ck lt s₀ (enterDown p cause s₁) := by
  unfold enterDown
  repeat' (first | with_reducible assumption | with_reducible apply modPort_calm | with_reducible apply guarFail_calm
                 | with_reducible apply linkRecord_calm | with_reducible apply occur_calm | with_reducible apply CalmBut.foldl
                 | intro x | with_reducible apply CalmBut.ite)

theorem endWait_calm {s₀ s₁ : State} (h₀ : CalmBut ck lt s₀ s₁) (p : PortId) :
    CalmBut ck lt s₀ (endWait p s₁) := by
  unfold endWait
  repeat' (first | with_reducible assumption | with_reducible apply modGroup_calm | with_reducible apply fltMod_calm)

theorem safeDown_calm {s₀ s₁ : State} (h₀ : CalmBut ck lt s₀ s₁) :
    CalmBut ck lt s₀ (safeDown s₁) := by
  unfold safeDown
  repeat' (first | with_reducible assumption | with_reducible apply endWait_calm | with_reducible apply enterDown_calm
                 | with_reducible apply CalmBut.foldl | (intro x; intros) | with_reducible apply CalmBut.ite)

theorem setBank_calm {s₀ s₁ : State} (h₀ : CalmBut ck lt s₀ s₁) (b : MemBank) (f : BankResult → BankResult) :
    CalmBut ck lt s₀ (setBank b f s₁) := by
  unfold setBank
  repeat' (first | with_reducible assumption | with_reducible apply CalmBut.foldl | intro x | with_reducible apply CalmBut.ite
                 | split | with_reducible apply CalmBut.upd)

theorem modSlot_calm {s₀ s₁ : State} (h₀ : CalmBut ck lt s₀ s₁) (n : SlotId) (f : Slot → Slot) :
    CalmBut ck lt s₀ (State.modSlot s₁ n f) := by
  unfold State.modSlot
  repeat' (first | with_reducible assumption | with_reducible apply CalmBut.foldl | intro x | with_reducible apply CalmBut.ite
                 | split | with_reducible apply CalmBut.upd)

theorem setSlot_calm {s₀ s₁ : State} (h₀ : CalmBut ck lt s₀ s₁) (n : SlotId) (st : SlotState) :
    CalmBut ck lt s₀ (setSlot n st s₁) := by
  unfold setSlot
  repeat' (first | with_reducible assumption | with_reducible apply modSlot_calm | with_reducible apply CalmBut.foldl
                 | intro x | with_reducible apply CalmBut.ite | split)

theorem replyBy_calm {s₀ s₁ : State} (h₀ : CalmBut ck lt s₀ s₁) (via : Origin) (opcode tag status : Nat) (payload : List Byte) :
    CalmBut ck lt s₀ (replyBy via opcode tag status payload s₁) := by
  unfold replyBy
  cases via with
  | slot n =>
    apply setSlot_calm
    exact CalmBut.upd h₀
  | tunnel member ttag => exact CalmBut.foldl (fun t x h => stkDeliver_calm h x) h₀
  | stageC =>
    dsimp only
    split
    · exact h₀
    · exact CalmBut.upd h₀
  | farEnd p ftag => exact sendMgmt_calm h₀ _ _ _ _

theorem endRun_calm {s₀ s₁ : State} (h₀ : CalmBut ck lt s₀ s₁) (via : Origin) (opcode : Nat) :
    CalmBut ck lt s₀ (endRun via opcode s₁) := by
  unfold endRun
  repeat' (first | with_reducible assumption | with_reducible apply CalmBut.foldl | intro x | with_reducible apply CalmBut.ite
                 | split | with_reducible apply CalmBut.upd)

theorem reply_calm {s₀ s₁ : State} (h₀ : CalmBut ck lt s₀ s₁) (via : Origin) (opcode status : Nat) (payload : List Byte) :
    CalmBut ck lt s₀ (reply via opcode status payload s₁) := by
  unfold reply
  repeat' (first | with_reducible assumption | with_reducible apply endRun_calm | with_reducible apply replyBy_calm
                 | with_reducible apply CalmBut.foldl | intro x | with_reducible apply CalmBut.ite | split
                 | with_reducible apply CalmBut.upd)

theorem startCommand_calm {s₀ s₁ : State} (h₀ : CalmBut ck lt s₀ s₁) (via : Origin) (opcode : Nat) (port : Option PortId) :
    CalmBut ck lt s₀ (startCommand via opcode port s₁) := by
  unfold startCommand
  repeat' (first | with_reducible assumption | with_reducible apply setSlot_calm | with_reducible apply CalmBut.foldl
                 | intro x | with_reducible apply CalmBut.ite | split | with_reducible apply CalmBut.upd)

theorem command_calm {s₀ s₁ : State} (h₀ : CalmBut ck lt s₀ s₁) (via : Origin) (opcode : Nat) (body : State → State)
    (h_body : ∀ x, CalmBut ck lt s₀ x → CalmBut ck lt s₀ (body x)) :
    CalmBut ck lt s₀ (command via opcode s₁ body) := by
  unfold command
  repeat' (first | with_reducible assumption | with_reducible apply h_body | with_reducible apply reply_calm
                 | with_reducible apply startCommand_calm | with_reducible apply CalmBut.foldl | intro x
                 | with_reducible apply CalmBut.ite)

theorem portCommand_calm {s₀ s₁ : State} (h₀ : CalmBut ck lt s₀ s₁) (via : Origin) (opcode : Nat) (p : PortId) (body : State → State)
    (h_body : ∀ x, CalmBut ck lt s₀ x → CalmBut ck lt s₀ (body x)) :
    CalmBut ck lt s₀ (portCommand via opcode p s₁ body) := by
  unfold portCommand
  repeat' (first | with_reducible assumption | with_reducible apply h_body | with_reducible apply command_calm
                 | with_reducible apply reply_calm | with_reducible apply startCommand_calm
                 | with_reducible apply CalmBut.foldl | (intro x; intros) | with_reducible apply CalmBut.ite)

theorem setBankResult_calm {s₀ s₁ : State} (h₀ : CalmBut ck lt s₀ s₁) (b : MemBank) (code kind : Nat) (fails : List BitFail)
    (misr : BitVec 64) :
    CalmBut ck lt s₀ (setBankResult b code kind fails misr s₁) := by
  unfold setBankResult
  repeat' (first | with_reducible assumption | with_reducible apply setBank_calm)

theorem abortBist_calm {s₀ s₁ : State} (h₀ : CalmBut ck lt s₀ s₁) (status : Nat) :
    CalmBut ck lt s₀ (abortBist status s₁) := by
  unfold abortBist
  repeat' (first | with_reducible assumption | with_reducible apply reply_calm | with_reducible apply setBankResult_calm
                 | with_reducible apply CalmBut.foldl | (intro x; intros) | with_reducible apply CalmBut.ite | split
                 | with_reducible apply CalmBut.upd)

theorem abortCal_calm {s₀ s₁ : State} (h₀ : CalmBut ck lt s₀ s₁) (status : Nat) :
    CalmBut ck lt s₀ (abortCal status s₁) := by
  unfold abortCal
  repeat' (first | with_reducible assumption | with_reducible apply reply_calm | with_reducible apply CalmBut.foldl | intro x
                 | with_reducible apply CalmBut.ite | split | with_reducible apply CalmBut.upd)

theorem diagRelease_calm {s₀ s₁ : State} (h₀ : CalmBut ck lt s₀ s₁) (p : PortId) :
    CalmBut ck lt s₀ (diagRelease p s₁) := by
  unfold diagRelease
  repeat' (first | with_reducible assumption | with_reducible apply mapLanes_calm | with_reducible apply modPort_calm)

theorem diagEnd_calm {s₀ s₁ : State} (h₀ : CalmBut ck lt s₀ s₁) (p : PortId) (status : Nat) :
    CalmBut ck lt s₀ (diagEnd p status s₁) := by
  unfold diagEnd
  repeat' (first | with_reducible assumption | with_reducible apply modPort_calm | with_reducible apply diagRelease_calm
                 | with_reducible apply reply_calm | with_reducible apply CalmBut.foldl | intro x
                 | with_reducible apply CalmBut.ite | split | with_reducible apply CalmBut.upd)

theorem captureEnd_calm {s₀ s₁ : State} (h₀ : CalmBut ck lt s₀ s₁) (o : CapOutcome) :
    CalmBut ck lt s₀ (captureEnd o s₁) := by
  unfold captureEnd
  repeat' (first | with_reducible assumption | with_reducible apply diagRelease_calm | with_reducible apply CalmBut.foldl
                 | intro x | with_reducible apply CalmBut.ite | split | with_reducible apply CalmBut.upd)

theorem safeEnds_calm {s₀ s₁ : State} (h₀ : CalmBut ck lt s₀ s₁) :
    CalmBut ck lt s₀ (safeEnds s₁) := by
  unfold safeEnds
  repeat' (first | with_reducible assumption | with_reducible apply mapLanes_calm | with_reducible apply abortBist_calm
                 | with_reducible apply abortCal_calm | with_reducible apply captureEnd_calm
                 | with_reducible apply diagEnd_calm | with_reducible apply CalmBut.foldl | (intro x; intros)
                 | with_reducible apply CalmBut.ite)

theorem raiseOcc_calm {s₀ s₁ : State} (h₀ : CalmBut ck lt s₀ s₁) (c : Cause) (i : Inst) (d : Nat) (cls : FltClass) (extra : React) :
    CalmBut ck lt s₀ (raiseOcc c i d cls extra s₁) := by
  unfold raiseOcc
  repeat' (first | with_reducible assumption | with_reducible apply guarFail_calm | with_reducible apply occur_calm
                 | with_reducible apply safeDown_calm | with_reducible apply safeEnds_calm
                 | with_reducible apply CalmBut.foldl | (intro x; intros) | with_reducible apply CalmBut.ite)

theorem raise_calm {s₀ s₁ : State} (h₀ : CalmBut ck lt s₀ s₁) (c : Cause) (i : Inst) (d : Nat) :
    CalmBut ck lt s₀ (raise c i d s₁) := by
  unfold raise
  repeat' (first | with_reducible assumption | with_reducible apply raiseOcc_calm | with_reducible apply CalmBut.foldl
                 | intro x | with_reducible apply CalmBut.ite)

theorem raiseAs_calm {s₀ s₁ : State} (h₀ : CalmBut ck lt s₀ s₁) (c : Cause) (i : Inst) (d : Nat) (cls : FltClass) :
    CalmBut ck lt s₀ (raiseAs c i d cls s₁) := by
  unfold raiseAs
  repeat' (first | with_reducible assumption | with_reducible apply raiseOcc_calm | with_reducible apply CalmBut.foldl
                 | intro x | with_reducible apply CalmBut.ite)

theorem raiseWith_calm {s₀ s₁ : State} (h₀ : CalmBut ck lt s₀ s₁) (c : Cause) (i : Inst) (d : Nat) (cls : FltClass) (extra : React) :
    CalmBut ck lt s₀ (raiseWith c i d cls extra s₁) := by
  unfold raiseWith
  repeat' (first | with_reducible assumption | with_reducible apply raiseOcc_calm | with_reducible apply CalmBut.foldl
                 | intro x | with_reducible apply CalmBut.ite)

theorem raiseAgain_calm {s₀ s₁ : State} (h₀ : CalmBut ck lt s₀ s₁) (c : Cause) (i : Inst) (d : Nat) :
    CalmBut ck lt s₀ (raiseAgain c i d s₁) := by
  unfold raiseAgain
  repeat' (first | with_reducible assumption | with_reducible apply raiseOcc_calm)

theorem raiseInjected_calm {s₀ s₁ : State} (h₀ : CalmBut ck lt s₀ s₁) (c : Cause) (i : Inst) (d : Nat) :
    CalmBut ck lt s₀ (raiseInjected c i d s₁) := by
  unfold raiseInjected
  repeat' (first | with_reducible assumption | with_reducible apply occur_calm | with_reducible apply safeDown_calm
                 | with_reducible apply safeEnds_calm | with_reducible apply CalmBut.foldl | intro x
                 | with_reducible apply CalmBut.ite)

theorem settleSafe_calm {s₀ s₁ : State} (h₀ : CalmBut ck lt s₀ s₁) :
    CalmBut ck lt s₀ (settleSafe s₁) := by
  unfold settleSafe
  repeat' (first | with_reducible assumption | with_reducible apply mapPorts_calm | with_reducible apply CalmBut.foldl
                 | intro x | with_reducible apply CalmBut.ite | split | with_reducible apply CalmBut.upd)

theorem endCond_calm {s₀ s₁ : State} (h₀ : CalmBut ck lt s₀ s₁) (c : Cause) (i : Inst) :
    CalmBut ck lt s₀ (endCond c i s₁) := by
  unfold endCond
  repeat' (first | with_reducible assumption | with_reducible apply fltMod_calm | with_reducible apply settleSafe_calm)

theorem setCond_calm {s₀ s₁ : State} (h₀ : CalmBut ck lt s₀ s₁) (c : Cause) (i : Inst) (d : Nat) (b : Bool) :
    CalmBut ck lt s₀ (setCond c i d b s₁) := by
  unfold setCond
  repeat' (first | with_reducible assumption | with_reducible apply endCond_calm | with_reducible apply raise_calm
                 | with_reducible apply CalmBut.foldl | intro x | with_reducible apply CalmBut.ite)

theorem setCondUp_calm {s₀ s₁ : State} (h₀ : CalmBut ck lt s₀ s₁) (c : Cause) (i : Inst) (d : Nat) (b : Bool) :
    CalmBut ck lt s₀ (setCondUp c i d b s₁) := by
  unfold setCondUp
  repeat' (first | with_reducible assumption | with_reducible apply raise_calm | with_reducible apply CalmBut.foldl | intro x
                 | with_reducible apply CalmBut.ite)

theorem reHold_calm {s₀ s₁ : State} (h₀ : CalmBut ck lt s₀ s₁) (p : PortId) :
    CalmBut ck lt s₀ (reHold p s₁) := by
  unfold reHold
  repeat' (first | with_reducible assumption | with_reducible apply modPort_calm | with_reducible apply CalmBut.foldl
                 | intro x | with_reducible apply CalmBut.ite)

theorem reHoldAll_calm {s₀ s₁ : State} (h₀ : CalmBut ck lt s₀ s₁) :
    CalmBut ck lt s₀ (reHoldAll s₁) := by
  unfold reHoldAll
  repeat' (first | with_reducible assumption | with_reducible apply reHold_calm | with_reducible apply CalmBut.foldl
                 | (intro x; intros))

theorem holdFall_calm {s₀ s₁ : State} (h₀ : CalmBut ck lt s₀ s₁) (p : PortId) :
    CalmBut ck lt s₀ (holdFall p s₁) := by
  unfold holdFall
  repeat' (first | with_reducible assumption | with_reducible apply modPort_calm | with_reducible apply CalmBut.foldl
                 | intro x | with_reducible apply CalmBut.ite)

theorem guarRise_calm {s₀ s₁ : State} (h₀ : CalmBut ck lt s₀ s₁) (p : PortId) :
    CalmBut ck lt s₀ (guarRise p s₁) := by
  unfold guarRise
  repeat' (first | with_reducible assumption | with_reducible apply modPort_calm | with_reducible apply CalmBut.foldl
                 | intro x | with_reducible apply CalmBut.ite)

theorem guarJudge_calm {s₀ s₁ : State} (h₀ : CalmBut ck lt s₀ s₁) (p : PortId) :
    CalmBut ck lt s₀ (guarJudge p s₁) := by
  unfold guarJudge
  repeat' (first | with_reducible assumption | with_reducible apply guarFail_calm | with_reducible apply CalmBut.foldl
                 | intro x | with_reducible apply CalmBut.ite)

theorem hostViolation_calm {s₀ s₁ : State} (h₀ : CalmBut ck lt s₀ s₁) (p : PortId) :
    CalmBut ck lt s₀ (hostViolation p s₁) := by
  unfold hostViolation
  repeat' (first | with_reducible assumption | with_reducible apply modPort_calm | with_reducible apply guarFail_calm)

theorem classRecord_calm {s₀ s₁ : State} (h₀ : CalmBut ck lt s₀ s₁) (opcode : Nat) (body : List Byte) :
    CalmBut ck lt s₀ (classRecord opcode body s₁) := by
  unfold classRecord
  repeat' (first | with_reducible assumption | with_reducible apply ledgerAppend_calm)

theorem parcelLoss_calm {s₀ s₁ : State} (h₀ : CalmBut ck lt s₀ s₁) (p : PortId) (l2h : Bool) (i : Nat) :
    CalmBut ck lt s₀ (parcelLoss p l2h i s₁) := by
  unfold parcelLoss
  repeat' (first | with_reducible assumption | with_reducible apply modPort_calm | with_reducible apply raise_calm
                 | with_reducible apply reHold_calm)

theorem loseOnLink_calm {s₀ s₁ : State} (h₀ : CalmBut ck lt s₀ s₁) (m : CxlId) :
    CalmBut ck lt s₀ (loseOnLink m s₁) := by
  unfold loseOnLink
  repeat' (first | with_reducible assumption | with_reducible apply parcelLoss_calm | with_reducible apply CalmBut.foldl
                 | (intro x; intros) | with_reducible apply CalmBut.ite | split)

theorem loseAllParcels_calm {s₀ s₁ : State} (h₀ : CalmBut ck lt s₀ s₁) :
    CalmBut ck lt s₀ (loseAllParcels s₁) := by
  unfold loseAllParcels
  repeat' (first | with_reducible assumption | with_reducible apply parcelLoss_calm | with_reducible apply CalmBut.foldl
                 | (intro x; intros) | with_reducible apply CalmBut.ite | split)

theorem reserveLost_calm {s₀ s₁ : State} (h₀ : CalmBut ck lt s₀ s₁) :
    CalmBut ck lt s₀ (reserveLost s₁) := by
  unfold reserveLost
  repeat' (first | with_reducible assumption | with_reducible apply ledgerFault_calm | with_reducible apply CalmBut.foldl
                 | intro x | with_reducible apply CalmBut.ite | split | with_reducible apply CalmBut.upd)

theorem repairRows_calm {s₀ s₁ : State} (h₀ : CalmBut ck lt s₀ s₁) (b : MemBank) (rows bad : List Nat) :
    CalmBut ck lt s₀ (repairRows b rows bad s₁).1 := by
  unfold repairRows
  repeat' (first | with_reducible assumption | with_reducible apply CalmBut.foldl | intro x | with_reducible apply CalmBut.ite
                 | split | with_reducible apply CalmBut.upd)

theorem unrepairable_calm {s₀ s₁ : State} (h₀ : CalmBut ck lt s₀ s₁) (b : MemBank) :
    CalmBut ck lt s₀ (unrepairable b s₁) := by
  unfold unrepairable
  repeat' (first | with_reducible assumption | with_reducible apply raise_calm | with_reducible apply raiseAs_calm
                 | with_reducible apply raiseWith_calm | with_reducible apply CalmBut.foldl | intro x
                 | with_reducible apply CalmBut.ite | split | with_reducible apply CalmBut.upd)

theorem bootPassBank_calm {s₀ s₁ : State} (h₀ : CalmBut ck lt s₀ s₁) (b : MemBank) (found : List BankPass) :
    CalmBut ck lt s₀ (bootPassBank b found s₁) := by
  unfold bootPassBank
  repeat' (first | with_reducible assumption | with_reducible apply repairRows_calm
                 | with_reducible apply setBankResult_calm | with_reducible apply unrepairable_calm
                 | with_reducible apply CalmBut.foldl | intro x | with_reducible apply CalmBut.ite | split
                 | with_reducible apply CalmBut.upd)

theorem bootPass_calm {s₀ s₁ : State} (h₀ : CalmBut ck lt s₀ s₁) (gs : List MemGroup) (found : List BankPass) :
    CalmBut ck lt s₀ (bootPass gs found s₁) := by
  unfold bootPass
  repeat' (first | with_reducible assumption | with_reducible apply bootPassBank_calm | with_reducible apply CalmBut.foldl
                 | (intro x; intros))

theorem dspPass_calm {s₀ s₁ : State} (h₀ : CalmBut ck lt s₀ s₁) (found : List BankPass) :
    CalmBut ck lt s₀ (dspPass found s₁) := by
  unfold dspPass
  repeat' (first | with_reducible assumption | with_reducible apply bootPass_calm | with_reducible apply CalmBut.foldl
                 | intro x | with_reducible apply CalmBut.ite)

theorem corePass_calm {s₀ s₁ : State} (h₀ : CalmBut ck lt s₀ s₁) (found : List BankPass) :
    CalmBut ck lt s₀ (corePass found s₁) := by
  unfold corePass
  repeat' (first | with_reducible assumption | with_reducible apply bootPass_calm | with_reducible apply CalmBut.foldl
                 | intro x | with_reducible apply CalmBut.ite)

theorem podsRelock_calm {s₀ s₁ : State} (h₀ : CalmBut ck lt s₀ s₁) :
    CalmBut ck lt s₀ (podsRelock s₁) := by
  unfold podsRelock
  repeat' (first | with_reducible assumption | with_reducible apply mapPods_calm)

theorem flashTimeout_calm {s₀ s₁ : State} (h₀ : CalmBut ck lt s₀ s₁) :
    CalmBut ck lt s₀ (flashTimeout s₁) := by
  unfold flashTimeout
  repeat' (first | with_reducible assumption | with_reducible apply reply_calm | with_reducible apply CalmBut.foldl | intro x
                 | with_reducible apply CalmBut.ite | split | with_reducible apply CalmBut.upd)

theorem truncateOn_calm {s₀ s₁ : State} (h₀ : CalmBut ck lt s₀ s₁) (d : Fin 4) :
    CalmBut ck lt s₀ (truncateOn d s₁) := by
  unfold truncateOn
  repeat' (first | with_reducible assumption | with_reducible apply reply_calm | with_reducible apply setBankResult_calm
                 | with_reducible apply CalmBut.foldl | intro x | with_reducible apply CalmBut.ite | split
                 | with_reducible apply CalmBut.upd)

theorem podPllBack_calm {s₀ s₁ : State} (h₀ : CalmBut ck lt s₀ s₁) (k : PodId) (bit : Nat) :
    CalmBut ck lt s₀ (podPllBack k bit s₁) := by
  unfold podPllBack
  repeat' (first | with_reducible assumption | with_reducible apply modPod_calm | with_reducible apply endCond_calm
                 | with_reducible apply CalmBut.foldl | intro x | with_reducible apply CalmBut.ite)

theorem diagAbort_calm {s₀ s₁ : State} (h₀ : CalmBut ck lt s₀ s₁) (p : PortId) :
    CalmBut ck lt s₀ (diagAbort p s₁) := by
  unfold diagAbort
  repeat' (first | with_reducible assumption | with_reducible apply captureEnd_calm | with_reducible apply diagEnd_calm
                 | with_reducible apply CalmBut.foldl | intro x | with_reducible apply CalmBut.ite)

theorem startRetune_calm {s₀ s₁ : State} (h₀ : CalmBut ck lt s₀ s₁) (k : PodId) (g : GroupId) (f : PllFreq) :
    CalmBut ck lt s₀ (startRetune k g f s₁) := by
  unfold startRetune
  repeat' (first | with_reducible assumption | with_reducible apply modGroup_calm | with_reducible apply diagAbort_calm
                 | with_reducible apply CalmBut.foldl | (intro x; intros))

theorem setWaiting_calm {s₀ s₁ : State} (h₀ : CalmBut ck lt s₀ s₁) (p : PortId) (b : Bool) :
    CalmBut ck lt s₀ (setWaiting p b s₁) := by
  unfold setWaiting
  repeat' (first | with_reducible assumption | with_reducible apply modGroup_calm | with_reducible apply setCond_calm)

theorem needFreq_calm {s₀ s₁ : State} (h₀ : CalmBut ck lt s₀ s₁) (p : PortId) (f : PllFreq) :
    CalmBut ck lt s₀ (needFreq p f s₁) := by
  unfold needFreq
  repeat' (first | with_reducible assumption | with_reducible apply modGroup_calm | with_reducible apply setWaiting_calm
                 | with_reducible apply startRetune_calm | with_reducible apply CalmBut.foldl | intro x
                 | with_reducible apply CalmBut.ite)

theorem bridgeDown_calm {s₀ s₁ : State} (h₀ : CalmBut ck lt s₀ s₁) (k : PodId) :
    CalmBut ck lt s₀ (bridgeDown k s₁) := by
  unfold bridgeDown
  repeat' (first | with_reducible assumption | with_reducible apply modPod_calm)

theorem bridgeFailed_calm {s₀ s₁ : State} (h₀ : CalmBut ck lt s₀ s₁) (k : PodId) :
    CalmBut ck lt s₀ (bridgeFailed k s₁) := by
  unfold bridgeFailed
  repeat' (first | with_reducible assumption | with_reducible apply bridgeDown_calm | with_reducible apply raise_calm)

theorem topoChange_calm {s₀ s₁ : State} (h₀ : CalmBut ck lt s₀ s₁) :
    CalmBut ck lt s₀ (topoChange s₁) := by
  unfold topoChange
  repeat' (first | with_reducible assumption | with_reducible apply stkDeliver_calm | with_reducible apply CalmBut.foldl
                 | intro x | with_reducible apply CalmBut.ite | split | with_reducible apply CalmBut.upd)

theorem orphanNotice_calm {s₀ s₁ : State} (h₀ : CalmBut ck lt s₀ s₁) :
    CalmBut ck lt s₀ (orphanNotice s₁) := by
  unfold orphanNotice
  repeat' (first | with_reducible assumption | with_reducible apply stkSend_calm | with_reducible apply CalmBut.foldl
                 | (intro x; intros) | with_reducible apply CalmBut.ite)

theorem stkToLock_calm {s₀ s₁ : State} (h₀ : CalmBut ck lt s₀ s₁) (p : StackPortId) :
    CalmBut ck lt s₀ (stkToLock p s₁) := by
  unfold stkToLock
  repeat' (first | with_reducible assumption | with_reducible apply modStk_calm)

theorem judgeRole_calm {s₀ s₁ : State} (h₀ : CalmBut ck lt s₀ s₁) (p : StackPortId) (h : Hello) :
    CalmBut ck lt s₀ (judgeRole p h s₁) := by
  unfold judgeRole
  repeat' (first | with_reducible assumption | with_reducible apply modStk_calm | with_reducible apply raise_calm
                 | with_reducible apply CalmBut.foldl | intro x | with_reducible apply CalmBut.ite)

theorem stkUp_calm {s₀ s₁ : State} (h₀ : CalmBut ck lt s₀ s₁) (p : StackPortId) (h : Hello) :
    CalmBut ck lt s₀ (stkUp p h s₁) := by
  unfold stkUp
  repeat' (first | with_reducible assumption | with_reducible apply modStk_calm | with_reducible apply judgeRole_calm
                 | with_reducible apply topoChange_calm)

theorem linkAck_calm {s₀ s₁ : State} (h₀ : CalmBut ck lt s₀ s₁) (p : StackPortId) (nak : Bool) :
    CalmBut ck lt s₀ (linkAck p nak s₁) := by
  unfold linkAck
  repeat' (first | with_reducible assumption | with_reducible apply modStk_calm)

theorem stkDiscard_calm {s₀ s₁ : State} (h₀ : CalmBut ck lt s₀ s₁) (p : StackPortId) :
    CalmBut ck lt s₀ (stkDiscard p s₁) := by
  unfold stkDiscard
  repeat' (first | with_reducible assumption | with_reducible apply modStk_calm | with_reducible apply linkAck_calm)

theorem stkRouteOn_calm {s₀ s₁ : State} (h₀ : CalmBut ck lt s₀ s₁) (p : StackPortId) (m : StkMsg) :
    CalmBut ck lt s₀ (stkRouteOn p m s₁) := by
  unfold stkRouteOn
  repeat' (first | with_reducible assumption | with_reducible apply modStk_calm | with_reducible apply stkSend_calm
                 | with_reducible apply stkUpstream_calm | with_reducible apply CalmBut.foldl | (intro x; intros)
                 | with_reducible apply CalmBut.ite | split)

theorem assignChildren_calm {s₀ s₁ : State} (h₀ : CalmBut ck lt s₀ s₁) (rs : List (StackPortId × StkReport)) (b : List Nat) :
    CalmBut ck lt s₀ (assignChildren rs b s₁) := by
  induction rs generalizing s₁ b with
  | nil => exact h₀
  | cons c l ih =>
    unfold assignChildren
    extract_lets
    apply ih
    repeat' (first | with_reducible assumption | split | with_reducible apply stkSend_calm | with_reducible apply modStk_calm)

theorem endEnum_calm {s₀ s₁ : State} (h₀ : CalmBut ck lt s₀ s₁) :
    CalmBut ck lt s₀ (endEnum s₁) := by
  unfold endEnum
  repeat' (first | with_reducible assumption | with_reducible apply CalmBut.foldl | intro x | with_reducible apply CalmBut.ite
                 | split | with_reducible apply CalmBut.upd)

theorem masterAssign_calm {s₀ s₁ : State} (h₀ : CalmBut ck lt s₀ s₁) :
    CalmBut ck lt s₀ (masterAssign s₁) := by
  unfold masterAssign
  repeat' (first | with_reducible assumption | with_reducible apply modStk_calm | with_reducible apply assignChildren_calm
                 | with_reducible apply endEnum_calm | with_reducible apply CalmBut.foldl | (intro x; intros)
                 | with_reducible apply CalmBut.ite | split | with_reducible apply CalmBut.upd)

theorem stackPllSettle_calm {s₀ s₁ : State} (h₀ : CalmBut true lt s₀ s₁) : CalmBut true lt s₀ (stackPllSettle s₁) := by
  unfold stackPllSettle
  exact CalmBut.ite h₀ h₀.clk

theorem retrim_calm {s₀ s₁ : State} (h₀ : CalmBut true lt s₀ s₁) : CalmBut true lt s₀ (retrim s₁) := h₀.clk

theorem reportTry_calm {s₀ s₁ : State} (h₀ : CalmBut true lt s₀ s₁) (expired : Bool) :
    CalmBut true lt s₀ (reportTry expired s₁) := by
  unfold reportTry
  repeat' (first | with_reducible assumption | with_reducible apply modStk_calm | with_reducible apply masterAssign_calm
                 | with_reducible apply retrim_calm | with_reducible apply stackPllSettle_calm
                 | with_reducible apply stkSend_calm | with_reducible apply CalmBut.foldl | (intro x; intros)
                 | with_reducible apply CalmBut.ite | split | with_reducible apply CalmBut.upd)

theorem clearRun_calm {s₀ s₁ : State} (h₀ : CalmBut ck lt s₀ s₁) :
    CalmBut ck lt s₀ (clearRun s₁) := by
  unfold clearRun
  repeat' (first | with_reducible assumption | with_reducible apply modStk_calm | with_reducible apply CalmBut.foldl
                 | (intro x; intros))

theorem forwardDiscover_calm {s₀ s₁ : State} (h₀ : CalmBut ck lt s₀ s₁) (skip : Option StackPortId) (depth : Nat) :
    CalmBut ck lt s₀ (forwardDiscover skip depth s₁) := by
  unfold forwardDiscover
  repeat' (first | with_reducible assumption | with_reducible apply modStk_calm | with_reducible apply stkSend_calm
                 | with_reducible apply CalmBut.foldl | (intro x; intros) | with_reducible apply CalmBut.ite)

theorem enumStart_calm {s₀ s₁ : State} (h₀ : CalmBut true lt s₀ s₁) :
    CalmBut true lt s₀ (enumStart s₁) := by
  unfold enumStart
  repeat' (first | with_reducible assumption | with_reducible apply clearRun_calm
                 | with_reducible apply forwardDiscover_calm | with_reducible apply reportTry_calm
                 | with_reducible apply CalmBut.foldl | intro x | with_reducible apply CalmBut.ite | split
                 | with_reducible apply CalmBut.upd)

theorem answerStandby_calm {s₀ s₁ : State} (h₀ : CalmBut ck lt s₀ s₁) (p : StackPortId) :
    CalmBut ck lt s₀ (answerStandby p s₁) := by
  unfold answerStandby
  repeat' (first | with_reducible assumption | with_reducible apply modStk_calm | with_reducible apply stkSend_calm)

theorem releaseHeld_calm {s₀ s₁ : State} (h₀ : CalmBut ck lt s₀ s₁) :
    CalmBut ck lt s₀ (releaseHeld s₁) := by
  unfold releaseHeld
  repeat' (first | with_reducible assumption | with_reducible apply stkUpstream_calm | with_reducible apply CalmBut.foldl
                 | (intro x; intros) | with_reducible apply CalmBut.ite | split | with_reducible apply CalmBut.upd)

theorem stackRecord_calm {s₀ s₁ : State} (h₀ : CalmBut ck lt s₀ s₁) (e : AggEntry) :
    CalmBut ck lt s₀ (stackRecord e s₁) := by
  unfold stackRecord
  repeat' (first | with_reducible assumption | with_reducible apply raise_calm | with_reducible apply stackReport_calm
                 | with_reducible apply CalmBut.foldl | intro x | with_reducible apply CalmBut.ite | split
                 | with_reducible apply CalmBut.upd)

theorem sendReports_calm {s₀ s₁ : State} (h₀ : CalmBut ck lt s₀ s₁) (n : Nat) (l : List AggEntry) : CalmBut ck lt s₀ (sendReports n l s₁) := by
  induction n generalizing s₁ l with
  | zero => exact h₀
  | succ n ih =>
    unfold sendReports
    repeat' (first | with_reducible assumption | split | with_reducible apply ih | with_reducible apply stkSend_calm)

theorem acceptPacket_calm {s₀ s₁ : State} (h₀ : CalmBut ck lt s₀ s₁) (via : Origin) (allowed : Bool) (bytes : List Byte) :
    CalmBut ck lt s₀ (acceptPacket via allowed bytes s₁) := by
  unfold acceptPacket
  repeat' (first | with_reducible assumption | with_reducible apply replyBy_calm | with_reducible apply CalmBut.foldl
                 | intro x | with_reducible apply CalmBut.ite | split | with_reducible apply CalmBut.upd)

theorem checkSpare_calm {s₀ s₁ : State} (h₀ : CalmBut ck lt s₀ s₁) (p : PortId) (n : LaneId) :
    CalmBut ck lt s₀ (checkSpare p n s₁) := by
  unfold checkSpare
  repeat' (first | with_reducible assumption | with_reducible apply setCondUp_calm)

theorem applyAdcFg_calm {s₀ s₁ : State} (h₀ : CalmBut ck lt s₀ s₁) (p : PortId) (n : LaneId)
    (slices : List (Int × Int × Int × List (Int × Nat))) :
    CalmBut ck lt s₀ (applyAdcFg p n slices s₁).1 := by
  unfold applyAdcFg
  repeat' (first | with_reducible assumption | with_reducible apply modLane_calm | with_reducible apply checkSpare_calm)

theorem applyDacFg_calm {s₀ s₁ : State} (h₀ : CalmBut ck lt s₀ s₁) (p : PortId) (n : LaneId) (e : List Int) : CalmBut ck lt s₀
    (applyDacFg p n e s₁).1 := by
  unfold applyDacFg
  extract_lets l
  split
  · exact modLane_calm h₀ p n _
  · dsimp only
    exact raise_calm (modLane_calm h₀ p n _) _ _ _
  · exact modLane_calm h₀ p n _
  · exact modLane_calm h₀ p n _

theorem applyMeas_calm {s₀ s₁ : State} (h₀ : CalmBut ck lt s₀ s₁) (m : CalMeas) :
    CalmBut ck lt s₀ (applyMeas m s₁).1 := by
  unfold applyMeas
  repeat' (first | with_reducible assumption | with_reducible apply modLane_calm | with_reducible apply modPort_calm
                 | with_reducible apply modStk_calm | with_reducible apply applyAdcFg_calm
                 | with_reducible apply applyDacFg_calm | with_reducible apply CalmBut.foldl | intro x
                 | with_reducible apply CalmBut.ite | split)

theorem startStore_calm {s₀ s₁ : State} (h₀ : CalmBut ck lt s₀ s₁) (op : FlashOp) (via : Origin) (opcode : Nat) (c : CalSet) :
    CalmBut ck lt s₀ (startStore op via opcode c s₁) := by
  unfold startStore
  repeat' (first | with_reducible assumption | with_reducible apply CalmBut.foldl | intro x | with_reducible apply CalmBut.ite
                 | split | with_reducible apply CalmBut.upd)

theorem storeEnd_calm {s₀ s₁ : State} (h₀ : CalmBut ck lt s₀ s₁) (j : FlashJob) (status : Nat) :
    CalmBut ck lt s₀ (storeEnd j status s₁) := by
  unfold storeEnd
  repeat' (first | with_reducible assumption | with_reducible apply reply_calm | with_reducible apply CalmBut.foldl | intro x
                 | with_reducible apply CalmBut.ite | split | with_reducible apply CalmBut.upd)

theorem storeStep_calm {s₀ s₁ : State} (h₀ : CalmBut ck lt s₀ s₁) (j : FlashJob) (ok : Bool) :
    CalmBut ck lt s₀ (storeStep j ok s₁) := by
  unfold storeStep
  repeat' (first | with_reducible assumption | with_reducible apply ledgerAppend_calm | with_reducible apply storeEnd_calm
                 | with_reducible apply CalmBut.foldl | intro x | with_reducible apply CalmBut.ite | split
                 | with_reducible apply CalmBut.upd)

theorem clearBank_calm {s₀ s₁ : State} (h₀ : CalmBut ck lt s₀ s₁) (b : MemBank) :
    CalmBut ck lt s₀ (clearBank b s₁) := by
  unfold clearBank
  repeat' (first | with_reducible assumption | with_reducible apply modPort_calm | with_reducible apply CalmBut.foldl
                 | (intro x; intros))

theorem bistNext_calm {s₀ s₁ : State} (h₀ : CalmBut ck lt s₀ s₁) (r : BistRun) :
    CalmBut ck lt s₀ (bistNext r s₁) := by
  unfold bistNext
  repeat' (first | with_reducible assumption | with_reducible apply clearBank_calm | with_reducible apply reply_calm
                 | with_reducible apply CalmBut.foldl | intro x | with_reducible apply CalmBut.ite | split
                 | with_reducible apply CalmBut.upd)

theorem programMap_calm {s₀ s₁ : State} (h₀ : CalmBut ck lt s₀ s₁) (n : Nat) (ws : List Word) (good : List Bool) (bad : Nat) :
    CalmBut ck lt s₀ (programMap n ws good bad s₁).2.2 := by
  induction n generalizing s₁ ws good bad with
  | zero => exact h₀
  | succ n ih =>
    cases ws with
    | nil => exact h₀
    | cons w ws =>
      unfold programMap
      split
      · exact h₀
      · split
        · extract_lets
          split
          · exact CalmBut.upd (freeNat_calm h₀)
          · exact ih (CalmBut.upd (freeNat_calm h₀)) _ _ _
        · exact ih (CalmBut.upd h₀) _ _ _

theorem fuseRecords_calm {s₀ s₁ : State} (h₀ : CalmBut ck lt s₀ s₁) (l : List Word) :
    CalmBut ck lt s₀ (fuseRecords l s₁) := by
  unfold fuseRecords
  repeat' (first | with_reducible assumption | with_reducible apply ledgerAppend_calm | with_reducible apply CalmBut.foldl
                 | (intro x; intros))

theorem setLoop_calm {s₀ s₁ : State} (h₀ : CalmBut ck lt s₀ s₁) (p : PortId) (n : LaneId) (k : LoopKind) :
    CalmBut ck lt s₀ (setLoop p n k s₁) := by
  unfold setLoop
  repeat' (first | with_reducible assumption | with_reducible apply modLane_calm)

theorem takeLoopReq_calm {s₀ s₁ : State} (h₀ : CalmBut ck lt s₀ s₁) (p : PortId) (n : LaneId) :
    CalmBut ck lt s₀ (takeLoopReq p n s₁).2 := by
  unfold takeLoopReq
  repeat' (first | with_reducible assumption | with_reducible apply CalmBut.foldl | intro x | with_reducible apply CalmBut.ite
                 | split | with_reducible apply CalmBut.upd)

theorem loopReqFails_calm {s₀ s₁ : State} (h₀ : CalmBut ck lt s₀ s₁) (p : PortId) (n : LaneId) (status : Nat) :
    CalmBut ck lt s₀ (loopReqFails p n status s₁) := by
  unfold loopReqFails
  repeat' (first | with_reducible assumption | with_reducible apply modPort_calm | with_reducible apply reply_calm
                 | with_reducible apply setLoop_calm | with_reducible apply takeLoopReq_calm
                 | with_reducible apply CalmBut.foldl | intro x | with_reducible apply CalmBut.ite | split
                 | with_reducible apply CalmBut.upd)

theorem podRefCond_calm {s₀ s₁ : State} (h₀ : CalmBut ck lt s₀ s₁) (k : PodId) :
    CalmBut ck lt s₀ (podRefCond k s₁) := by
  unfold podRefCond
  repeat' (first | with_reducible assumption | with_reducible apply setCond_calm)

theorem bandgapSample_calm {s₀ s₁ : State} (h₀ : CalmBut ck lt s₀ s₁) (die : Option PodId) (diff : Int) :
    CalmBut ck lt s₀ (bandgapSample die diff s₁) := by
  unfold bandgapSample
  repeat' (first | with_reducible assumption | with_reducible apply modPod_calm | with_reducible apply podRefCond_calm
                 | with_reducible apply setCond_calm | with_reducible apply CalmBut.foldl | intro x
                 | with_reducible apply CalmBut.ite | split | with_reducible apply CalmBut.upd)

theorem rampSample_calm {s₀ s₁ : State} (h₀ : CalmBut ck lt s₀ s₁) (k : PodId) (slope inl : Int) :
    CalmBut ck lt s₀ (rampSample k slope inl s₁) := by
  unfold rampSample
  repeat' (first | with_reducible assumption | with_reducible apply modPod_calm | with_reducible apply podRefCond_calm
                 | with_reducible apply CalmBut.foldl | intro x | with_reducible apply CalmBut.ite)

theorem randomBytes_calm {s₀ s₁ : State} (h₀ : CalmBut ck lt s₀ s₁) (n : Nat) : CalmBut ck lt s₀ (State.randomBytes n s₁).2 := by
  induction n generalizing s₁ with
  | zero => exact h₀
  | succ n ih => exact ih (draw_calm h₀)

theorem issueChallenge_calm {s₀ s₁ : State} (h₀ : CalmBut ck lt s₀ s₁) (pods : Nat) (hub : Bool) : CalmBut ck lt s₀
    (issueChallenge pods hub s₁).2 := by
  unfold issueChallenge
  have h₁ : CalmBut ck lt s₀ (State.randomBytes 48 s₁).2 := randomBytes_calm h₀ 48
  exact CalmBut.upd h₁

theorem takeScanSafe_calm {s₀ s₁ : State} (h₀ : CalmBut ck lt s₀ s₁) :
    CalmBut ck lt s₀ (takeScanSafe s₁) := by
  unfold takeScanSafe
  repeat' (first | with_reducible assumption | with_reducible apply hostToSafe_calm | with_reducible apply safeDown_calm
                 | with_reducible apply safeEnds_calm | with_reducible apply txToSafe_calm
                 | with_reducible apply CalmBut.foldl | (intro x; intros) | with_reducible apply CalmBut.ite | split
                 | with_reducible apply CalmBut.upd)

theorem scanLedger_calm {s₀ s₁ : State} (h₀ : CalmBut ck lt s₀ s₁) (scope response : List Byte) :
    CalmBut ck lt s₀ (scanLedger scope response s₁) := by
  unfold scanLedger
  refine CalmBut.ite h₀ ?_
  extract_lets gone last x₁ s₂ flags s₃ s₄ s₅
  have h₂ : CalmBut ck lt s₀ s₂ := CalmBut.upd h₀
  have h₃ : CalmBut ck lt s₀ s₃ := ledgerBlock_calm h₂ _ _ _ _ _ _
  have h₄ : CalmBut ck lt s₀ s₄ := ledgerAppend_calm h₃ _ _ _ _
  have h₅ : CalmBut ck lt s₀ s₅ := CalmBut.ite h₄ (ledgerFault_calm h₄ 7)
  exact ledgerMakeSeal_calm h₅ true

theorem dropUnsealed_calm {s₀ s₁ : State} (h₀ : CalmBut ck lt s₀ s₁) :
    CalmBut ck lt s₀ (dropUnsealed s₁) := by
  unfold dropUnsealed
  repeat' (first | with_reducible assumption | with_reducible apply CalmBut.foldl | intro x | with_reducible apply CalmBut.ite
                 | split | with_reducible apply CalmBut.upd)

theorem allTxOff_calm {s₀ s₁ : State} (h₀ : CalmBut ck lt s₀ s₁) :
    CalmBut ck lt s₀ (allTxOff s₁) := by
  unfold allTxOff
  repeat' (first | with_reducible assumption | with_reducible apply mapLanes_calm | with_reducible apply mapPorts_calm
                 | with_reducible apply settleSafe_calm)

theorem judgeTemps_calm {s₀ s₁ : State} (h₀ : CalmBut ck lt s₀ s₁) (d : Nat) :
    CalmBut ck lt s₀ (judgeTemps d s₁) := by
  unfold judgeTemps
  repeat' (first | with_reducible assumption | with_reducible apply endCond_calm | with_reducible apply raise_calm
                 | with_reducible apply CalmBut.foldl | intro x | with_reducible apply CalmBut.ite)

theorem judgeSensors_calm {s₀ s₁ : State} (h₀ : CalmBut ck lt s₀ s₁) (d : Nat) (bad : Bool) :
    CalmBut ck lt s₀ (judgeSensors d bad s₁) := by
  unfold judgeSensors
  repeat' (first | with_reducible assumption | with_reducible apply endCond_calm | with_reducible apply raiseAgain_calm
                 | with_reducible apply setCond_calm | with_reducible apply CalmBut.foldl | (intro x; intros)
                 | with_reducible apply CalmBut.ite)

theorem loadCalSet_calm {s₀ s₁ : State} (h₀ : CalmBut ck lt s₀ s₁) (c : CalSet) :
    CalmBut ck lt s₀ (loadCalSet c s₁) := by
  unfold loadCalSet
  repeat' (first | with_reducible assumption | with_reducible apply mapPorts_calm | with_reducible apply modStk_calm
                 | with_reducible apply CalmBut.foldl | (intro x; intros))

theorem chooseCalSet_calm {s₀ s₁ : State} (h₀ : CalmBut ck lt s₀ s₁) (secA secB : Option CalSet) :
    CalmBut ck lt s₀ (chooseCalSet secA secB s₁) := by
  unfold chooseCalSet
  repeat' (first | with_reducible assumption | with_reducible apply loadCalSet_calm | with_reducible apply raise_calm
                 | with_reducible apply CalmBut.foldl | intro x | with_reducible apply CalmBut.ite | split
                 | with_reducible apply CalmBut.upd)

theorem timingDefaults_calm {s₀ s₁ : State} (h₀ : CalmBut ck lt s₀ s₁) :
    CalmBut ck lt s₀ (timingDefaults s₁) := by
  unfold timingDefaults
  repeat' (first | with_reducible assumption | with_reducible apply mapPorts_calm | with_reducible apply modStk_calm
                 | with_reducible apply CalmBut.foldl | (intro x; intros) | with_reducible apply CalmBut.ite)

theorem ledgerBootAnchor_calm {s₀ s₁ : State} (h₀ : CalmBut ck lt s₀ s₁) (ring : Option (List LedgerBlock)) (failedBits : Nat) :
    CalmBut ck lt s₀ (ledgerBootAnchor ring failedBits s₁) := by
  unfold ledgerBootAnchor
  extract_lets s₂ prev flags s₃
  have h₂ : CalmBut ck lt s₀ s₂ := CalmBut.upd h₀
  have h₃ : CalmBut ck lt s₀ s₃ := ledgerBlock_calm h₂ _ _ _ _ _ _
  exact CalmBut.ite h₃ (ledgerFault_calm h₃ 1)

theorem imageRecord_calm {s₀ s₁ : State} (h₀ : CalmBut ck lt s₀ s₁) (code slot : Nat) (h : SlotHdr) :
    CalmBut ck lt s₀ (imageRecord code slot h s₁) := by
  unfold imageRecord
  repeat' (first | with_reducible assumption | with_reducible apply ledgerAppend_calm)

theorem clearSticky_calm {s₀ s₁ : State} (h₀ : CalmBut ck lt s₀ s₁) (i : Inst) (v : Word) :
    CalmBut ck lt s₀ (clearSticky i v s₁) := by
  unfold clearSticky
  repeat' (first | with_reducible assumption | with_reducible apply fltMod_calm | with_reducible apply CalmBut.foldl
                 | (intro x; intros))

theorem ackRecord_calm {s₀ s₁ : State} (h₀ : CalmBut ck lt s₀ s₁) (r : Nat) :
    CalmBut ck lt s₀ (ackRecord r s₁) := by
  unfold ackRecord
  repeat' (first | with_reducible assumption | with_reducible apply settleSafe_calm | with_reducible apply CalmBut.foldl
                 | intro x | with_reducible apply CalmBut.ite | split | with_reducible apply CalmBut.upd)

theorem startPacket_calm {s₀ s₁ : State} (h₀ : CalmBut ck lt s₀ s₁) (via : Origin) (op : Nat) (port : Option PortId) (lengthOk : Bool) :
    CalmBut ck lt s₀ (startPacket via op port lengthOk s₁) := by
  unfold startPacket
  repeat' (first | with_reducible assumption | with_reducible apply reply_calm | with_reducible apply startCommand_calm
                 | with_reducible apply CalmBut.foldl | intro x | with_reducible apply CalmBut.ite)

theorem dropCommand_calm {s₀ s₁ : State} (h₀ : CalmBut ck lt s₀ s₁) (r : RunCmd) : CalmBut ck lt s₀ (dropCommand r s₁) := by
  unfold dropCommand
  extract_lets x₁ a x₂ b x₃ c x₄ d x₅ e
  have ha : CalmBut ck lt s₀ a := CalmBut.ite (CalmBut.upd h₀) h₀
  have hb : CalmBut ck lt s₀ b := CalmBut.ite (CalmBut.upd ha) ha
  have hc : CalmBut ck lt s₀ c := CalmBut.ite (CalmBut.upd hb) hb
  have hd : CalmBut ck lt s₀ d := by
    unfold d
    split
    · exact CalmBut.ite (CalmBut.upd hc) hc
    · exact hc
  have he : CalmBut ck lt s₀ e := CalmBut.upd hd
  split
  · exact CalmBut.ite (diagRelease_calm he _) he
  · exact he

theorem endCommand_calm {s₀ s₁ : State} (h₀ : CalmBut ck lt s₀ s₁) (r : RunCmd) (status : Nat) :
    CalmBut ck lt s₀ (endCommand r status s₁) := by
  unfold endCommand
  repeat' (first | with_reducible assumption | with_reducible apply abortBist_calm | with_reducible apply dropCommand_calm
                 | with_reducible apply reply_calm | with_reducible apply CalmBut.foldl | intro x | with_reducible apply CalmBut.ite)

theorem endClerkCommands_calm {s₀ s₁ : State} (h₀ : CalmBut ck lt s₀ s₁) (status : Nat) :
    CalmBut ck lt s₀ (endClerkCommands status s₁) := by
  unfold endClerkCommands
  repeat' (first | with_reducible assumption | with_reducible apply endCommand_calm | with_reducible apply CalmBut.foldl
                 | (intro x; intros))

theorem libIntegrity_calm {s₀ s₁ : State} (h₀ : CalmBut ck lt s₀ s₁) (d : Nat) :
    CalmBut ck lt s₀ (libIntegrity d s₁) := by
  unfold libIntegrity
  repeat' (first | with_reducible assumption | with_reducible apply endCommand_calm | with_reducible apply raise_calm
                 | with_reducible apply CalmBut.foldl | (intro x; intros) | with_reducible apply CalmBut.ite | split
                 | with_reducible apply CalmBut.upd)

theorem summaryRecord_calm {s₀ s₁ : State} (h₀ : CalmBut ck lt s₀ s₁) (c : Coalesced) :
    CalmBut ck lt s₀ (summaryRecord c s₁) := by
  unfold summaryRecord
  repeat' (first | with_reducible assumption | with_reducible apply ledgerAppend_calm)

theorem summaries_calm {s₀ s₁ : State} (h₀ : CalmBut ck lt s₀ s₁) (n : Nat) : CalmBut ck lt s₀ (summaries n s₁) := by
  induction n generalizing s₁ with
  | zero => exact h₀
  | succ n ih =>
    unfold summaries
    split
    · exact h₀
    · split
      · exact h₀
      · apply ih
        apply summaryRecord_calm
        exact CalmBut.upd h₀

theorem compStop_calm {s₀ s₁ : State} (h₀ : CalmBut ck lt s₀ s₁) (p : PortId) (n : LaneId) :
    CalmBut ck lt s₀ (compStop p n s₁) := by
  unfold compStop
  repeat' (first | with_reducible assumption | with_reducible apply modLane_calm | with_reducible apply endCond_calm)

theorem txOff_calm {s₀ s₁ : State} (h₀ : CalmBut ck lt s₀ s₁) (p : PortId) (n : LaneId) :
    CalmBut ck lt s₀ (txOff p n s₁) := by
  unfold txOff
  repeat' (first | with_reducible assumption | with_reducible apply modLane_calm | with_reducible apply compStop_calm)

theorem applyTxCtrl_calm {s₀ s₁ : State} (h₀ : CalmBut ck lt s₀ s₁) (p : PortId) (n : LaneId) :
    CalmBut ck lt s₀ (applyTxCtrl p n s₁) := by
  unfold applyTxCtrl
  repeat' (first | with_reducible assumption | with_reducible apply modLane_calm | with_reducible apply txOff_calm
                 | with_reducible apply CalmBut.foldl | intro x | with_reducible apply CalmBut.ite)

theorem leaveSafe_calm {s₀ s₁ : State} (h₀ : CalmBut ck lt s₀ s₁) (p : PortId) (n : LaneId) :
    CalmBut ck lt s₀ (leaveSafe p n s₁) := by
  unfold leaveSafe
  repeat' (first | with_reducible assumption | with_reducible apply modLane_calm | with_reducible apply applyTxCtrl_calm)

theorem queueTs_calm {s₀ s₁ : State} (h₀ : CalmBut ck lt s₀ s₁) (p : PortId) :
    CalmBut ck lt s₀ (queueTs p s₁) := by
  unfold queueTs
  repeat' (first | with_reducible assumption | with_reducible apply queueCm_calm | with_reducible apply CalmBut.foldl
                 | intro x | with_reducible apply CalmBut.ite)

theorem tsRise_calm {s₀ s₁ : State} (h₀ : CalmBut ck lt s₀ s₁) (p : PortId) :
    CalmBut ck lt s₀ (tsRise p s₁) := by
  unfold tsRise
  repeat' (first | with_reducible assumption | with_reducible apply modPort_calm | with_reducible apply queueTs_calm
                 | intro x | with_reducible apply CalmBut.ite)

theorem takeAnchor_calm {s₀ s₁ : State} (h₀ : CalmBut ck lt s₀ s₁) (p : PortId) (n : LaneId) :
    CalmBut ck lt s₀ (takeAnchor p n s₁) := by
  unfold takeAnchor
  repeat' (first | with_reducible assumption | with_reducible apply modLane_calm | with_reducible apply endCond_calm)

theorem ctleEvaluate_calm {s₀ s₁ : State} (h₀ : CalmBut ck lt s₀ s₁) (p : PortId) (n : LaneId) :
    CalmBut ck lt s₀ (ctleEvaluate p n s₁) := by
  unfold ctleEvaluate
  repeat' (first | with_reducible assumption | with_reducible apply freeNat_calm | with_reducible apply modLane_calm
                 | with_reducible apply CalmBut.foldl | intro x | with_reducible apply CalmBut.ite)

theorem ctleStepCheck_calm {s₀ s₁ : State} (h₀ : CalmBut ck lt s₀ s₁) (p : PortId) (n : LaneId) :
    CalmBut ck lt s₀ (ctleStepCheck p n s₁) := by
  unfold ctleStepCheck
  repeat' (first | with_reducible assumption | with_reducible apply modLane_calm | with_reducible apply CalmBut.foldl
                 | intro x | with_reducible apply CalmBut.ite | split)

theorem anchorPoint_calm {s₀ s₁ : State} (h₀ : CalmBut ck lt s₀ s₁) (p : PortId) (n : LaneId) (good : Bool) :
    CalmBut ck lt s₀ (anchorPoint p n good s₁) := by
  unfold anchorPoint
  repeat' (first | with_reducible assumption | with_reducible apply modLane_calm | with_reducible apply ctleEvaluate_calm
                 | with_reducible apply ctleStepCheck_calm | with_reducible apply takeAnchor_calm
                 | with_reducible apply CalmBut.foldl | intro x | with_reducible apply CalmBut.ite)

theorem windowDrift_calm {s₀ s₁ : State} (h₀ : CalmBut ck lt s₀ s₁) (p : PortId) (n : LaneId) :
    CalmBut ck lt s₀ (windowDrift p n s₁) := by
  unfold windowDrift
  repeat' (first | with_reducible assumption | with_reducible apply modLane_calm | with_reducible apply CalmBut.foldl
                 | intro x | with_reducible apply CalmBut.ite)

theorem echoReport_calm {s₀ s₁ : State} (h₀ : CalmBut ck lt s₀ s₁) (p : PortId) (n : LaneId) :
    CalmBut ck lt s₀ (echoReport p n s₁) := by
  unfold echoReport
  repeat' (first | with_reducible assumption | with_reducible apply modLane_calm | with_reducible apply setCond_calm
                 | intro x | with_reducible apply CalmBut.ite)

theorem deliverCounts_calm {s₀ s₁ : State} (h₀ : CalmBut ck lt s₀ s₁) (p : PortId) (h : HeldFol) :
    CalmBut ck lt s₀ (deliverCounts p h s₁) := by
  unfold deliverCounts
  repeat' (first | with_reducible assumption | with_reducible apply modPort_calm | with_reducible apply raise_calm
                 | with_reducible apply CalmBut.foldl | intro x | with_reducible apply CalmBut.ite | split)

theorem enterData_calm {s₀ s₁ : State} (h₀ : CalmBut ck lt s₀ s₁) (p : PortId) :
    CalmBut ck lt s₀ (enterData p s₁) := by
  unfold enterData
  repeat' (first | with_reducible assumption | with_reducible apply modPort_calm | with_reducible apply setLink_calm
                 | with_reducible apply CalmBut.foldl | intro x | with_reducible apply CalmBut.ite)

theorem countChanged_calm {s₀ s₁ : State} (h₀ : CalmBut ck lt s₀ s₁) (p : PortId) :
    CalmBut ck lt s₀ (countChanged p s₁) := by
  unfold countChanged
  repeat' (first | with_reducible assumption | with_reducible apply enterData_calm | with_reducible apply guarJudge_calm
                 | with_reducible apply CalmBut.foldl | intro x | with_reducible apply CalmBut.ite | split)

theorem leaveQuiet_calm {s₀ s₁ : State} (h₀ : CalmBut ck lt s₀ s₁) (p : PortId) :
    CalmBut ck lt s₀ (leaveQuiet p s₁) := by
  unfold leaveQuiet
  repeat' (first | with_reducible assumption | with_reducible apply modPort_calm | with_reducible apply enterData_calm)

theorem wakeComplete_calm {s₀ s₁ : State} (h₀ : CalmBut ck lt s₀ s₁) (p : PortId) :
    CalmBut ck lt s₀ (wakeComplete p s₁) := by
  unfold wakeComplete
  repeat' (first | with_reducible assumption | with_reducible apply modPort_calm | with_reducible apply leaveQuiet_calm
                 | with_reducible apply CalmBut.foldl | intro x | with_reducible apply CalmBut.ite)

theorem wakeStart_calm {s₀ s₁ : State} (h₀ : CalmBut ck lt s₀ s₁) (p : PortId) (inData : Bool) :
    CalmBut ck lt s₀ (wakeStart p inData s₁) := by
  unfold wakeStart
  repeat' (first | with_reducible assumption | with_reducible apply modPort_calm | with_reducible apply holdFall_calm
                 | with_reducible apply reHold_calm | with_reducible apply setLink_calm | with_reducible apply CalmBut.foldl
                 | intro x | with_reducible apply CalmBut.ite)

theorem wakeTrigger_calm {s₀ s₁ : State} (h₀ : CalmBut ck lt s₀ s₁) (p : PortId) :
    CalmBut ck lt s₀ (wakeTrigger p s₁) := by
  unfold wakeTrigger
  repeat' (first | with_reducible assumption | with_reducible apply leaveQuiet_calm | with_reducible apply wakeStart_calm
                 | with_reducible apply CalmBut.foldl | intro x | with_reducible apply CalmBut.ite)

theorem shedRecord_calm {s₀ s₁ : State} (h₀ : CalmBut ck lt s₀ s₁) (p : PortId) (cause lane : Nat) :
    CalmBut ck lt s₀ (shedRecord p cause lane s₁) := by
  unfold shedRecord
  repeat' (first | with_reducible assumption | with_reducible apply modPort_calm)

theorem sendNotice_calm {s₀ s₁ : State} (h₀ : CalmBut ck lt s₀ s₁) (p : PortId) (t : Nat) (body : List Byte) :
    CalmBut ck lt s₀ (sendNotice p t body s₁) := by
  unfold sendNotice
  repeat' (first | with_reducible assumption | with_reducible apply modPort_calm | with_reducible apply queueCm_calm)

theorem sendLaneNotice_calm {s₀ s₁ : State} (h₀ : CalmBut ck lt s₀ s₁) (p : PortId) (kind : Nat) :
    CalmBut ck lt s₀ (sendLaneNotice p kind s₁) := by
  unfold sendLaneNotice
  repeat' (first | with_reducible assumption | with_reducible apply sendNotice_calm)

theorem sendAck_calm {s₀ s₁ : State} (h₀ : CalmBut ck lt s₀ s₁) (p : PortId) (id typ what epoch : Nat) :
    CalmBut ck lt s₀ (sendAck p id typ what epoch s₁) := by
  unfold sendAck
  repeat' (first | with_reducible assumption | with_reducible apply queueCm_calm)

theorem sendDecline_calm {s₀ s₁ : State} (h₀ : CalmBut ck lt s₀ s₁) (p : PortId) (id typ lane reason epoch : Nat) :
    CalmBut ck lt s₀ (sendDecline p id typ lane reason epoch s₁) := by
  unfold sendDecline
  repeat' (first | with_reducible assumption | with_reducible apply queueCm_calm)

theorem sendAddNotice_calm {s₀ s₁ : State} (h₀ : CalmBut ck lt s₀ s₁) (p : PortId) (n : LaneId) :
    CalmBut ck lt s₀ (sendAddNotice p n s₁) := by
  unfold sendAddNotice
  repeat' (first | with_reducible assumption | with_reducible apply modPort_calm | with_reducible apply sendNotice_calm)

theorem beginAdd_calm {s₀ s₁ : State} (h₀ : CalmBut ck lt s₀ s₁) (p : PortId) (n : LaneId) :
    CalmBut ck lt s₀ (beginAdd p n s₁) := by
  unfold beginAdd
  repeat' (first | with_reducible assumption | with_reducible apply modLane_calm | with_reducible apply modPort_calm)

theorem failAdd_calm {s₀ s₁ : State} (h₀ : CalmBut ck lt s₀ s₁) (p : PortId) (n : LaneId) :
    CalmBut ck lt s₀ (failAdd p n s₁) := by
  unfold failAdd
  repeat' (first | with_reducible assumption | with_reducible apply modLane_calm | with_reducible apply modPort_calm
                 | with_reducible apply shedRecord_calm)

theorem cancelAdds_calm {s₀ s₁ : State} (h₀ : CalmBut ck lt s₀ s₁) (p : PortId) :
    CalmBut ck lt s₀ (cancelAdds p s₁) := by
  unfold cancelAdds
  repeat' (first | with_reducible assumption | with_reducible apply mapLanes_calm | with_reducible apply modPort_calm)

theorem downDue_calm {s₀ s₁ : State} (h₀ : CalmBut ck lt s₀ s₁) (p : PortId) (cause : Nat) :
    CalmBut ck lt s₀ (downDue p cause s₁) := by
  unfold downDue
  repeat' (first | with_reducible assumption | with_reducible apply modPort_calm)

theorem shedTrigger_calm {s₀ s₁ : State} (h₀ : CalmBut ck lt s₀ s₁) (p : PortId) (n : LaneId) (cause epoch : Nat) :
    CalmBut ck lt s₀ (shedTrigger p n cause epoch s₁) := by
  unfold shedTrigger
  repeat' (first | with_reducible assumption | with_reducible apply modLane_calm | with_reducible apply downDue_calm
                 | with_reducible apply raise_calm | with_reducible apply wakeTrigger_calm
                 | with_reducible apply CalmBut.foldl | intro x | with_reducible apply CalmBut.ite)

theorem ownTrigger_calm {s₀ s₁ : State} (h₀ : CalmBut ck lt s₀ s₁) (p : PortId) (n : LaneId) (cause : Nat) :
    CalmBut ck lt s₀ (ownTrigger p n cause s₁) := by
  unfold ownTrigger
  repeat' (first | with_reducible assumption | with_reducible apply shedTrigger_calm)

theorem quarantine_calm {s₀ s₁ : State} (h₀ : CalmBut ck lt s₀ s₁) (p : PortId) (n : LaneId) (cause epoch : Nat) :
    CalmBut ck lt s₀ (quarantine p n cause epoch s₁) := by
  unfold quarantine
  repeat' (first | with_reducible assumption | with_reducible apply modPort_calm | with_reducible apply cancelAdds_calm
                 | with_reducible apply countChanged_calm | with_reducible apply holdFall_calm
                 | with_reducible apply reHold_calm | with_reducible apply shedRecord_calm)

theorem proposePlan_calm {s₀ s₁ : State} (h₀ : CalmBut ck lt s₀ s₁) (p : PortId) (mask : Nat) (cap : Bool) (who : Nat) :
    CalmBut ck lt s₀ (proposePlan p mask cap who s₁) := by
  unfold proposePlan
  repeat' (first | with_reducible assumption | with_reducible apply modPort_calm | with_reducible apply sendLaneNotice_calm)

theorem proposeAdds_calm {s₀ s₁ : State} (h₀ : CalmBut ck lt s₀ s₁) (p : PortId) :
    CalmBut ck lt s₀ (proposeAdds p s₁) := by
  unfold proposeAdds
  repeat' (first | with_reducible assumption | with_reducible apply modPort_calm)

theorem adoptPlan_calm {s₀ s₁ : State} (h₀ : CalmBut ck lt s₀ s₁) (p : PortId) (nextMap epoch : Nat) :
    CalmBut ck lt s₀ (adoptPlan p nextMap epoch s₁) := by
  unfold adoptPlan
  repeat' (first | with_reducible assumption | with_reducible apply modPort_calm)

theorem declineHeads_calm {s₀ s₁ : State} (h₀ : CalmBut ck lt s₀ s₁) (p : PortId) (c : LaneCtl) :
    CalmBut ck lt s₀ (declineHeads p c s₁) := by
  unfold declineHeads
  repeat' (first | with_reducible assumption | with_reducible apply modPort_calm | with_reducible apply sendDecline_calm
                 | intro x | with_reducible apply CalmBut.ite)

theorem partnerAgreed_calm {s₀ s₁ : State} (h₀ : CalmBut ck lt s₀ s₁) (p : PortId) :
    CalmBut ck lt s₀ (partnerAgreed p s₁) := by
  unfold partnerAgreed
  repeat' (first | with_reducible assumption | with_reducible apply modPort_calm | with_reducible apply adoptPlan_calm
                 | with_reducible apply declineHeads_calm | with_reducible apply proposeAdds_calm
                 | with_reducible apply shedTrigger_calm | with_reducible apply CalmBut.foldl | (intro x; intros)
                 | with_reducible apply CalmBut.ite | split)

theorem acceptCtl_calm {s₀ s₁ : State} (h₀ : CalmBut ck lt s₀ s₁) (p : PortId) (rxEpoch : Nat) (c : LaneCtl) :
    CalmBut ck lt s₀ (acceptCtl p rxEpoch c s₁) := by
  unfold acceptCtl
  repeat' (first | with_reducible assumption | with_reducible apply modPort_calm | with_reducible apply partnerAgreed_calm
                 | with_reducible apply CalmBut.foldl | intro x | with_reducible apply CalmBut.ite)

theorem lateIgnored_calm {s₀ s₁ : State} (h₀ : CalmBut ck true s₀ s₁) (bits addr : Nat) :
    CalmBut ck true s₀ (lateIgnored bits addr s₁) := by
  unfold lateIgnored
  exact CalmBut.ite h₀ h₀.late

theorem judgeWaiting_calm {s₀ s₁ : State} (h₀ : CalmBut ck true s₀ s₁) (p : PortId) :
    CalmBut ck true s₀ (judgeWaiting p s₁) := by
  unfold judgeWaiting
  repeat' (first | with_reducible assumption | with_reducible apply modPort_calm | with_reducible apply lateIgnored_calm
                 | with_reducible apply proposePlan_calm | intro x | with_reducible apply CalmBut.ite)

theorem framingFails_calm {s₀ s₁ : State} (h₀ : CalmBut ck true s₀ s₁) (p : PortId) (n : LaneId) :
    CalmBut ck true s₀ (framingFails p n s₁) := by
  unfold framingFails
  repeat' (first | with_reducible assumption | with_reducible apply failAdd_calm | with_reducible apply judgeWaiting_calm
                 | with_reducible apply CalmBut.ite)

theorem deskew_calm {s₀ s₁ : State} (h₀ : CalmBut ck true s₀ s₁) (p : PortId) :
    CalmBut ck true s₀ (deskew p s₁) := by
  unfold deskew
  repeat' (first | with_reducible assumption | with_reducible apply mapLanes_calm | with_reducible apply framingFails_calm
                 | with_reducible apply ownTrigger_calm | with_reducible apply CalmBut.foldl | (intro x; intros)
                 | with_reducible apply CalmBut.ite)

theorem folioBad_calm {s₀ s₁ : State} (h₀ : CalmBut ck lt s₀ s₁) (p : PortId) (n : LaneId) :
    CalmBut ck lt s₀ (folioBad p n s₁) := by
  unfold folioBad
  repeat' (first | with_reducible assumption | with_reducible apply modLane_calm | with_reducible apply modPort_calm
                 | with_reducible apply ownTrigger_calm | with_reducible apply CalmBut.foldl | intro x
                 | with_reducible apply CalmBut.ite | split)

theorem alignAccepted_calm {s₀ s₁ : State} (h₀ : CalmBut ck true s₀ s₁) (p : PortId) (n : LaneId) (h : Head) (arrival : Nat) (time : Int) :
    CalmBut ck true s₀ (alignAccepted p n h arrival time s₁) := by
  unfold alignAccepted
  repeat' (first | with_reducible assumption | with_reducible apply modLane_calm | with_reducible apply modPort_calm
                 | with_reducible apply deskew_calm | with_reducible apply framingFails_calm
                 | with_reducible apply ownTrigger_calm | with_reducible apply proposeAdds_calm | intro x
                 | with_reducible apply CalmBut.ite)

theorem headReliability_calm {s₀ s₁ : State} (h₀ : CalmBut ck lt s₀ s₁) (p : PortId) (h : Head) :
    CalmBut ck lt s₀ (headReliability p h s₁) := by
  unfold headReliability
  repeat' (first | with_reducible assumption | with_reducible apply modPort_calm)

theorem headAccept_calm {s₀ s₁ : State} (h₀ : CalmBut ck lt s₀ s₁) (p : PortId) (n : LaneId) (h : Head) :
    CalmBut ck lt s₀ (headAccept p n h s₁) := by
  unfold headAccept
  repeat' (first | with_reducible assumption | with_reducible apply modPort_calm | with_reducible apply acceptCtl_calm
                 | with_reducible apply headReliability_calm | with_reducible apply wakeComplete_calm
                 | with_reducible apply CalmBut.foldl | intro x | with_reducible apply CalmBut.ite)

theorem missAlign_calm {s₀ s₁ : State} (h₀ : CalmBut ck lt s₀ s₁) (p : PortId) (n : LaneId) :
    CalmBut ck lt s₀ (missAlign p n s₁) := by
  unfold missAlign
  repeat' (first | with_reducible assumption | with_reducible apply modLane_calm | with_reducible apply CalmBut.foldl
                 | intro x | with_reducible apply CalmBut.ite | split)

theorem applyChange_calm {s₀ s₁ : State} (h₀ : CalmBut ck true s₀ s₁) (p : PortId) (kind : ChgKind) :
    CalmBut ck true s₀ (applyChange p kind s₁) := by
  unfold applyChange
  repeat' (first | with_reducible assumption | with_reducible apply mapLanes_calm | with_reducible apply modPort_calm
                 | with_reducible apply countChanged_calm | with_reducible apply deskew_calm
                 | with_reducible apply enterData_calm | with_reducible apply guarRise_calm
                 | with_reducible apply holdFall_calm | with_reducible apply reHold_calm
                 | with_reducible apply shedRecord_calm | with_reducible apply CalmBut.foldl | intro x
                 | with_reducible apply CalmBut.ite)

theorem resendAdds_calm {s₀ s₁ : State} (h₀ : CalmBut ck lt s₀ s₁) (p : PortId) :
    CalmBut ck lt s₀ (resendAdds p s₁) := by
  unfold resendAdds
  repeat' (first | with_reducible assumption | with_reducible apply modPort_calm | with_reducible apply sendAddNotice_calm
                 | with_reducible apply CalmBut.foldl | (intro x; intros) | with_reducible apply CalmBut.ite | split
                 | with_reducible apply CalmBut.upd)

theorem capacityAdds_calm {s₀ s₁ : State} (h₀ : CalmBut ck lt s₀ s₁) (p : PortId) :
    CalmBut ck lt s₀ (capacityAdds p s₁) := by
  unfold capacityAdds
  repeat' (first | with_reducible assumption | with_reducible apply modLane_calm | with_reducible apply sendAddNotice_calm
                 | with_reducible apply CalmBut.foldl | intro x | with_reducible apply CalmBut.ite | split)

theorem modInst_calm {s₀ s₁ : State} (h₀ : CalmBut ck lt s₀ s₁) (p : PortId) (cm : Bool) (f : SndInst → SndInst) :
    CalmBut ck lt s₀ (modInst p cm f s₁) := by
  unfold modInst
  repeat' (first | with_reducible assumption | with_reducible apply modPort_calm)

theorem soundWindow_calm {s₀ s₁ : State} (h₀ : CalmBut ck lt s₀ s₁) (p : PortId) :
    CalmBut ck lt s₀ (soundWindow p s₁) := by
  unfold soundWindow
  repeat' (first | with_reducible assumption | with_reducible apply draw_calm | with_reducible apply modPort_calm)

theorem enterSound_calm {s₀ s₁ : State} (h₀ : CalmBut ck lt s₀ s₁) (p : PortId) :
    CalmBut ck lt s₀ (enterSound p s₁) := by
  unfold enterSound
  repeat' (first | with_reducible assumption | with_reducible apply modPort_calm | with_reducible apply setLink_calm
                 | with_reducible apply soundWindow_calm)

theorem enterIeee_calm {s₀ s₁ : State} (h₀ : CalmBut ck lt s₀ s₁) (p : PortId) (which : Nat → Bool) :
    CalmBut ck lt s₀ (enterIeee p which s₁) := by
  unfold enterIeee
  repeat' (first | with_reducible assumption | with_reducible apply modPort_calm | with_reducible apply setLink_calm)

theorem resumeWait_calm {s₀ s₁ : State} (h₀ : CalmBut ck lt s₀ s₁) (p : PortId) :
    CalmBut ck lt s₀ (resumeWait p s₁) := by
  unfold resumeWait
  repeat' (first | with_reducible assumption | with_reducible apply setWaiting_calm | with_reducible apply CalmBut.ite)

theorem startLink_calm {s₀ s₁ : State} (h₀ : CalmBut ck lt s₀ s₁) (p : PortId) :
    CalmBut ck lt s₀ (startLink p s₁) := by
  unfold startLink
  repeat' (first | with_reducible assumption | with_reducible apply mapLanes_calm | with_reducible apply modPort_calm
                 | with_reducible apply enterIeee_calm | with_reducible apply enterSound_calm
                 | with_reducible apply resumeWait_calm | intro x | with_reducible apply CalmBut.ite)

theorem toClause73_calm {s₀ s₁ : State} (h₀ : CalmBut ck lt s₀ s₁) (p : PortId) :
    CalmBut ck lt s₀ (toClause73 p s₁) := by
  unfold toClause73
  repeat' (first | with_reducible assumption | with_reducible apply modPort_calm | with_reducible apply enterIeee_calm)

theorem enterParley_calm {s₀ s₁ : State} (h₀ : CalmBut ck lt s₀ s₁) (p : PortId) (c : CallInfo) (sf : Nat) (pairTx : Bool) :
    CalmBut ck lt s₀ (enterParley p c sf pairTx s₁) := by
  unfold enterParley
  repeat' (first | with_reducible assumption | with_reducible apply modPort_calm | with_reducible apply setLink_calm)

theorem answerCall_calm {s₀ s₁ : State} (h₀ : CalmBut ck lt s₀ s₁) (p : PortId) (c : CallInfo) (sf : Nat) (pairTx : Bool) (snr : Int) :
    CalmBut ck lt s₀ (answerCall p c sf pairTx snr s₁) := by
  unfold answerCall
  repeat' (first | with_reducible assumption | with_reducible apply modPort_calm)

theorem sendOffer_calm {s₀ s₁ : State} (h₀ : CalmBut ck lt s₀ s₁) (p : PortId) (no : Nat) :
    CalmBut ck lt s₀ (sendOffer p no s₁) := by
  unfold sendOffer
  repeat' (first | with_reducible assumption | with_reducible apply modPort_calm | with_reducible apply CalmBut.foldl
                 | intro x | with_reducible apply CalmBut.ite | split)

theorem failParley_calm {s₀ s₁ : State} (h₀ : CalmBut ck lt s₀ s₁) (p : PortId) (code : Nat) :
    CalmBut ck lt s₀ (failParley p code s₁) := by
  unfold failParley
  repeat' (first | with_reducible assumption | with_reducible apply modPort_calm | with_reducible apply downDue_calm
                 | with_reducible apply setWaiting_calm | with_reducible apply CalmBut.foldl | intro x
                 | with_reducible apply CalmBut.ite)

theorem applyGo_calm {s₀ s₁ : State} (h₀ : CalmBut ck lt s₀ s₁) (p : PortId) :
    CalmBut ck lt s₀ (applyGo p s₁) := by
  unfold applyGo
  repeat' (first | with_reducible assumption | with_reducible apply mapLanes_calm | with_reducible apply modPort_calm)

theorem diffSent_calm {s₀ s₁ : State} (h₀ : CalmBut ck lt s₀ s₁) (p : PortId) (f : SndFrame) :
    CalmBut ck lt s₀ (diffSent p f s₁) := by
  unfold diffSent
  repeat' (first | with_reducible assumption | with_reducible apply modLane_calm | with_reducible apply modPort_calm
                 | with_reducible apply applyGo_calm | with_reducible apply failParley_calm
                 | with_reducible apply CalmBut.foldl | intro x | with_reducible apply CalmBut.ite | split)

theorem toAlign_calm {s₀ s₁ : State} (h₀ : CalmBut ck lt s₀ s₁) (p : PortId) :
    CalmBut ck lt s₀ (toAlign p s₁) := by
  unfold toAlign
  repeat' (first | with_reducible assumption | with_reducible apply mapLanes_calm | with_reducible apply modPort_calm
                 | with_reducible apply setLink_calm)

theorem failTrain_calm {s₀ s₁ : State} (h₀ : CalmBut ck lt s₀ s₁) (p : PortId) (code : Nat) :
    CalmBut ck lt s₀ (failTrain p code s₁) := by
  unfold failTrain
  repeat' (first | with_reducible assumption | with_reducible apply modPort_calm | with_reducible apply downDue_calm)

theorem quietSettle_calm {s₀ s₁ : State} (h₀ : CalmBut ck lt s₀ s₁) (p : PortId) :
    CalmBut ck lt s₀ (quietSettle p s₁) := by
  unfold quietSettle
  repeat' (first | with_reducible assumption | with_reducible apply modPort_calm | with_reducible apply wakeStart_calm
                 | with_reducible apply CalmBut.foldl | intro x | with_reducible apply CalmBut.ite)

theorem standingTriggers_calm {s₀ s₁ : State} (h₀ : CalmBut ck lt s₀ s₁) (p : PortId) :
    CalmBut ck lt s₀ (standingTriggers p s₁) := by
  unfold standingTriggers
  repeat' (first | with_reducible assumption | with_reducible apply ownTrigger_calm | with_reducible apply CalmBut.foldl
                 | (intro x; intros) | with_reducible apply CalmBut.ite)

theorem modSub_calm {s₀ s₁ : State} (h₀ : CalmBut ck lt s₀ s₁) (p : PortId) (i : SubId) (f : IeeeSub → IeeeSub) :
    CalmBut ck lt s₀ (modSub p i f s₁) := by
  unfold modSub
  repeat' (first | with_reducible assumption | with_reducible apply modPort_calm)

theorem subTrain_calm {s₀ s₁ : State} (h₀ : CalmBut ck lt s₀ s₁) (p : PortId) (i : SubId) :
    CalmBut ck lt s₀ (subTrain p i s₁) := by
  unfold subTrain
  repeat' (first | with_reducible assumption | with_reducible apply mapLanes_calm | with_reducible apply modPort_calm
                 | with_reducible apply modSub_calm | with_reducible apply setLink_calm)

theorem waitingDone_calm {s₀ s₁ : State} (h₀ : CalmBut ck lt s₀ s₁) (p : PortId) :
    CalmBut ck lt s₀ (waitingDone p s₁) := by
  unfold waitingDone
  repeat' (first | with_reducible assumption | with_reducible apply setWaiting_calm | with_reducible apply CalmBut.foldl
                 | intro x | with_reducible apply CalmBut.ite)

theorem subDown_calm {s₀ s₁ : State} (h₀ : CalmBut ck lt s₀ s₁) (p : PortId) (i : SubId) (code : Nat) (retry : Bool) :
    CalmBut ck lt s₀ (subDown p i code retry s₁) := by
  unfold subDown
  repeat' (first | with_reducible assumption | with_reducible apply modPort_calm | with_reducible apply downDue_calm
                 | with_reducible apply endCond_calm | with_reducible apply modSub_calm | with_reducible apply setLink_calm
                 | with_reducible apply waitingDone_calm | with_reducible apply CalmBut.foldl | intro x
                 | with_reducible apply CalmBut.ite)

theorem groupLocked_calm {s₀ s₁ : State} (h₀ : CalmBut ck lt s₀ s₁) (k : PodId) (g : GroupId) :
    CalmBut ck lt s₀ (groupLocked k g s₁) := by
  unfold groupLocked
  repeat' (first | with_reducible assumption | with_reducible apply modGroup_calm | with_reducible apply podPllBack_calm
                 | with_reducible apply subTrain_calm | with_reducible apply waitingDone_calm
                 | with_reducible apply CalmBut.foldl | (intro x; intros) | with_reducible apply CalmBut.ite)

theorem mdioWrite_calm {s₀ s₁ : State} (h₀ : CalmBut ck lt s₀ s₁) (prtad : BitVec 5) (f : PortId → SubId → State → State) (h_f : ∀ y z x, CalmBut ck lt s₀ x → CalmBut ck lt s₀ (f y z x))
    :
    CalmBut ck lt s₀ (mdioWrite prtad s₁ f) := by
  unfold mdioWrite
  repeat' (first | with_reducible assumption | with_reducible apply h_f | with_reducible apply CalmBut.ite | split)

theorem hostArrive_calm {s₀ s₁ : State} (h₀ : CalmBut ck lt s₀ s₁) (p : PortId) (late : Bool) (b : Block) :
    CalmBut ck lt s₀ (hostArrive p late b s₁) := by
  unfold hostArrive
  repeat' (first | with_reducible assumption | with_reducible apply modPort_calm | with_reducible apply hostViolation_calm
                 | with_reducible apply reHold_calm | with_reducible apply CalmBut.foldl | intro x | with_reducible apply CalmBut.ite)

theorem judgeEvents_calm {s₀ s₁ : State} (h₀ : CalmBut ck lt s₀ s₁) :
    CalmBut ck lt s₀ (judgeEvents s₁) := by
  unfold judgeEvents
  repeat' (first | with_reducible assumption | with_reducible apply mapPorts_calm)

theorem diagReply_calm {s₀ s₁ : State} (h₀ : CalmBut ck lt s₀ s₁) (via : Origin) (opcode : Nat) (p : PortId) (status : Nat)
    (payload : List Byte) :
    CalmBut ck lt s₀ (diagReply via opcode p status payload s₁) := by
  unfold diagReply
  repeat' (first | with_reducible assumption | with_reducible apply modPort_calm | with_reducible apply reply_calm)

theorem diagStart_calm {s₀ s₁ : State} (h₀ : CalmBut ck lt s₀ s₁) (via : Origin) (opcode : Nat) (p : PortId) (il bad : Bool)
    (body : State → State) (h_body : ∀ x, CalmBut ck lt s₀ x → CalmBut ck lt s₀ (body x)) :
    CalmBut ck lt s₀ (diagStart via opcode p il bad s₁ body) := by
  unfold diagStart
  repeat' (first | with_reducible assumption | with_reducible apply h_body | with_reducible apply modPort_calm
                 | with_reducible apply diagReply_calm | with_reducible apply portCommand_calm
                 | with_reducible apply reply_calm | with_reducible apply CalmBut.foldl | (intro x; intros)
                 | with_reducible apply CalmBut.ite)

theorem diagTake_calm {s₀ s₁ : State} (h₀ : CalmBut ck lt s₀ s₁) (p : PortId) (k : DiagKind) (uses sends : Nat) (tone : Word) :
    CalmBut ck lt s₀ (diagTake p k uses sends tone s₁) := by
  unfold diagTake
  repeat' (first | with_reducible assumption | with_reducible apply freeNat_calm | with_reducible apply mapLanes_calm
                 | with_reducible apply modPort_calm)

theorem keepResults_calm {s₀ s₁ : State} (h₀ : CalmBut ck lt s₀ s₁) (p : PortId) (k : DiagKind) (points : Nat) (ids : List Nat)
    (meas : List DiagMeas) :
    CalmBut ck lt s₀ (keepResults p k points ids meas s₁) := by
  unfold keepResults
  repeat' (first | with_reducible assumption | with_reducible apply modPort_calm)

theorem diagFinish_calm {s₀ s₁ : State} (h₀ : CalmBut ck lt s₀ s₁) (p : PortId) (k : DiagKind) (status : Nat) :
    CalmBut ck lt s₀ (diagFinish p k status s₁) := by
  unfold diagFinish
  repeat' (first | with_reducible assumption | with_reducible apply diagRelease_calm | with_reducible apply diagReply_calm
                 | with_reducible apply CalmBut.foldl | intro x | with_reducible apply CalmBut.ite | split
                 | with_reducible apply CalmBut.upd)

theorem ilFinish_calm {s₀ s₁ : State} (h₀ : CalmBut ck lt s₀ s₁) (p : PortId) (status : Nat) (meas : List DiagMeas) :
    CalmBut ck lt s₀ (ilFinish p status meas s₁) := by
  unfold ilFinish
  repeat' (first | with_reducible assumption | with_reducible apply diagFinish_calm | with_reducible apply keepResults_calm)

theorem sendAlignSlot_calm {s₀ s₁ : State} (h₀ : CalmBut ck lt s₀ s₁) (p : PortId) :
    CalmBut ck lt s₀ (sendAlignSlot p s₁) := by
  unfold sendAlignSlot
  repeat' (first | with_reducible assumption | with_reducible apply modPort_calm | with_reducible apply CalmBut.foldl
                 | intro x | with_reducible apply CalmBut.ite)

theorem vgaBoundary_calm {s₀ s₁ : State} (h₀ : CalmBut ck lt s₀ s₁) (p : PortId) (n : LaneId) :
    CalmBut ck lt s₀ (vgaBoundary p n s₁) := by
  unfold vgaBoundary
  repeat' (first | with_reducible assumption | with_reducible apply modLane_calm | intro x
                 | with_reducible apply CalmBut.ite | split | with_reducible apply CalmBut.upd)

theorem slotAdvance_calm {s₀ s₁ : State} (h₀ : CalmBut ck lt s₀ s₁) (p : PortId) :
    CalmBut ck lt s₀ (slotAdvance p s₁) := by
  unfold slotAdvance
  repeat' (first | with_reducible assumption | with_reducible apply modPort_calm | with_reducible apply leaveSafe_calm
                 | with_reducible apply vgaBoundary_calm | with_reducible apply CalmBut.foldl | (intro x; intros)
                 | with_reducible apply CalmBut.ite)

theorem enterLane_calm {s₀ s₁ : State} (h₀ : CalmBut ck lt s₀ s₁) (p : PortId) (n : LaneId) :
    CalmBut ck lt s₀ (enterLane p n s₁) := by
  unfold enterLane
  repeat' (first | with_reducible assumption | with_reducible apply modLane_calm | with_reducible apply modPort_calm
                 | with_reducible apply applyTxCtrl_calm)

theorem linkCtrlEntered_calm {s₀ s₁ : State} (h₀ : CalmBut ck lt s₀ s₁) (p : PortId) :
    CalmBut ck lt s₀ (linkCtrlEntered p s₁) := by
  unfold linkCtrlEntered
  repeat' (first | with_reducible assumption | with_reducible apply modPort_calm | with_reducible apply downDue_calm
                 | with_reducible apply setWaiting_calm | with_reducible apply wakeTrigger_calm | intro x
                 | with_reducible apply CalmBut.ite)

theorem lane0Off_calm {s₀ s₁ : State} (h₀ : CalmBut ck lt s₀ s₁) (was : Bool) (p : PortId) :
    CalmBut ck lt s₀ (lane0Off was p s₁) := by
  unfold lane0Off
  repeat' (first | with_reducible assumption | with_reducible apply modPort_calm | with_reducible apply downDue_calm
                 | with_reducible apply modSub_calm | with_reducible apply setLink_calm
                 | with_reducible apply waitingDone_calm | with_reducible apply CalmBut.foldl | intro x
                 | with_reducible apply CalmBut.ite)

theorem lane0On_calm {s₀ s₁ : State} (h₀ : CalmBut ck lt s₀ s₁) (was : Bool) (p : PortId) :
    CalmBut ck lt s₀ (lane0On was p s₁) := by
  unfold lane0On
  repeat' (first | with_reducible assumption | with_reducible apply enterIeee_calm | intro x
                 | with_reducible apply CalmBut.ite)

theorem acceptCommit_calm {s₀ s₁ : State} (h₀ : CalmBut ck lt s₀ s₁) (p : PortId) (lane : Option LaneId) :
    CalmBut ck lt s₀ (acceptCommit p lane s₁) := by
  unfold acceptCommit
  repeat' (first | with_reducible assumption | with_reducible apply modLane_calm | with_reducible apply modPort_calm
                 | with_reducible apply enterLane_calm | with_reducible apply lane0Off_calm
                 | with_reducible apply lane0On_calm | with_reducible apply linkCtrlEntered_calm
                 | with_reducible apply startLink_calm | with_reducible apply CalmBut.foldl | (intro x; intros) | split)

theorem commitJudge_calm {s₀ s₁ : State} (h₀ : CalmBut ck lt s₀ s₁) (p : PortId) :
    CalmBut ck lt s₀ (commitJudge p s₁) := by
  unfold commitJudge
  repeat' (first | with_reducible assumption | with_reducible apply modLane_calm | with_reducible apply modPort_calm
                 | with_reducible apply acceptCommit_calm | with_reducible apply CalmBut.foldl | intro x
                 | with_reducible apply CalmBut.ite | split | with_reducible apply CalmBut.upd)

theorem cfgSkip_calm {s₀ s₁ : State} (h₀ : CalmBut ck lt s₀ s₁) :
    CalmBut ck lt s₀ (cfgSkip s₁) := by
  unfold cfgSkip
  repeat' (first | with_reducible assumption | with_reducible apply CalmBut.foldl | intro x | with_reducible apply CalmBut.ite
                 | split | with_reducible apply CalmBut.upd)

theorem stageLTx_calm {s₀ s₁ : State} (h₀ : CalmBut ck lt s₀ s₁) (p : PortId) (n : LaneId) (r : LaneSt) (v : Word) :
    CalmBut ck lt s₀ (stageLTx p n r v s₁) := by
  unfold stageLTx
  repeat' (first | with_reducible assumption | with_reducible apply modLane_calm)

theorem stageLTxCtrl_calm {s₀ s₁ : State} (h₀ : CalmBut ck lt s₀ s₁) (p : PortId) (n : LaneId) (v : Word) :
    CalmBut ck lt s₀ (stageLTxCtrl p n v s₁) := by
  unfold stageLTxCtrl
  repeat' (first | with_reducible assumption | with_reducible apply modLane_calm | with_reducible apply cfgSkip_calm
                 | with_reducible apply stageLTx_calm | with_reducible apply txOff_calm | with_reducible apply CalmBut.foldl
                 | intro x | with_reducible apply CalmBut.ite)

theorem stageLTaps_calm {s₀ s₁ : State} (h₀ : CalmBut ck lt s₀ s₁) (p : PortId) (n : LaneId) (r : LaneSt) (v : Word) :
    CalmBut ck lt s₀ (stageLTaps p n r v s₁) := by
  unfold stageLTaps
  repeat' (first | with_reducible assumption | with_reducible apply modLane_calm | with_reducible apply cfgSkip_calm
                 | with_reducible apply CalmBut.foldl | intro x | with_reducible apply CalmBut.ite)

theorem stageLLane_calm {s₀ s₁ : State} (h₀ : CalmBut ck lt s₀ s₁) (p : PortId) (n : LaneId) (o : Nat) (v : Word) :
    CalmBut ck lt s₀ (stageLLane p n o v s₁) := by
  unfold stageLLane
  repeat' (first | with_reducible assumption | with_reducible apply cfgSkip_calm | with_reducible apply stageLTaps_calm
                 | with_reducible apply stageLTxCtrl_calm | with_reducible apply CalmBut.foldl | intro x
                 | with_reducible apply CalmBut.ite | split)

theorem linesToIdle_calm {s₀ s₁ : State} (h₀ : CalmBut ck lt s₀ s₁) :
    CalmBut ck lt s₀ (linesToIdle s₁) := by
  unfold linesToIdle
  repeat' (first | with_reducible assumption | with_reducible apply mapLanes_calm | with_reducible apply mapPorts_calm
                 | with_reducible apply CalmBut.foldl | intro x | with_reducible apply CalmBut.ite)

theorem applyParams_calm {s₀ s₁ : State} (h₀ : CalmBut ck lt s₀ s₁) (par : DevParams) :
    CalmBut ck lt s₀ (applyParams par s₁) := by
  unfold applyParams
  repeat' (first | with_reducible assumption | with_reducible apply CalmBut.foldl | intro x | with_reducible apply CalmBut.ite
                 | split | with_reducible apply CalmBut.upd)

theorem setJudged_calm {s₀ s₁ : State} (h₀ : CalmBut ck lt s₀ s₁) (p : PortId) :
    CalmBut ck lt s₀ (setJudged p s₁) := by
  unfold setJudged
  repeat' (first | with_reducible assumption | with_reducible apply failTrain_calm | with_reducible apply CalmBut.ite
                 | split)

theorem receive_calm {s₀ s₁ : State} (h₀ : CalmBut ck lt s₀ s₁) (p : PortId) (n : LaneId) (samples : List RxSample) :
    CalmBut ck lt s₀ (receive p n samples s₁) := by
  unfold receive
  repeat' (first | with_reducible assumption | with_reducible apply modLane_calm | with_reducible apply modPort_calm
                 | (intro x; intros) | with_reducible apply CalmBut.upd)

theorem planWaitEnd_calm {s₀ s₁ : State} (h₀ : CalmBut ck lt s₀ s₁) (k : PodId) (g : GroupId) :
    CalmBut ck lt s₀ (planWaitEnd k g s₁) := by
  unfold planWaitEnd
  repeat' (first | with_reducible assumption | with_reducible apply setWaiting_calm | with_reducible apply CalmBut.foldl
                 | (intro x; intros) | with_reducible apply CalmBut.ite | split)

theorem failHostLane_calm {s₀ s₁ : State} (h₀ : CalmBut ck lt s₀ s₁) (p : PortId) (h : HostLaneId) :
    CalmBut ck lt s₀ (failHostLane p h s₁) := by
  unfold failHostLane
  repeat' (first | with_reducible assumption | with_reducible apply modPort_calm | with_reducible apply raise_calm
                 | (intro x; intros) | with_reducible apply CalmBut.ite | split | with_reducible apply CalmBut.upd)

theorem subRestart_calm {s₀ s₁ : State} (h₀ : CalmBut ck lt s₀ s₁) (p : PortId) (i : SubId) :
    CalmBut ck lt s₀ (subRestart p i s₁) := by
  unfold subRestart
  repeat' (first | with_reducible assumption | with_reducible apply enterIeee_calm | with_reducible apply modSub_calm
                 | with_reducible apply startLink_calm | (intro x; intros) | with_reducible apply CalmBut.ite | split
                 | with_reducible apply CalmBut.upd)

theorem streamRestart_calm {s₀ s₁ : State} (h₀ : CalmBut ck lt s₀ s₁) :
    CalmBut ck lt s₀ (streamRestart s₁) := by
  unfold streamRestart
  repeat' (first | with_reducible assumption | with_reducible apply CalmBut.upd)

theorem messageLeaves_calm {s₀ s₁ : State} (h₀ : CalmBut ck lt s₀ s₁) (k : PodId) :
    CalmBut ck lt s₀ (messageLeaves k s₁) := by
  unfold messageLeaves
  repeat' (first | with_reducible assumption | with_reducible apply modPod_calm | (intro x; intros)
                 | with_reducible apply CalmBut.upd)

end Sys2Proof
end

