-- ==== Sys2Proof/Laws/Kept.lean ====
section
/-!
SUPPORT. What no shared operation undoes: the part, the queue, the canonical form of slot memory, and what fuses hold. Each operation is shown
once to keep Kept from any earlier state; a meaning that is a composition of them keeps it.
-/
namespace Sys2Proof

open Sys2Proof.Machine

/-- From s to t nothing that every step keeps is undone. -/
structure Kept (s t : State) : Prop where
  part : t.part = s.part
  pending : t.pending = s.pending
  mem : memWf s.fw.mem = true → memWf t.fw.mem = true
  ctr : s.ledger.ctr ≤ t.ledger.ctr
  svn : s.fw.svnMin ≤ t.fw.svnMin
  keys : ∀ k, s.fw.revoked.testBit k = true → t.fw.revoked.testBit k = true

theorem Kept.refl (s : State) : Kept s s := ⟨rfl, rfl, id, le_rfl, le_rfl, fun _ => id⟩

theorem Kept.trans {s t u : State} (h : Kept s t) (k : Kept t u) : Kept s u :=
  ⟨k.part.trans h.part, k.pending.trans h.pending, fun m => k.mem (h.mem m), h.ctr.trans k.ctr, h.svn.trans k.svn,
   fun n m => k.keys n (h.keys n m)⟩

theorem Kept.upd {s t : State} {fr up po pd fl fw le sto fs rg ck pw bo te sk ti ca cp} (h : Kept s t)
    (c : fw.mem = t.fw.mem) (d : le.ctr = t.ledger.ctr) (e : fw.svnMin = t.fw.svnMin) (f : fw.revoked = t.fw.revoked) :
    Kept s ⟨t.part, fr, up, po, pd, fl, fw, le, sto, fs, rg, ck, pw, bo, te, sk, ti, ca, cp, t.pending⟩ :=
  h.trans ⟨rfl, rfl, fun m => c ▸ m, d ▸ le_rfl, e ▸ le_rfl, fun _ m => f ▸ m⟩

theorem Kept.foldl {α} {s t : State} {l : List α} {f : State → α → State} (k : ∀ t x, Kept s t → Kept s (f t x))
    (h : Kept s t) :
   Kept s (l.foldl f t) := by
  induction l generalizing t with
  | nil => exact h
  | cons x xs ih => exact ih (k _ _ h)

theorem Kept.ite {c : Prop} [Decidable c] {s a b : State} (ha : Kept s a) (hb : Kept s b) : Kept s (if c then a else b) := by
  split
  · exact ha
  · exact hb

theorem Kept.ite2 {α : Type} {c : Prop} [Decidable c] {s : State} {a b : α × State} (ha : Kept s a.2) (hb : Kept s b.2) :
    Kept s (if c then a else b).2 := by
  split
  · exact ha
  · exact hb

theorem modPort_kept {s₀ s₁ : State} (h₀ : Kept s₀ s₁) (p : PortId) (f : Port → Port) :
    Kept s₀ (State.modPort s₁ p f) := by
  unfold State.modPort
  repeat' (first | with_reducible assumption | with_reducible apply Kept.foldl | intro x | with_reducible apply Kept.ite
                 | split | with_reducible apply Kept.upd | with_reducible rfl)

theorem modLane_kept {s₀ s₁ : State} (h₀ : Kept s₀ s₁) (p : PortId) (n : LaneId) (f : Lane → Lane) :
    Kept s₀ (State.modLane s₁ p n f) := by
  unfold State.modLane
  repeat' (first | with_reducible assumption | with_reducible apply modPort_kept)

theorem mapPorts_kept {s₀ s₁ : State} (h₀ : Kept s₀ s₁) (f : PortId → Port → Port) :
    Kept s₀ (State.mapPorts s₁ f) := by
  unfold State.mapPorts
  repeat' (first | with_reducible assumption | with_reducible apply Kept.foldl | intro x | with_reducible apply Kept.ite
                 | split | with_reducible apply Kept.upd | with_reducible rfl)

theorem mapLanes_kept {s₀ s₁ : State} (h₀ : Kept s₀ s₁) (p : PortId) (f : LaneId → Lane → Lane) :
    Kept s₀ (State.mapLanes s₁ p f) := by
  unfold State.mapLanes
  repeat' (first | with_reducible assumption | with_reducible apply modPort_kept)

theorem modPod_kept {s₀ s₁ : State} (h₀ : Kept s₀ s₁) (k : PodId) (f : Pod → Pod) :
    Kept s₀ (State.modPod s₁ k f) := by
  unfold State.modPod
  repeat' (first | with_reducible assumption | with_reducible apply Kept.foldl | intro x | with_reducible apply Kept.ite
                 | split | with_reducible apply Kept.upd | with_reducible rfl)

theorem mapPods_kept {s₀ s₁ : State} (h₀ : Kept s₀ s₁) (f : PodId → Pod → Pod) :
    Kept s₀ (State.mapPods s₁ f) := by
  unfold State.mapPods
  repeat' (first | with_reducible assumption | with_reducible apply Kept.foldl | intro x | with_reducible apply Kept.ite
                 | split | with_reducible apply Kept.upd | with_reducible rfl)

theorem draw_kept {s₀ s₁ : State} (h₀ : Kept s₀ s₁) :
    Kept s₀ (State.draw s₁).2 := by
  unfold State.draw
  repeat' (first | with_reducible assumption | with_reducible apply Kept.foldl | intro x | with_reducible apply Kept.ite
                 | split | with_reducible apply Kept.upd | with_reducible rfl)

theorem freeNat_kept {s₀ s₁ : State} (h₀ : Kept s₀ s₁) :
    Kept s₀ (State.freeNat s₁).2 := by
  unfold State.freeNat
  repeat' (first | with_reducible assumption | with_reducible apply Kept.foldl | intro x | with_reducible apply Kept.ite
                 | split | with_reducible apply Kept.upd | with_reducible rfl)

theorem modGroup_kept {s₀ s₁ : State} (h₀ : Kept s₀ s₁) (k : PodId) (g : GroupId) (f : LpllGroup → LpllGroup) :
    Kept s₀ (State.modGroup s₁ k g f) := by
  unfold State.modGroup
  repeat' (first | with_reducible assumption | with_reducible apply modPod_kept)

theorem ignored_kept {s₀ s₁ : State} (h₀ : Kept s₀ s₁) (who : Initiator) (addr : Nat) :
    Kept s₀ (ignored who addr s₁) := by
  unfold ignored
  repeat' (first | with_reducible assumption | with_reducible apply Kept.foldl | intro x | with_reducible apply Kept.ite
                 | split | with_reducible apply Kept.upd | with_reducible rfl)

theorem written_kept {s₀ s₁ : State} (h₀ : Kept s₀ s₁) :
    Kept s₀ (written s₁) := by
  unfold written
  repeat' (first | with_reducible assumption | with_reducible apply Kept.foldl | intro x | with_reducible apply Kept.ite
                 | split | with_reducible apply Kept.upd | with_reducible rfl)

theorem readValue_kept {s₀ s₁ : State} (h₀ : Kept s₀ s₁) (w : Word) :
    Kept s₀ (readValue w s₁) := by
  unfold readValue
  repeat' (first | with_reducible assumption | with_reducible apply Kept.foldl | intro x | with_reducible apply Kept.ite
                 | split | with_reducible apply Kept.upd | with_reducible rfl)

theorem busError_kept {s₀ s₁ : State} (h₀ : Kept s₀ s₁) (who : Initiator) :
    Kept s₀ (busError who s₁) := by
  unfold busError
  repeat' (first | with_reducible assumption | with_reducible apply Kept.foldl | intro x | with_reducible apply Kept.ite
                 | split | with_reducible apply Kept.upd | with_reducible rfl)

theorem regWrite_kept {s₀ s₁ : State} (h₀ : Kept s₀ s₁) (who : Initiator) (addr : Nat) (f : State → State)
    (h_f : ∀ x, Kept s₀ x → Kept s₀ (f x)) :
    Kept s₀ (regWrite who addr s₁ f) := by
  unfold regWrite
  repeat' (first | with_reducible assumption | with_reducible apply h_f | with_reducible apply busError_kept
                 | with_reducible apply ignored_kept | with_reducible apply Kept.foldl | intro x
                 | with_reducible apply Kept.ite)

theorem spiData_kept {s₀ s₁ : State} (h₀ : Kept s₀ s₁) (who : Initiator) :
    Kept s₀ (spiData who s₁) := by
  unfold spiData
  repeat' (first | with_reducible assumption | with_reducible apply freeNat_kept | with_reducible apply Kept.ite | split
                 | with_reducible apply Kept.upd | with_reducible rfl)

theorem regRead_kept {s₀ s₁ : State} (h₀ : Kept s₀ s₁) (who : Initiator) (addr : Nat) (f : State → State) (h_f : ∀ x, Kept s₀ x → Kept s₀ (f x))
    :
    Kept s₀ (regRead who addr s₁ f) := by
  unfold regRead
  repeat' (first | with_reducible assumption | with_reducible apply h_f | with_reducible apply busError_kept
                 | with_reducible apply spiData_kept | with_reducible apply Kept.ite)

theorem modStk_kept {s₀ s₁ : State} (h₀ : Kept s₀ s₁) (p : StackPortId) (f : StkPort → StkPort) :
    Kept s₀ (State.modStk s₁ p f) := by
  unfold State.modStk
  repeat' (first | with_reducible assumption | with_reducible apply Kept.foldl | intro x | with_reducible apply Kept.ite
                 | split | with_reducible apply Kept.upd | with_reducible rfl)

theorem stkSend_kept {s₀ s₁ : State} (h₀ : Kept s₀ s₁) (p : StackPortId) (m : StkMsg) :
    Kept s₀ (stkSend p m s₁) := by
  unfold stkSend
  repeat' (first | with_reducible assumption | with_reducible apply modStk_kept | with_reducible apply Kept.foldl | intro x
                 | with_reducible apply Kept.ite)

theorem stkUpstream_kept {s₀ s₁ : State} (h₀ : Kept s₀ s₁) (m : StkMsg) :
    Kept s₀ (stkUpstream m s₁) := by
  unfold stkUpstream
  repeat' (first | with_reducible assumption | with_reducible apply modStk_kept | with_reducible apply stkSend_kept
                 | with_reducible apply Kept.foldl | intro x | with_reducible apply Kept.ite | split
                 | with_reducible apply Kept.upd | with_reducible rfl)

theorem stkDeliver_kept {s₀ s₁ : State} (h₀ : Kept s₀ s₁) (m : StkMsg) :
    Kept s₀ (stkDeliver m s₁) := by
  unfold stkDeliver
  repeat' (first | with_reducible assumption | with_reducible apply stkSend_kept | with_reducible apply stkUpstream_kept
                 | with_reducible apply Kept.foldl | intro x | with_reducible apply Kept.ite | split)

theorem queueCm_kept {s₀ s₁ : State} (h₀ : Kept s₀ s₁) (p : PortId) (t : Nat) (payload : List Byte) :
    Kept s₀ (queueCm p t payload s₁) := by
  unfold queueCm
  repeat' (first | with_reducible assumption | with_reducible apply modPort_kept)

theorem sendDiff_kept {s₀ s₁ : State} (h₀ : Kept s₀ s₁) (p : PortId) (t sf : Nat) (reply : Bool) (payload : List Byte) :
    Kept s₀ (sendDiff p t sf reply payload s₁) := by
  unfold sendDiff
  repeat' (first | with_reducible assumption | with_reducible apply modPort_kept)

theorem sendMgmt_kept {s₀ s₁ : State} (h₀ : Kept s₀ s₁) (p : PortId) (kind tag : Nat) (packet : List Byte) :
    Kept s₀ (sendMgmt p kind tag packet s₁) := by
  unfold sendMgmt
  repeat' (first | with_reducible assumption | with_reducible apply queueCm_kept | with_reducible apply sendDiff_kept
                 | with_reducible apply Kept.foldl | (intro x; intros) | with_reducible apply Kept.ite)

theorem ledgerPut_kept {s₀ s₁ : State} (h₀ : Kept s₀ s₁) (t code flags : Nat) (body : List Byte) :
    Kept s₀ (ledgerPut t code flags body s₁) := by
  unfold ledgerPut
  repeat' (first | with_reducible assumption | with_reducible apply Kept.foldl | intro x | with_reducible apply Kept.ite
                 | split | with_reducible apply Kept.upd | with_reducible rfl)

theorem ledgerCoalesce_kept {s₀ s₁ : State} (h₀ : Kept s₀ s₁) (t code : Nat) :
    Kept s₀ (ledgerCoalesce t code s₁) := by
  unfold ledgerCoalesce
  repeat' (first | with_reducible assumption | with_reducible apply Kept.foldl | intro x | with_reducible apply Kept.ite
                 | split | with_reducible apply Kept.upd | with_reducible rfl)

theorem fltMod_kept {s₀ s₁ : State} (h₀ : Kept s₀ s₁) (c : Cause) (i : Inst) (f : FltInst → FltInst) :
    Kept s₀ (fltMod c i f s₁) := by
  unfold fltMod
  repeat' (first | with_reducible assumption | with_reducible apply modLane_kept | with_reducible apply modPod_kept
                 | with_reducible apply modPort_kept | with_reducible apply Kept.foldl | intro x
                 | with_reducible apply Kept.ite | split | with_reducible apply Kept.upd | with_reducible rfl)

theorem stackReport_kept {s₀ s₁ : State} (h₀ : Kept s₀ s₁) (o : Occ) :
    Kept s₀ (stackReport o s₁) := by
  unfold stackReport
  repeat' (first | with_reducible assumption | with_reducible apply Kept.foldl | intro x | with_reducible apply Kept.ite
                 | split | with_reducible apply Kept.upd | with_reducible rfl)

theorem recMerge_kept {s₀ s₁ : State} (h₀ : Kept s₀ s₁) (o : Occ) :
    Kept s₀ (recMerge o s₁) := by
  unfold recMerge
  repeat' (first | with_reducible assumption | with_reducible apply Kept.foldl | intro x | with_reducible apply Kept.ite
                 | split | with_reducible apply Kept.upd | with_reducible rfl)

theorem hubCore_kept {s₀ s₁ : State} (h₀ : Kept s₀ s₁) (o : Occ) :
    Kept s₀ (hubCore o s₁) := by
  unfold hubCore
  repeat' (first | with_reducible assumption | with_reducible apply fltMod_kept | with_reducible apply recMerge_kept
                 | with_reducible apply stackReport_kept | with_reducible apply Kept.foldl | intro x
                 | with_reducible apply Kept.ite | split | with_reducible apply Kept.upd | with_reducible rfl)

theorem txToSafe_kept {s₀ s₁ : State} (h₀ : Kept s₀ s₁) (p : PortId) :
    Kept s₀ (txToSafe p s₁) := by
  unfold txToSafe
  repeat' (first | with_reducible assumption | with_reducible apply mapLanes_kept)

theorem hostToSafe_kept {s₀ s₁ : State} (h₀ : Kept s₀ s₁) (p : PortId) :
    Kept s₀ (hostToSafe p s₁) := by
  unfold hostToSafe
  repeat' (first | with_reducible assumption | with_reducible apply modPort_kept)

theorem takeSafe_kept {s₀ s₁ : State} (h₀ : Kept s₀ s₁) (c : Cause) (i : Inst) (d : Nat) (r : React) :
    Kept s₀ (takeSafe c i d r s₁) := by
  unfold takeSafe
  repeat' (first | with_reducible assumption | with_reducible apply hostToSafe_kept | with_reducible apply txToSafe_kept
                 | with_reducible apply Kept.foldl | (intro x; intros) | with_reducible apply Kept.ite | split
                 | with_reducible apply Kept.upd | with_reducible rfl)

theorem occurWith_kept {s₀ s₁ : State} (h₀ : Kept s₀ s₁) (toLedger : Occ → State → State) (c : Cause) (i : Inst) (d : Nat)
    (cls : FltClass) (extra : React) (inj : Bool) (h_toLedger : ∀ o x, Kept s₀ x → Kept s₀ (toLedger o x)) :
    Kept s₀ (occurWith toLedger c i d cls extra inj s₁) := by
  unfold occurWith
  repeat' (first | with_reducible assumption | with_reducible apply h_toLedger | with_reducible apply modPod_kept
                 | with_reducible apply fltMod_kept | with_reducible apply hubCore_kept
                 | with_reducible apply takeSafe_kept | with_reducible apply Kept.foldl | intro x
                 | with_reducible apply Kept.ite | split)

theorem ledgerTake_kept {s₀ s₁ : State} (h₀ : Kept s₀ s₁) (t code flags : Nat) (body : List Byte) :
    Kept s₀ (ledgerTake t code flags body s₁) := by
  unfold ledgerTake
  refine Kept.ite (ledgerCoalesce_kept h₀ _ _) ?_
  refine ledgerPut_kept (Kept.ite h₀ ?_) _ _ _ _
  exact Kept.upd h₀ rfl rfl rfl rfl

theorem ledgerFault_kept {s₀ s₁ : State} (h₀ : Kept s₀ s₁) (d : Nat) :
    Kept s₀ (ledgerFault d s₁) := by
  unfold ledgerFault
  refine occurWith_kept h₀ _ _ _ _ _ _ _ fun o x h => ?_
  exact Kept.ite h (Kept.ite (ledgerCoalesce_kept h _ _) (ledgerTake_kept h _ _ _ _))

theorem ledgerSign_kept {s₀ s₁ : State} (h₀ : Kept s₀ s₁) :
    Kept s₀ (ledgerSign s₁) := by
  unfold ledgerSign
  repeat' (first | with_reducible assumption | with_reducible apply ledgerPut_kept | with_reducible apply Kept.foldl
                 | intro x | with_reducible apply Kept.ite | split | with_reducible apply Kept.upd | with_reducible rfl)

theorem ledgerProgram_kept {s₀ s₁ : State} (h₀ : Kept s₀ s₁) (ok : Bool) :
    Kept s₀ (ledgerProgram ok s₁) := by
  unfold ledgerProgram
  repeat' (first | with_reducible assumption | with_reducible apply ledgerFault_kept | with_reducible apply Kept.foldl
                 | intro x | with_reducible apply Kept.ite | split | with_reducible apply Kept.upd | with_reducible rfl)

theorem ledgerMakeSeal_kept {s₀ s₁ : State} (h₀ : Kept s₀ s₁) (programOk : Bool) :
    Kept s₀ (ledgerMakeSeal programOk s₁) := by
  unfold ledgerMakeSeal
  repeat' (first | with_reducible assumption | with_reducible apply ledgerProgram_kept | with_reducible apply ledgerSign_kept)

/-- The counter never counts down. -/
theorem LedgerSt.increment_ctr (l : LedgerSt) (failed : Nat) : l.ctr ≤ (l.increment failed).ctr := by
  unfold LedgerSt.increment
  split
  · exact le_rfl
  · exact Nat.le_succ _

theorem ledgerBlock_kept {s₀ s₁ : State} (h₀ : Kept s₀ s₁) (reason prev : Nat) (prevChain : BitVec 384)
    (discarded flags failed : Nat) : Kept s₀ (ledgerBlock reason prev prevChain discarded flags failed s₁) := by
  have h₁ : Kept s₀ { s₁ with ledger := s₁.ledger.increment failed } := (h₀.trans ⟨rfl, rfl, id, LedgerSt.increment_ctr _ _, le_rfl, fun _ => id⟩)
  unfold ledgerBlock
  generalize { s₁ with ledger := s₁.ledger.increment failed } = x at h₁ ⊢
  have h₂ := ledgerPut_kept h₁ 0x01 reason 0 (anchorBody prev prevChain discarded flags x)
  cases s₁.ledger.stuck failed with
  | none => exact h₂
  | some d => exact ledgerFault_kept h₂ d

theorem ledgerRollover_kept {s₀ s₁ : State} (h₀ : Kept s₀ s₁) : Kept s₀ (ledgerRollover s₁) :=
  ledgerBlock_kept (ledgerMakeSeal_kept h₀ true) _ _ _ _ _ _

theorem ledgerAppend_kept {s₀ s₁ : State} (h₀ : Kept s₀ s₁) (t code flags : Nat) (body : List Byte) :
    Kept s₀ (ledgerAppend t code flags body s₁) := by
  unfold ledgerAppend
  refine Kept.ite h₀ ?_
  have h₁ : Kept s₀ (if s₁.ledger.blockFull = true then ledgerRollover s₁ else s₁) := Kept.ite (ledgerRollover_kept h₀) h₀
  generalize (if s₁.ledger.blockFull = true then ledgerRollover s₁ else s₁) = x at h₁ ⊢
  have h₂ := ledgerTake_kept h₁ t code flags body
  exact Kept.ite (ledgerFault_kept h₂ 6) h₂

theorem ledgerFaultRecord_kept {s₀ s₁ : State} (h₀ : Kept s₀ s₁) (o : Occ) :
    Kept s₀ (ledgerFaultRecord o s₁) := by
  unfold ledgerFaultRecord
  repeat' (first | with_reducible assumption | with_reducible apply ledgerAppend_kept | with_reducible apply Kept.foldl
                 | intro x | with_reducible apply Kept.ite)

theorem hubApply_kept {s₀ s₁ : State} (h₀ : Kept s₀ s₁) (o : Occ) :
    Kept s₀ (hubApply o s₁) := by
  unfold hubApply
  repeat' (first | with_reducible assumption | with_reducible apply hubCore_kept | with_reducible apply ledgerFaultRecord_kept)

theorem occur_kept {s₀ s₁ : State} (h₀ : Kept s₀ s₁) (c : Cause) (i : Inst) (d : Nat) (cls : FltClass) (extra : React)
    (inj : Bool) :
    Kept s₀ (occur c i d cls extra inj s₁) := by
  unfold occur
  repeat' (first | with_reducible assumption | with_reducible apply ledgerFaultRecord_kept
                 | with_reducible apply occurWith_kept | with_reducible apply Kept.foldl | (intro x; intros))

theorem linkRecord_kept {s₀ s₁ : State} (h₀ : Kept s₀ s₁) (p : PortId) (old : LinkState) :
    Kept s₀ (linkRecord p old s₁) := by
  unfold linkRecord
  repeat' (first | with_reducible assumption | with_reducible apply ledgerAppend_kept)

theorem setLink_kept {s₀ s₁ : State} (h₀ : Kept s₀ s₁) (p : PortId) (st : LinkState) :
    Kept s₀ (setLink p st s₁) := by
  unfold setLink
  repeat' (first | with_reducible assumption | with_reducible apply modPort_kept | with_reducible apply linkRecord_kept
                 | with_reducible apply Kept.foldl | intro x | with_reducible apply Kept.ite)

theorem guarFail_kept {s₀ s₁ : State} (h₀ : Kept s₀ s₁) (p : PortId) (code : Nat) :
    Kept s₀ (guarFail p code s₁) := by
  unfold guarFail
  repeat' (first | with_reducible assumption | with_reducible apply modPort_kept | with_reducible apply occur_kept
                 | with_reducible apply Kept.foldl | intro x | with_reducible apply Kept.ite)

theorem enterDown_kept {s₀ s₁ : State} (h₀ : Kept s₀ s₁) (p : PortId) (cause : Nat) :
    Kept s₀ (enterDown p cause s₁) := by
  unfold enterDown
  repeat' (first | with_reducible assumption | with_reducible apply modPort_kept | with_reducible apply guarFail_kept
                 | with_reducible apply linkRecord_kept | with_reducible apply occur_kept | with_reducible apply Kept.foldl
                 | intro x | with_reducible apply Kept.ite)

theorem endWait_kept {s₀ s₁ : State} (h₀ : Kept s₀ s₁) (p : PortId) :
    Kept s₀ (endWait p s₁) := by
  unfold endWait
  repeat' (first | with_reducible assumption | with_reducible apply modGroup_kept | with_reducible apply fltMod_kept)

theorem safeDown_kept {s₀ s₁ : State} (h₀ : Kept s₀ s₁) :
    Kept s₀ (safeDown s₁) := by
  unfold safeDown
  repeat' (first | with_reducible assumption | with_reducible apply endWait_kept | with_reducible apply enterDown_kept
                 | with_reducible apply Kept.foldl | (intro x; intros) | with_reducible apply Kept.ite)

theorem setBank_kept {s₀ s₁ : State} (h₀ : Kept s₀ s₁) (b : MemBank) (f : BankResult → BankResult) :
    Kept s₀ (setBank b f s₁) := by
  unfold setBank
  repeat' (first | with_reducible assumption | with_reducible apply Kept.foldl | intro x | with_reducible apply Kept.ite
                 | split | with_reducible apply Kept.upd | with_reducible rfl)

theorem modSlot_kept {s₀ s₁ : State} (h₀ : Kept s₀ s₁) (n : SlotId) (f : Slot → Slot) :
    Kept s₀ (State.modSlot s₁ n f) := by
  unfold State.modSlot
  repeat' (first | with_reducible assumption | with_reducible apply Kept.foldl | intro x | with_reducible apply Kept.ite
                 | split | with_reducible apply Kept.upd | with_reducible rfl)

theorem setSlot_kept {s₀ s₁ : State} (h₀ : Kept s₀ s₁) (n : SlotId) (st : SlotState) :
    Kept s₀ (setSlot n st s₁) := by
  unfold setSlot
  repeat' (first | with_reducible assumption | with_reducible apply modSlot_kept | with_reducible apply Kept.foldl
                 | intro x | with_reducible apply Kept.ite | split)

theorem replyBy_kept {s₀ s₁ : State} (h₀ : Kept s₀ s₁) (via : Origin) (opcode tag status : Nat) (payload : List Byte) :
    Kept s₀ (replyBy via opcode tag status payload s₁) := by
  unfold replyBy
  cases via with
  | slot n =>
    apply setSlot_kept
    exact h₀.trans ⟨rfl, rfl, memWriteList_wf _ _, le_rfl, le_rfl, fun _ => id⟩
  | tunnel member ttag => exact Kept.foldl (fun t x h => stkDeliver_kept h x) h₀
  | stageC =>
    dsimp only
    split
    · exact h₀
    · exact Kept.upd h₀ rfl rfl rfl rfl
  | farEnd p ftag => exact sendMgmt_kept h₀ _ _ _ _

theorem endRun_kept {s₀ s₁ : State} (h₀ : Kept s₀ s₁) (via : Origin) (opcode : Nat) :
    Kept s₀ (endRun via opcode s₁) := by
  unfold endRun
  repeat' (first | with_reducible assumption | with_reducible apply Kept.foldl | intro x | with_reducible apply Kept.ite
                 | split | with_reducible apply Kept.upd | with_reducible rfl)

theorem reply_kept {s₀ s₁ : State} (h₀ : Kept s₀ s₁) (via : Origin) (opcode status : Nat) (payload : List Byte) :
    Kept s₀ (reply via opcode status payload s₁) := by
  unfold reply
  repeat' (first | with_reducible assumption | with_reducible apply endRun_kept | with_reducible apply replyBy_kept
                 | with_reducible apply Kept.foldl | intro x | with_reducible apply Kept.ite | split
                 | with_reducible apply Kept.upd | with_reducible rfl)

theorem startCommand_kept {s₀ s₁ : State} (h₀ : Kept s₀ s₁) (via : Origin) (opcode : Nat) (port : Option PortId) :
    Kept s₀ (startCommand via opcode port s₁) := by
  unfold startCommand
  repeat' (first | with_reducible assumption | with_reducible apply setSlot_kept | with_reducible apply Kept.foldl
                 | intro x | with_reducible apply Kept.ite | split | with_reducible apply Kept.upd | with_reducible rfl)

theorem command_kept {s₀ s₁ : State} (h₀ : Kept s₀ s₁) (via : Origin) (opcode : Nat) (body : State → State)
    (h_body : ∀ x, Kept s₀ x → Kept s₀ (body x)) :
    Kept s₀ (command via opcode s₁ body) := by
  unfold command
  repeat' (first | with_reducible assumption | with_reducible apply h_body | with_reducible apply reply_kept
                 | with_reducible apply startCommand_kept | with_reducible apply Kept.foldl | intro x
                 | with_reducible apply Kept.ite)

theorem portCommand_kept {s₀ s₁ : State} (h₀ : Kept s₀ s₁) (via : Origin) (opcode : Nat) (p : PortId) (body : State → State)
    (h_body : ∀ x, Kept s₀ x → Kept s₀ (body x)) :
    Kept s₀ (portCommand via opcode p s₁ body) := by
  unfold portCommand
  repeat' (first | with_reducible assumption | with_reducible apply h_body | with_reducible apply command_kept
                 | with_reducible apply reply_kept | with_reducible apply startCommand_kept
                 | with_reducible apply Kept.foldl | (intro x; intros) | with_reducible apply Kept.ite)

theorem setBankResult_kept {s₀ s₁ : State} (h₀ : Kept s₀ s₁) (b : MemBank) (code kind : Nat) (fails : List BitFail)
    (misr : BitVec 64) :
    Kept s₀ (setBankResult b code kind fails misr s₁) := by
  unfold setBankResult
  repeat' (first | with_reducible assumption | with_reducible apply setBank_kept)

theorem abortBist_kept {s₀ s₁ : State} (h₀ : Kept s₀ s₁) (status : Nat) :
    Kept s₀ (abortBist status s₁) := by
  unfold abortBist
  repeat' (first | with_reducible assumption | with_reducible apply reply_kept | with_reducible apply setBankResult_kept
                 | with_reducible apply Kept.foldl | (intro x; intros) | with_reducible apply Kept.ite | split
                 | with_reducible apply Kept.upd | with_reducible rfl)

theorem abortCal_kept {s₀ s₁ : State} (h₀ : Kept s₀ s₁) (status : Nat) :
    Kept s₀ (abortCal status s₁) := by
  unfold abortCal
  repeat' (first | with_reducible assumption | with_reducible apply reply_kept | with_reducible apply Kept.foldl | intro x
                 | with_reducible apply Kept.ite | split | with_reducible apply Kept.upd | with_reducible rfl)

theorem diagRelease_kept {s₀ s₁ : State} (h₀ : Kept s₀ s₁) (p : PortId) :
    Kept s₀ (diagRelease p s₁) := by
  unfold diagRelease
  repeat' (first | with_reducible assumption | with_reducible apply mapLanes_kept | with_reducible apply modPort_kept)

theorem diagEnd_kept {s₀ s₁ : State} (h₀ : Kept s₀ s₁) (p : PortId) (status : Nat) :
    Kept s₀ (diagEnd p status s₁) := by
  unfold diagEnd
  repeat' (first | with_reducible assumption | with_reducible apply modPort_kept | with_reducible apply diagRelease_kept
                 | with_reducible apply reply_kept | with_reducible apply Kept.foldl | intro x
                 | with_reducible apply Kept.ite | split | with_reducible apply Kept.upd | with_reducible rfl)

theorem captureEnd_kept {s₀ s₁ : State} (h₀ : Kept s₀ s₁) (o : CapOutcome) :
    Kept s₀ (captureEnd o s₁) := by
  unfold captureEnd
  repeat' (first | with_reducible assumption | with_reducible apply diagRelease_kept | with_reducible apply Kept.foldl
                 | intro x | with_reducible apply Kept.ite | split | with_reducible apply Kept.upd | with_reducible rfl)

theorem safeEnds_kept {s₀ s₁ : State} (h₀ : Kept s₀ s₁) :
    Kept s₀ (safeEnds s₁) := by
  unfold safeEnds
  repeat' (first | with_reducible assumption | with_reducible apply mapLanes_kept | with_reducible apply abortBist_kept
                 | with_reducible apply abortCal_kept | with_reducible apply captureEnd_kept
                 | with_reducible apply diagEnd_kept | with_reducible apply Kept.foldl | (intro x; intros)
                 | with_reducible apply Kept.ite)

theorem raiseOcc_kept {s₀ s₁ : State} (h₀ : Kept s₀ s₁) (c : Cause) (i : Inst) (d : Nat) (cls : FltClass) (extra : React) :
    Kept s₀ (raiseOcc c i d cls extra s₁) := by
  unfold raiseOcc
  repeat' (first | with_reducible assumption | with_reducible apply guarFail_kept | with_reducible apply occur_kept
                 | with_reducible apply safeDown_kept | with_reducible apply safeEnds_kept
                 | with_reducible apply Kept.foldl | (intro x; intros) | with_reducible apply Kept.ite)

theorem raise_kept {s₀ s₁ : State} (h₀ : Kept s₀ s₁) (c : Cause) (i : Inst) (d : Nat) :
    Kept s₀ (raise c i d s₁) := by
  unfold raise
  repeat' (first | with_reducible assumption | with_reducible apply raiseOcc_kept | with_reducible apply Kept.foldl
                 | intro x | with_reducible apply Kept.ite)

theorem raiseAs_kept {s₀ s₁ : State} (h₀ : Kept s₀ s₁) (c : Cause) (i : Inst) (d : Nat) (cls : FltClass) :
    Kept s₀ (raiseAs c i d cls s₁) := by
  unfold raiseAs
  repeat' (first | with_reducible assumption | with_reducible apply raiseOcc_kept | with_reducible apply Kept.foldl
                 | intro x | with_reducible apply Kept.ite)

theorem raiseWith_kept {s₀ s₁ : State} (h₀ : Kept s₀ s₁) (c : Cause) (i : Inst) (d : Nat) (cls : FltClass) (extra : React) :
    Kept s₀ (raiseWith c i d cls extra s₁) := by
  unfold raiseWith
  repeat' (first | with_reducible assumption | with_reducible apply raiseOcc_kept | with_reducible apply Kept.foldl
                 | intro x | with_reducible apply Kept.ite)

theorem raiseAgain_kept {s₀ s₁ : State} (h₀ : Kept s₀ s₁) (c : Cause) (i : Inst) (d : Nat) :
    Kept s₀ (raiseAgain c i d s₁) := by
  unfold raiseAgain
  repeat' (first | with_reducible assumption | with_reducible apply raiseOcc_kept)

theorem raiseInjected_kept {s₀ s₁ : State} (h₀ : Kept s₀ s₁) (c : Cause) (i : Inst) (d : Nat) :
    Kept s₀ (raiseInjected c i d s₁) := by
  unfold raiseInjected
  repeat' (first | with_reducible assumption | with_reducible apply occur_kept | with_reducible apply safeDown_kept
                 | with_reducible apply safeEnds_kept | with_reducible apply Kept.foldl | intro x
                 | with_reducible apply Kept.ite)

theorem settleSafe_kept {s₀ s₁ : State} (h₀ : Kept s₀ s₁) :
    Kept s₀ (settleSafe s₁) := by
  unfold settleSafe
  repeat' (first | with_reducible assumption | with_reducible apply mapPorts_kept | with_reducible apply Kept.foldl
                 | intro x | with_reducible apply Kept.ite | split | with_reducible apply Kept.upd | with_reducible rfl)

theorem endCond_kept {s₀ s₁ : State} (h₀ : Kept s₀ s₁) (c : Cause) (i : Inst) :
    Kept s₀ (endCond c i s₁) := by
  unfold endCond
  repeat' (first | with_reducible assumption | with_reducible apply fltMod_kept | with_reducible apply settleSafe_kept)

theorem setCond_kept {s₀ s₁ : State} (h₀ : Kept s₀ s₁) (c : Cause) (i : Inst) (d : Nat) (b : Bool) :
    Kept s₀ (setCond c i d b s₁) := by
  unfold setCond
  repeat' (first | with_reducible assumption | with_reducible apply endCond_kept | with_reducible apply raise_kept
                 | with_reducible apply Kept.foldl | intro x | with_reducible apply Kept.ite)

theorem setCondUp_kept {s₀ s₁ : State} (h₀ : Kept s₀ s₁) (c : Cause) (i : Inst) (d : Nat) (b : Bool) :
    Kept s₀ (setCondUp c i d b s₁) := by
  unfold setCondUp
  repeat' (first | with_reducible assumption | with_reducible apply raise_kept | with_reducible apply Kept.foldl | intro x
                 | with_reducible apply Kept.ite)

theorem reHold_kept {s₀ s₁ : State} (h₀ : Kept s₀ s₁) (p : PortId) :
    Kept s₀ (reHold p s₁) := by
  unfold reHold
  repeat' (first | with_reducible assumption | with_reducible apply modPort_kept | with_reducible apply Kept.foldl
                 | intro x | with_reducible apply Kept.ite)

theorem reHoldAll_kept {s₀ s₁ : State} (h₀ : Kept s₀ s₁) :
    Kept s₀ (reHoldAll s₁) := by
  unfold reHoldAll
  repeat' (first | with_reducible assumption | with_reducible apply reHold_kept | with_reducible apply Kept.foldl
                 | (intro x; intros))

theorem holdFall_kept {s₀ s₁ : State} (h₀ : Kept s₀ s₁) (p : PortId) :
    Kept s₀ (holdFall p s₁) := by
  unfold holdFall
  repeat' (first | with_reducible assumption | with_reducible apply modPort_kept | with_reducible apply Kept.foldl
                 | intro x | with_reducible apply Kept.ite)

theorem guarRise_kept {s₀ s₁ : State} (h₀ : Kept s₀ s₁) (p : PortId) :
    Kept s₀ (guarRise p s₁) := by
  unfold guarRise
  repeat' (first | with_reducible assumption | with_reducible apply modPort_kept | with_reducible apply Kept.foldl
                 | intro x | with_reducible apply Kept.ite)

theorem guarJudge_kept {s₀ s₁ : State} (h₀ : Kept s₀ s₁) (p : PortId) :
    Kept s₀ (guarJudge p s₁) := by
  unfold guarJudge
  repeat' (first | with_reducible assumption | with_reducible apply guarFail_kept | with_reducible apply Kept.foldl
                 | intro x | with_reducible apply Kept.ite)

theorem hostViolation_kept {s₀ s₁ : State} (h₀ : Kept s₀ s₁) (p : PortId) :
    Kept s₀ (hostViolation p s₁) := by
  unfold hostViolation
  repeat' (first | with_reducible assumption | with_reducible apply modPort_kept | with_reducible apply guarFail_kept)

theorem reduceEffs_kept {s₀ s₁ : State} (h₀ : Kept s₀ s₁) :
    Kept s₀ (reduceEffs s₁) := by
  unfold reduceEffs
  repeat' (first | with_reducible assumption | with_reducible apply raise_kept | with_reducible apply Kept.foldl | intro x
                 | with_reducible apply Kept.ite | split | with_reducible apply Kept.upd | with_reducible rfl)

theorem recomputeNowD_kept {s₀ s₁ : State} (h₀ : Kept s₀ s₁) :
    Kept s₀ (recomputeNowD s₁) := by
  unfold recomputeNowD
  repeat' (first | with_reducible assumption | with_reducible apply reduceEffs_kept | with_reducible apply Kept.foldl
                 | intro x | with_reducible apply Kept.ite | split | with_reducible apply Kept.upd | with_reducible rfl)

theorem classRecord_kept {s₀ s₁ : State} (h₀ : Kept s₀ s₁) (opcode : Nat) (body : List Byte) :
    Kept s₀ (classRecord opcode body s₁) := by
  unfold classRecord
  repeat' (first | with_reducible assumption | with_reducible apply ledgerAppend_kept)

theorem modMx_kept {s₀ s₁ : State} (h₀ : Kept s₀ s₁) (m : CxlId) (f : CxlLink → CxlLink) :
    Kept s₀ (modMx m f s₁) := by
  unfold modMx
  repeat' (first | with_reducible assumption | with_reducible apply Kept.foldl | intro x | with_reducible apply Kept.ite
                 | split | with_reducible apply Kept.upd | with_reducible rfl)

theorem parcelLoss_kept {s₀ s₁ : State} (h₀ : Kept s₀ s₁) (p : PortId) (l2h : Bool) (i : Nat) :
    Kept s₀ (parcelLoss p l2h i s₁) := by
  unfold parcelLoss
  repeat' (first | with_reducible assumption | with_reducible apply modPort_kept | with_reducible apply raise_kept
                 | with_reducible apply reHold_kept)

theorem loseOnLink_kept {s₀ s₁ : State} (h₀ : Kept s₀ s₁) (m : CxlId) :
    Kept s₀ (loseOnLink m s₁) := by
  unfold loseOnLink
  repeat' (first | with_reducible assumption | with_reducible apply parcelLoss_kept | with_reducible apply Kept.foldl
                 | (intro x; intros) | with_reducible apply Kept.ite | split)

theorem loseAllParcels_kept {s₀ s₁ : State} (h₀ : Kept s₀ s₁) :
    Kept s₀ (loseAllParcels s₁) := by
  unfold loseAllParcels
  repeat' (first | with_reducible assumption | with_reducible apply parcelLoss_kept | with_reducible apply Kept.foldl
                 | (intro x; intros) | with_reducible apply Kept.ite | split)

theorem reserveLost_kept {s₀ s₁ : State} (h₀ : Kept s₀ s₁) :
    Kept s₀ (reserveLost s₁) := by
  unfold reserveLost
  repeat' (first | with_reducible assumption | with_reducible apply ledgerFault_kept | with_reducible apply Kept.foldl
                 | intro x | with_reducible apply Kept.ite | split | with_reducible apply Kept.upd | with_reducible rfl)

theorem loseSegments_kept {s₀ s₁ : State} (h₀ : Kept s₀ s₁) (m : CxlId) :
    Kept s₀ (loseSegments m s₁) := by
  unfold loseSegments
  repeat' (first | with_reducible assumption | intro x | with_reducible apply Kept.ite | split
                 | with_reducible apply Kept.upd | with_reducible rfl)

theorem cxlDrop_kept {s₀ s₁ : State} (h₀ : Kept s₀ s₁) (m : CxlId) :
    Kept s₀ (cxlDrop m s₁) := by
  unfold cxlDrop
  repeat' (first | with_reducible assumption | with_reducible apply loseOnLink_kept | with_reducible apply loseSegments_kept
                 | with_reducible apply modMx_kept | with_reducible apply raise_kept | with_reducible apply reHoldAll_kept
                 | with_reducible apply recomputeNowD_kept | with_reducible apply reserveLost_kept | intro x
                 | with_reducible apply Kept.ite)

theorem dropAllCxl_kept {s₀ s₁ : State} (h₀ : Kept s₀ s₁) :
    Kept s₀ (dropAllCxl s₁) := by
  unfold dropAllCxl
  repeat' (first | with_reducible assumption | with_reducible apply cxlDrop_kept | with_reducible apply Kept.foldl
                 | (intro x; intros))

theorem grantInterval_kept {s₀ s₁ : State} (h₀ : Kept s₀ s₁) :
    Kept s₀ (grantInterval s₁) := by
  unfold grantInterval
  repeat' (first | with_reducible assumption | with_reducible apply mapPorts_kept | with_reducible apply Kept.foldl
                 | intro x | with_reducible apply Kept.ite | split | with_reducible apply Kept.upd | with_reducible rfl)

theorem countGrant_kept {s₀ s₁ : State} (h₀ : Kept s₀ s₁) (read : Bool) (p : PortId) :
    Kept s₀ (countGrant read p s₁) := by
  unfold countGrant
  repeat' (first | with_reducible assumption | with_reducible apply modPort_kept | with_reducible apply Kept.foldl
                 | intro x | with_reducible apply Kept.ite | split | with_reducible apply Kept.upd | with_reducible rfl)

theorem modTime_kept {s₀ s₁ : State} (h₀ : Kept s₀ s₁) (f : TimeSt → TimeSt) :
    Kept s₀ (State.modTime s₁ f) := by
  unfold State.modTime
  repeat' (first | with_reducible assumption | with_reducible apply Kept.foldl | intro x | with_reducible apply Kept.ite
                 | split | with_reducible apply Kept.upd | with_reducible rfl)

theorem timeLoad_kept {s₀ s₁ : State} (h₀ : Kept s₀ s₁) (v : Nat) :
    Kept s₀ (timeLoad v s₁) := by
  unfold timeLoad
  repeat' (first | with_reducible assumption | with_reducible apply modTime_kept)

theorem timeAdd_kept {s₀ s₁ : State} (h₀ : Kept s₀ s₁) (d : Int) :
    Kept s₀ (timeAdd d s₁) := by
  unfold timeAdd
  repeat' (first | with_reducible assumption | with_reducible apply timeLoad_kept)

theorem timeToHoldover_kept {s₀ s₁ : State} (h₀ : Kept s₀ s₁) :
    Kept s₀ (timeToHoldover s₁) := by
  unfold timeToHoldover
  repeat' (first | with_reducible assumption | with_reducible apply modTime_kept | with_reducible apply raise_kept
                 | with_reducible apply Kept.foldl | intro x | with_reducible apply Kept.ite)

theorem timeSample_kept {s₀ s₁ : State} (h₀ : Kept s₀ s₁) (hardware : Bool) (e : Int) :
    Kept s₀ (timeSample hardware e s₁) := by
  unfold timeSample
  repeat' (first | with_reducible assumption | with_reducible apply modTime_kept | with_reducible apply endCond_kept
                 | with_reducible apply timeAdd_kept | with_reducible apply Kept.foldl | intro x
                 | with_reducible apply Kept.ite | split | with_reducible apply Kept.upd | with_reducible rfl)

theorem writeTimeCfg_kept {s₀ s₁ : State} (h₀ : Kept s₀ s₁) (v : Word) :
    Kept s₀ (writeTimeCfg v s₁) := by
  unfold writeTimeCfg
  repeat' (first | with_reducible assumption | with_reducible apply modTime_kept | with_reducible apply endCond_kept
                 | with_reducible apply written_kept | with_reducible apply Kept.foldl | intro x
                 | with_reducible apply Kept.ite)

theorem writeTimeRate_kept {s₀ s₁ : State} (h₀ : Kept s₀ s₁) (who : Initiator) (v : Word) :
    Kept s₀ (writeTimeRate who v s₁) := by
  unfold writeTimeRate
  repeat' (first | with_reducible assumption | with_reducible apply modTime_kept | with_reducible apply ignored_kept
                 | with_reducible apply written_kept | with_reducible apply Kept.foldl | intro x
                 | with_reducible apply Kept.ite)

theorem writePpsCtrl_kept {s₀ s₁ : State} (h₀ : Kept s₀ s₁) (v : Word) :
    Kept s₀ (writePpsCtrl v s₁) := by
  unfold writePpsCtrl
  repeat' (first | with_reducible assumption | with_reducible apply modTime_kept | with_reducible apply written_kept)

theorem setLatch_kept {s₀ s₁ : State} (h₀ : Kept s₀ s₁) (who : Initiator) (addr upper : Nat) :
    Kept s₀ (setLatch who addr upper s₁) := by
  unfold setLatch
  repeat' (first | with_reducible assumption | with_reducible apply Kept.foldl | intro x | with_reducible apply Kept.ite
                 | split | with_reducible apply Kept.upd | with_reducible rfl)

theorem readTsEntry_kept {s₀ s₁ : State} (h₀ : Kept s₀ s₁) (p : PortId) :
    Kept s₀ (readTsEntry p s₁) := by
  unfold readTsEntry
  repeat' (first | with_reducible assumption | with_reducible apply modPort_kept | with_reducible apply readValue_kept
                 | with_reducible apply Kept.foldl | intro x | with_reducible apply Kept.ite | split)

theorem readTimeNow_kept {s₀ s₁ : State} (h₀ : Kept s₀ s₁) (who : Initiator) :
    Kept s₀ (readTimeNow who s₁) := by
  unfold readTimeNow
  repeat' (first | with_reducible assumption | with_reducible apply readValue_kept | with_reducible apply setLatch_kept)

theorem readPpsin_kept {s₀ s₁ : State} (h₀ : Kept s₀ s₁) :
    Kept s₀ (readPpsin s₁) := by
  unfold readPpsin
  repeat' (first | with_reducible assumption | with_reducible apply modTime_kept | with_reducible apply readValue_kept)

theorem tsPush_kept {s₀ s₁ : State} (h₀ : Kept s₀ s₁) (p : PortId) (e : TsEntry) :
    Kept s₀ (tsPush p e s₁) := by
  unfold tsPush
  repeat' (first | with_reducible assumption | with_reducible apply modPort_kept | with_reducible apply modTime_kept
                 | with_reducible apply Kept.foldl | intro x | with_reducible apply Kept.ite)

theorem repairRows_kept {s₀ s₁ : State} (h₀ : Kept s₀ s₁) (b : MemBank) (rows bad : List Nat) :
    Kept s₀ (repairRows b rows bad s₁).1 := by
  unfold repairRows
  repeat' (first | with_reducible assumption | with_reducible apply Kept.foldl | intro x | with_reducible apply Kept.ite
                 | split | with_reducible apply Kept.upd | with_reducible rfl)

theorem unrepairable_kept {s₀ s₁ : State} (h₀ : Kept s₀ s₁) (b : MemBank) :
    Kept s₀ (unrepairable b s₁) := by
  unfold unrepairable
  repeat' (first | with_reducible assumption | with_reducible apply raise_kept | with_reducible apply raiseAs_kept
                 | with_reducible apply raiseWith_kept | with_reducible apply Kept.foldl | intro x
                 | with_reducible apply Kept.ite | split | with_reducible apply Kept.upd | with_reducible rfl)

theorem bootPassBank_kept {s₀ s₁ : State} (h₀ : Kept s₀ s₁) (b : MemBank) (found : List BankPass) :
    Kept s₀ (bootPassBank b found s₁) := by
  unfold bootPassBank
  repeat' (first | with_reducible assumption | with_reducible apply repairRows_kept
                 | with_reducible apply setBankResult_kept | with_reducible apply unrepairable_kept
                 | with_reducible apply Kept.foldl | intro x | with_reducible apply Kept.ite | split
                 | with_reducible apply Kept.upd | with_reducible rfl)

theorem bootPass_kept {s₀ s₁ : State} (h₀ : Kept s₀ s₁) (gs : List MemGroup) (found : List BankPass) :
    Kept s₀ (bootPass gs found s₁) := by
  unfold bootPass
  repeat' (first | with_reducible assumption | with_reducible apply bootPassBank_kept | with_reducible apply Kept.foldl
                 | (intro x; intros))

theorem dspPass_kept {s₀ s₁ : State} (h₀ : Kept s₀ s₁) (found : List BankPass) :
    Kept s₀ (dspPass found s₁) := by
  unfold dspPass
  repeat' (first | with_reducible assumption | with_reducible apply bootPass_kept | with_reducible apply Kept.foldl
                 | intro x | with_reducible apply Kept.ite)

theorem corePass_kept {s₀ s₁ : State} (h₀ : Kept s₀ s₁) (found : List BankPass) :
    Kept s₀ (corePass found s₁) := by
  unfold corePass
  repeat' (first | with_reducible assumption | with_reducible apply bootPass_kept | with_reducible apply Kept.foldl
                 | intro x | with_reducible apply Kept.ite)

theorem retrim_kept {s₀ s₁ : State} (h₀ : Kept s₀ s₁) :
    Kept s₀ (retrim s₁) := by
  unfold retrim
  repeat' (first | with_reducible assumption | with_reducible apply Kept.foldl | intro x | with_reducible apply Kept.ite
                 | split | with_reducible apply Kept.upd | with_reducible rfl)

theorem rpllTryStart_kept {s₀ s₁ : State} (h₀ : Kept s₀ s₁) :
    Kept s₀ (rpllTryStart s₁) := by
  unfold rpllTryStart
  repeat' (first | with_reducible assumption | with_reducible apply Kept.foldl | intro x | with_reducible apply Kept.ite
                 | split | with_reducible apply Kept.upd | with_reducible rfl)

theorem podsRelock_kept {s₀ s₁ : State} (h₀ : Kept s₀ s₁) :
    Kept s₀ (podsRelock s₁) := by
  unfold podsRelock
  repeat' (first | with_reducible assumption | with_reducible apply mapPods_kept)

theorem stackPllSettle_kept {s₀ s₁ : State} (h₀ : Kept s₀ s₁) :
    Kept s₀ (stackPllSettle s₁) := by
  unfold stackPllSettle
  repeat' (first | with_reducible assumption | with_reducible apply Kept.ite | split | with_reducible apply Kept.upd
                 | with_reducible rfl)

theorem rootLost_kept {s₀ s₁ : State} (h₀ : Kept s₀ s₁) :
    Kept s₀ (rootLost s₁) := by
  unfold rootLost
  repeat' (first | with_reducible assumption | with_reducible apply dropAllCxl_kept | with_reducible apply podsRelock_kept
                 | with_reducible apply stackPllSettle_kept | with_reducible apply timeToHoldover_kept
                 | with_reducible apply Kept.upd | with_reducible rfl)

theorem refFailed_kept {s₀ s₁ : State} (h₀ : Kept s₀ s₁) (r : RefSel) :
    Kept s₀ (refFailed r s₁) := by
  unfold refFailed
  repeat' (first | with_reducible assumption | with_reducible apply raiseAs_kept | with_reducible apply raiseWith_kept
                 | with_reducible apply retrim_kept | with_reducible apply rootLost_kept | with_reducible apply Kept.foldl
                 | intro x | with_reducible apply Kept.ite | split | with_reducible apply Kept.upd | with_reducible rfl)

theorem flashTimeout_kept {s₀ s₁ : State} (h₀ : Kept s₀ s₁) :
    Kept s₀ (flashTimeout s₁) := by
  unfold flashTimeout
  repeat' (first | with_reducible assumption | with_reducible apply reply_kept | with_reducible apply Kept.foldl | intro x
                 | with_reducible apply Kept.ite | split | with_reducible apply Kept.upd | with_reducible rfl)

theorem refMoveStep_kept {s₀ s₁ : State} (h₀ : Kept s₀ s₁) :
    Kept s₀ (refMoveStep s₁) := by
  unfold refMoveStep
  repeat' (first | with_reducible assumption | with_reducible apply podsRelock_kept
                 | with_reducible apply rpllTryStart_kept | with_reducible apply Kept.foldl | intro x
                 | with_reducible apply Kept.ite | split | with_reducible apply Kept.upd | with_reducible rfl)

theorem truncateOn_kept {s₀ s₁ : State} (h₀ : Kept s₀ s₁) (d : Fin 4) :
    Kept s₀ (truncateOn d s₁) := by
  unfold truncateOn
  repeat' (first | with_reducible assumption | with_reducible apply reply_kept | with_reducible apply setBankResult_kept
                 | with_reducible apply Kept.foldl | intro x | with_reducible apply Kept.ite | split
                 | with_reducible apply Kept.upd | with_reducible rfl)

theorem podPllBack_kept {s₀ s₁ : State} (h₀ : Kept s₀ s₁) (k : PodId) (bit : Nat) :
    Kept s₀ (podPllBack k bit s₁) := by
  unfold podPllBack
  repeat' (first | with_reducible assumption | with_reducible apply modPod_kept | with_reducible apply endCond_kept
                 | with_reducible apply Kept.foldl | intro x | with_reducible apply Kept.ite)

theorem hubPllBack_kept {s₀ s₁ : State} (h₀ : Kept s₀ s₁) (bit : Nat) :
    Kept s₀ (hubPllBack bit s₁) := by
  unfold hubPllBack
  repeat' (first | with_reducible assumption | with_reducible apply endCond_kept | with_reducible apply Kept.foldl
                 | intro x | with_reducible apply Kept.ite | split | with_reducible apply Kept.upd | with_reducible rfl)

theorem writeClkCfg_kept {s₀ s₁ : State} (h₀ : Kept s₀ s₁) (who : Initiator) (v : Word) : Kept s₀ (writeClkCfg who v s₁) := by
  unfold writeClkCfg
  extract_lets old ref slow stk new refChange x₁ stkChange c s₂ c' x₂
  refine Kept.ite (ignored_kept h₀ _ _) ?_
  have h₂ : Kept s₀ s₂ := written_kept (stackPllSettle_kept (Kept.upd h₀ rfl rfl rfl rfl))
  refine Kept.ite (refMoveStep_kept (timeToHoldover_kept (h₂.trans ⟨rfl, rfl, id, le_rfl, le_rfl, fun _ => id⟩))) ?_
  refine Kept.ite ?_ h₂
  apply rpllTryStart_kept
  exact h₂.trans ⟨rfl, rfl, id, le_rfl, le_rfl, fun _ => id⟩

theorem writeClkGate_kept {s₀ s₁ : State} (h₀ : Kept s₀ s₁) (who : Initiator) (v : Word) :
    Kept s₀ (writeClkGate who v s₁) := by
  unfold writeClkGate
  repeat' (first | with_reducible assumption | with_reducible apply modStk_kept | with_reducible apply ignored_kept
                 | with_reducible apply written_kept | with_reducible apply Kept.foldl | (intro x; intros)
                 | with_reducible apply Kept.ite | split | with_reducible apply Kept.upd | with_reducible rfl)

theorem diagAbort_kept {s₀ s₁ : State} (h₀ : Kept s₀ s₁) (p : PortId) :
    Kept s₀ (diagAbort p s₁) := by
  unfold diagAbort
  repeat' (first | with_reducible assumption | with_reducible apply captureEnd_kept | with_reducible apply diagEnd_kept
                 | with_reducible apply Kept.foldl | intro x | with_reducible apply Kept.ite)

theorem startRetune_kept {s₀ s₁ : State} (h₀ : Kept s₀ s₁) (k : PodId) (g : GroupId) (f : PllFreq) :
    Kept s₀ (startRetune k g f s₁) := by
  unfold startRetune
  repeat' (first | with_reducible assumption | with_reducible apply modGroup_kept | with_reducible apply diagAbort_kept
                 | with_reducible apply Kept.foldl | (intro x; intros))

theorem setWaiting_kept {s₀ s₁ : State} (h₀ : Kept s₀ s₁) (p : PortId) (b : Bool) :
    Kept s₀ (setWaiting p b s₁) := by
  unfold setWaiting
  repeat' (first | with_reducible assumption | with_reducible apply modGroup_kept | with_reducible apply setCond_kept)

theorem needFreq_kept {s₀ s₁ : State} (h₀ : Kept s₀ s₁) (p : PortId) (f : PllFreq) :
    Kept s₀ (needFreq p f s₁) := by
  unfold needFreq
  repeat' (first | with_reducible assumption | with_reducible apply modGroup_kept | with_reducible apply setWaiting_kept
                 | with_reducible apply startRetune_kept | with_reducible apply Kept.foldl | intro x
                 | with_reducible apply Kept.ite)

theorem writeLpllCtrl_kept {s₀ s₁ : State} (h₀ : Kept s₀ s₁) (k : PodId) (g : GroupId) (v : Word) :
    Kept s₀ (writeLpllCtrl k g v s₁) := by
  unfold writeLpllCtrl
  repeat' (first | with_reducible assumption | with_reducible apply modGroup_kept | with_reducible apply written_kept
                 | with_reducible apply Kept.foldl | intro x | with_reducible apply Kept.ite)

theorem bridgeDown_kept {s₀ s₁ : State} (h₀ : Kept s₀ s₁) (k : PodId) :
    Kept s₀ (bridgeDown k s₁) := by
  unfold bridgeDown
  repeat' (first | with_reducible assumption | with_reducible apply modPod_kept)

theorem bridgeFailed_kept {s₀ s₁ : State} (h₀ : Kept s₀ s₁) (k : PodId) :
    Kept s₀ (bridgeFailed k s₁) := by
  unfold bridgeFailed
  repeat' (first | with_reducible assumption | with_reducible apply bridgeDown_kept | with_reducible apply raise_kept)

theorem topoChange_kept {s₀ s₁ : State} (h₀ : Kept s₀ s₁) :
    Kept s₀ (topoChange s₁) := by
  unfold topoChange
  repeat' (first | with_reducible assumption | with_reducible apply stkDeliver_kept | with_reducible apply Kept.foldl
                 | intro x | with_reducible apply Kept.ite | split | with_reducible apply Kept.upd | with_reducible rfl)

theorem orphanNotice_kept {s₀ s₁ : State} (h₀ : Kept s₀ s₁) :
    Kept s₀ (orphanNotice s₁) := by
  unfold orphanNotice
  repeat' (first | with_reducible assumption | with_reducible apply stkSend_kept | with_reducible apply Kept.foldl
                 | (intro x; intros) | with_reducible apply Kept.ite)

theorem stkFail_kept {s₀ s₁ : State} (h₀ : Kept s₀ s₁) (p : StackPortId) (toClock : Bool) :
    Kept s₀ (stkFail p toClock s₁) := by
  unfold stkFail
  repeat' (first | with_reducible assumption | with_reducible apply modStk_kept | with_reducible apply orphanNotice_kept
                 | with_reducible apply raise_kept | with_reducible apply retrim_kept
                 | with_reducible apply stackPllSettle_kept | with_reducible apply topoChange_kept | intro x
                 | with_reducible apply Kept.ite | split | with_reducible apply Kept.upd | with_reducible rfl)

theorem stkToLock_kept {s₀ s₁ : State} (h₀ : Kept s₀ s₁) (p : StackPortId) :
    Kept s₀ (stkToLock p s₁) := by
  unfold stkToLock
  repeat' (first | with_reducible assumption | with_reducible apply modStk_kept)

theorem judgeRole_kept {s₀ s₁ : State} (h₀ : Kept s₀ s₁) (p : StackPortId) (h : Hello) :
    Kept s₀ (judgeRole p h s₁) := by
  unfold judgeRole
  repeat' (first | with_reducible assumption | with_reducible apply modStk_kept | with_reducible apply raise_kept
                 | with_reducible apply Kept.foldl | intro x | with_reducible apply Kept.ite)

theorem stkUp_kept {s₀ s₁ : State} (h₀ : Kept s₀ s₁) (p : StackPortId) (h : Hello) :
    Kept s₀ (stkUp p h s₁) := by
  unfold stkUp
  repeat' (first | with_reducible assumption | with_reducible apply modStk_kept | with_reducible apply judgeRole_kept
                 | with_reducible apply topoChange_kept)

theorem linkAck_kept {s₀ s₁ : State} (h₀ : Kept s₀ s₁) (p : StackPortId) (nak : Bool) :
    Kept s₀ (linkAck p nak s₁) := by
  unfold linkAck
  repeat' (first | with_reducible assumption | with_reducible apply modStk_kept)

theorem stkDiscard_kept {s₀ s₁ : State} (h₀ : Kept s₀ s₁) (p : StackPortId) :
    Kept s₀ (stkDiscard p s₁) := by
  unfold stkDiscard
  repeat' (first | with_reducible assumption | with_reducible apply modStk_kept | with_reducible apply linkAck_kept)

theorem stkRouteOn_kept {s₀ s₁ : State} (h₀ : Kept s₀ s₁) (p : StackPortId) (m : StkMsg) :
    Kept s₀ (stkRouteOn p m s₁) := by
  unfold stkRouteOn
  repeat' (first | with_reducible assumption | with_reducible apply modStk_kept | with_reducible apply stkSend_kept
                 | with_reducible apply stkUpstream_kept | with_reducible apply Kept.foldl | (intro x; intros)
                 | with_reducible apply Kept.ite | split)

theorem stkResend_kept {s₀ s₁ : State} (h₀ : Kept s₀ s₁) (p : StackPortId) :
    Kept s₀ (stkResend p s₁) := by
  unfold stkResend
  repeat' (first | with_reducible assumption | with_reducible apply modStk_kept | with_reducible apply stkFail_kept
                 | intro x | with_reducible apply Kept.ite)

theorem assignChildren_kept {s₀ s₁ : State} (h₀ : Kept s₀ s₁) (rs : List (StackPortId × StkReport)) (b : List Nat) :
    Kept s₀ (assignChildren rs b s₁) := by
  induction rs generalizing s₁ b with
  | nil => exact h₀
  | cons c l ih =>
    unfold assignChildren
    extract_lets
    apply ih
    repeat' (first | with_reducible assumption | split | with_reducible apply stkSend_kept | with_reducible apply modStk_kept)

theorem endEnum_kept {s₀ s₁ : State} (h₀ : Kept s₀ s₁) :
    Kept s₀ (endEnum s₁) := by
  unfold endEnum
  repeat' (first | with_reducible assumption | with_reducible apply Kept.foldl | intro x | with_reducible apply Kept.ite
                 | split | with_reducible apply Kept.upd | with_reducible rfl)

theorem masterAssign_kept {s₀ s₁ : State} (h₀ : Kept s₀ s₁) :
    Kept s₀ (masterAssign s₁) := by
  unfold masterAssign
  repeat' (first | with_reducible assumption | with_reducible apply modStk_kept | with_reducible apply assignChildren_kept
                 | with_reducible apply endEnum_kept | with_reducible apply Kept.foldl | (intro x; intros)
                 | with_reducible apply Kept.ite | split | with_reducible apply Kept.upd | with_reducible rfl)

theorem reportTry_kept {s₀ s₁ : State} (h₀ : Kept s₀ s₁) (expired : Bool) :
    Kept s₀ (reportTry expired s₁) := by
  unfold reportTry
  repeat' (first | with_reducible assumption | with_reducible apply modStk_kept | with_reducible apply masterAssign_kept
                 | with_reducible apply retrim_kept | with_reducible apply stackPllSettle_kept
                 | with_reducible apply stkSend_kept | with_reducible apply Kept.foldl | (intro x; intros)
                 | with_reducible apply Kept.ite | split | with_reducible apply Kept.upd | with_reducible rfl)

theorem clearRun_kept {s₀ s₁ : State} (h₀ : Kept s₀ s₁) :
    Kept s₀ (clearRun s₁) := by
  unfold clearRun
  repeat' (first | with_reducible assumption | with_reducible apply modStk_kept | with_reducible apply Kept.foldl
                 | (intro x; intros))

theorem forwardDiscover_kept {s₀ s₁ : State} (h₀ : Kept s₀ s₁) (skip : Option StackPortId) (depth : Nat) :
    Kept s₀ (forwardDiscover skip depth s₁) := by
  unfold forwardDiscover
  repeat' (first | with_reducible assumption | with_reducible apply modStk_kept | with_reducible apply stkSend_kept
                 | with_reducible apply Kept.foldl | (intro x; intros) | with_reducible apply Kept.ite)

theorem enumStart_kept {s₀ s₁ : State} (h₀ : Kept s₀ s₁) :
    Kept s₀ (enumStart s₁) := by
  unfold enumStart
  repeat' (first | with_reducible assumption | with_reducible apply clearRun_kept
                 | with_reducible apply forwardDiscover_kept | with_reducible apply reportTry_kept
                 | with_reducible apply Kept.foldl | intro x | with_reducible apply Kept.ite | split
                 | with_reducible apply Kept.upd | with_reducible rfl)

theorem answerStandby_kept {s₀ s₁ : State} (h₀ : Kept s₀ s₁) (p : StackPortId) :
    Kept s₀ (answerStandby p s₁) := by
  unfold answerStandby
  repeat' (first | with_reducible assumption | with_reducible apply modStk_kept | with_reducible apply stkSend_kept)

theorem releaseHeld_kept {s₀ s₁ : State} (h₀ : Kept s₀ s₁) :
    Kept s₀ (releaseHeld s₁) := by
  unfold releaseHeld
  repeat' (first | with_reducible assumption | with_reducible apply stkUpstream_kept | with_reducible apply Kept.foldl
                 | (intro x; intros) | with_reducible apply Kept.ite | split | with_reducible apply Kept.upd
                 | with_reducible rfl)

theorem stackRecord_kept {s₀ s₁ : State} (h₀ : Kept s₀ s₁) (e : AggEntry) :
    Kept s₀ (stackRecord e s₁) := by
  unfold stackRecord
  repeat' (first | with_reducible assumption | with_reducible apply raise_kept | with_reducible apply stackReport_kept
                 | with_reducible apply Kept.foldl | intro x | with_reducible apply Kept.ite | split
                 | with_reducible apply Kept.upd | with_reducible rfl)

theorem sendReports_kept {s₀ s₁ : State} (h₀ : Kept s₀ s₁) (n : Nat) (l : List AggEntry) : Kept s₀ (sendReports n l s₁) := by
  induction n generalizing s₁ l with
  | zero => exact h₀
  | succ n ih =>
    unfold sendReports
    repeat' (first | with_reducible assumption | split | with_reducible apply ih | with_reducible apply stkSend_kept)

theorem acceptPacket_kept {s₀ s₁ : State} (h₀ : Kept s₀ s₁) (via : Origin) (allowed : Bool) (bytes : List Byte) :
    Kept s₀ (acceptPacket via allowed bytes s₁) := by
  unfold acceptPacket
  repeat' (first | with_reducible assumption | with_reducible apply replyBy_kept | with_reducible apply Kept.foldl
                 | intro x | with_reducible apply Kept.ite | split | with_reducible apply Kept.upd | with_reducible rfl)

theorem checkSpare_kept {s₀ s₁ : State} (h₀ : Kept s₀ s₁) (p : PortId) (n : LaneId) :
    Kept s₀ (checkSpare p n s₁) := by
  unfold checkSpare
  repeat' (first | with_reducible assumption | with_reducible apply setCondUp_kept)

theorem applyAdcFg_kept {s₀ s₁ : State} (h₀ : Kept s₀ s₁) (p : PortId) (n : LaneId)
    (slices : List (Int × Int × Int × List (Int × Nat))) :
    Kept s₀ (applyAdcFg p n slices s₁).1 := by
  unfold applyAdcFg
  repeat' (first | with_reducible assumption | with_reducible apply modLane_kept | with_reducible apply checkSpare_kept)

theorem applyDacFg_kept {s₀ s₁ : State} (h₀ : Kept s₀ s₁) (p : PortId) (n : LaneId) (e : List Int) : Kept s₀
    (applyDacFg p n e s₁).1 := by
  unfold applyDacFg
  extract_lets l
  split
  · exact modLane_kept h₀ p n _
  · dsimp only
    exact raise_kept (modLane_kept h₀ p n _) _ _ _
  · exact modLane_kept h₀ p n _
  · exact modLane_kept h₀ p n _

theorem applyMeas_kept {s₀ s₁ : State} (h₀ : Kept s₀ s₁) (m : CalMeas) :
    Kept s₀ (applyMeas m s₁).1 := by
  unfold applyMeas
  repeat' (first | with_reducible assumption | with_reducible apply modLane_kept | with_reducible apply modPort_kept
                 | with_reducible apply modStk_kept | with_reducible apply applyAdcFg_kept
                 | with_reducible apply applyDacFg_kept | with_reducible apply Kept.foldl | intro x
                 | with_reducible apply Kept.ite | split)

theorem startStore_kept {s₀ s₁ : State} (h₀ : Kept s₀ s₁) (op : FlashOp) (via : Origin) (opcode : Nat) (c : CalSet) :
    Kept s₀ (startStore op via opcode c s₁) := by
  unfold startStore
  repeat' (first | with_reducible assumption | with_reducible apply Kept.foldl | intro x | with_reducible apply Kept.ite
                 | split | with_reducible apply Kept.upd | with_reducible rfl)

theorem storeEnd_kept {s₀ s₁ : State} (h₀ : Kept s₀ s₁) (j : FlashJob) (status : Nat) :
    Kept s₀ (storeEnd j status s₁) := by
  unfold storeEnd
  repeat' (first | with_reducible assumption | with_reducible apply reply_kept | with_reducible apply Kept.foldl | intro x
                 | with_reducible apply Kept.ite | split | with_reducible apply Kept.upd | with_reducible rfl)

theorem storeStep_kept {s₀ s₁ : State} (h₀ : Kept s₀ s₁) (j : FlashJob) (ok : Bool) :
    Kept s₀ (storeStep j ok s₁) := by
  unfold storeStep
  repeat' (first | with_reducible assumption | with_reducible apply ledgerAppend_kept | with_reducible apply storeEnd_kept
                 | with_reducible apply Kept.foldl | intro x | with_reducible apply Kept.ite | split
                 | with_reducible apply Kept.upd | with_reducible rfl)

theorem clearBank_kept {s₀ s₁ : State} (h₀ : Kept s₀ s₁) (b : MemBank) :
    Kept s₀ (clearBank b s₁) := by
  unfold clearBank
  repeat' (first | with_reducible assumption | with_reducible apply modPort_kept | with_reducible apply Kept.foldl
                 | (intro x; intros))

theorem bistNext_kept {s₀ s₁ : State} (h₀ : Kept s₀ s₁) (r : BistRun) :
    Kept s₀ (bistNext r s₁) := by
  unfold bistNext
  repeat' (first | with_reducible assumption | with_reducible apply clearBank_kept | with_reducible apply reply_kept
                 | with_reducible apply Kept.foldl | intro x | with_reducible apply Kept.ite | split
                 | with_reducible apply Kept.upd | with_reducible rfl)

theorem programMap_kept {s₀ s₁ : State} (h₀ : Kept s₀ s₁) (n : Nat) (ws : List Word) (good : List Bool) (bad : Nat) :
    Kept s₀ (programMap n ws good bad s₁).2.2 := by
  induction n generalizing s₁ ws good bad with
  | zero => exact h₀
  | succ n ih =>
    cases ws with
    | nil => exact h₀
    | cons w ws =>
      unfold programMap
      split
      · exact h₀
      · split
        · extract_lets
          split
          · exact Kept.upd (freeNat_kept h₀) rfl rfl rfl rfl
          · exact ih (Kept.upd (freeNat_kept h₀) rfl rfl rfl rfl) _ _ _
        · exact ih (Kept.upd h₀ rfl rfl rfl rfl) _ _ _

theorem fuseRecords_kept {s₀ s₁ : State} (h₀ : Kept s₀ s₁) (l : List Word) :
    Kept s₀ (fuseRecords l s₁) := by
  unfold fuseRecords
  repeat' (first | with_reducible assumption | with_reducible apply ledgerAppend_kept | with_reducible apply Kept.foldl
                 | (intro x; intros))

theorem setLoop_kept {s₀ s₁ : State} (h₀ : Kept s₀ s₁) (p : PortId) (n : LaneId) (k : LoopKind) :
    Kept s₀ (setLoop p n k s₁) := by
  unfold setLoop
  repeat' (first | with_reducible assumption | with_reducible apply modLane_kept)

theorem takeLoopReq_kept {s₀ s₁ : State} (h₀ : Kept s₀ s₁) (p : PortId) (n : LaneId) :
    Kept s₀ (takeLoopReq p n s₁).2 := by
  unfold takeLoopReq
  repeat' (first | with_reducible assumption | with_reducible apply Kept.foldl | intro x | with_reducible apply Kept.ite
                 | split | with_reducible apply Kept.upd | with_reducible rfl)

theorem loopReqFails_kept {s₀ s₁ : State} (h₀ : Kept s₀ s₁) (p : PortId) (n : LaneId) (status : Nat) :
    Kept s₀ (loopReqFails p n status s₁) := by
  unfold loopReqFails
  repeat' (first | with_reducible assumption | with_reducible apply modPort_kept | with_reducible apply reply_kept
                 | with_reducible apply setLoop_kept | with_reducible apply takeLoopReq_kept
                 | with_reducible apply Kept.foldl | intro x | with_reducible apply Kept.ite | split
                 | with_reducible apply Kept.upd | with_reducible rfl)

theorem writePrbsCtrl_kept {s₀ s₁ : State} (h₀ : Kept s₀ s₁) (who : Initiator) (p : PortId) (n : LaneId) (v : Word) :
    Kept s₀ (writePrbsCtrl who p n v s₁) := by
  unfold writePrbsCtrl
  repeat' (first | with_reducible assumption | with_reducible apply modLane_kept | with_reducible apply ignored_kept
                 | with_reducible apply written_kept | with_reducible apply Kept.foldl | intro x
                 | with_reducible apply Kept.ite)

theorem podRefCond_kept {s₀ s₁ : State} (h₀ : Kept s₀ s₁) (k : PodId) :
    Kept s₀ (podRefCond k s₁) := by
  unfold podRefCond
  repeat' (first | with_reducible assumption | with_reducible apply setCond_kept)

theorem bandgapSample_kept {s₀ s₁ : State} (h₀ : Kept s₀ s₁) (die : Option PodId) (diff : Int) :
    Kept s₀ (bandgapSample die diff s₁) := by
  unfold bandgapSample
  repeat' (first | with_reducible assumption | with_reducible apply modPod_kept | with_reducible apply podRefCond_kept
                 | with_reducible apply setCond_kept | with_reducible apply Kept.foldl | intro x
                 | with_reducible apply Kept.ite | split | with_reducible apply Kept.upd | with_reducible rfl)

theorem rampSample_kept {s₀ s₁ : State} (h₀ : Kept s₀ s₁) (k : PodId) (slope inl : Int) :
    Kept s₀ (rampSample k slope inl s₁) := by
  unfold rampSample
  repeat' (first | with_reducible assumption | with_reducible apply modPod_kept | with_reducible apply podRefCond_kept
                 | with_reducible apply Kept.foldl | intro x | with_reducible apply Kept.ite)

theorem randomBytes_kept {s₀ s₁ : State} (h₀ : Kept s₀ s₁) (n : Nat) : Kept s₀ (State.randomBytes n s₁).2 := by
  induction n generalizing s₁ with
  | zero => exact h₀
  | succ n ih => exact ih (draw_kept h₀)

theorem issueChallenge_kept {s₀ s₁ : State} (h₀ : Kept s₀ s₁) (pods : Nat) (hub : Bool) : Kept s₀
    (issueChallenge pods hub s₁).2 := by
  unfold issueChallenge
  have h₁ : Kept s₀ (State.randomBytes 48 s₁).2 := randomBytes_kept h₀ 48
  exact Kept.upd h₁ rfl rfl rfl rfl

theorem takeScanSafe_kept {s₀ s₁ : State} (h₀ : Kept s₀ s₁) :
    Kept s₀ (takeScanSafe s₁) := by
  unfold takeScanSafe
  repeat' (first | with_reducible assumption | with_reducible apply hostToSafe_kept | with_reducible apply safeDown_kept
                 | with_reducible apply safeEnds_kept | with_reducible apply txToSafe_kept
                 | with_reducible apply Kept.foldl | (intro x; intros) | with_reducible apply Kept.ite | split
                 | with_reducible apply Kept.upd | with_reducible rfl)

theorem scanLedger_kept {s₀ s₁ : State} (h₀ : Kept s₀ s₁) (scope response : List Byte) :
    Kept s₀ (scanLedger scope response s₁) := by
  unfold scanLedger
  refine Kept.ite h₀ ?_
  extract_lets gone last x₁ s₂ flags s₃ s₄ s₅
  have h₂ : Kept s₀ s₂ := Kept.upd h₀ rfl rfl rfl rfl
  have h₃ : Kept s₀ s₃ := ledgerBlock_kept h₂ _ _ _ _ _ _
  have h₄ : Kept s₀ s₄ := ledgerAppend_kept h₃ _ _ _ _
  have h₅ : Kept s₀ s₅ := Kept.ite h₄ (ledgerFault_kept h₄ 7)
  exact ledgerMakeSeal_kept h₅ true

theorem dropUnsealed_kept {s₀ s₁ : State} (h₀ : Kept s₀ s₁) :
    Kept s₀ (dropUnsealed s₁) := by
  unfold dropUnsealed
  repeat' (first | with_reducible assumption | with_reducible apply Kept.foldl | intro x | with_reducible apply Kept.ite
                 | split | with_reducible apply Kept.upd | with_reducible rfl)

theorem scanResponse_kept {s₀ s₁ : State} (h₀ : Kept s₀ s₁) (response : List Byte) (stepsOk : Bool) :
    Kept s₀ (scanResponse response stepsOk s₁).2 := by
  unfold scanResponse
  split
  · exact h₀
  · dsimp only
    apply Kept.ite2
    · exact Kept.upd h₀ rfl rfl rfl rfl
    · have h₃ := dropAllCxl_kept (loseAllParcels_kept (takeScanSafe_kept (Kept.upd h₀ rfl rfl rfl rfl :
        Kept s₀ { s₁ with test := { s₁.test with challenge := none } })))
      generalize dropAllCxl (loseAllParcels (takeScanSafe _)) = y at h₃ ⊢
      apply Kept.ite2
      · exact dropUnsealed_kept h₃
      · have h₄ := scanLedger_kept h₃ (beBytes 1 s₁.test.scanPods ++ beBytes 1 (b2n s₁.test.scanHub)) response
        generalize scanLedger _ _ y = z at h₄ ⊢
        exact Kept.upd h₄ rfl rfl rfl rfl

theorem fullReset_kept {s₀ s₁ : State} (h₀ : Kept s₀ s₁) (porst : Bool) : Kept s₀ (fullReset porst s₁) :=
  h₀.trans ⟨rfl, rfl, fun _ => rfl, le_rfl, le_rfl, fun _ => id⟩

theorem startBoot_kept {s₀ s₁ : State} (h₀ : Kept s₀ s₁) (straps : BitVec 6) (pass : List BankPass) :
    Kept s₀ (startBoot straps pass s₁) := by
  unfold startBoot
  repeat' (first | with_reducible assumption | with_reducible apply modStk_kept | with_reducible apply bootPass_kept
                 | with_reducible apply Kept.foldl | (intro x; intros) | with_reducible apply Kept.ite | split
                 | with_reducible apply Kept.upd | with_reducible rfl)

theorem holdInReset_kept {s₀ s₁ : State} (h₀ : Kept s₀ s₁) (r : Rail) :
    Kept s₀ (holdInReset r s₁) := by
  unfold holdInReset
  repeat' (first | with_reducible assumption | with_reducible apply fullReset_kept | with_reducible apply Kept.foldl
                 | intro x | with_reducible apply Kept.ite | split | with_reducible apply Kept.upd | with_reducible rfl)

theorem allTxOff_kept {s₀ s₁ : State} (h₀ : Kept s₀ s₁) :
    Kept s₀ (allTxOff s₁) := by
  unfold allTxOff
  repeat' (first | with_reducible assumption | with_reducible apply mapLanes_kept | with_reducible apply mapPorts_kept
                 | with_reducible apply settleSafe_kept)

theorem writePodAvs_kept {s₀ s₁ : State} (h₀ : Kept s₀ s₁) (who : Initiator) (k : PodId) (v : Word) :
    Kept s₀ (writePodAvs who k v s₁) := by
  unfold writePodAvs
  repeat' (first | with_reducible assumption | with_reducible apply modPod_kept | with_reducible apply ignored_kept
                 | with_reducible apply written_kept | with_reducible apply Kept.foldl | intro x
                 | with_reducible apply Kept.ite)

theorem judgeTemps_kept {s₀ s₁ : State} (h₀ : Kept s₀ s₁) (d : Nat) :
    Kept s₀ (judgeTemps d s₁) := by
  unfold judgeTemps
  repeat' (first | with_reducible assumption | with_reducible apply endCond_kept | with_reducible apply raise_kept
                 | with_reducible apply Kept.foldl | intro x | with_reducible apply Kept.ite)

theorem thermalTrip_kept {s₀ s₁ : State} (h₀ : Kept s₀ s₁) (d : Nat) :
    Kept s₀ (thermalTrip d s₁) := by
  unfold thermalTrip
  repeat' (first | with_reducible assumption | with_reducible apply mapPods_kept | with_reducible apply raise_kept
                 | with_reducible apply Kept.foldl | intro x | with_reducible apply Kept.ite | split
                 | with_reducible apply Kept.upd | with_reducible rfl)

theorem judgeSensors_kept {s₀ s₁ : State} (h₀ : Kept s₀ s₁) (d : Nat) (bad : Bool) :
    Kept s₀ (judgeSensors d bad s₁) := by
  unfold judgeSensors
  repeat' (first | with_reducible assumption | with_reducible apply endCond_kept | with_reducible apply raiseAgain_kept
                 | with_reducible apply setCond_kept | with_reducible apply Kept.foldl | (intro x; intros)
                 | with_reducible apply Kept.ite)

theorem loadCalSet_kept {s₀ s₁ : State} (h₀ : Kept s₀ s₁) (c : CalSet) :
    Kept s₀ (loadCalSet c s₁) := by
  unfold loadCalSet
  repeat' (first | with_reducible assumption | with_reducible apply mapPorts_kept | with_reducible apply modStk_kept
                 | with_reducible apply Kept.foldl | (intro x; intros))

theorem chooseCalSet_kept {s₀ s₁ : State} (h₀ : Kept s₀ s₁) (secA secB : Option CalSet) :
    Kept s₀ (chooseCalSet secA secB s₁) := by
  unfold chooseCalSet
  repeat' (first | with_reducible assumption | with_reducible apply loadCalSet_kept | with_reducible apply raise_kept
                 | with_reducible apply Kept.foldl | intro x | with_reducible apply Kept.ite | split
                 | with_reducible apply Kept.upd | with_reducible rfl)

theorem timingDefaults_kept {s₀ s₁ : State} (h₀ : Kept s₀ s₁) :
    Kept s₀ (timingDefaults s₁) := by
  unfold timingDefaults
  repeat' (first | with_reducible assumption | with_reducible apply mapPorts_kept | with_reducible apply modStk_kept
                 | with_reducible apply Kept.foldl | (intro x; intros) | with_reducible apply Kept.ite)

theorem ledgerBootAnchor_kept {s₀ s₁ : State} (h₀ : Kept s₀ s₁) (ring : Option (List LedgerBlock)) (failedBits : Nat) :
    Kept s₀ (ledgerBootAnchor ring failedBits s₁) := by
  unfold ledgerBootAnchor
  extract_lets s₂ prev flags s₃
  have h₂ : Kept s₀ s₂ := h₀.trans ⟨rfl, rfl, id, le_rfl, le_rfl, fun _ => id⟩
  have h₃ : Kept s₀ s₃ := ledgerBlock_kept h₂ _ _ _ _ _ _
  exact Kept.ite h₃ (ledgerFault_kept h₃ 1)

theorem imageRecord_kept {s₀ s₁ : State} (h₀ : Kept s₀ s₁) (code slot : Nat) (h : SlotHdr) :
    Kept s₀ (imageRecord code slot h s₁) := by
  unfold imageRecord
  repeat' (first | with_reducible assumption | with_reducible apply ledgerAppend_kept)

theorem bootFailed_kept {s₀ s₁ : State} (h₀ : Kept s₀ s₁) (why : Nat) :
    Kept s₀ (bootFailed why s₁) := by
  unfold bootFailed
  repeat' (first | with_reducible assumption | with_reducible apply allTxOff_kept | with_reducible apply Kept.foldl
                 | intro x | with_reducible apply Kept.ite | split | with_reducible apply Kept.upd | with_reducible rfl)

theorem tryCandidates_kept {s₀ s₁ : State} (h₀ : Kept s₀ s₁) (why : Nat) (l : List (Fin 2)) : Kept s₀
    (tryCandidates why l s₁) := by
  induction l generalizing why with
  | nil =>
    unfold tryCandidates
    split
    · exact Kept.upd h₀ rfl rfl rfl rfl
    · exact bootFailed_kept h₀ _
  | cons c l ih =>
    unfold tryCandidates
    extract_lets
    split
    · exact Kept.upd h₀ rfl rfl rfl rfl
    · exact ih 4

theorem clearSticky_kept {s₀ s₁ : State} (h₀ : Kept s₀ s₁) (i : Inst) (v : Word) :
    Kept s₀ (clearSticky i v s₁) := by
  unfold clearSticky
  repeat' (first | with_reducible assumption | with_reducible apply fltMod_kept | with_reducible apply Kept.foldl
                 | (intro x; intros))

theorem ackRecord_kept {s₀ s₁ : State} (h₀ : Kept s₀ s₁) (r : Nat) :
    Kept s₀ (ackRecord r s₁) := by
  unfold ackRecord
  repeat' (first | with_reducible assumption | with_reducible apply settleSafe_kept | with_reducible apply Kept.foldl
                 | intro x | with_reducible apply Kept.ite | split | with_reducible apply Kept.upd | with_reducible rfl)

theorem writeRecAck_kept {s₀ s₁ : State} (h₀ : Kept s₀ s₁) (who : Initiator) (v : Word) :
    Kept s₀ (writeRecAck who v s₁) := by
  unfold writeRecAck
  repeat' (first | with_reducible assumption | with_reducible apply ackRecord_kept | with_reducible apply ignored_kept
                 | with_reducible apply written_kept | with_reducible apply Kept.foldl | (intro x; intros)
                 | with_reducible apply Kept.ite)

theorem writeFltSel_kept {s₀ s₁ : State} (h₀ : Kept s₀ s₁) (v : Word) :
    Kept s₀ (writeFltSel v s₁) := by
  unfold writeFltSel
  repeat' (first | with_reducible assumption | with_reducible apply fltMod_kept | with_reducible apply written_kept
                 | with_reducible apply Kept.foldl | intro x | with_reducible apply Kept.ite | split
                 | with_reducible apply Kept.upd | with_reducible rfl)

theorem writeFltReact_kept {s₀ s₁ : State} (h₀ : Kept s₀ s₁) (c : Cause) (v : Word) :
    Kept s₀ (writeFltReact c v s₁) := by
  unfold writeFltReact
  repeat' (first | with_reducible assumption | with_reducible apply written_kept | with_reducible apply Kept.foldl
                 | intro x | with_reducible apply Kept.ite | split | with_reducible apply Kept.upd | with_reducible rfl)

theorem postSlot_kept {s₀ s₁ s₂ : State} (h₀ : Kept s₀ s₁) (who : Initiator) (n : SlotId) (e : postSlot who n s₁ = some s₂) :
    Kept s₀ s₂ := by
  unfold postSlot at e
  extract_lets long post mark at e
  split at e
  · cases e
  · split at e
    · cases e; exact Kept.upd (modSlot_kept h₀ n _) rfl rfl rfl rfl
    · split at e
      · cases e
      · split at e
        · cases e
        · split at e
          · cases e
          · cases e; exact Kept.upd (modSlot_kept (modSlot_kept h₀ n _) _ _) rfl rfl rfl rfl

theorem freeSlot_kept {s₀ s₁ s₂ : State} (h₀ : Kept s₀ s₁) (n : SlotId) (e : freeSlot n s₁ = some s₂) : Kept s₀ s₂ := by
  unfold freeSlot at e
  split at e
  · cases e
  · cases e; exact modSlot_kept (setSlot_kept h₀ _ _) _ _

theorem mailboxWrite_kept {s₀ s₁ : State} (h₀ : Kept s₀ s₁) (who : Initiator) (addr : Nat) (v : Word)
    (f : SlotId → State → Option State) (hf : ∀ n x y, Kept s₀ x → f n x = some y → Kept s₀ y) : Kept s₀ (mailboxWrite who addr v f s₁) := by
  unfold mailboxWrite
  extract_lets r
  have hr : Kept s₀ r.1 := by
    have key : ∀ (l : List SlotId) (x : State × Bool), Kept s₀ x.1 → Kept s₀ (l.foldl (fun (r : State × Bool) n =>
        match f n r.1 with
        | some t => (t, r.2)
        | none => (r.1, true)) x).1 := by
      intro l
      induction l with
      | nil => exact fun _ h => h
      | cons n l ih =>
        intro x hx
        apply ih
        dsimp only
        cases e : f n x.1 with
        | some t => exact hf _ _ _ hx e
        | none => exact hx
    exact key _ _ h₀
  exact Kept.ite (ignored_kept hr _ _) (written_kept hr)

theorem writeDoorbell_kept {s₀ s₁ : State} (h₀ : Kept s₀ s₁) (who : Initiator) (v : Word) : Kept s₀ (writeDoorbell who v s₁) :=
  mailboxWrite_kept h₀ _ _ _ _ fun n _ _ h e => postSlot_kept h who n e

theorem writeRelease_kept {s₀ s₁ : State} (h₀ : Kept s₀ s₁) (who : Initiator) (v : Word) : Kept s₀ (writeRelease who v s₁) :=
  mailboxWrite_kept h₀ _ _ _ _ fun n _ _ h e => freeSlot_kept h n e

theorem startPacket_kept {s₀ s₁ : State} (h₀ : Kept s₀ s₁) (via : Origin) (op : Nat) (port : Option PortId) (lengthOk : Bool) :
    Kept s₀ (startPacket via op port lengthOk s₁) := by
  unfold startPacket
  repeat' (first | with_reducible assumption | with_reducible apply reply_kept | with_reducible apply startCommand_kept
                 | with_reducible apply Kept.foldl | intro x | with_reducible apply Kept.ite)

theorem dropCommand_kept {s₀ s₁ : State} (h₀ : Kept s₀ s₁) (r : RunCmd) : Kept s₀ (dropCommand r s₁) := by
  unfold dropCommand
  extract_lets x₁ a x₂ b x₃ c x₄ d x₅ e
  have ha : Kept s₀ a := Kept.ite (Kept.upd h₀ rfl rfl rfl rfl) h₀
  have hb : Kept s₀ b := Kept.ite (Kept.upd ha rfl rfl rfl rfl) ha
  have hc : Kept s₀ c := Kept.ite (Kept.upd hb rfl rfl rfl rfl) hb
  have hd : Kept s₀ d := by
    unfold d
    split
    · exact Kept.ite (Kept.upd hc rfl rfl rfl rfl) hc
    · exact hc
  have he : Kept s₀ e := Kept.upd hd rfl rfl rfl rfl
  split
  · exact Kept.ite (diagRelease_kept he _) he
  · exact he

theorem endCommand_kept {s₀ s₁ : State} (h₀ : Kept s₀ s₁) (r : RunCmd) (status : Nat) :
    Kept s₀ (endCommand r status s₁) := by
  unfold endCommand
  repeat' (first | with_reducible assumption | with_reducible apply abortBist_kept | with_reducible apply dropCommand_kept
                 | with_reducible apply reply_kept | with_reducible apply Kept.foldl | intro x | with_reducible apply Kept.ite)

theorem endClerkCommands_kept {s₀ s₁ : State} (h₀ : Kept s₀ s₁) (status : Nat) :
    Kept s₀ (endClerkCommands status s₁) := by
  unfold endClerkCommands
  repeat' (first | with_reducible assumption | with_reducible apply endCommand_kept | with_reducible apply Kept.foldl
                 | (intro x; intros))

theorem libIntegrity_kept {s₀ s₁ : State} (h₀ : Kept s₀ s₁) (d : Nat) :
    Kept s₀ (libIntegrity d s₁) := by
  unfold libIntegrity
  repeat' (first | with_reducible assumption | with_reducible apply endCommand_kept | with_reducible apply raise_kept
                 | with_reducible apply Kept.foldl | (intro x; intros) | with_reducible apply Kept.ite | split
                 | with_reducible apply Kept.upd | with_reducible rfl)

theorem summaryRecord_kept {s₀ s₁ : State} (h₀ : Kept s₀ s₁) (c : Coalesced) :
    Kept s₀ (summaryRecord c s₁) := by
  unfold summaryRecord
  repeat' (first | with_reducible assumption | with_reducible apply ledgerAppend_kept)

theorem summaries_kept {s₀ s₁ : State} (h₀ : Kept s₀ s₁) (n : Nat) : Kept s₀ (summaries n s₁) := by
  induction n generalizing s₁ with
  | zero => exact h₀
  | succ n ih =>
    unfold summaries
    split
    · exact h₀
    · split
      · exact h₀
      · apply ih
        apply summaryRecord_kept
        exact h₀.trans ⟨rfl, rfl, id, le_rfl, le_rfl, fun _ => id⟩

theorem compStop_kept {s₀ s₁ : State} (h₀ : Kept s₀ s₁) (p : PortId) (n : LaneId) :
    Kept s₀ (compStop p n s₁) := by
  unfold compStop
  repeat' (first | with_reducible assumption | with_reducible apply modLane_kept | with_reducible apply endCond_kept)

theorem writeTxComp_kept {s₀ s₁ : State} (h₀ : Kept s₀ s₁) (p : PortId) (n : LaneId) (v : Word) :
    Kept s₀ (writeTxComp p n v s₁) := by
  unfold writeTxComp
  repeat' (first | with_reducible assumption | with_reducible apply modLane_kept | with_reducible apply compStop_kept
                 | with_reducible apply written_kept | with_reducible apply Kept.foldl | intro x
                 | with_reducible apply Kept.ite)

theorem txOff_kept {s₀ s₁ : State} (h₀ : Kept s₀ s₁) (p : PortId) (n : LaneId) :
    Kept s₀ (txOff p n s₁) := by
  unfold txOff
  repeat' (first | with_reducible assumption | with_reducible apply modLane_kept | with_reducible apply compStop_kept)

theorem writeToneReg_kept {s₀ s₁ : State} (h₀ : Kept s₀ s₁) (who : Initiator) (p : PortId) (n : LaneId) (reg : Fin 3)
    (v : Word) :
    Kept s₀ (writeToneReg who p n reg v s₁) := by
  unfold writeToneReg
  repeat' (first | with_reducible assumption | with_reducible apply modLane_kept | with_reducible apply ignored_kept
                 | with_reducible apply written_kept | with_reducible apply Kept.foldl | intro x
                 | with_reducible apply Kept.ite)

theorem applyTxCtrl_kept {s₀ s₁ : State} (h₀ : Kept s₀ s₁) (p : PortId) (n : LaneId) :
    Kept s₀ (applyTxCtrl p n s₁) := by
  unfold applyTxCtrl
  repeat' (first | with_reducible assumption | with_reducible apply modLane_kept | with_reducible apply txOff_kept
                 | with_reducible apply Kept.foldl | intro x | with_reducible apply Kept.ite)

theorem leaveSafe_kept {s₀ s₁ : State} (h₀ : Kept s₀ s₁) (p : PortId) (n : LaneId) :
    Kept s₀ (leaveSafe p n s₁) := by
  unfold leaveSafe
  repeat' (first | with_reducible assumption | with_reducible apply modLane_kept | with_reducible apply applyTxCtrl_kept)

theorem queueTs_kept {s₀ s₁ : State} (h₀ : Kept s₀ s₁) (p : PortId) :
    Kept s₀ (queueTs p s₁) := by
  unfold queueTs
  repeat' (first | with_reducible assumption | with_reducible apply queueCm_kept | with_reducible apply Kept.foldl
                 | intro x | with_reducible apply Kept.ite)

theorem tsRise_kept {s₀ s₁ : State} (h₀ : Kept s₀ s₁) (p : PortId) :
    Kept s₀ (tsRise p s₁) := by
  unfold tsRise
  repeat' (first | with_reducible assumption | with_reducible apply modPort_kept | with_reducible apply queueTs_kept
                 | intro x | with_reducible apply Kept.ite)

theorem takeAnchor_kept {s₀ s₁ : State} (h₀ : Kept s₀ s₁) (p : PortId) (n : LaneId) :
    Kept s₀ (takeAnchor p n s₁) := by
  unfold takeAnchor
  repeat' (first | with_reducible assumption | with_reducible apply modLane_kept | with_reducible apply endCond_kept)

theorem ctleEvaluate_kept {s₀ s₁ : State} (h₀ : Kept s₀ s₁) (p : PortId) (n : LaneId) :
    Kept s₀ (ctleEvaluate p n s₁) := by
  unfold ctleEvaluate
  repeat' (first | with_reducible assumption | with_reducible apply freeNat_kept | with_reducible apply modLane_kept
                 | with_reducible apply Kept.foldl | intro x | with_reducible apply Kept.ite)

theorem ctleStepCheck_kept {s₀ s₁ : State} (h₀ : Kept s₀ s₁) (p : PortId) (n : LaneId) :
    Kept s₀ (ctleStepCheck p n s₁) := by
  unfold ctleStepCheck
  repeat' (first | with_reducible assumption | with_reducible apply modLane_kept | with_reducible apply Kept.foldl
                 | intro x | with_reducible apply Kept.ite | split)

theorem anchorPoint_kept {s₀ s₁ : State} (h₀ : Kept s₀ s₁) (p : PortId) (n : LaneId) (good : Bool) :
    Kept s₀ (anchorPoint p n good s₁) := by
  unfold anchorPoint
  repeat' (first | with_reducible assumption | with_reducible apply modLane_kept | with_reducible apply ctleEvaluate_kept
                 | with_reducible apply ctleStepCheck_kept | with_reducible apply takeAnchor_kept
                 | with_reducible apply Kept.foldl | intro x | with_reducible apply Kept.ite)

theorem windowDrift_kept {s₀ s₁ : State} (h₀ : Kept s₀ s₁) (p : PortId) (n : LaneId) :
    Kept s₀ (windowDrift p n s₁) := by
  unfold windowDrift
  repeat' (first | with_reducible assumption | with_reducible apply modLane_kept | with_reducible apply Kept.foldl
                 | intro x | with_reducible apply Kept.ite)

theorem echoReport_kept {s₀ s₁ : State} (h₀ : Kept s₀ s₁) (p : PortId) (n : LaneId) :
    Kept s₀ (echoReport p n s₁) := by
  unfold echoReport
  repeat' (first | with_reducible assumption | with_reducible apply modLane_kept | with_reducible apply setCond_kept
                 | intro x | with_reducible apply Kept.ite)

theorem stampBlocks_kept {s₀ s₁ : State} (h₀ : Kept s₀ s₁) (p : PortId) (rx : Bool) (t0 : Int) (retry : Bool)
    (seq : Option Nat) (l : List (Nat × Block)) :
    Kept s₀ (stampBlocks p rx t0 retry seq l s₁) := by
  unfold stampBlocks
  repeat' (first | with_reducible assumption | with_reducible apply modPort_kept | with_reducible apply tsPush_kept
                 | with_reducible apply Kept.foldl | (intro x; intros) | with_reducible apply Kept.ite | split)

theorem stampRetry_kept {s₀ s₁ : State} (h₀ : Kept s₀ s₁) (p : PortId) (seq : Nat) :
    Kept s₀ (stampRetry p seq s₁) := by
  unfold stampRetry
  repeat' (first | with_reducible assumption | with_reducible apply modPort_kept | with_reducible apply modTime_kept
                 | with_reducible apply Kept.foldl | intro x | with_reducible apply Kept.ite)

theorem deliverCounts_kept {s₀ s₁ : State} (h₀ : Kept s₀ s₁) (p : PortId) (h : HeldFol) :
    Kept s₀ (deliverCounts p h s₁) := by
  unfold deliverCounts
  repeat' (first | with_reducible assumption | with_reducible apply modPort_kept | with_reducible apply raise_kept
                 | with_reducible apply Kept.foldl | intro x | with_reducible apply Kept.ite | split)

theorem deliverFolio_kept {s₀ s₁ : State} (h₀ : Kept s₀ s₁) (p : PortId) (h : HeldFol) :
    Kept s₀ (deliverFolio p h s₁) := by
  unfold deliverFolio
  repeat' (first | with_reducible assumption | with_reducible apply modPort_kept | with_reducible apply deliverCounts_kept
                 | with_reducible apply stampBlocks_kept)

theorem placeData_kept {s₀ s₁ : State} (h₀ : Kept s₀ s₁) (p : PortId) (n slot : Nat) (h : HeldFol) :
    Kept s₀ (placeData p n slot h s₁) := by
  unfold placeData
  repeat' (first | with_reducible assumption | with_reducible apply modPort_kept | with_reducible apply deliverFolio_kept
                 | with_reducible apply Kept.foldl | (intro x; intros) | with_reducible apply Kept.ite | split)

theorem enterData_kept {s₀ s₁ : State} (h₀ : Kept s₀ s₁) (p : PortId) :
    Kept s₀ (enterData p s₁) := by
  unfold enterData
  repeat' (first | with_reducible assumption | with_reducible apply modPort_kept | with_reducible apply setLink_kept
                 | with_reducible apply Kept.foldl | intro x | with_reducible apply Kept.ite)

theorem countChanged_kept {s₀ s₁ : State} (h₀ : Kept s₀ s₁) (p : PortId) :
    Kept s₀ (countChanged p s₁) := by
  unfold countChanged
  repeat' (first | with_reducible assumption | with_reducible apply enterData_kept | with_reducible apply guarJudge_kept
                 | with_reducible apply Kept.foldl | intro x | with_reducible apply Kept.ite | split)

theorem leaveQuiet_kept {s₀ s₁ : State} (h₀ : Kept s₀ s₁) (p : PortId) :
    Kept s₀ (leaveQuiet p s₁) := by
  unfold leaveQuiet
  repeat' (first | with_reducible assumption | with_reducible apply modPort_kept | with_reducible apply enterData_kept)

theorem wakeComplete_kept {s₀ s₁ : State} (h₀ : Kept s₀ s₁) (p : PortId) :
    Kept s₀ (wakeComplete p s₁) := by
  unfold wakeComplete
  repeat' (first | with_reducible assumption | with_reducible apply modPort_kept | with_reducible apply leaveQuiet_kept
                 | with_reducible apply Kept.foldl | intro x | with_reducible apply Kept.ite)

theorem wakeStart_kept {s₀ s₁ : State} (h₀ : Kept s₀ s₁) (p : PortId) (inData : Bool) :
    Kept s₀ (wakeStart p inData s₁) := by
  unfold wakeStart
  repeat' (first | with_reducible assumption | with_reducible apply modPort_kept | with_reducible apply holdFall_kept
                 | with_reducible apply reHold_kept | with_reducible apply setLink_kept | with_reducible apply Kept.foldl
                 | intro x | with_reducible apply Kept.ite)

theorem wakeTrigger_kept {s₀ s₁ : State} (h₀ : Kept s₀ s₁) (p : PortId) :
    Kept s₀ (wakeTrigger p s₁) := by
  unfold wakeTrigger
  repeat' (first | with_reducible assumption | with_reducible apply leaveQuiet_kept | with_reducible apply wakeStart_kept
                 | with_reducible apply Kept.foldl | intro x | with_reducible apply Kept.ite)

theorem shedRecord_kept {s₀ s₁ : State} (h₀ : Kept s₀ s₁) (p : PortId) (cause lane : Nat) :
    Kept s₀ (shedRecord p cause lane s₁) := by
  unfold shedRecord
  repeat' (first | with_reducible assumption | with_reducible apply modPort_kept)

theorem sendNotice_kept {s₀ s₁ : State} (h₀ : Kept s₀ s₁) (p : PortId) (t : Nat) (body : List Byte) :
    Kept s₀ (sendNotice p t body s₁) := by
  unfold sendNotice
  repeat' (first | with_reducible assumption | with_reducible apply modPort_kept | with_reducible apply queueCm_kept)

theorem sendLaneNotice_kept {s₀ s₁ : State} (h₀ : Kept s₀ s₁) (p : PortId) (kind : Nat) :
    Kept s₀ (sendLaneNotice p kind s₁) := by
  unfold sendLaneNotice
  repeat' (first | with_reducible assumption | with_reducible apply sendNotice_kept)

theorem sendAck_kept {s₀ s₁ : State} (h₀ : Kept s₀ s₁) (p : PortId) (id typ what epoch : Nat) :
    Kept s₀ (sendAck p id typ what epoch s₁) := by
  unfold sendAck
  repeat' (first | with_reducible assumption | with_reducible apply queueCm_kept)

theorem sendDecline_kept {s₀ s₁ : State} (h₀ : Kept s₀ s₁) (p : PortId) (id typ lane reason epoch : Nat) :
    Kept s₀ (sendDecline p id typ lane reason epoch s₁) := by
  unfold sendDecline
  repeat' (first | with_reducible assumption | with_reducible apply queueCm_kept)

theorem sendAddNotice_kept {s₀ s₁ : State} (h₀ : Kept s₀ s₁) (p : PortId) (n : LaneId) :
    Kept s₀ (sendAddNotice p n s₁) := by
  unfold sendAddNotice
  repeat' (first | with_reducible assumption | with_reducible apply modPort_kept | with_reducible apply sendNotice_kept)

theorem beginAdd_kept {s₀ s₁ : State} (h₀ : Kept s₀ s₁) (p : PortId) (n : LaneId) :
    Kept s₀ (beginAdd p n s₁) := by
  unfold beginAdd
  repeat' (first | with_reducible assumption | with_reducible apply modLane_kept | with_reducible apply modPort_kept)

theorem failAdd_kept {s₀ s₁ : State} (h₀ : Kept s₀ s₁) (p : PortId) (n : LaneId) :
    Kept s₀ (failAdd p n s₁) := by
  unfold failAdd
  repeat' (first | with_reducible assumption | with_reducible apply modLane_kept | with_reducible apply modPort_kept
                 | with_reducible apply shedRecord_kept)

theorem cancelAdds_kept {s₀ s₁ : State} (h₀ : Kept s₀ s₁) (p : PortId) :
    Kept s₀ (cancelAdds p s₁) := by
  unfold cancelAdds
  repeat' (first | with_reducible assumption | with_reducible apply mapLanes_kept | with_reducible apply modPort_kept)

theorem downDue_kept {s₀ s₁ : State} (h₀ : Kept s₀ s₁) (p : PortId) (cause : Nat) :
    Kept s₀ (downDue p cause s₁) := by
  unfold downDue
  repeat' (first | with_reducible assumption | with_reducible apply modPort_kept)

theorem shedTrigger_kept {s₀ s₁ : State} (h₀ : Kept s₀ s₁) (p : PortId) (n : LaneId) (cause epoch : Nat) :
    Kept s₀ (shedTrigger p n cause epoch s₁) := by
  unfold shedTrigger
  repeat' (first | with_reducible assumption | with_reducible apply modLane_kept | with_reducible apply downDue_kept
                 | with_reducible apply raise_kept | with_reducible apply wakeTrigger_kept
                 | with_reducible apply Kept.foldl | intro x | with_reducible apply Kept.ite)

theorem ownTrigger_kept {s₀ s₁ : State} (h₀ : Kept s₀ s₁) (p : PortId) (n : LaneId) (cause : Nat) :
    Kept s₀ (ownTrigger p n cause s₁) := by
  unfold ownTrigger
  repeat' (first | with_reducible assumption | with_reducible apply shedTrigger_kept)

theorem quarantine_kept {s₀ s₁ : State} (h₀ : Kept s₀ s₁) (p : PortId) (n : LaneId) (cause epoch : Nat) :
    Kept s₀ (quarantine p n cause epoch s₁) := by
  unfold quarantine
  repeat' (first | with_reducible assumption | with_reducible apply modPort_kept | with_reducible apply cancelAdds_kept
                 | with_reducible apply countChanged_kept | with_reducible apply holdFall_kept
                 | with_reducible apply reHold_kept | with_reducible apply shedRecord_kept)

theorem proposePlan_kept {s₀ s₁ : State} (h₀ : Kept s₀ s₁) (p : PortId) (mask : Nat) (cap : Bool) (who : Nat) :
    Kept s₀ (proposePlan p mask cap who s₁) := by
  unfold proposePlan
  repeat' (first | with_reducible assumption | with_reducible apply modPort_kept | with_reducible apply sendLaneNotice_kept)

theorem lateIgnored_kept {s₀ s₁ : State} (h₀ : Kept s₀ s₁) (bit addr : Nat) :
    Kept s₀ (lateIgnored bit addr s₁) := by
  unfold lateIgnored
  repeat' (first | with_reducible assumption | with_reducible apply Kept.foldl | intro x | with_reducible apply Kept.ite
                 | split | with_reducible apply Kept.upd | with_reducible rfl)

theorem judgeWaiting_kept {s₀ s₁ : State} (h₀ : Kept s₀ s₁) (p : PortId) :
    Kept s₀ (judgeWaiting p s₁) := by
  unfold judgeWaiting
  repeat' (first | with_reducible assumption | with_reducible apply modPort_kept | with_reducible apply lateIgnored_kept
                 | with_reducible apply proposePlan_kept | intro x | with_reducible apply Kept.ite)

theorem proposeAdds_kept {s₀ s₁ : State} (h₀ : Kept s₀ s₁) (p : PortId) :
    Kept s₀ (proposeAdds p s₁) := by
  unfold proposeAdds
  repeat' (first | with_reducible assumption | with_reducible apply modPort_kept)

theorem adoptPlan_kept {s₀ s₁ : State} (h₀ : Kept s₀ s₁) (p : PortId) (nextMap epoch : Nat) :
    Kept s₀ (adoptPlan p nextMap epoch s₁) := by
  unfold adoptPlan
  repeat' (first | with_reducible assumption | with_reducible apply modPort_kept)

theorem declineHeads_kept {s₀ s₁ : State} (h₀ : Kept s₀ s₁) (p : PortId) (c : LaneCtl) :
    Kept s₀ (declineHeads p c s₁) := by
  unfold declineHeads
  repeat' (first | with_reducible assumption | with_reducible apply modPort_kept | with_reducible apply sendDecline_kept
                 | intro x | with_reducible apply Kept.ite)

theorem partnerAgreed_kept {s₀ s₁ : State} (h₀ : Kept s₀ s₁) (p : PortId) :
    Kept s₀ (partnerAgreed p s₁) := by
  unfold partnerAgreed
  repeat' (first | with_reducible assumption | with_reducible apply modPort_kept | with_reducible apply adoptPlan_kept
                 | with_reducible apply declineHeads_kept | with_reducible apply proposeAdds_kept
                 | with_reducible apply shedTrigger_kept | with_reducible apply Kept.foldl | (intro x; intros)
                 | with_reducible apply Kept.ite | split)

theorem acceptCtl_kept {s₀ s₁ : State} (h₀ : Kept s₀ s₁) (p : PortId) (rxEpoch : Nat) (c : LaneCtl) :
    Kept s₀ (acceptCtl p rxEpoch c s₁) := by
  unfold acceptCtl
  repeat' (first | with_reducible assumption | with_reducible apply modPort_kept | with_reducible apply partnerAgreed_kept
                 | with_reducible apply Kept.foldl | intro x | with_reducible apply Kept.ite)

theorem framingFails_kept {s₀ s₁ : State} (h₀ : Kept s₀ s₁) (p : PortId) (n : LaneId) :
    Kept s₀ (framingFails p n s₁) := by
  unfold framingFails
  repeat' (first | with_reducible assumption | with_reducible apply failAdd_kept | with_reducible apply judgeWaiting_kept
                 | with_reducible apply Kept.ite)

theorem deskew_kept {s₀ s₁ : State} (h₀ : Kept s₀ s₁) (p : PortId) :
    Kept s₀ (deskew p s₁) := by
  unfold deskew
  repeat' (first | with_reducible assumption | with_reducible apply mapLanes_kept | with_reducible apply framingFails_kept
                 | with_reducible apply ownTrigger_kept | with_reducible apply Kept.foldl | (intro x; intros)
                 | with_reducible apply Kept.ite)

theorem folioBad_kept {s₀ s₁ : State} (h₀ : Kept s₀ s₁) (p : PortId) (n : LaneId) :
    Kept s₀ (folioBad p n s₁) := by
  unfold folioBad
  repeat' (first | with_reducible assumption | with_reducible apply modLane_kept | with_reducible apply modPort_kept
                 | with_reducible apply ownTrigger_kept | with_reducible apply Kept.foldl | intro x
                 | with_reducible apply Kept.ite | split)

theorem alignAccepted_kept {s₀ s₁ : State} (h₀ : Kept s₀ s₁) (p : PortId) (n : LaneId) (h : Head) (arrival : Nat) (time : Int) :
    Kept s₀ (alignAccepted p n h arrival time s₁) := by
  unfold alignAccepted
  repeat' (first | with_reducible assumption | with_reducible apply modLane_kept | with_reducible apply modPort_kept
                 | with_reducible apply deskew_kept | with_reducible apply framingFails_kept
                 | with_reducible apply ownTrigger_kept | with_reducible apply proposeAdds_kept | intro x
                 | with_reducible apply Kept.ite)

theorem headReliability_kept {s₀ s₁ : State} (h₀ : Kept s₀ s₁) (p : PortId) (h : Head) :
    Kept s₀ (headReliability p h s₁) := by
  unfold headReliability
  repeat' (first | with_reducible assumption | with_reducible apply modPort_kept)

theorem headAccept_kept {s₀ s₁ : State} (h₀ : Kept s₀ s₁) (p : PortId) (n : LaneId) (h : Head) :
    Kept s₀ (headAccept p n h s₁) := by
  unfold headAccept
  repeat' (first | with_reducible assumption | with_reducible apply modPort_kept | with_reducible apply acceptCtl_kept
                 | with_reducible apply headReliability_kept | with_reducible apply wakeComplete_kept
                 | with_reducible apply Kept.foldl | intro x | with_reducible apply Kept.ite)

theorem dataFolio_kept {s₀ s₁ : State} (h₀ : Kept s₀ s₁) (p : PortId) (n : LaneId) (slot : Nat) (h : Head) (f : RxFolio)
    (time : Int) :
    Kept s₀ (dataFolio p n slot h f time s₁) := by
  unfold dataFolio
  repeat' (first | with_reducible assumption | with_reducible apply modPort_kept | with_reducible apply leaveQuiet_kept
                 | with_reducible apply placeData_kept | with_reducible apply Kept.foldl | intro x
                 | with_reducible apply Kept.ite)

theorem folioGood_kept {s₀ s₁ : State} (h₀ : Kept s₀ s₁) (p : PortId) (n : LaneId) (h : Head) (f : RxFolio)
    (corr erased : Nat) :
    Kept s₀ (folioGood p n h f corr erased s₁) := by
  unfold folioGood
  repeat' (first | with_reducible assumption | with_reducible apply modLane_kept | with_reducible apply modPort_kept
                 | with_reducible apply alignAccepted_kept | with_reducible apply dataFolio_kept
                 | with_reducible apply headAccept_kept | with_reducible apply raise_kept | with_reducible apply Kept.foldl
                 | intro x | with_reducible apply Kept.ite | split)

theorem missAlign_kept {s₀ s₁ : State} (h₀ : Kept s₀ s₁) (p : PortId) (n : LaneId) :
    Kept s₀ (missAlign p n s₁) := by
  unfold missAlign
  repeat' (first | with_reducible assumption | with_reducible apply modLane_kept | with_reducible apply Kept.foldl
                 | intro x | with_reducible apply Kept.ite | split)

theorem applyChange_kept {s₀ s₁ : State} (h₀ : Kept s₀ s₁) (p : PortId) (kind : ChgKind) :
    Kept s₀ (applyChange p kind s₁) := by
  unfold applyChange
  repeat' (first | with_reducible assumption | with_reducible apply mapLanes_kept | with_reducible apply modPort_kept
                 | with_reducible apply countChanged_kept | with_reducible apply deskew_kept
                 | with_reducible apply enterData_kept | with_reducible apply guarRise_kept
                 | with_reducible apply holdFall_kept | with_reducible apply reHold_kept
                 | with_reducible apply shedRecord_kept | with_reducible apply Kept.foldl | intro x
                 | with_reducible apply Kept.ite)

theorem writeLaneReq_kept {s₀ s₁ : State} (h₀ : Kept s₀ s₁) (who : Initiator) (p : PortId) (v : Word) :
    Kept s₀ (writeLaneReq who p v s₁) := by
  unfold writeLaneReq
  repeat' (first | with_reducible assumption | with_reducible apply mapLanes_kept | with_reducible apply modPort_kept
                 | with_reducible apply ignored_kept | with_reducible apply proposePlan_kept
                 | with_reducible apply sendAddNotice_kept | with_reducible apply wakeTrigger_kept
                 | with_reducible apply written_kept | with_reducible apply Kept.foldl | (intro x; intros)
                 | with_reducible apply Kept.ite)

theorem resendAdds_kept {s₀ s₁ : State} (h₀ : Kept s₀ s₁) (p : PortId) :
    Kept s₀ (resendAdds p s₁) := by
  unfold resendAdds
  repeat' (first | with_reducible assumption | with_reducible apply modPort_kept | with_reducible apply sendAddNotice_kept
                 | with_reducible apply Kept.foldl | (intro x; intros) | with_reducible apply Kept.ite | split
                 | with_reducible apply Kept.upd | with_reducible rfl)

theorem capacityAdds_kept {s₀ s₁ : State} (h₀ : Kept s₀ s₁) (p : PortId) :
    Kept s₀ (capacityAdds p s₁) := by
  unfold capacityAdds
  repeat' (first | with_reducible assumption | with_reducible apply modLane_kept | with_reducible apply sendAddNotice_kept
                 | with_reducible apply Kept.foldl | intro x | with_reducible apply Kept.ite | split)

theorem modInst_kept {s₀ s₁ : State} (h₀ : Kept s₀ s₁) (p : PortId) (cm : Bool) (f : SndInst → SndInst) :
    Kept s₀ (modInst p cm f s₁) := by
  unfold modInst
  repeat' (first | with_reducible assumption | with_reducible apply modPort_kept)

theorem soundWindow_kept {s₀ s₁ : State} (h₀ : Kept s₀ s₁) (p : PortId) :
    Kept s₀ (soundWindow p s₁) := by
  unfold soundWindow
  repeat' (first | with_reducible assumption | with_reducible apply draw_kept | with_reducible apply modPort_kept)

theorem enterSound_kept {s₀ s₁ : State} (h₀ : Kept s₀ s₁) (p : PortId) :
    Kept s₀ (enterSound p s₁) := by
  unfold enterSound
  repeat' (first | with_reducible assumption | with_reducible apply modPort_kept | with_reducible apply setLink_kept
                 | with_reducible apply soundWindow_kept)

theorem enterIeee_kept {s₀ s₁ : State} (h₀ : Kept s₀ s₁) (p : PortId) (which : Nat → Bool) :
    Kept s₀ (enterIeee p which s₁) := by
  unfold enterIeee
  repeat' (first | with_reducible assumption | with_reducible apply modPort_kept | with_reducible apply setLink_kept)

theorem resumeWait_kept {s₀ s₁ : State} (h₀ : Kept s₀ s₁) (p : PortId) :
    Kept s₀ (resumeWait p s₁) := by
  unfold resumeWait
  repeat' (first | with_reducible assumption | with_reducible apply setWaiting_kept | with_reducible apply Kept.ite)

theorem startLink_kept {s₀ s₁ : State} (h₀ : Kept s₀ s₁) (p : PortId) :
    Kept s₀ (startLink p s₁) := by
  unfold startLink
  repeat' (first | with_reducible assumption | with_reducible apply mapLanes_kept | with_reducible apply modPort_kept
                 | with_reducible apply enterIeee_kept | with_reducible apply enterSound_kept
                 | with_reducible apply resumeWait_kept | intro x | with_reducible apply Kept.ite)

theorem toClause73_kept {s₀ s₁ : State} (h₀ : Kept s₀ s₁) (p : PortId) :
    Kept s₀ (toClause73 p s₁) := by
  unfold toClause73
  repeat' (first | with_reducible assumption | with_reducible apply modPort_kept | with_reducible apply enterIeee_kept)

theorem enterParley_kept {s₀ s₁ : State} (h₀ : Kept s₀ s₁) (p : PortId) (c : CallInfo) (sf : Nat) (pairTx : Bool) :
    Kept s₀ (enterParley p c sf pairTx s₁) := by
  unfold enterParley
  repeat' (first | with_reducible assumption | with_reducible apply modPort_kept | with_reducible apply setLink_kept)

theorem answerCall_kept {s₀ s₁ : State} (h₀ : Kept s₀ s₁) (p : PortId) (c : CallInfo) (sf : Nat) (pairTx : Bool) (snr : Int) :
    Kept s₀ (answerCall p c sf pairTx snr s₁) := by
  unfold answerCall
  repeat' (first | with_reducible assumption | with_reducible apply modPort_kept)

theorem sendOffer_kept {s₀ s₁ : State} (h₀ : Kept s₀ s₁) (p : PortId) (no : Nat) :
    Kept s₀ (sendOffer p no s₁) := by
  unfold sendOffer
  repeat' (first | with_reducible assumption | with_reducible apply modPort_kept | with_reducible apply Kept.foldl
                 | intro x | with_reducible apply Kept.ite | split)

theorem failParley_kept {s₀ s₁ : State} (h₀ : Kept s₀ s₁) (p : PortId) (code : Nat) :
    Kept s₀ (failParley p code s₁) := by
  unfold failParley
  repeat' (first | with_reducible assumption | with_reducible apply modPort_kept | with_reducible apply downDue_kept
                 | with_reducible apply setWaiting_kept | with_reducible apply Kept.foldl | intro x
                 | with_reducible apply Kept.ite)

theorem applyGo_kept {s₀ s₁ : State} (h₀ : Kept s₀ s₁) (p : PortId) :
    Kept s₀ (applyGo p s₁) := by
  unfold applyGo
  repeat' (first | with_reducible assumption | with_reducible apply mapLanes_kept | with_reducible apply modPort_kept)

theorem diffSent_kept {s₀ s₁ : State} (h₀ : Kept s₀ s₁) (p : PortId) (f : SndFrame) :
    Kept s₀ (diffSent p f s₁) := by
  unfold diffSent
  repeat' (first | with_reducible assumption | with_reducible apply modLane_kept | with_reducible apply modPort_kept
                 | with_reducible apply applyGo_kept | with_reducible apply failParley_kept
                 | with_reducible apply Kept.foldl | intro x | with_reducible apply Kept.ite | split)

theorem toAlign_kept {s₀ s₁ : State} (h₀ : Kept s₀ s₁) (p : PortId) :
    Kept s₀ (toAlign p s₁) := by
  unfold toAlign
  repeat' (first | with_reducible assumption | with_reducible apply mapLanes_kept | with_reducible apply modPort_kept
                 | with_reducible apply setLink_kept)

theorem failTrain_kept {s₀ s₁ : State} (h₀ : Kept s₀ s₁) (p : PortId) (code : Nat) :
    Kept s₀ (failTrain p code s₁) := by
  unfold failTrain
  repeat' (first | with_reducible assumption | with_reducible apply modPort_kept | with_reducible apply downDue_kept)

theorem writeLinkReq_kept {s₀ s₁ : State} (h₀ : Kept s₀ s₁) (who : Initiator) (p : PortId) (v : Word) :
    Kept s₀ (writeLinkReq who p v s₁) := by
  unfold writeLinkReq
  repeat' (first | with_reducible assumption | with_reducible apply modPort_kept | with_reducible apply downDue_kept
                 | with_reducible apply ignored_kept | with_reducible apply setWaiting_kept
                 | with_reducible apply startLink_kept | with_reducible apply wakeTrigger_kept
                 | with_reducible apply written_kept | intro x | with_reducible apply Kept.ite)

theorem writeLinkSnap_kept {s₀ s₁ : State} (h₀ : Kept s₀ s₁) (who : Initiator) (p : PortId) (v : Word) :
    Kept s₀ (writeLinkSnap who p v s₁) := by
  unfold writeLinkSnap
  repeat' (first | with_reducible assumption | with_reducible apply modPort_kept | with_reducible apply ignored_kept
                 | with_reducible apply written_kept | with_reducible apply Kept.foldl | intro x
                 | with_reducible apply Kept.ite)

theorem quietSettle_kept {s₀ s₁ : State} (h₀ : Kept s₀ s₁) (p : PortId) :
    Kept s₀ (quietSettle p s₁) := by
  unfold quietSettle
  repeat' (first | with_reducible assumption | with_reducible apply modPort_kept | with_reducible apply wakeStart_kept
                 | with_reducible apply Kept.foldl | intro x | with_reducible apply Kept.ite)

theorem standingTriggers_kept {s₀ s₁ : State} (h₀ : Kept s₀ s₁) (p : PortId) :
    Kept s₀ (standingTriggers p s₁) := by
  unfold standingTriggers
  repeat' (first | with_reducible assumption | with_reducible apply ownTrigger_kept | with_reducible apply Kept.foldl
                 | (intro x; intros) | with_reducible apply Kept.ite)

theorem modSub_kept {s₀ s₁ : State} (h₀ : Kept s₀ s₁) (p : PortId) (i : SubId) (f : IeeeSub → IeeeSub) :
    Kept s₀ (modSub p i f s₁) := by
  unfold modSub
  repeat' (first | with_reducible assumption | with_reducible apply modPort_kept)

theorem subTrain_kept {s₀ s₁ : State} (h₀ : Kept s₀ s₁) (p : PortId) (i : SubId) :
    Kept s₀ (subTrain p i s₁) := by
  unfold subTrain
  repeat' (first | with_reducible assumption | with_reducible apply mapLanes_kept | with_reducible apply modPort_kept
                 | with_reducible apply modSub_kept | with_reducible apply setLink_kept)

theorem waitingDone_kept {s₀ s₁ : State} (h₀ : Kept s₀ s₁) (p : PortId) :
    Kept s₀ (waitingDone p s₁) := by
  unfold waitingDone
  repeat' (first | with_reducible assumption | with_reducible apply setWaiting_kept | with_reducible apply Kept.foldl
                 | intro x | with_reducible apply Kept.ite)

theorem subDown_kept {s₀ s₁ : State} (h₀ : Kept s₀ s₁) (p : PortId) (i : SubId) (code : Nat) (retry : Bool) :
    Kept s₀ (subDown p i code retry s₁) := by
  unfold subDown
  repeat' (first | with_reducible assumption | with_reducible apply modPort_kept | with_reducible apply downDue_kept
                 | with_reducible apply endCond_kept | with_reducible apply modSub_kept | with_reducible apply setLink_kept
                 | with_reducible apply waitingDone_kept | with_reducible apply Kept.foldl | intro x
                 | with_reducible apply Kept.ite)

theorem groupLocked_kept {s₀ s₁ : State} (h₀ : Kept s₀ s₁) (k : PodId) (g : GroupId) :
    Kept s₀ (groupLocked k g s₁) := by
  unfold groupLocked
  repeat' (first | with_reducible assumption | with_reducible apply modGroup_kept | with_reducible apply podPllBack_kept
                 | with_reducible apply subTrain_kept | with_reducible apply waitingDone_kept
                 | with_reducible apply Kept.foldl | (intro x; intros) | with_reducible apply Kept.ite)

theorem mdioWrite_kept {s₀ s₁ : State} (h₀ : Kept s₀ s₁) (prtad : BitVec 5) (f : PortId → SubId → State → State) (h_f : ∀ y z x, Kept s₀ x → Kept s₀ (f y z x))
    :
    Kept s₀ (mdioWrite prtad s₁ f) := by
  unfold mdioWrite
  repeat' (first | with_reducible assumption | with_reducible apply h_f | with_reducible apply Kept.ite | split)

theorem writeHostReq_kept {s₀ s₁ : State} (h₀ : Kept s₀ s₁) (who : Initiator) (p : PortId) (v : Word) :
    Kept s₀ (writeHostReq who p v s₁) := by
  unfold writeHostReq
  repeat' (first | with_reducible assumption | with_reducible apply modPort_kept | with_reducible apply ignored_kept
                 | with_reducible apply written_kept | with_reducible apply Kept.foldl | intro x
                 | with_reducible apply Kept.ite)

theorem hostArrive_kept {s₀ s₁ : State} (h₀ : Kept s₀ s₁) (p : PortId) (late : Bool) (b : Block) :
    Kept s₀ (hostArrive p late b s₁) := by
  unfold hostArrive
  repeat' (first | with_reducible assumption | with_reducible apply modPort_kept | with_reducible apply hostViolation_kept
                 | with_reducible apply reHold_kept | with_reducible apply Kept.foldl | intro x | with_reducible apply Kept.ite)

theorem judgeEvents_kept {s₀ s₁ : State} (h₀ : Kept s₀ s₁) :
    Kept s₀ (judgeEvents s₁) := by
  unfold judgeEvents
  repeat' (first | with_reducible assumption | with_reducible apply mapPorts_kept)

theorem driveFsi_kept {s₀ s₁ : State} (h₀ : Kept s₀ s₁) :
    Kept s₀ (driveFsi s₁) := by
  unfold driveFsi
  repeat' (first | with_reducible assumption | with_reducible apply Kept.foldl | intro x | with_reducible apply Kept.ite
                 | split | with_reducible apply Kept.upd | with_reducible rfl)

theorem writeFsiCtrl_kept {s₀ s₁ : State} (h₀ : Kept s₀ s₁) (v : Word) :
    Kept s₀ (writeFsiCtrl v s₁) := by
  unfold writeFsiCtrl
  repeat' (first | with_reducible assumption | with_reducible apply written_kept | with_reducible apply Kept.foldl
                 | intro x | with_reducible apply Kept.ite | split | with_reducible apply Kept.upd | with_reducible rfl)

theorem diagReply_kept {s₀ s₁ : State} (h₀ : Kept s₀ s₁) (via : Origin) (opcode : Nat) (p : PortId) (status : Nat)
    (payload : List Byte) :
    Kept s₀ (diagReply via opcode p status payload s₁) := by
  unfold diagReply
  repeat' (first | with_reducible assumption | with_reducible apply modPort_kept | with_reducible apply reply_kept)

theorem diagStart_kept {s₀ s₁ : State} (h₀ : Kept s₀ s₁) (via : Origin) (opcode : Nat) (p : PortId) (il bad : Bool)
    (body : State → State) (h_body : ∀ x, Kept s₀ x → Kept s₀ (body x)) :
    Kept s₀ (diagStart via opcode p il bad s₁ body) := by
  unfold diagStart
  repeat' (first | with_reducible assumption | with_reducible apply h_body | with_reducible apply modPort_kept
                 | with_reducible apply diagReply_kept | with_reducible apply portCommand_kept
                 | with_reducible apply reply_kept | with_reducible apply Kept.foldl | (intro x; intros)
                 | with_reducible apply Kept.ite)

theorem diagTake_kept {s₀ s₁ : State} (h₀ : Kept s₀ s₁) (p : PortId) (k : DiagKind) (uses sends : Nat) (tone : Word) :
    Kept s₀ (diagTake p k uses sends tone s₁) := by
  unfold diagTake
  repeat' (first | with_reducible assumption | with_reducible apply freeNat_kept | with_reducible apply mapLanes_kept
                 | with_reducible apply modPort_kept)

theorem keepResults_kept {s₀ s₁ : State} (h₀ : Kept s₀ s₁) (p : PortId) (k : DiagKind) (points : Nat) (ids : List Nat)
    (meas : List DiagMeas) :
    Kept s₀ (keepResults p k points ids meas s₁) := by
  unfold keepResults
  repeat' (first | with_reducible assumption | with_reducible apply modPort_kept)

theorem diagFinish_kept {s₀ s₁ : State} (h₀ : Kept s₀ s₁) (p : PortId) (k : DiagKind) (status : Nat) :
    Kept s₀ (diagFinish p k status s₁) := by
  unfold diagFinish
  repeat' (first | with_reducible assumption | with_reducible apply diagRelease_kept | with_reducible apply diagReply_kept
                 | with_reducible apply Kept.foldl | intro x | with_reducible apply Kept.ite | split
                 | with_reducible apply Kept.upd | with_reducible rfl)

theorem ilFinish_kept {s₀ s₁ : State} (h₀ : Kept s₀ s₁) (p : PortId) (status : Nat) (meas : List DiagMeas) :
    Kept s₀ (ilFinish p status meas s₁) := by
  unfold ilFinish
  repeat' (first | with_reducible assumption | with_reducible apply diagFinish_kept | with_reducible apply keepResults_kept)

theorem stampSent_kept {s₀ s₁ : State} (h₀ : Kept s₀ s₁) (p : PortId) (f : SentFol) :
    Kept s₀ (stampSent p f s₁) := by
  unfold stampSent
  repeat' (first | with_reducible assumption | with_reducible apply stampBlocks_kept | with_reducible apply stampRetry_kept
                 | with_reducible apply Kept.foldl | intro x | with_reducible apply Kept.ite)

theorem sendAlignSlot_kept {s₀ s₁ : State} (h₀ : Kept s₀ s₁) (p : PortId) :
    Kept s₀ (sendAlignSlot p s₁) := by
  unfold sendAlignSlot
  repeat' (first | with_reducible assumption | with_reducible apply modPort_kept | with_reducible apply Kept.foldl
                 | intro x | with_reducible apply Kept.ite)

theorem sendSlot_kept {s₀ s₁ : State} (h₀ : Kept s₀ s₁) (p : PortId) :
    Kept s₀ (sendSlot p s₁) := by
  unfold sendSlot
  repeat' (first | with_reducible assumption | with_reducible apply modPort_kept | with_reducible apply enterDown_kept
                 | with_reducible apply raise_kept | with_reducible apply stampSent_kept | with_reducible apply Kept.foldl
                 | (intro x; intros) | with_reducible apply Kept.ite)

theorem slotDue_kept {s₀ s₁ : State} (h₀ : Kept s₀ s₁) (p : PortId) :
    Kept s₀ (slotDue p s₁) := by
  unfold slotDue
  repeat' (first | with_reducible assumption | with_reducible apply modPort_kept | with_reducible apply capacityAdds_kept
                 | with_reducible apply guarJudge_kept | with_reducible apply judgeWaiting_kept
                 | with_reducible apply quietSettle_kept | with_reducible apply reHold_kept
                 | with_reducible apply resendAdds_kept | with_reducible apply Kept.foldl | intro x
                 | with_reducible apply Kept.ite)

theorem vgaBoundary_kept {s₀ s₁ : State} (h₀ : Kept s₀ s₁) (p : PortId) (n : LaneId) :
    Kept s₀ (vgaBoundary p n s₁) := by
  unfold vgaBoundary
  repeat' (first | with_reducible assumption | with_reducible apply modLane_kept | intro x
                 | with_reducible apply Kept.ite | split | with_reducible apply Kept.upd | with_reducible rfl)

theorem slotAdvance_kept {s₀ s₁ : State} (h₀ : Kept s₀ s₁) (p : PortId) :
    Kept s₀ (slotAdvance p s₁) := by
  unfold slotAdvance
  repeat' (first | with_reducible assumption | with_reducible apply modPort_kept | with_reducible apply leaveSafe_kept
                 | with_reducible apply vgaBoundary_kept | with_reducible apply Kept.foldl | (intro x; intros)
                 | with_reducible apply Kept.ite)

theorem rcClear_kept {s₀ s₁ : State} (h₀ : Kept s₀ s₁) (x : Place) : Kept s₀ (rcClear x s₁) := by
  unfold rcClear
  split
  all_goals repeat' (first | with_reducible assumption | with_reducible apply modPort_kept
                           | with_reducible apply modLane_kept | with_reducible apply modStk_kept
                           | with_reducible apply modPod_kept | with_reducible apply Kept.ite | split
                           | with_reducible apply Kept.upd | with_reducible rfl)

theorem readReg_kept {s₀ s₁ : State} (h₀ : Kept s₀ s₁) (who : Initiator) (a : Nat) :
    Kept s₀ (readReg who a s₁) := by
  unfold readReg
  repeat' (first | with_reducible assumption | with_reducible apply rcClear_kept | with_reducible apply readPpsin_kept
                 | with_reducible apply readTimeNow_kept | with_reducible apply readTsEntry_kept
                 | with_reducible apply readValue_kept | with_reducible apply setLatch_kept
                 | with_reducible apply Kept.foldl | intro x | with_reducible apply Kept.ite | split)

theorem writePortCommit_kept {s₀ s₁ : State} (h₀ : Kept s₀ s₁) (who : Initiator) (p : PortId) (v : Word) :
    Kept s₀ (writePortCommit who p v s₁) := by
  unfold writePortCommit
  repeat' (first | with_reducible assumption | with_reducible apply modPort_kept | with_reducible apply ignored_kept
                 | with_reducible apply written_kept | with_reducible apply Kept.foldl | intro x
                 | with_reducible apply Kept.ite)

theorem writeLaneCommit_kept {s₀ s₁ : State} (h₀ : Kept s₀ s₁) (who : Initiator) (p : PortId) (n : LaneId) (v : Word) :
    Kept s₀ (writeLaneCommit who p n v s₁) := by
  unfold writeLaneCommit
  repeat' (first | with_reducible assumption | with_reducible apply modLane_kept | with_reducible apply modPort_kept
                 | with_reducible apply ignored_kept | with_reducible apply written_kept | with_reducible apply Kept.foldl
                 | intro x | with_reducible apply Kept.ite)

theorem enterLane_kept {s₀ s₁ : State} (h₀ : Kept s₀ s₁) (p : PortId) (n : LaneId) :
    Kept s₀ (enterLane p n s₁) := by
  unfold enterLane
  repeat' (first | with_reducible assumption | with_reducible apply modLane_kept | with_reducible apply modPort_kept
                 | with_reducible apply applyTxCtrl_kept)

theorem linkCtrlEntered_kept {s₀ s₁ : State} (h₀ : Kept s₀ s₁) (p : PortId) :
    Kept s₀ (linkCtrlEntered p s₁) := by
  unfold linkCtrlEntered
  repeat' (first | with_reducible assumption | with_reducible apply modPort_kept | with_reducible apply downDue_kept
                 | with_reducible apply setWaiting_kept | with_reducible apply wakeTrigger_kept | intro x
                 | with_reducible apply Kept.ite)

theorem lane0Off_kept {s₀ s₁ : State} (h₀ : Kept s₀ s₁) (was : Bool) (p : PortId) :
    Kept s₀ (lane0Off was p s₁) := by
  unfold lane0Off
  repeat' (first | with_reducible assumption | with_reducible apply modPort_kept | with_reducible apply downDue_kept
                 | with_reducible apply modSub_kept | with_reducible apply setLink_kept
                 | with_reducible apply waitingDone_kept | with_reducible apply Kept.foldl | intro x
                 | with_reducible apply Kept.ite)

theorem lane0On_kept {s₀ s₁ : State} (h₀ : Kept s₀ s₁) (was : Bool) (p : PortId) :
    Kept s₀ (lane0On was p s₁) := by
  unfold lane0On
  repeat' (first | with_reducible assumption | with_reducible apply enterIeee_kept | intro x
                 | with_reducible apply Kept.ite)

theorem acceptCommit_kept {s₀ s₁ : State} (h₀ : Kept s₀ s₁) (p : PortId) (lane : Option LaneId) :
    Kept s₀ (acceptCommit p lane s₁) := by
  unfold acceptCommit
  repeat' (first | with_reducible assumption | with_reducible apply modLane_kept | with_reducible apply modPort_kept
                 | with_reducible apply enterLane_kept | with_reducible apply lane0Off_kept
                 | with_reducible apply lane0On_kept | with_reducible apply linkCtrlEntered_kept
                 | with_reducible apply startLink_kept | with_reducible apply Kept.foldl | (intro x; intros) | split)

theorem commitJudge_kept {s₀ s₁ : State} (h₀ : Kept s₀ s₁) (p : PortId) :
    Kept s₀ (commitJudge p s₁) := by
  unfold commitJudge
  repeat' (first | with_reducible assumption | with_reducible apply modLane_kept | with_reducible apply modPort_kept
                 | with_reducible apply acceptCommit_kept | with_reducible apply Kept.foldl | intro x
                 | with_reducible apply Kept.ite | split | with_reducible apply Kept.upd | with_reducible rfl)

theorem writeWrStat_kept {s₀ s₁ : State} (h₀ : Kept s₀ s₁) (v : Word) :
    Kept s₀ (writeWrStat v s₁) := by
  unfold writeWrStat
  repeat' (first | with_reducible assumption | with_reducible apply written_kept | with_reducible apply Kept.foldl
                 | intro x | with_reducible apply Kept.ite | split | with_reducible apply Kept.upd | with_reducible rfl)

theorem writeGlob_kept {s₀ s₁ : State} (h₀ : Kept s₀ s₁) (who : Initiator) (o : Nat) (v : Word) :
    Kept s₀ (writeGlob who o v s₁) := by
  unfold writeGlob
  repeat' (first | with_reducible assumption | with_reducible apply ignored_kept | with_reducible apply writeClkCfg_kept
                 | with_reducible apply writeClkGate_kept | with_reducible apply writeFsiCtrl_kept
                 | with_reducible apply writeWrStat_kept | with_reducible apply written_kept
                 | with_reducible apply Kept.foldl | intro x | with_reducible apply Kept.ite | split
                 | with_reducible apply Kept.upd | with_reducible rfl)

theorem writeFault_kept {s₀ s₁ : State} (h₀ : Kept s₀ s₁) (who : Initiator) (o : Nat) (v : Word) :
    Kept s₀ (writeFault who o v s₁) := by
  unfold writeFault
  repeat' (first | with_reducible assumption | with_reducible apply modPod_kept | with_reducible apply clearSticky_kept
                 | with_reducible apply ignored_kept | with_reducible apply writeFltReact_kept
                 | with_reducible apply writeFltSel_kept | with_reducible apply writeRecAck_kept
                 | with_reducible apply written_kept | with_reducible apply Kept.foldl | intro x
                 | with_reducible apply Kept.ite | split | with_reducible apply Kept.upd | with_reducible rfl)

theorem writeSlotMem_kept {s₀ s₁ : State} (h₀ : Kept s₀ s₁) (who : Initiator) (o : Nat) (v : Word) (be : BitVec 4) :
    Kept s₀ (writeSlotMem who o v be s₁) := by
  unfold writeSlotMem
  extract_lets st
  split
  · exact ignored_kept h₀ _ _
  · apply written_kept
    refine h₀.trans ⟨rfl, rfl, fun hm => ?_, le_rfl, le_rfl, fun _ => id⟩
    show memWf (List.foldl _ _ _) = true
    generalize List.range 4 = l
    generalize s₁.fw.mem = m at hm ⊢
    induction l generalizing m with
    | nil => exact hm
    | cons i l ih =>
      apply ih
      dsimp only
      split
      · exact memWrite_wf _ _ hm
      · exact hm

theorem writeMailbox_kept {s₀ s₁ : State} (h₀ : Kept s₀ s₁) (who : Initiator) (o : Nat) (v : Word) :
    Kept s₀ (writeMailbox who o v s₁) := by
  unfold writeMailbox
  repeat' (first | with_reducible assumption | with_reducible apply ignored_kept | with_reducible apply writeDoorbell_kept
                 | with_reducible apply writeRelease_kept | with_reducible apply written_kept
                 | with_reducible apply Kept.foldl | intro x | with_reducible apply Kept.ite | split
                 | with_reducible apply Kept.upd | with_reducible rfl)

theorem writePodReg_kept {s₀ s₁ : State} (h₀ : Kept s₀ s₁) (who : Initiator) (k : PodId) (o : Nat) (v : Word) :
    Kept s₀ (writePodReg who k o v s₁) := by
  unfold writePodReg
  repeat' (first | with_reducible assumption | with_reducible apply ignored_kept | with_reducible apply writeLpllCtrl_kept
                 | with_reducible apply writePodAvs_kept | with_reducible apply Kept.foldl | intro x
                 | with_reducible apply Kept.ite | split)

theorem writeTsCtrl_kept {s₀ s₁ : State} (h₀ : Kept s₀ s₁) (who : Initiator) (p : PortId) (v : Word) :
    Kept s₀ (writeTsCtrl who p v s₁) := by
  unfold writeTsCtrl
  repeat' (first | with_reducible assumption | with_reducible apply modPort_kept | with_reducible apply ignored_kept
                 | with_reducible apply written_kept | with_reducible apply Kept.foldl | intro x
                 | with_reducible apply Kept.ite)

theorem writeDiagCtrl_kept {s₀ s₁ : State} (h₀ : Kept s₀ s₁) (p : PortId) (v : Word) :
    Kept s₀ (writeDiagCtrl p v s₁) := by
  unfold writeDiagCtrl
  repeat' (first | with_reducible assumption | with_reducible apply modPort_kept | with_reducible apply written_kept)

theorem writeReaddCtrl_kept {s₀ s₁ : State} (h₀ : Kept s₀ s₁) (p : PortId) (v : Word) :
    Kept s₀ (writeReaddCtrl p v s₁) := by
  unfold writeReaddCtrl
  repeat' (first | with_reducible assumption | with_reducible apply modPort_kept | with_reducible apply written_kept)

theorem writePortReg_kept {s₀ s₁ : State} (h₀ : Kept s₀ s₁) (who : Initiator) (p : PortId) (o : Nat) (v : Word) :
    Kept s₀ (writePortReg who p o v s₁) := by
  unfold writePortReg
  repeat' (first | with_reducible assumption | with_reducible apply modPort_kept | with_reducible apply clearSticky_kept
                 | with_reducible apply ignored_kept | with_reducible apply writeDiagCtrl_kept
                 | with_reducible apply writeHostReq_kept | with_reducible apply writeLaneReq_kept
                 | with_reducible apply writeLinkReq_kept | with_reducible apply writeLinkSnap_kept
                 | with_reducible apply writePortCommit_kept | with_reducible apply writeReaddCtrl_kept
                 | with_reducible apply writeTsCtrl_kept | with_reducible apply written_kept
                 | with_reducible apply Kept.foldl | intro x | with_reducible apply Kept.ite | split)

theorem writeLaneReg_kept {s₀ s₁ : State} (h₀ : Kept s₀ s₁) (who : Initiator) (p : PortId) (n : LaneId) (o : Nat) (v : Word) :
    Kept s₀ (writeLaneReg who p n o v s₁) := by
  unfold writeLaneReg
  repeat' (first | with_reducible assumption | with_reducible apply modLane_kept | with_reducible apply clearSticky_kept
                 | with_reducible apply ignored_kept | with_reducible apply writeLaneCommit_kept
                 | with_reducible apply writePrbsCtrl_kept | with_reducible apply writeToneReg_kept
                 | with_reducible apply writeTxComp_kept | with_reducible apply written_kept
                 | with_reducible apply Kept.foldl | intro x | with_reducible apply Kept.ite | split)

theorem writePlace_kept {s₀ s₁ : State} (h₀ : Kept s₀ s₁) (who : Initiator) (a : Nat) (v : Word) (x : Place) : Kept s₀
    (writePlace who a v x s₁) := by
  unfold writePlace
  split
  all_goals repeat' (first | with_reducible assumption | with_reducible apply writeGlob_kept
                           | with_reducible apply writeFault_kept | with_reducible apply writeTimeCfg_kept
                           | with_reducible apply writeTimeRate_kept | with_reducible apply writePpsCtrl_kept
                           | with_reducible apply written_kept | with_reducible apply writeMailbox_kept
                           | with_reducible apply writePodReg_kept | with_reducible apply writePortReg_kept
                           | with_reducible apply writeLaneReg_kept | with_reducible apply ignored_kept
                           | with_reducible apply Kept.upd | with_reducible rfl)

theorem writeReg_kept {s₀ s₁ : State} (h₀ : Kept s₀ s₁) (who : Initiator) (a : Nat) (v : Word) (be : BitVec 4) :
    Kept s₀ (writeReg who a v be s₁) := by
  unfold writeReg
  repeat' (first | with_reducible assumption | with_reducible apply ignored_kept | with_reducible apply writeMailbox_kept
                 | with_reducible apply writePlace_kept | with_reducible apply writeSlotMem_kept
                 | with_reducible apply Kept.foldl | intro x | with_reducible apply Kept.ite | split)

theorem cfgSkip_kept {s₀ s₁ : State} (h₀ : Kept s₀ s₁) :
    Kept s₀ (cfgSkip s₁) := by
  unfold cfgSkip
  repeat' (first | with_reducible assumption | with_reducible apply Kept.foldl | intro x | with_reducible apply Kept.ite
                 | split | with_reducible apply Kept.upd | with_reducible rfl)

theorem countIgnored_kept {s₀ s₁ : State} (h₀ : Kept s₀ s₁) :
    Kept s₀ (countIgnored s₁) := by
  unfold countIgnored
  repeat' (first | with_reducible assumption | with_reducible apply busError_kept | with_reducible apply cfgSkip_kept
                 | with_reducible apply ignored_kept | with_reducible apply Kept.foldl | intro x
                 | with_reducible apply Kept.ite)

theorem stageLTx_kept {s₀ s₁ : State} (h₀ : Kept s₀ s₁) (p : PortId) (n : LaneId) (r : LaneSt) (v : Word) :
    Kept s₀ (stageLTx p n r v s₁) := by
  unfold stageLTx
  repeat' (first | with_reducible assumption | with_reducible apply modLane_kept)

theorem stageLTxCtrl_kept {s₀ s₁ : State} (h₀ : Kept s₀ s₁) (p : PortId) (n : LaneId) (v : Word) :
    Kept s₀ (stageLTxCtrl p n v s₁) := by
  unfold stageLTxCtrl
  repeat' (first | with_reducible assumption | with_reducible apply modLane_kept | with_reducible apply cfgSkip_kept
                 | with_reducible apply stageLTx_kept | with_reducible apply txOff_kept | with_reducible apply Kept.foldl
                 | intro x | with_reducible apply Kept.ite)

theorem stageLTaps_kept {s₀ s₁ : State} (h₀ : Kept s₀ s₁) (p : PortId) (n : LaneId) (r : LaneSt) (v : Word) :
    Kept s₀ (stageLTaps p n r v s₁) := by
  unfold stageLTaps
  repeat' (first | with_reducible assumption | with_reducible apply modLane_kept | with_reducible apply cfgSkip_kept
                 | with_reducible apply Kept.foldl | intro x | with_reducible apply Kept.ite)

theorem stageLLane_kept {s₀ s₁ : State} (h₀ : Kept s₀ s₁) (p : PortId) (n : LaneId) (o : Nat) (v : Word) :
    Kept s₀ (stageLLane p n o v s₁) := by
  unfold stageLLane
  repeat' (first | with_reducible assumption | with_reducible apply cfgSkip_kept | with_reducible apply stageLTaps_kept
                 | with_reducible apply stageLTxCtrl_kept | with_reducible apply Kept.foldl | intro x
                 | with_reducible apply Kept.ite | split)

theorem stageLPod_kept {s₀ s₁ : State} (h₀ : Kept s₀ s₁) (k : PodId) (o : Nat) (v : Word) :
    Kept s₀ (stageLPod k o v s₁) := by
  unfold stageLPod
  repeat' (first | with_reducible assumption | with_reducible apply cfgSkip_kept | with_reducible apply countIgnored_kept
                 | with_reducible apply writeLpllCtrl_kept | with_reducible apply writePodAvs_kept
                 | with_reducible apply Kept.foldl | intro x | with_reducible apply Kept.ite | split)

theorem stageLWrite_kept {s₀ s₁ : State} (h₀ : Kept s₀ s₁) (a : Nat) (v : Word) :
    Kept s₀ (stageLWrite a v s₁) := by
  unfold stageLWrite
  repeat' (first | with_reducible assumption | with_reducible apply modPort_kept | with_reducible apply cfgSkip_kept
                 | with_reducible apply countIgnored_kept | with_reducible apply stageLLane_kept
                 | with_reducible apply stageLPod_kept | with_reducible apply writeClkCfg_kept
                 | with_reducible apply writeClkGate_kept | with_reducible apply writeGlob_kept
                 | with_reducible apply Kept.foldl | intro x | with_reducible apply Kept.ite | split)

theorem stageL_kept {s₀ s₁ : State} (h₀ : Kept s₀ s₁) (l : List (BitVec 32 × Word)) : Kept s₀ (stageL l s₁) := by
  induction l generalizing s₁ with
  | nil => exact h₀
  | cons c l ih =>
    unfold stageL
    split
    · exact ih (stageLWrite_kept h₀ _ _)
    · exact h₀
    · exact ih (cfgSkip_kept h₀)
    · exact cfgSkip_kept h₀

theorem linesToIdle_kept {s₀ s₁ : State} (h₀ : Kept s₀ s₁) :
    Kept s₀ (linesToIdle s₁) := by
  unfold linesToIdle
  repeat' (first | with_reducible assumption | with_reducible apply mapLanes_kept | with_reducible apply mapPorts_kept
                 | with_reducible apply Kept.foldl | intro x | with_reducible apply Kept.ite)

theorem applyParams_kept {s₀ s₁ : State} (h₀ : Kept s₀ s₁) (par : DevParams) :
    Kept s₀ (applyParams par s₁) := by
  unfold applyParams
  repeat' (first | with_reducible assumption | with_reducible apply Kept.foldl | intro x | with_reducible apply Kept.ite
                 | split | with_reducible apply Kept.upd | with_reducible rfl)

theorem commitWritten_kept {s₀ s₁ : State} (h₀ : Kept s₀ s₁) (ok : Bool) :
    Kept s₀ (commitWritten ok s₁) := by
  unfold commitWritten
  repeat' (first | with_reducible assumption | with_reducible apply freeNat_kept | with_reducible apply imageRecord_kept
                 | with_reducible apply written_kept | with_reducible apply Kept.foldl | intro x
                 | with_reducible apply Kept.ite | split | with_reducible apply Kept.upd | with_reducible rfl)

theorem messageLeaves_kept {s₀ s₁ : State} (h₀ : Kept s₀ s₁) (k : PodId) :
    Kept s₀ (messageLeaves k s₁) := by
  unfold messageLeaves
  repeat' (first | with_reducible assumption | with_reducible apply modPod_kept)

theorem setJudged_kept {s₀ s₁ : State} (h₀ : Kept s₀ s₁) (p : PortId) :
    Kept s₀ (setJudged p s₁) := by
  unfold setJudged
  repeat' (first | with_reducible assumption | with_reducible apply failTrain_kept | with_reducible apply Kept.ite)

theorem receive_kept {s₀ s₁ : State} (h₀ : Kept s₀ s₁) (p : PortId) (n : LaneId) (samples : List RxSample) :
    Kept s₀ (receive p n samples s₁) := by
  unfold receive
  repeat' (first | with_reducible assumption | with_reducible apply modLane_kept | with_reducible apply modPort_kept)

theorem withSection_kept {s₀ s₁ : State} (h₀ : Kept s₀ s₁) (typ : Nat) (stored : List Byte) (f : List Byte → State)
    (h_f : ∀ b, Kept s₀ (f b)) : Kept s₀ (withSection typ stored s₁ f) := by
  unfold withSection
  repeat' (first | with_reducible assumption | with_reducible apply h_f | with_reducible apply tryCandidates_kept | split)

theorem applyDeviceConfig_kept {s₀ s₁ : State} (h₀ : Kept s₀ s₁) (plain : List Byte) :
    Kept s₀ (applyDeviceConfig plain s₁) := by
  unfold applyDeviceConfig
  extract_lets s₂ s₃ hold
  have h₂ : Kept s₀ s₂ := timingDefaults_kept (applyParams_kept h₀ _)
  have h₃ : Kept s₀ s₃ := stageL_kept (linesToIdle_kept h₂) _
  exact rpllTryStart_kept (Kept.upd h₃ rfl rfl rfl rfl)

theorem streamRestart_kept {s₀ s₁ : State} (h₀ : Kept s₀ s₁) :
    Kept s₀ (streamRestart s₁) := by
  unfold streamRestart
  repeat' (first | with_reducible assumption | with_reducible apply Kept.upd | with_reducible rfl)

theorem sroTrim_kept {s₀ s₁ : State} (h₀ : Kept s₀ s₁) :
    Kept s₀ (sroTrim s₁) := by
  unfold sroTrim
  repeat' (first | with_reducible assumption | with_reducible apply freeNat_kept | with_reducible apply Kept.ite | split
                 | with_reducible apply Kept.upd | with_reducible rfl)

theorem writeParcel_kept {s₀ s₁ : State} (h₀ : Kept s₀ s₁) (p : PortId) (l2h : Bool) :
    Kept s₀ (writeParcel p l2h s₁) := by
  unfold writeParcel
  repeat' (first | with_reducible assumption | with_reducible apply modPort_kept | with_reducible apply countGrant_kept
                 | with_reducible apply reHold_kept | intro x | split | with_reducible apply Kept.upd
                 | with_reducible rfl)

theorem planWaitEnd_kept {s₀ s₁ : State} (h₀ : Kept s₀ s₁) (k : PodId) (g : GroupId) :
    Kept s₀ (planWaitEnd k g s₁) := by
  unfold planWaitEnd
  repeat' (first | with_reducible assumption | with_reducible apply setWaiting_kept | with_reducible apply Kept.foldl
                 | (intro x; intros) | with_reducible apply Kept.ite)

theorem failHostLane_kept {s₀ s₁ : State} (h₀ : Kept s₀ s₁) (p : PortId) (h : HostLaneId) :
    Kept s₀ (failHostLane p h s₁) := by
  unfold failHostLane
  repeat' (first | with_reducible assumption | with_reducible apply modPort_kept | with_reducible apply raise_kept
                 | intro x | with_reducible apply Kept.ite)

theorem stageCEnds_kept {s₀ s₁ : State} (h₀ : Kept s₀ s₁) :
    Kept s₀ (stageCEnds s₁) := by
  unfold stageCEnds
  repeat' (first | with_reducible assumption | with_reducible apply Kept.upd | with_reducible rfl)

theorem subRestart_kept {s₀ s₁ : State} (h₀ : Kept s₀ s₁) (p : PortId) (i : SubId) :
    Kept s₀ (subRestart p i s₁) := by
  unfold subRestart
  repeat' (first | with_reducible assumption | with_reducible apply enterIeee_kept | with_reducible apply modSub_kept
                 | with_reducible apply startLink_kept | intro x | with_reducible apply Kept.ite)

end Sys2Proof
end

