-- ==== Sys2Proof/Laws/ParcelImage.lean ====
section
/-!
SUPPORT. A parcel's slot image is read back (R219): its header and its blocks, with no error found.
-/
namespace Sys2Proof.Laws

open Sys2Proof Sys2Proof.Machine

/-- The bits of pieces packed by shifting, the first piece at the high end. -/
theorem pack_getLsbD {m N : Nat} (f : Nat → BitVec m) (n : Nat) (h : m * n ≤ N) (k j : Nat) (hk : k < n) (hj : j < m) :
    ((List.range n).foldl (fun (a : BitVec N) i => a <<< m ||| (f i).setWidth N) 0#N).getLsbD (m * (n - 1 - k) + j)
      = (f k).getLsbD j := by
  induction n generalizing k with
  | zero => omega
  | succ n ih =>
    rw [List.range_succ, List.foldl_append, List.foldl_cons, List.foldl_nil, BitVec.getLsbD_or, BitVec.getLsbD_shiftLeft,
      BitVec.getLsbD_setWidth]
    rcases Nat.lt_or_ge k n with hn | hn
    · have e : n + 1 - 1 - k = (n - 1 - k) + 1 := by omega
      have hb : m * (n - 1 - k + 1) ≤ m * n := Nat.mul_le_mul_left _ (by omega)
      rw [Nat.mul_add, Nat.mul_one] at h hb
      rw [e, Nat.mul_add, Nat.mul_one, show m * (n - 1 - k) + m + j - m = m * (n - 1 - k) + j from by omega, ih (by omega) k hn,
        BitVec.getLsbD_of_ge (f n) _ (by omega)]
      simp only [Bool.and_false, Bool.or_false]
      rw [decide_eq_true (by omega : m * (n - 1 - k) + m + j < N), decide_eq_false (by omega : ¬ m * (n - 1 - k) + m + j < m)]
      simp
    · have e : k = n := by omega
      subst e
      rw [Nat.mul_add, Nat.mul_one] at h
      have hz : m * (k + 1 - 1 - k) + j = j := by simp
      rw [hz, decide_eq_true hj, decide_eq_true (by omega : j < N)]
      simp

/-- A word's piece of the packed words. -/
theorem pack_extract {m N : Nat} (f : Nat → BitVec m) (n : Nat) (h : m * n ≤ N) (k : Nat) (hk : k < n) :
    ((List.range n).foldl (fun (a : BitVec N) i => a <<< m ||| (f i).setWidth N) 0#N).extractLsb' (m * (n - 1 - k)) m = f k := by
  apply BitVec.eq_of_getLsbD_eq
  intro j hj
  rw [BitVec.getLsbD_extractLsb', decide_eq_true hj, Bool.true_and, pack_getLsbD f n h k j hk hj]

/-- The words of a bit string packed again are the string. -/
theorem pack_words (x : BitVec 31232) :
    (List.range 122).foldl (fun (a : BitVec 31232) k => a <<< 256 ||| (eccWord x k).setWidth 31232) 0#31232 = x := by
  apply BitVec.eq_of_getLsbD_eq
  intro i hi
  have h := pack_getLsbD (N := 31232) (eccWord x) 122 (by omega) (121 - i / 256) (i % 256) (by omega) (by omega)
  rw [show 256 * (122 - 1 - (121 - i / 256)) + i % 256 = i from by omega] at h
  rw [h, eccWord, BitVec.getLsbD_extractLsb', decide_eq_true (by omega), Bool.true_and]
  congr 1
  omega

/-- A word with its own check bits passes. -/
theorem fixWord_own (w : BitVec 256) : fixWord w (Config.secded w) = some (w, false) := by simp [fixWord]

theorem mapM_some {α β : Type} (f : α → Option β) (g : α → β) (l : List α) (h : ∀ x ∈ l, f x = some (g x)) :
    l.mapM f = some (l.map g) := by
  induction l with
  | nil => rfl
  | cons a l ih =>
    rw [List.mapM_cons, h a (by simp), ih (fun x hx => h x (by simp [hx]))]
    rfl

/-- Bits of an appended string that lie in its low part. -/
theorem extract_low {m n : Nat} (x : BitVec m) (y : BitVec n) (s l : Nat) (h : s + l ≤ n) :
    (x ++ y).extractLsb' s l = y.extractLsb' s l := by
  apply BitVec.eq_of_getLsbD_eq
  intro i hi
  simp only [BitVec.getLsbD_extractLsb', BitVec.getLsbD_append, hi]
  rw [if_pos (by omega)]

/-- Bits of an appended string that lie in its high part. -/
theorem extract_high {m n : Nat} (x : BitVec m) (y : BitVec n) (s l : Nat) (h : n ≤ s) :
    (x ++ y).extractLsb' s l = x.extractLsb' (s - n) l := by
  apply BitVec.eq_of_getLsbD_eq
  intro i hi
  simp only [BitVec.getLsbD_extractLsb', BitVec.getLsbD_append, hi]
  rw [if_neg (by omega), show s + i - n = s - n + i from by omega]

/-- All the bits of a string. -/
theorem extract_all {m : Nat} (x : BitVec m) : x.extractLsb' 0 m = x := by
  apply BitVec.eq_of_getLsbD_eq
  intro i hi
  simp [hi]

/-- A bit of a string as one extracted. -/
theorem getLsbD_extract {m : Nat} (x : BitVec m) (i : Nat) : x.getLsbD i = (x.extractLsb' i 1).getLsbD 0 := by simp

/-- The header's 32 bytes give the header. -/
theorem ParcelHeader_ofBits_bits (h : ParcelHeader) : ParcelHeader.ofBits h.bits = h := by
  obtain ⟨gen, port, l2h, cls, count, pseq, next⟩ := h
  simp only [ParcelHeader.ofBits, ParcelHeader.bits, ParcelHeader.mk.injEq]
  refine ⟨?_, ?_, ?_, ?_, ?_, ?_, ?_⟩
  · iterate 9 rw [extract_high _ _ _ _ (by omega)]
    exact extract_all _
  · iterate 8 rw [extract_high _ _ _ _ (by omega)]
    rw [extract_low _ _ _ _ (by omega)]
    exact extract_all _
  · rw [getLsbD_extract]
    iterate 7 rw [extract_high _ _ _ _ (by omega)]
    rw [extract_low _ _ _ _ (by omega)]
    cases l2h <;> rfl
  · iterate 6 rw [extract_high _ _ _ _ (by omega)]
    rw [extract_low _ _ _ _ (by omega)]
    exact extract_all _
  · iterate 4 rw [extract_high _ _ _ _ (by omega)]
    rw [extract_low _ _ _ _ (by omega)]
    exact extract_all _
  · iterate 2 rw [extract_high _ _ _ _ (by omega)]
    rw [extract_low _ _ _ _ (by omega)]
    exact extract_all _
  · iterate 1 rw [extract_high _ _ _ _ (by omega)]
    rw [extract_low _ _ _ _ (by omega)]
    exact extract_all _

/-- A parcel's slot image is read back whole, and with no error (R219). -/
theorem readSlot_slotImage (a : BitVec 30960) (h : ParcelHeader) :
    readSlot (slotImage a h) = some (h, (List.range (Nat.min 120 h.count.toNat)).map (areaBlock a), false) := by
  have hx : (slotImage a h).extractLsb' 1552 31216 ++ 0#16 = a ++ h.bits ++ 0#16 := by
    unfold slotImage
    rw [extract_high _ _ _ _ (by omega), extract_high _ _ _ _ (by omega)]
    exact congrArg (· ++ 0#16) (extract_all _)
  have hc : ∀ k, k < 122 → (slotImage a h).extractLsb' (332 + 10 * (121 - k)) 10
      = Config.secded (eccWord (a ++ h.bits ++ 0#16) k) := by
    intro k hk
    unfold slotImage
    rw [extract_high _ _ _ _ (by omega), extract_low _ _ _ _ (by omega),
      show 332 + 10 * (121 - k) - 332 = 10 * (122 - 1 - k) from by omega]
    exact pack_extract (N := 1220) (fun i => Config.secded (eccWord (a ++ h.bits ++ 0#16) i)) 122 (by omega) k hk
  have hw : fixWords (slotImage a h) = some ((List.range 122).map fun k => (eccWord (a ++ h.bits ++ 0#16) k, false)) := by
    apply mapM_some
    intro k hk
    rw [hx, hc k (List.mem_range.mp hk)]
    exact fixWord_own _
  have ha : (a ++ h.bits ++ 0#16).extractLsb' 272 30960 = a := by
    rw [extract_high _ _ _ _ (by omega), extract_high _ _ _ _ (by omega)]
    exact extract_all _
  have hh : (a ++ h.bits ++ 0#16).extractLsb' 16 256 = h.bits := by
    rw [extract_high _ _ _ _ (by omega), extract_low _ _ _ _ (by omega)]
    exact extract_all _
  have hp : ((List.range 122).map fun k => (eccWord (a ++ h.bits ++ 0#16) k, false)).foldl
      (fun (y : BitVec 31232) w => y <<< 256 ||| w.1.setWidth 31232) 0#31232 = a ++ h.bits ++ 0#16 := by
    rw [List.foldl_map]
    exact pack_words _
  unfold readSlot
  rw [hw]
  simp only [Option.map_some, hp, hh, ha, ParcelHeader_ofBits_bits]
  simp

end Sys2Proof.Laws
end

