-- ==== Sys2Proof/Laws/PortOnly.lean ====
section
/-!
SUPPORT. What an operation on one port leaves: each such operation keeps PortOnly from any earlier state.
-/
namespace Sys2Proof

open Sys2Proof.Machine

theorem PortOnly.refl (p : PortId) (s : State) : PortOnly p s s := ⟨fun _ _ => rfl, rfl⟩

theorem PortOnly.foldl {α} {p : PortId} {s t : State} {l : List α} {f : State → α → State}
    (k : ∀ t x, PortOnly p s t → PortOnly p s (f t x)) (h : PortOnly p s t) :
   PortOnly p s (l.foldl f t) := by
  induction l generalizing t with
  | nil => exact h
  | cons x xs ih => exact ih (k _ _ h)

theorem PortOnly.ite {p : PortId} {c : Prop} [Decidable c] {s a b : State} (ha : PortOnly p s a)
    (hb : PortOnly p s b) : PortOnly p s (if c then a else b) := by
  split
  · exact ha
  · exact hb

theorem PortOnly.upd {p : PortId} {s t : State} (n : Nat) (h : PortOnly p s t) : PortOnly p s
   ⟨t.part, n, t.uptime, t.ports, t.pods, t.flt, t.fw, t.ledger, t.store, t.fsi, t.reg, t.clk, t.pwr, t.boot, t.test, t.stack, t.time, t.cal, t.cap, t.pending⟩ := by
  refine ⟨h.1, ?_⟩
  have := h.2
  rw [this]

theorem modPort_portonly {p : PortId} {s₀ s₁ : State} (h₀ : PortOnly p s₀ s₁) (f : Port → Port) :
    PortOnly p s₀ (State.modPort s₁ p f) := by
  refine ⟨fun q hq => ?_, ?_⟩
  · rw [← h₀.1 q hq]
    exact modPort_port_other _ _ _ _ (Ne.symm hq)
  · have := h₀.2
    rw [this]
    rfl

theorem modLane_portonly {s₀ s₁ : State} (p : PortId) (n : LaneId) (f : Lane → Lane) (h₀ : PortOnly p s₀ s₁) :
    PortOnly p s₀ (State.modLane s₁ p n f) := by
  unfold State.modLane
  repeat' (first | with_reducible assumption | with_reducible apply modPort_portonly)

theorem mapLanes_portonly {s₀ s₁ : State} (p : PortId) (f : LaneId → Lane → Lane) (h₀ : PortOnly p s₀ s₁) :
    PortOnly p s₀ (State.mapLanes s₁ p f) := by
  unfold State.mapLanes
  repeat' (first | with_reducible assumption | with_reducible apply modPort_portonly)

theorem queueCm_portonly {s₀ s₁ : State} (p : PortId) (t : Nat) (payload : List Byte) (h₀ : PortOnly p s₀ s₁) :
    PortOnly p s₀ (queueCm p t payload s₁) := by
  unfold queueCm
  repeat' (first | with_reducible assumption | with_reducible apply modPort_portonly)

theorem sendDiff_portonly {s₀ s₁ : State} (p : PortId) (t sf : Nat) (reply : Bool) (payload : List Byte) (h₀ : PortOnly p s₀ s₁) :
    PortOnly p s₀ (sendDiff p t sf reply payload s₁) := by
  unfold sendDiff
  repeat' (first | with_reducible assumption | with_reducible apply modPort_portonly)

theorem sendMgmt_portonly {s₀ s₁ : State} (p : PortId) (kind tag : Nat) (packet : List Byte) (h₀ : PortOnly p s₀ s₁) :
    PortOnly p s₀ (sendMgmt p kind tag packet s₁) := by
  unfold sendMgmt
  repeat' (first | with_reducible assumption | with_reducible apply queueCm_portonly | with_reducible apply sendDiff_portonly
                 | with_reducible apply PortOnly.foldl | (intro x; intros) | with_reducible apply PortOnly.ite)

theorem txToSafe_portonly {s₀ s₁ : State} (p : PortId) (h₀ : PortOnly p s₀ s₁) :
    PortOnly p s₀ (txToSafe p s₁) := by
  unfold txToSafe
  repeat' (first | with_reducible assumption | with_reducible apply mapLanes_portonly)

theorem hostToSafe_portonly {s₀ s₁ : State} (p : PortId) (h₀ : PortOnly p s₀ s₁) :
    PortOnly p s₀ (hostToSafe p s₁) := by
  unfold hostToSafe
  repeat' (first | with_reducible assumption | with_reducible apply modPort_portonly)

theorem diagRelease_portonly {s₀ s₁ : State} (p : PortId) (h₀ : PortOnly p s₀ s₁) :
    PortOnly p s₀ (diagRelease p s₁) := by
  unfold diagRelease
  repeat' (first | with_reducible assumption | with_reducible apply mapLanes_portonly | with_reducible apply modPort_portonly)

theorem reHold_portonly {s₀ s₁ : State} (p : PortId) (h₀ : PortOnly p s₀ s₁) :
    PortOnly p s₀ (reHold p s₁) := by
  unfold reHold
  repeat' (first | with_reducible assumption | with_reducible apply modPort_portonly | with_reducible apply PortOnly.foldl
                 | intro x | with_reducible apply PortOnly.ite)

theorem holdFall_portonly {s₀ s₁ : State} (p : PortId) (h₀ : PortOnly p s₀ s₁) :
    PortOnly p s₀ (holdFall p s₁) := by
  unfold holdFall
  repeat' (first | with_reducible assumption | with_reducible apply modPort_portonly | with_reducible apply PortOnly.foldl
                 | intro x | with_reducible apply PortOnly.ite)

theorem guarRise_portonly {s₀ s₁ : State} (p : PortId) (h₀ : PortOnly p s₀ s₁) :
    PortOnly p s₀ (guarRise p s₁) := by
  unfold guarRise
  repeat' (first | with_reducible assumption | with_reducible apply modPort_portonly | with_reducible apply PortOnly.foldl
                 | intro x | with_reducible apply PortOnly.ite)

theorem setLoop_portonly {s₀ s₁ : State} (p : PortId) (n : LaneId) (k : LoopKind) (h₀ : PortOnly p s₀ s₁) :
    PortOnly p s₀ (setLoop p n k s₁) := by
  unfold setLoop
  repeat' (first | with_reducible assumption | with_reducible apply modLane_portonly)

theorem queueTs_portonly {s₀ s₁ : State} (p : PortId) (h₀ : PortOnly p s₀ s₁) :
    PortOnly p s₀ (queueTs p s₁) := by
  unfold queueTs
  repeat' (first | with_reducible assumption | with_reducible apply queueCm_portonly | with_reducible apply PortOnly.foldl
                 | intro x | with_reducible apply PortOnly.ite)

theorem tsRise_portonly {s₀ s₁ : State} (p : PortId) (h₀ : PortOnly p s₀ s₁) :
    PortOnly p s₀ (tsRise p s₁) := by
  unfold tsRise
  repeat' (first | with_reducible assumption | with_reducible apply modPort_portonly | with_reducible apply queueTs_portonly
                 | intro x | with_reducible apply PortOnly.ite)

theorem ctleStepCheck_portonly {s₀ s₁ : State} (p : PortId) (n : LaneId) (h₀ : PortOnly p s₀ s₁) :
    PortOnly p s₀ (ctleStepCheck p n s₁) := by
  unfold ctleStepCheck
  repeat' (first | with_reducible assumption | with_reducible apply modLane_portonly | with_reducible apply PortOnly.foldl
                 | intro x | with_reducible apply PortOnly.ite | split)

theorem windowDrift_portonly {s₀ s₁ : State} (p : PortId) (n : LaneId) (h₀ : PortOnly p s₀ s₁) :
    PortOnly p s₀ (windowDrift p n s₁) := by
  unfold windowDrift
  repeat' (first | with_reducible assumption | with_reducible apply modLane_portonly | with_reducible apply PortOnly.foldl
                 | intro x | with_reducible apply PortOnly.ite)

theorem shedRecord_portonly {s₀ s₁ : State} (p : PortId) (cause lane : Nat) (h₀ : PortOnly p s₀ s₁) :
    PortOnly p s₀ (shedRecord p cause lane s₁) := by
  unfold shedRecord
  repeat' (first | with_reducible assumption | with_reducible apply modPort_portonly)

theorem sendNotice_portonly {s₀ s₁ : State} (p : PortId) (t : Nat) (body : List Byte) (h₀ : PortOnly p s₀ s₁) :
    PortOnly p s₀ (sendNotice p t body s₁) := by
  unfold sendNotice
  repeat' (first | with_reducible assumption | with_reducible apply modPort_portonly | with_reducible apply queueCm_portonly)

theorem sendLaneNotice_portonly {s₀ s₁ : State} (p : PortId) (kind : Nat) (h₀ : PortOnly p s₀ s₁) :
    PortOnly p s₀ (sendLaneNotice p kind s₁) := by
  unfold sendLaneNotice
  repeat' (first | with_reducible assumption | with_reducible apply sendNotice_portonly)

theorem sendAck_portonly {s₀ s₁ : State} (p : PortId) (id typ what epoch : Nat) (h₀ : PortOnly p s₀ s₁) :
    PortOnly p s₀ (sendAck p id typ what epoch s₁) := by
  unfold sendAck
  repeat' (first | with_reducible assumption | with_reducible apply queueCm_portonly)

theorem sendDecline_portonly {s₀ s₁ : State} (p : PortId) (id typ lane reason epoch : Nat) (h₀ : PortOnly p s₀ s₁) :
    PortOnly p s₀ (sendDecline p id typ lane reason epoch s₁) := by
  unfold sendDecline
  repeat' (first | with_reducible assumption | with_reducible apply queueCm_portonly)

theorem sendAddNotice_portonly {s₀ s₁ : State} (p : PortId) (n : LaneId) (h₀ : PortOnly p s₀ s₁) :
    PortOnly p s₀ (sendAddNotice p n s₁) := by
  unfold sendAddNotice
  repeat' (first | with_reducible assumption | with_reducible apply modPort_portonly | with_reducible apply sendNotice_portonly)

theorem beginAdd_portonly {s₀ s₁ : State} (p : PortId) (n : LaneId) (h₀ : PortOnly p s₀ s₁) :
    PortOnly p s₀ (beginAdd p n s₁) := by
  unfold beginAdd
  repeat' (first | with_reducible assumption | with_reducible apply modLane_portonly | with_reducible apply modPort_portonly)

theorem failAdd_portonly {s₀ s₁ : State} (p : PortId) (n : LaneId) (h₀ : PortOnly p s₀ s₁) :
    PortOnly p s₀ (failAdd p n s₁) := by
  unfold failAdd
  repeat' (first | with_reducible assumption | with_reducible apply modLane_portonly
                 | with_reducible apply modPort_portonly | with_reducible apply shedRecord_portonly)

theorem cancelAdds_portonly {s₀ s₁ : State} (p : PortId) (h₀ : PortOnly p s₀ s₁) :
    PortOnly p s₀ (cancelAdds p s₁) := by
  unfold cancelAdds
  repeat' (first | with_reducible assumption | with_reducible apply mapLanes_portonly | with_reducible apply modPort_portonly)

theorem downDue_portonly {s₀ s₁ : State} (p : PortId) (cause : Nat) (h₀ : PortOnly p s₀ s₁) :
    PortOnly p s₀ (downDue p cause s₁) := by
  unfold downDue
  repeat' (first | with_reducible assumption | with_reducible apply modPort_portonly)

theorem proposePlan_portonly {s₀ s₁ : State} (p : PortId) (mask : Nat) (cap : Bool) (who : Nat) (h₀ : PortOnly p s₀ s₁) :
    PortOnly p s₀ (proposePlan p mask cap who s₁) := by
  unfold proposePlan
  repeat' (first | with_reducible assumption | with_reducible apply modPort_portonly
                 | with_reducible apply sendLaneNotice_portonly)

theorem proposeAdds_portonly {s₀ s₁ : State} (p : PortId) (h₀ : PortOnly p s₀ s₁) :
    PortOnly p s₀ (proposeAdds p s₁) := by
  unfold proposeAdds
  repeat' (first | with_reducible assumption | with_reducible apply modPort_portonly)

theorem adoptPlan_portonly {s₀ s₁ : State} (p : PortId) (nextMap epoch : Nat) (h₀ : PortOnly p s₀ s₁) :
    PortOnly p s₀ (adoptPlan p nextMap epoch s₁) := by
  unfold adoptPlan
  repeat' (first | with_reducible assumption | with_reducible apply modPort_portonly)

theorem headReliability_portonly {s₀ s₁ : State} (p : PortId) (h : Head) (h₀ : PortOnly p s₀ s₁) :
    PortOnly p s₀ (headReliability p h s₁) := by
  unfold headReliability
  repeat' (first | with_reducible assumption | with_reducible apply modPort_portonly)

theorem missAlign_portonly {s₀ s₁ : State} (p : PortId) (n : LaneId) (h₀ : PortOnly p s₀ s₁) :
    PortOnly p s₀ (missAlign p n s₁) := by
  unfold missAlign
  repeat' (first | with_reducible assumption | with_reducible apply modLane_portonly | with_reducible apply PortOnly.foldl
                 | intro x | with_reducible apply PortOnly.ite | split)

theorem resendAdds_portonly {s₀ s₁ : State} (p : PortId) (h₀ : PortOnly p s₀ s₁) :
    PortOnly p s₀ (resendAdds p s₁) := by
  unfold resendAdds
  repeat' (first | with_reducible assumption | with_reducible apply modPort_portonly
                 | with_reducible apply sendAddNotice_portonly | with_reducible apply PortOnly.foldl | (intro x; intros)
                 | with_reducible apply PortOnly.ite | split | with_reducible apply PortOnly.upd)

theorem capacityAdds_portonly {s₀ s₁ : State} (p : PortId) (h₀ : PortOnly p s₀ s₁) :
    PortOnly p s₀ (capacityAdds p s₁) := by
  unfold capacityAdds
  repeat' (first | with_reducible assumption | with_reducible apply modLane_portonly
                 | with_reducible apply sendAddNotice_portonly | with_reducible apply PortOnly.foldl | intro x
                 | with_reducible apply PortOnly.ite | split)

theorem modInst_portonly {s₀ s₁ : State} (p : PortId) (cm : Bool) (f : SndInst → SndInst) (h₀ : PortOnly p s₀ s₁) :
    PortOnly p s₀ (modInst p cm f s₁) := by
  unfold modInst
  repeat' (first | with_reducible assumption | with_reducible apply modPort_portonly)

theorem answerCall_portonly {s₀ s₁ : State} (p : PortId) (c : CallInfo) (sf : Nat) (pairTx : Bool) (snr : Int)
    (h₀ : PortOnly p s₀ s₁) :
    PortOnly p s₀ (answerCall p c sf pairTx snr s₁) := by
  unfold answerCall
  repeat' (first | with_reducible assumption | with_reducible apply modPort_portonly)

theorem sendOffer_portonly {s₀ s₁ : State} (p : PortId) (no : Nat) (h₀ : PortOnly p s₀ s₁) :
    PortOnly p s₀ (sendOffer p no s₁) := by
  unfold sendOffer
  repeat' (first | with_reducible assumption | with_reducible apply modPort_portonly | with_reducible apply PortOnly.foldl
                 | intro x | with_reducible apply PortOnly.ite | split)

theorem applyGo_portonly {s₀ s₁ : State} (p : PortId) (h₀ : PortOnly p s₀ s₁) :
    PortOnly p s₀ (applyGo p s₁) := by
  unfold applyGo
  repeat' (first | with_reducible assumption | with_reducible apply mapLanes_portonly | with_reducible apply modPort_portonly)

theorem failTrain_portonly {s₀ s₁ : State} (p : PortId) (code : Nat) (h₀ : PortOnly p s₀ s₁) :
    PortOnly p s₀ (failTrain p code s₁) := by
  unfold failTrain
  repeat' (first | with_reducible assumption | with_reducible apply modPort_portonly | with_reducible apply downDue_portonly)

theorem modSub_portonly {s₀ s₁ : State} (p : PortId) (i : SubId) (f : IeeeSub → IeeeSub) (h₀ : PortOnly p s₀ s₁) :
    PortOnly p s₀ (modSub p i f s₁) := by
  unfold modSub
  repeat' (first | with_reducible assumption | with_reducible apply modPort_portonly)

theorem keepResults_portonly {s₀ s₁ : State} (p : PortId) (k : DiagKind) (points : Nat) (ids : List Nat)
    (meas : List DiagMeas) (h₀ : PortOnly p s₀ s₁) :
    PortOnly p s₀ (keepResults p k points ids meas s₁) := by
  unfold keepResults
  repeat' (first | with_reducible assumption | with_reducible apply modPort_portonly)

theorem sendAlignSlot_portonly {s₀ s₁ : State} (p : PortId) (h₀ : PortOnly p s₀ s₁) :
    PortOnly p s₀ (sendAlignSlot p s₁) := by
  unfold sendAlignSlot
  repeat' (first | with_reducible assumption | with_reducible apply modPort_portonly | with_reducible apply PortOnly.foldl
                 | intro x | with_reducible apply PortOnly.ite)

theorem stageLTx_portonly {s₀ s₁ : State} (p : PortId) (n : LaneId) (r : LaneSt) (v : Word) (h₀ : PortOnly p s₀ s₁) :
    PortOnly p s₀ (stageLTx p n r v s₁) := by
  unfold stageLTx
  repeat' (first | with_reducible assumption | with_reducible apply modLane_portonly)

theorem setJudged_portonly {s₀ s₁ : State} (p : PortId) (h₀ : PortOnly p s₀ s₁) :
    PortOnly p s₀ (setJudged p s₁) := by
  unfold setJudged
  repeat' (first | with_reducible assumption | with_reducible apply failTrain_portonly | with_reducible apply PortOnly.ite
                 | split)

theorem receive_portonly {s₀ s₁ : State} (p : PortId) (n : LaneId) (samples : List RxSample) (h₀ : PortOnly p s₀ s₁) :
    PortOnly p s₀ (receive p n samples s₁) := by
  unfold receive
  repeat' (first | with_reducible assumption | with_reducible apply modLane_portonly | with_reducible apply modPort_portonly
                 | (intro x; intros) | with_reducible apply PortOnly.upd)

end Sys2Proof
end

