-- ==== Sys2Proof/Machine/Outputs.lean ====
section
/-!
DEFINITION. The device's output pins as a state shows them, from the moment VDD_IO is within its range (R380, R381, R537, Table 15.4).
The line transmitters are LaneTx.state, FSI_D is FsiSt.d, and PPS_OUT and VPP_EN are fields of their own.
-/
namespace Sys2Proof.Machine

/-- What a pin shows: driven low or high, not driven, or what its boundary-scan cell holds. -/
inductive Pin where
  | low | high | highZ | cell
deriving DecidableEq, Repr

/-- A pin as the instruction of the TAP leaves it (R409, R410): the scan cells take the pins, and HIGHZ releases them. -/
def State.scanned (s : State) (core : Pin) : Pin :=
  if s.test.jtag = .highz then .highZ else if s.test.jtag.takesPins then .cell else core

/-- An open-drain output (R537): it sinks while asserted, and releases when VDD_IO falls. -/
def State.openDrain (s : State) (asserted : Bool) : Pin :=
  if s.pwr.lost.contains .io then .highZ else s.scanned (if asserted then .low else .highZ)

/-- What Capture-DR of IDCODE gives (R409). -/
def State.idcode (s : State) : Word := s.part.idcode

/-- IRQ_N (R380, R381, R430): first driven at CONFIG_DONE. -/
def State.irqPin (s : State) : Pin := s.openDrain (s.boot.configDone && s.irqN)

/-- FAULT_N (R380, R381, R426): low until boot step 6 releases it, and whenever it is asserted. -/
def State.faultPin (s : State) : Pin := s.openDrain (s.boot.inReset || s.flt.faultN)

/-- THERMTRIP_N (R368, R380). -/
def State.thermTripPin (s : State) : Pin := s.openDrain s.pwr.trip

/-- PPS_OUT (R380): low until the time unit runs. -/
def State.ppsPin (s : State) : Pin := s.scanned (if s.time.ppsOut then .high else .low)

/-- VPP_EN (R380): high only while fuses are programmed. -/
def State.vppPin (s : State) : Pin := s.scanned (if s.test.vppEn then .high else .low)

/-- FL_CS_N (R380): held high until the flash master drives it at step 3. -/
def State.flCsHeldHigh (s : State) : Bool := s.boot.inReset || decide (s.boot.step < 2)

/-- The host transmit lanes of a port are in electrical idle (R251, R380). -/
def State.hostTxIdle (s : State) (p : PortId) : Bool := decide ((s.port p).host.tx = .idle)

/-- The stack transmit lanes are in electrical idle (R380): until the stack PLL locks after step 2. -/
def State.stackTxIdle (s : State) : Bool := decide (s.boot.step < 1) || !s.clk.stkLock

/-- The CXL transmit lanes of a link are in electrical idle (R380): until SPILL_INIT trains it. -/
def State.cxlTxIdle (s : State) (m : Fin 8) : Bool := decide ((s.store.mx[m.val]).state = 0)

/-- The AVS clock and data lines are held low (R360, R380): the first Voltage write comes with step 7. -/
def State.avsHeldLow (s : State) : Bool := decide (s.boot.step < 6)

/-- FSI_D as driven (R252 to R254, R380): 0x8888_8888 until CONFIG_DONE, whatever FSI_SEL and the mode. -/
def State.fsiPins (s : State) : Word := if s.boot.configDone then s.fsi.d else 0x88888888

end Sys2Proof.Machine
end

