-- ==== Sys2Proof/Machine/Package.lean ====
section
/-!
DEFINITION. The ball field of the package (R350 to R354): the tiles, their local coordinates and what each ball carries.
-/
namespace Sys2Proof.Machine

/-- A tile of the ball field (Table 14.1). -/
inductive Tile where
  | pod (k : PodId)
  | hub
deriving DecidableEq, Repr

/-- What a ball carries (R351 to R354). `leg` is true for the _P leg of a pair. -/
inductive BallUse where
  | line (p : PortId) (tx : Bool) (n : Nat) (leg : Bool)
  | host (p : PortId) (tx : Bool) (n : Nat) (leg : Bool)
  | cxl (m : Nat) (tx : Bool) (n : Nat) (leg : Bool)
  | stackData (s : Nat) (tx : Bool) (n : Nat) (leg : Bool)
  | stackClock (s : Nat) (tx : Bool) (leg : Bool)
  | single (q : Nat)
  /-- sites 0 to 5 of hub row 19: REFCLK, PE_REFCLK, PE_TX0, PE_TX1, PE_RX0, PE_RX1 -/
  | refPair (site : Nat) (leg : Bool)
  | supply (r : Rail)
  /-- VDDA_HOST for the CXL lanes and the CXL PLL -/
  | supplyCxl
  | vppFuse
  | ground
  | reserved
deriving DecidableEq, Repr

/-- The tile of a ball and its local coordinates (Table 14.1): row and column run from 1 to 126. -/
def tileOf (row col : Nat) : Tile × Nat × Nat :=
  if row ≤ 42 then
    if col ≤ 42 then (.pod 0, row - 1, col - 1)
    else if col ≤ 84 then (.pod 1, row - 1, col - 43)
    else (.pod 2, row - 1, col - 85)
  else if row ≤ 84 then
    if col ≤ 42 then (.pod 7, col - 1, 84 - row)
    else if col ≤ 84 then (.hub, row - 43, col - 43)
    else (.pod 3, 126 - col, row - 43)
  else
    if col ≤ 42 then (.pod 6, 126 - row, 42 - col)
    else if col ≤ 84 then (.pod 5, 126 - row, 84 - col)
    else (.pod 4, 126 - row, 126 - col)

/-- A port of a pod by its index. -/
def podPort (k : PodId) (i : Nat) : Option PortId :=
  if h : i < 12 then some ⟨12 * k.val + i, by omega⟩ else none

/-- What a pod tile's ball carries (R351, R352). -/
def podBall (k : PodId) (u v : Nat) : BallUse :=
  let leg := decide (v % 3 = 0)
  if u ≤ 13 then
    if v % 3 = 2 then .ground
    else
      let q := 14 * u + v / 3
      match podPort k (q / 16) with
      | some p => .line p (decide (q % 16 < 8)) (q % 8) leg
      | none => .ground
  else if u ≤ 34 then
    if v % 3 = 2 then .ground
    else
      let q := 14 * (u - 14) + v / 3
      match podPort k (q / 24) with
      | some p => .host p (decide (q % 24 < 12)) (q % 12) leg
      | none => .ground
  else if u ≤ 38 then .supply (.pod k)
  else if u = 39 then .supply .vddaLine
  else if u = 40 then .supply .vddaHost
  else .supply .vddhLine

/-- What a hub tile's ball carries (R351, R353, Table 14.2). -/
def hubBall (u v : Nat) : BallUse :=
  let leg := decide (v % 3 = 0)
  if u ≤ 9 then
    let q := 14 * u + v / 3
    if v % 3 = 2 || 128 ≤ q then .ground else .cxl (q / 16) (decide (q % 16 < 8)) (q % 8) leg
  else if 11 ≤ u && u ≤ 13 then
    let q := 14 * (u - 11) + v / 3
    if v % 3 = 2 || 40 ≤ q then .ground
    else if q % 10 < 4 then .stackData (q / 10) true (q % 10) leg
    else if q % 10 < 8 then .stackData (q / 10) false (q % 10 - 4) leg
    else .stackClock (q / 10) (decide (q % 10 = 8)) leg
  else if 15 ≤ u && u ≤ 17 then
    if v % 3 = 2 then .ground
    else
      let q := 28 * (u - 15) + 2 * (v / 3) + v % 3
      if 81 ≤ q then .reserved else .single q
  else if u = 19 then (if v % 3 = 2 || 6 ≤ v / 3 then .ground else .refPair (v / 3) leg)
  else if 20 ≤ u && u ≤ 32 && u % 2 = 0 then .supply .hub
  else if u = 34 || u = 36 then (if v ≤ 13 then .supplyCxl else .supply .vddaHost)
  else if u = 38 then (if v ≤ 20 then .supply .io else if v ≤ 40 then .supply .aon else .vppFuse)
  else .ground

/-- What a ball carries. -/
def ballUse (row col : Nat) : BallUse :=
  let t := tileOf row col
  match t.1 with
  | .pod k => podBall k t.2.1 t.2.2
  | .hub => hubBall t.2.1 t.2.2

/-- The ball is connected inside the package of a part (R354): every ground ball is; on the MLB-9620S the CXL field and its supply are
not, on the MLB-9648A the signals and supplies of the tiles of absent pods are not. -/
def ballConnected (x : Part) (row col : Nat) : Bool :=
  match ballUse row col with
  | .ground => true
  | .reserved => false
  | .cxl _ _ _ _ | .supplyCxl => x.hasStore
  | _ =>
    match (tileOf row col).1 with
    | .pod k => x.hasPod k
    | .hub => true

/-- The ball of a line pair's leg on Pod 0's tile, turned to its pod's tile (Table 14.1): row and column of local coordinates. -/
def ballAt (t : Tile) (u v : Nat) : Nat × Nat :=
  match t with
  | .hub => (u + 43, v + 43)
  | .pod k =>
    match k.val with
    | 0 => (u + 1, v + 1)
    | 1 => (u + 1, v + 43)
    | 2 => (u + 1, v + 85)
    | 3 => (v + 43, 126 - u)
    | 4 => (126 - u, 126 - v)
    | 5 => (126 - u, 84 - v)
    | 6 => (126 - u, 42 - v)
    | _ => (84 - v, u + 1)

end Sys2Proof.Machine
end

