-- ==== Sys2Proof/WellFormed.lean ====
section
/-!
DEFINITION. Which commands are well formed: fields within the widths that their packets, frames and tables give them, and lists of
the length those give. Every meaning is total: an ill-formed command still answers.
-/
namespace Sys2Proof

open Sys2Proof.Machine

/-- A number fits a field of w bits. -/
def fits (w n : Nat) : Bool := decide (n < 2 ^ w)

/-- Who issued a packet, within its fields (R458, R498). -/
def viaOk : Origin → Bool
  | .tunnel member tag => fits 8 member && fits 8 tag
  | .farEnd _ tag => fits 8 tag
  | .slot _ | .stageC => true

/-- A sample's codes fit the 8-bit converters, for the lane and its seven neighbours (R62, R63). -/
def sampleOk (x : RxSample) : Bool :=
  fits 8 x.txPair && fits 8 x.rxPair && decide (x.near.length = 7) && (x.own :: x.near).all fun c => decide (-128 ≤ c) && decide (c ≤ 127)

/-- A folio carries 30 blocks, and its symbols are numbered 0 to 859 (R97, R99). -/
def foliOk (f : RxFolio) : Bool := decide (f.blocks.length = 30) && f.errs.all (fun j => decide (j < 860)) && f.rel.all (fits 4) && f.invalid.all fun i => decide (i < 30)

/-- The fields of a CALL or RETURN (Table 5.8). -/
def callFits (c : CallInfo) : Bool :=
  fits 4 c.version && fits 4 c.part && fits 64 c.uid && fits 8 c.port && fits 8 c.lanes && fits 8 c.modes && fits 8 c.rates

/-- A command's operands lie within their fields. -/
def Instr.wellFormed (i : Instr) : Bool :=
  match i with
  | .slotBoundary .. => true
  | .lpllRetune .. => true
  | .lpllRelockDone .. => true
  | .lpllPlanApply .. => true
  | .podLpllCtrlWrite .. => true
  | .bridgeFlitReceive .. => true
  | .bridgeFlitSend .. => true
  | .bridgeTrained .. => true
  | .ffeWalkStep .. => true
  | .dacCellExchange .. => true
  | .rangeIdleStart .. => true
  | .rangeTakeEffect .. => true
  | .complianceInterval .. => true
  | .toneRampReload .. => true
  | .txToneRegWrite .. => true
  | .spillInit via _ _ _ _ _ _ _ _ _ => viaOk via
  | .spillMeasure via _ _ _ _ => viaOk via
  | .classSet via _ _ _ _ _ _ => viaOk via
  | .portClass via _ _ => viaOk via
  | .shelfSet via _ _ _ _ => viaOk via
  | .linkUnfence via _ => viaOk via
  | .cxlLinkDrop .. => true
  | .cxlLinkDowntrain .. => true
  | .cxlLinkFence .. => true
  | .cxlLinkReturn .. => true
  | .cxlRetrainDone .. => true
  | .minEffRestore => true
  | .parcelClose .. => true
  | .parcelWriteGrant .. => true
  | .parcelReadDone .. => true
  | .guarWindowEnd .. => true
  | .calRun via _ _ _ _ => viaOk via
  | .calRunDone .. => true
  | .calStore via => viaOk via
  | .calExport via _ => viaOk via
  | .calImport via _ _ _ => viaOk via
  | .calCoefRead via _ _ _ _ _ _ => viaOk via
  | .calLimitsRead via => viaOk via
  | .dacMeasureDone .. => true
  | .ctleStepApply .. => true
  | .ctleCheckTimeout .. => true
  | .ctleFreezeEnd .. => true
  | .diagTdr via _ _ _ _ => viaOk via
  | .diagRl via _ _ => viaOk via
  | .diagNext via _ _ => viaOk via
  | .diagIl via _ _ _ _ _ => viaOk via
  | .diagRead via _ _ _ => viaOk via
  | .diagLive via _ _ => viaOk via
  | .diagRunDone .. => true
  | .ilReqReceive _ session .. => fits 16 session
  | .ilAckReceive _ session _ => fits 16 session
  | .ilDeclineReceive _ session _ => fits 16 session
  | .ilScheduleStart .. => true
  | .ilDoneReceive _ session _ => fits 16 session
  | .ilDoneTimeout .. => true
  | .captureStart via _ _ _ _ _ _ _ _ => viaOk via
  | .captureStatus via => viaOk via
  | .captureRead via _ _ => viaOk via
  | .captureStop via => viaOk via
  | .captureTrigger .. => true
  | .captureSegmentStored .. => true
  | .captureTimeout => true
  | .xaDelayExpire => true
  | .refJudgedGood .. => true
  | .froTrimUpdate .. => true
  | .flashAccessTimeout => true
  | .xbDetect => true
  | .xbLoss => true
  | .rpllLock .. => true
  | .domainRampStep .. => true
  | .forcedSwitch .. => true
  | .clockMonitorWindow .. => true
  | .rpllHoldover => true
  | .rpllUnlock => true
  | .rpllAltRestart => true
  | .froCheck .. => true
  | .pllUnlock .. => true
  | .pllLockRegained .. => true
  | .clkCfgWrite .. => true
  | .clkGateWrite .. => true
  | .xaFirstJudgementEnd => true
  | .avsExamine .. => true
  | .avsWriteRetry .. => true
  | .avsStatusPoll .. => true
  | .podAvsCtrlWrite .. => true
  | .regionSample .. => true
  | .regionFaultClear .. => true
  | .supplyLoss .. => true
  | .supplyRestore .. => true
  | .sensorConversion .. => true
  | .powerOnReset => true
  | .porstNAssert => true
  | .porstNRelease .. => true
  | .pePerstNAssert => true
  | .trstNAssert => true
  | .bootTrimmed h0 h1 _ => decide (h0.length = 4096) && decide (h1.length = 4096)
  | .bootTrimTimeout => true
  | .bootLibConfigRead .. => true
  | .bootDeviceConfigRead .. => true
  | .bootRpllTimeout => true
  | .bootClerkFwRead .. => true
  | .bootLedgerAnchor .. => true
  | .bootUserAreaRead .. => true
  | .stageCRecord .. => true
  | .configDone => true
  | .imgInfo via => viaOk via
  | .imgErase via _ => viaOk via
  | .imgEraseBlockDone => true
  | .imgWrite via _ _ => viaOk via
  | .imgWriteStream via _ _ => viaOk via
  | .imgCommit via _ => viaOk via
  | .imgConfirm via _ => viaOk via
  | .devReset via _ => viaOk via
  | .devResetExpire .. => true
  | .pePerstNRelease => true
  | .bistRun via _ _ _ _ _ _ _ => viaOk via
  | .bistBankDone .. => true
  | .bistRead via _ _ _ => viaOk via
  | .loopSet via _ _ _ _ => viaOk via
  | .refCheck via _ _ _ => viaOk via
  | .repairRead via _ _ => viaOk via
  | .fuseRepair via _ _ _ _ => viaOk via
  | .scanChallenge .. => true
  | .scanAuth _ response _ => decide (response.length = 96)
  | .scanChallengeExpire => true
  | .loopbackReqReceive .. => true
  | .loopbackAckReceive .. => true
  | .loopbackDeclineReceive .. => true
  | .farLoopbackStart .. => true
  | .loopbackEndReceive .. => true
  | .prbsLock .. => true
  | .prbsLockLoss .. => true
  | .stPrbsCtrlWrite .. => true
  | .prbsClear .. => true
  | .bandgapCheck .. => true
  | .jtagInstruction .. => true
  | .faultMessage .. => true
  | .eventCauseExpire .. => true
  | .stickyClear .. => true
  | .recAck .. => true
  | .recAckAll .. => true
  | .fltSelWrite .. => true
  | .fltSelClear .. => true
  | .fltReactWrite .. => true
  | .fiArm via _ _ _ _ _ _ _ => viaOk via
  | .fiStop via _ => viaOk via
  | .fiList via => viaOk via
  | .injectionDeliver .. => true
  | .injectHoldEnd .. => true
  | .stackClockDetect .. => true
  | .stackLaneLock .. => true
  | .stackPortAlign .. => true
  | .stackAlignTimeout .. => true
  | .stackLaneLockLoss _ _ _ errored => fits 32 errored
  | .stackSofReceive .. => true
  | .stackSofSend .. => true
  | .helloSend .. => true
  | .helloReceive _ h => fits 8 h.port && fits 8 h.depth && fits 8 h.id
  | .stackLinkTimeout .. => true
  | .stackMsgReceive .. => true
  | .linkAckReceive .. => true
  | .linkAckSend .. => true
  | .stackResendTimeout .. => true
  | .enumRunStart => true
  | .discoverReceive .. => true
  | .orphanNoticeReceive .. => true
  | .parentChoose => true
  | .reportReceive _ _ r => decide (r.u.length = 8)
  | .reportDue .. => true
  | .assignReceive _ _ b => decide (b.length = 8)
  | .topoChangeReceive .. => true
  | .stackLinkFail .. => true
  | .faultWindowClose => true
  | .faultReportReceive .. => true
  | .mgmtReqReceive src tag frag _ _ => fits 8 src && fits 8 tag && fits 8 frag
  | .mgmtRespReceive src tag frag _ _ => fits 8 src && fits 8 tag && fits 8 frag
  | .tunnelTimeout .. => true
  | .ledgerAnchorReceive .. => true
  | .stkEnum via => viaOk via
  | .stkRenumber via => viaOk via
  | .stkTunnel via _ _ => viaOk via
  | .stkPortInfo via => viaOk via
  | .stkFrecRead via _ => viaOk via
  | .timeCfgWrite .. => true
  | .timeRateWrite .. => true
  | .timeSet via sec ns frac => viaOk via && fits 48 sec && fits 32 ns && fits 16 frac
  | .timeStep via _ => viaOk via
  | .timePtpSample via _ _ _ _ _ => viaOk via
  | .timeStatus via => viaOk via
  | .timeHoldoverTimeout => true
  | .ppsInEdge => true
  | .ppsOutPulse => true
  | .ppsOutFall => true
  | .timeFrameSend .. => true
  | .timeFrameReceive .. => true
  | .timeSyncSend => true
  | .timeSyncReceive .. => true
  | .tsEntryRead .. => true
  | .timeNowRead .. => true
  | .ppsinRead .. => true
  | .mbxDoorbell .. => true
  | .mbxRelease .. => true
  | .commandStart via _ _ => viaOk via
  | .commandTimeout via => viaOk via
  | .portInfo via _ => viaOk via
  | .farCmd via _ _ => viaOk via
  | .farRequestReceive _ session tag frag _ data => fits 16 session && fits 8 tag && fits 8 frag && decide (data.length ≤ 251)
  | .farReplyReceive _ session tag frag _ data => fits 16 session && fits 8 tag && fits 8 frag && decide (data.length ≤ 251)
  | .farCmdTimeout .. => true
  | .ledgerInfo via => viaOk via
  | .ledgerRead via _ _ => viaOk via
  | .ledgerSeal via _ => viaOk via
  | .ledgerNote via text => viaOk via && decide (1 ≤ text.length) && decide (text.length ≤ 96)
  | .attestQuote via nonce => viaOk via && decide (nonce.length = 48)
  | .certRead via _ => viaOk via
  | .keyRevoke via slot sig _ => viaOk via && fits 8 slot && decide (sig.length = 96)
  | .sealDue .. => true
  | .countersRecordDue => true
  | .witnessSend => true
  | .allowanceRefill => true
  | .clerkWatchdogExpire => true
  | .clerkRestartDone .. => true
  | .firewallViolation .. => true
  | .libRomCheck .. => true
  | .libFirewallCheck .. => true
  | .libWatchdogExpire => true
  | .portCommit .. => true
  | .portRevert .. => true
  | .laneCommit .. => true
  | .laneRevert .. => true
  | .commitJudge .. => true
  | .registerWrite .. => true
  | .rcRead .. => true
  | .wideLoRead .. => true
  | .glbWrStatClear .. => true
  | .spiStatusRead => true
  | .bar2Read .. => true
  | .bar2Write => true
  | .agcStep _ _ samples => samples.all sampleOk
  | .sliceSwap .. => true
  | .sliceCalDone .. => true
  | .cdrLockLost .. => true
  | .echoSearchEnd _ _ samples => samples.all sampleOk
  | .echoConverge _ _ powers samples => decide (powers.length = 0 ∨ powers.length = 256) && samples.all sampleOk
  | .snrWindowEnd _ _ _ trials samples => decide (trials.length = 0 ∨ trials.length = 128) && samples.all sampleOk
  | .alignFolioReceive _ _ _ samples => samples.all sampleOk
  | .anchorRevert .. => true
  | .hostCodewordReceive _ _ _ _ units _ => decide (units.length = 20)
  | .folioReceive _ _ f => foliOk f
  | .nakRepeatDue .. => true
  | .blockLockAcquire .. => true
  | .blockLockLoss .. => true
  | .alignmentLoss .. => true
  | .followerCountLoad .. => true
  | .alignTimeout .. => true
  | .changeEpoch .. => true
  | .laneQuarantine .. => true
  | .partnerQuarantine .. => true
  | .laneReqShed .. => true
  | .laneReqAdd .. => true
  | .plannedShedDeadline .. => true
  | .readdHoldoffExpire .. => true
  | .addAttemptTimeout .. => true
  | .laneNoticeReceive _ id kind quar nextMap epoch => fits 8 id && fits 8 kind && fits 8 quar && fits 8 nextMap && fits 26 epoch
  | .addNoticeReceive _ id _ => fits 8 id
  | .noticeAckReceive _ id typ what epoch => fits 8 id && fits 8 typ && fits 8 what && fits 26 epoch
  | .noticeDeclineReceive _ id typ lane reason epoch => fits 8 id && fits 8 typ && fits 8 lane && fits 8 reason && fits 26 epoch
  | .preambleDetect .. => true
  | .falseDetect .. => true
  | .newPreambleDetect .. => true
  | .sndReceptionTruncate .. => true
  | .sndHeaderReceive .. => true
  | .sndFrameReceive _ _ raw => decide (raw.length ≤ 259)
  | .turnReply .. => true
  | .cmFrameSend .. => true
  | .sndFrameResend .. => true
  | .wakeBurstDetect .. => true
  | .soundRound .. => true
  | .callSend .. => true
  | .soundWindowEnd .. => true
  | .callReceive _ c _ _ => callFits c
  | .returnReceive _ c _ _ _ _ _ => callFits c
  | .probeReceive .. => true
  | .offerReceive .. => true
  | .acceptReceive .. => true
  | .refuseReceive .. => true
  | .goReceive .. => true
  | .parleyResend .. => true
  | .parleyTimeout .. => true
  | .negRetryExpire .. => true
  | .trainStart .. => true
  | .clause73PageReceive .. => true
  | .clause73Resolve .. => true
  | .anAttemptTimeout .. => true
  | .trainStatSend _ req => decide (req.length = 8)
  | .trainStatReceive _ session _ seq conv cdr req ack set => fits 16 session && fits 8 seq && fits 8 conv && fits 8 cdr && decide (req.length = 8) && fits 8 ack && fits 8 set
  | .trainStepSwitch .. => true
  | .trainStepTimeout .. => true
  | .trainPartnerTimeout .. => true
  | .trainTimeout .. => true
  | .ieeeTrainDone .. => true
  | .ieeeTrainTimeout .. => true
  | .ieeeSubportFail .. => true
  | .ieeeCodewordReceive _ _ _ _ blocks _ _ => decide (blocks.length = 20)
  | .mdioPageWrite .. => true
  | .mdioPmaReset _ => true
  | .mdioAnRestart _ => true
  | .mdioAdvMaskWrite .. => true
  | .portDownEnter .. => true
  | .hostMarkerReceive .. => true
  | .hostFrameStart .. => true
  | .hostLaneFail .. => true
  | .hostReqTxMove .. => true
  | .fsiCtrlWrite .. => true
  | .fsiClkLoss => true
  | .fsiClkRestore => true
  | .fsiEventExpire .. => true
  | .linkReqWake .. => true
  | .linkReqRestart .. => true
  | .linkSnapRequest .. => true
  | .linkSnapTake .. => true
  | .eyeHeightUpdate _ _ codes => codes.all (fits 8)
  | .eyeWidthUpdate _ _ offsets => decide (offsets.length = 32) && offsets.all fun l => l.all (fits 8)
  | .quietRequest .. => true
  | .quietReqReceive _ epoch => fits 26 epoch
  | .quietAckReceive _ epoch => fits 26 epoch
  | .quietDeclineReceive _ epoch => fits 26 epoch
  | .quietEnter .. => true
  | .refreshWindowStart .. => true
  | .refreshWindowEnd .. => true
  | .wakeTrigger .. => true
  | .wakeTxData .. => true
  | .wakeRespond .. => true
  | .wakeBurstTimeout .. => true
  | .wakeTimeout .. => true
  | .soundingFrameSent .. => true
  | .fsiClkEdge .. => true
  | .fsiSelChange .. => true
  | .flashOperationDone .. => true

end Sys2Proof
end

