-- ==== Sys2Proof/Tests/Slice0.lean ====
section
/-!
SUPPORT. The model's own tests: a smoke test of the well-formedness checks, worked examples of the spec, and for each statement that
has hypotheses a witness, a concrete state and operands that meet them, clause by clause.
-/
set_option maxRecDepth 100000
set_option Elab.async false

namespace Sys2Proof.Tests

open Sys2Proof Sys2Proof.Machine

/-! ### Small states -/

/-- A hub in service: configured, its Clerk running, every gate open, locked on its root, and every pod's bridge up. -/
def svc : State :=
  let s := State.reset
  { s with
    pods := s.pods.map fun q => { q with bridge := { q.bridge with up := true } }
    fw := { s.fw with clerk := .running }
    clk := { s.clk with
      gate := 0xFFFFFFFF, rpllLock := true, dspRun := true, stkLock := true, trimmed := true,
      dom := Vector.replicate 4 { fro := false, ramp := 0, toFro := false, running := true } }
    boot := { s.boot with configDone := true, step := 11, inReset := false } }

/-- The same hub with the pods' bridges down. -/
def cut : State := { svc with pods := State.reset.pods }

/-- Slot 0's command of an opcode runs. -/
def runs (op : Nat) (s : State) : State :=
  { s with fw := { s.fw with running := [{ origin := .slot 0, opcode := op, tag := 0, port := none }] } }

/-- Port 0 changed. -/
def wPort (f : Port → Port) : State := svc.modPort 0 f
/-- Port 0's link changed. -/
def wLink (f : LinkSt → LinkSt) : State := wPort fun q => { q with link := f q.link }
/-- Port 0's coding changed. -/
def wCode (f : CodeSt → CodeSt) : State := wPort fun q => { q with code := f q.code }
/-- Port 0's sounding changed. -/
def wSnd (f : SndSt → SndSt) : State := wPort fun q => { q with snd := f q.snd }
/-- Port 0's diagnostics changed. -/
def wDiag (f : PortDiag → PortDiag) : State := wPort fun q => { q with diag := f q.diag }
/-- Port 0's host framing changed. -/
def wHost (f : HostSt → HostSt) : State := wPort fun q => { q with host := f q.host }
/-- Lane 0 of port 0 changed. -/
def wLane (f : Lane → Lane) (s : State) : State := s.modLane 0 0 f
/-- Its transmitter changed. -/
def wTx (f : LaneTx → LaneTx) (s : State) : State := wLane (fun l => { l with tx := f l.tx }) s
/-- Its receiver changed. -/
def wRx (f : LaneRx → LaneRx) (s : State) : State := wLane (fun l => { l with rx := f l.rx }) s
/-- Its coding changed. -/
def wLc (f : LaneCode → LaneCode) (s : State) : State := wLane (fun l => { l with code := f l.code }) s
/-- Its calibration changed. -/
def wLcal (f : LaneCal → LaneCal) (s : State) : State := wLane (fun l => { l with cal := f l.cal }) s
/-- Its test logic changed. -/
def wLt (f : LaneTest → LaneTest) (s : State) : State := wLane (fun l => { l with test := f l.test }) s
/-- Pod 0 changed. -/
def wPod (f : Pod → Pod) (s : State) : State := s.modPod 0 f
/-- Group 0 of pod 0 changed. -/
def wGroup (f : LpllGroup → LpllGroup) (s : State) : State := s.modGroup 0 0 f
/-- The boot state changed. -/
def wBoot (f : BootSt → BootSt) : State := { svc with boot := f svc.boot }
/-- The clocks changed. -/
def wClk (f : ClkSt → ClkSt) : State := { svc with clk := f svc.clk }
/-- The firmware changed. -/
def wFw (f : FwSt → FwSt) : State := { svc with fw := f svc.fw }
/-- The mailbox slots changed. -/
def wSlots (l : List Slot) (s : State) : State :=
  { s with fw := { s.fw with slots := Vector.ofFn fun (i : Fin 8) => l.getD i.val s.fw.slots[i.val] } }
/-- The ledger changed. -/
def wLedger (f : LedgerSt → LedgerSt) : State := { svc with ledger := f svc.ledger }
/-- The test unit changed. -/
def wTest (f : TestSt → TestSt) : State := { svc with test := f svc.test }
/-- The fault unit changed. -/
def wFlt (f : HubFlt → HubFlt) : State := { svc with flt := f svc.flt }
/-- The stack unit changed. -/
def wStack (f : StackSt → StackSt) : State := { svc with stack := f svc.stack }
/-- Stack port 0 changed. -/
def wStk (f : StkPort → StkPort) (s : State) : State := s.modStk 0 f
/-- The time unit changed. -/
def wTime (f : TimeSt → TimeSt) : State := { svc with time := f svc.time }
/-- The calibration unit changed. -/
def wCal (f : CalSt → CalSt) : State := { svc with cal := f svc.cal }
/-- The capture unit changed. -/
def wCap (f : CaptureSt → CaptureSt) : State := { svc with cap := f svc.cap }
/-- The spill store changed. -/
def wStore (f : SpillStore → SpillStore) : State := { svc with store := f svc.store }
/-- Lane 0's receiver in a phase, with an AGC target and what it has gathered. -/
def wRun (ph : RxPhase) (f : RxRun → RxRun) (target : Nat) : State :=
  wRx (fun r => { r with phase := ph, agcTarget := target, run := f r.run }) svc
/-- A streamed image half received, on a hub whose four keys are revoked. -/
def noKeys : State :=
  runs 0x0703 { (wBoot fun b => { b with stream := true, configDone := false, streamBuf := List.replicate 2048 0 }) with
    fw := { svc.fw with revoked := 15 } }
/-- CXL link 0 changed in a ready store of 64 GiB. -/
def wMx (f : CxlLink → CxlLink) : State :=
  wStore fun x => { x with state := 2, ledgerGib := 1, commonGib := 63, mx := updAt x.mx 0 fun m => f { m with state := 2, capGib := 64 } }
/-- A port with a native path and a link in a state. -/
def nat (st : LinkState) (q : Port) : Port :=
  { q with link := { q.link with state := st }, snd := { q.snd with path := .native } }
/-- An offer of native simplex at the first rate. -/
def offer0 : Offer :=
  { no := 1, mode := 1, rate := 1, laneSet := 0xFF, minLanes := 1, rangeL := 0, rangeF := 0, cmSf := 7, features := 3, rtt := 0,
    replay := 64 }
/-- A frame with nothing in its payload. -/
def frame (typ : Nat) : SndFrame := { typ := typ, payload := [], resends := 0 }

/-- No header is accepted where every key is revoked. -/
theorem streamHeader_noKeys (b : List Byte) : streamHeader (parseHeader b) noKeys = some 5 := by
  unfold streamHeader
  rw [if_pos]
  have h : ∀ k, (!decide (k < 4) || (15 : Nat).testBit k) = true := by
    intro k
    rcases Nat.lt_or_ge k 4 with hk | hk
    · interval_cases k <;> decide
    · simp [Nat.not_lt.mpr hk]
  have hk := h (parseHeader b).key
  have hr : noKeys.fw.revoked = 15 := rfl
  rw [hr]
  cases ht : (15 : Nat).testBit (parseHeader b).key
  · rw [ht, Bool.or_false] at hk
    have hs : (parseHeader b).sigOk = false := by
      simp only [parseHeader] at hk ⊢
      rw [Bool.not_eq_true'] at hk
      exact Bool.and_eq_false_iff.mpr (Or.inl hk)
    rw [hs]
    rfl
  · simp

/-! ### Ill-formed commands are refused -/

/-- A call that is well formed. -/
def call0 : CallInfo :=
  { version := 1, part := 1, uid := 0, port := 1, lanes := 0xFF, rand := 0, modes := 1, rates := 7, minLanes := 1, rangeMax := 0,
    cmSf := 7, mgmtSf := 7, replay := 64 }
/-- A folio that is well formed. -/
def folio0 : RxFolio := { invalid := [], blocks := List.replicate 30 (1, 0), errs := [], rel := [], arrival := 0, ago := 0 }
/-- Samples of a pair that is quiet. -/
def sample0 : RxSample := { txPair := 128, rxPair := 128, own := 0, near := List.replicate 7 0, second := false }
/-- A HELLO that is well formed. -/
def hello0 : Hello :=
  { uid := 1, part := 1, port := 0, root := false, depth := 0, id := 0, gen := 0, master := 0, peer := 0 }
/-- A REPORT that is well formed. -/
def report0 : StkReport := { standby := false, depthCut := false, tooMany := false, u := List.replicate 8 0, present := 0 }

theorem test_wellFormed_accepts : ([.stkEnum (.tunnel 255 255), .timeSet .stageC (2 ^ 48 - 1) (2 ^ 32 - 1) 65535,
    .ledgerNote (.slot 0) (List.replicate 96 0), .folioReceive 0 0 folio0, .callReceive 0 call0 9 0,
    .helloReceive 0 hello0, .reportReceive 0 0 report0, .agcStep 0 0 [sample0]] : List Instr).all Instr.wellFormed = true := by
  decide +kernel

theorem test_wellFormed_origins : ([.stkEnum (.tunnel 256 0), .stkEnum (.tunnel 0 256), .stkEnum (.farEnd 0 256)] : List Instr).all
    (fun i => !i.wellFormed) = true := by decide +kernel

theorem test_wellFormed_lengths : ([.bootTrimmed [] (List.replicate 4096 0) none, .bootTrimmed (List.replicate 4096 0) [] none,
    .scanAuth none [] true, .reportReceive 0 0 { report0 with u := [] }, .assignReceive 0 0 [],
    .farRequestReceive 0 0 0 0 true (List.replicate 252 0), .farReplyReceive 0 0 0 0 true (List.replicate 252 0),
    .ledgerNote (.slot 0) [], .ledgerNote (.slot 0) (List.replicate 97 0), .attestQuote (.slot 0) [],
    .keyRevoke (.slot 0) 0 [] true, .sndFrameReceive 0 false (List.replicate 260 0), .trainStatSend 0 [],
    .trainStatReceive 0 0 0 0 0 0 [] 0 0, .echoConverge 0 0 [0] [], .snrWindowEnd 0 0 true [0] [], .eyeWidthUpdate 0 0 [],
    .ieeeCodewordReceive 0 0 false [] [] 0 0] : List Instr).all
    (fun i => !i.wellFormed) = true := by decide +kernel

theorem test_wellFormed_fields : ([.stackLaneLockLoss 0 0 0 (2 ^ 32), .helloReceive 0 { hello0 with port := 256 },
    .helloReceive 0 { hello0 with depth := 256 }, .helloReceive 0 { hello0 with id := 256 }, .mgmtReqReceive 256 0 0 true [],
    .mgmtRespReceive 0 256 0 true [], .timeSet (.slot 0) (2 ^ 48) 0 0, .timeSet (.slot 0) 0 (2 ^ 32) 0, .timeSet (.slot 0) 0 0 65536,
    .farRequestReceive 0 65536 0 0 true [], .farReplyReceive 0 0 256 0 true [], .keyRevoke (.slot 0) 256 (List.replicate 96 0) true,
    .laneNoticeReceive 0 0 0 0 0 (2 ^ 26), .addNoticeReceive 0 256 0, .noticeAckReceive 0 0 256 0 0,
    .noticeDeclineReceive 0 0 0 256 0 0, .ilReqReceive 0 65536 0 0 0 0 0, .ilAckReceive 0 65536 0, .ilDeclineReceive 0 65536 0,
    .ilDoneReceive 0 65536 [], .trainStatReceive 0 65536 0 0 0 0 (List.replicate 8 0) 0 0,
    .trainStatReceive 0 0 0 256 0 0 (List.replicate 8 0) 0 0, .quietReqReceive 0 (2 ^ 26), .quietAckReceive 0 (2 ^ 26),
    .quietDeclineReceive 0 (2 ^ 26), .eyeHeightUpdate 0 0 [256]] : List Instr).all (fun i => !i.wellFormed) = true := by decide +kernel

theorem test_wellFormed_bodies : ([.callReceive 0 { call0 with version := 16 } 9 0,
    .returnReceive 0 { call0 with uid := 2 ^ 64 } 0 0 0 false 9, .folioReceive 0 0 { folio0 with blocks := [] },
    .folioReceive 0 0 { folio0 with errs := [860] }, .folioReceive 0 0 { folio0 with rel := [16] },
    .folioReceive 0 0 { folio0 with invalid := [30] }, .agcStep 0 0 [{ sample0 with txPair := 256 }],
    .echoSearchEnd 0 0 [{ sample0 with near := [] }], .alignFolioReceive 0 0 [] [{ sample0 with own := 128 }],
    .hostCodewordReceive 0 0 0 none [] false] : List Instr).all
    (fun i => !i.wellFormed) = true := by decide +kernel

/-! ### Worked examples of the spec -/

/-- The example under Table 1.4 (R16): port P37 is pod 3, group 0 with P36 and P38, and host PLL 0. -/
theorem test_port_groups : podOf 37 = 3 ∧ (groupOf 37).val = 0 ∧ hostPllOf 37 = 0 ∧ portsOfGroup 3 0 = [36, 37, 38] := by decide +kernel

/-- The example of R532 and that of R530: lane 5 of P61 lies at 0x013D_A800, P37 at 0x0125_0000, its lane 2 at 0x0125_9000. -/
theorem test_register_windows : laneBase 61 5 = 0x013DA800 ∧ portBase 37 = 0x01250000 ∧ laneBase 37 2 = 0x01259000 := by decide +kernel

/-- The example of R41: b4 to b0 = 1, 0, 1, 1, 1 is sent as −3, then +5. -/
theorem test_pam6_example : pam6Symbols false [true, false, true, true, true] = [-3, 5] := by decide +kernel

/-- The example of R78: the dense section takes lag 95, the search places a window at 2,115 for lag 2,131, and lag 4,262 is left. -/
theorem test_echo_search : ecSearch 5 [(95, 9), (2131, 8), (4262, 7)] 4 [] [] = [2115] := by decide +kernel

/-- Table 12.10: the two events of TX5, at 1,270 and 3,003 mm. -/
theorem test_tdr_example : (tdrEvents 412 140 983 [(12512, -5898), (29032, 27525)]).map (fun e => (e.tau, e.mm, e.kind)) =
    [(605, 1270, 4), (1431, 3003, 1)] := by decide +kernel

/-- Table 18.8: with NEXT_ID 1, the reports of A and B give ASSIGN 1, 3, 6 to A and 2, 5, 7 to B. -/
theorem test_enumeration_example :
    let s := assignChildren
      [(0, { report0 with u := [1, 2, 1, 0, 0, 0, 0, 0] }), (1, { report0 with u := [1, 1, 0, 0, 0, 0, 0, 0] })]
      [1, 3, 6, 7, 7, 7, 7, 7] svc
    (s.stk 0).route = 2 ^ 1 + 2 ^ 3 + 2 ^ 4 + 2 ^ 6 ∧ (s.stk 1).route = 2 ^ 2 + 2 ^ 5 := by decide +kernel

/-- The four tenants' classes of the example after R237, with a minimum of class 1. -/
def tenants (min1 : Nat) : State :=
  (wStore fun x => { x with
    cfgD := 47150, podBw := Vector.replicate 8 (616, 616)
    cls := #v[{ ClassPar.reset with min := min1 }, { ClassPar.reset with min := 320 }, { ClassPar.reset with min := 240 }] }).mapPorts
    fun p q => { q with cls := p.val / 24 }

/-- Admission passes at 48.0 GB/s; 56.0 GB/s fails the pod condition. -/
theorem test_admission_example : admitted (tenants 480) = true ∧ admitted (tenants 560) = false := by decide +kernel

/-- Port P37 with a commit of lane 2's taps 56, −4, −4 and of an RX_ADAPT (R530). -/
def tapCommit (adapt : Word) : State :=
  let lane := fun (l : Lane) =>
    ((l.setReg .txFfe0 fun r => { r with snap := 0x38FC0000 }).setReg .txFfe1 fun r => { r with snap := 0x000000FC }).setReg .rxAdapt
      fun r => { r with snap := adapt }
  let q := fun (q : Port) => { nat .up q with commit := { q.commit with pend := true } }
  (svc.modPort 37 q).modLane 37 2 lane

/-- Table 21.10: RX_ADAPT with FFE_TRACK 0x1 below FFE_FAST 0x2 refuses the commit with OFS 0x9108, and no tap changes. -/
theorem test_commit_refused :
    let s := commitJudge 37 (tapCommit 0x98710322)
    (s.port 37).commit.result = 7 ∧ (s.port 37).commit.ofs = 0x9108 ∧ (s.lane 37 2).tx.walk = none := by decide +kernel

/-- Table 21.10: with FFE_TRACK 0x8 it is accepted, and the walk begins. -/
theorem test_commit_accepted :
    let s := commitJudge 37 (tapCommit 0x98780322)
    (s.port 37).commit.result = 0 ∧ (s.lane 37 2).tx.walk = some (Taps.ofWords 0x38FC0000 0x000000FC) := by decide +kernel

/-- The taps of the example after R530 pass the checks of R45, and the first walk step takes MAIN to 63 and POST1 to −1. -/
theorem test_tap_example : (Taps.ofWords 0x38FC0000 0x000000FC).ok = true ∧
    ((Taps.ofWords 0x40000000 0).step (Taps.ofWords 0x38FC0000 0x000000FC)).main = 63 ∧
    ((Taps.ofWords 0x40000000 0).step (Taps.ofWords 0x38FC0000 0x000000FC)).post1 = -1 := by decide +kernel

/-- A write of slot memory is read back byte by byte, the first byte of the word at the lowest address (R493, R517). -/
theorem test_slot_memory_order :
    memReadList (writeSlotMem .pcie 0 0x04030201 0xF svc).fw.mem 0 4 = [1, 2, 3, 4] := by decide +kernel

/-- A register of the tests: a read of GLB_SCRATCH answers what was written. -/
theorem test_scratch_reads_back :
    (match exec (.registerWrite .spi 0x18 0xDEADBEEF 0xF) svc with
      | .next t => (match exec (.rcRead .spi 0x18) t with
        | .next u => u.reg.reply
        | _ => .busError)
      | _ => .busError) = .value 0xDEADBEEF := by decide +kernel

/-- Unit 0 of a marker is read back by its receiver (Table 9.2, R246). -/
theorem test_marker_reads_back :
    readMarker 3 (((wHost fun x => { x with frame := 7, rxFail := 0x801, txMap := Vector.ofFn fun i => i.val }).port 0).marker 3
      |>.setWidth 256) = some { frame := 7, nextMap := List.range 12, fail := 0x801 } := by decide +kernel

/-- A stack message is reassembled from its columns and parsed (R440, R442). -/
theorem test_stack_message_reads_back :
    (stkReassemble (StkMsg.columns { typ := 0x30, last := true, nak := false, dst := 5, src := 2, tag := 9, frag := 1, lseq := 200,
                                     payload := [1, 2, 3, 4, 5] })).bind stkParse =
      some { typ := 0x30, last := true, nak := false, dst := 5, src := 2, tag := 9, frag := 1, lseq := 200,
             payload := [1, 2, 3, 4, 5] } := by decide +kernel

/-- Code groups of Clause 36 (R437, R438): K28.5 in both disparities, D21.5, D11.7 with the alternate sub-block, K28.1. -/
theorem test_code_groups :
    encK false 28 5 = 0b0011111010 ∧ encK true 28 5 = 0b1100000101 ∧ encData false 0xB5 = 0b1010101010 ∧
      encData true 0xEB = 0b1101001000 ∧ encK false 28 1 = 0b0011111001 ∧ rdAfter false 0b0011111010 = true ∧
      decGroup false 0b0011111010 = some (.inr 1) ∧ decGroup true 0b0011111010 = none := by decide +kernel

/-- A message crosses the line in a frame and is reassembled from its code groups, on an inverted lane too (R437, R439, R444). -/
theorem test_message_crosses_line :
    let m : StkMsg := { typ := 0x40, last := false, nak := false, dst := 0, src := 3, tag := 0, frag := 0, lseq := 0, payload := [9, 8, 7] }
    let x := { StkPort.reset with state := .up, queue := [m] }.sendFrame 5 16 false
    ((stkReassemble ((stkColumns 2 ((x.line.drop 4).map fun q => { q with g1 := ~~~q.g1 })).take 7)).bind stkParse = some m) ∧
      x.queue = [] ∧ x.unacked = [m] := by decide +kernel

/-- Return loss of an amplitude of a tenth is 20.0 dB, and of none the top of the span; lane 1 measures point 8 first (R314). -/
theorem test_return_loss :
    lossTenths 600 (1, 10) = 200 ∧ lossTenths 600 (0, 10) = 600 ∧ rlStep 1 8 = 0 ∧ rlStep 1 0 = 56 := by decide +kernel

/-- A stage C list of a register write, a command and the end (R389). -/
theorem test_stage_c_records :
    let l : List Byte := [0, 0, 0, 0x18, 0, 0, 0, 5, 0, 0, 0, 2, 0, 0, 0, 2, 7, 1, 0, 0, 0, 0, 0, 0, 0, 0, 0, 1, 0, 0, 0, 0]
    stageCAt l 0 = (.write 0x18 5, 8) ∧ stageCAt l 8 = (.cmd [7, 1], 24) ∧ stageCAt l 24 = (.ends, 24) := by decide +kernel

/-! ### Witnesses: each statement's hypotheses are met -/

theorem witness_PllAndBridgeCommandsComplete :
    (∃ (p : PortId) (f : PllFreq) (s : State), s.part.hasPort p = true ∧ f ≠ .none ∧ (s.group p).lock = true ∧
      (s.group p).freq = f) ∧
    (∃ (p : PortId) (f : PllFreq) (s : State), s.part.hasPort p = true ∧ f ≠ .none ∧ (s.group p).freq ≠ f ∧
      (s.group p).target ≠ some f ∧ (s.group p).planInForce = 0 ∧ retunable s (podOf p) (groupOf p) = true ∧
      groupSounding s (podOf p) (groupOf p) = false) ∧
    (∃ (k : PodId) (g : GroupId) (s : State), s.part.hasPod k = true ∧ s.clk.rpllLock = true ∧ s.pwr.trip = false ∧
      (s.pod k).groups[g.val].lock = false) ∧
    (∃ (k : PodId) (g : GroupId) (s : State), retunable s k g = true ∧ groupSounding s k g = false ∧
      (s.pod k).groups[g.val].plan ≠ (s.pod k).groups[g.val].planInForce) ∧
    (∃ (who : Initiator) (k : PodId) (g : GroupId) (v : Word) (s : State), WriteReaches who s (podBase k + 0x100 + g.val * 4) ∧
      bits v 3 0 ≤ 4) ∧
    (∃ (k : PodId) (s : State), s.podOpen k = true) ∧
    (∃ (k : PodId) (s : State), s.podOpen k = true) ∧
    (∃ (k : PodId) (s : State), s.part.hasPod k = true ∧ s.boot.inReset = false ∧ s.pwr.lost.contains (.pod k) = false ∧
      (s.pod k).bridge.up = false ∧ (s.pod k).fltQueue = []) :=
  ⟨⟨0, .f592, (wGroup (fun g => { g with lock := true, freq := .f592 }) svc), by decide +kernel⟩,
   ⟨0, .f592, (wGroup (fun g => { g with planInForce := 0, freq := .f518 }) svc), by decide +kernel⟩,
   ⟨0, 0, svc, by decide +kernel⟩,
   ⟨0, 0, wGroup (fun g => { g with plan := 1, planInForce := 0, freq := .f592 }) svc, by decide +kernel⟩,
   ⟨.pcie, 0, 0, 4, svc, by simp only [WriteReaches]; decide +kernel⟩,
   ⟨0, svc, by decide +kernel⟩,
   ⟨0, svc, by decide +kernel⟩,
   ⟨0, cut, by decide +kernel⟩⟩

theorem witness_TransmitterCommandsComplete :
    (∃ (p : PortId) (s : State), s.part.hasPort p = true ∧ s.podStopped (podOf p) = false ∧
      ((slotDue p (slotAdvance p s)).port p).link.state ≠ .down) ∧
    (∃ (p : PortId) (n : LaneId) (s : State) (target : Taps), (s.port p).walks = true ∧ (s.lane p n).tx.walkLeft = 0 ∧
      (s.lane p n).tx.state ≠ .safe ∧ (s.lane p n).tx.walk = some target) ∧
    (∃ (p : PortId) (n : LaneId) (s : State) (a : Nat) (b : Nat), (s.lane p n).tx.cellNext = some (a, b) ∧
      exchangeDue s p n = true ∧ a ≠ b ∧ a ≤ 8 ∧ b ≤ 8) ∧
    (∃ (p : PortId) (n : LaneId) (s : State) (r : Nat), (s.lane p n).tx.rangeNext = some r ∧ (s.lane p n).tx.rangeIdle = false ∧
      (s.lane p n).tx.state = .data ∧ (s.port p).soundsOn n = false) ∧
    (∃ (p : PortId) (n : LaneId) (s : State) (r : Nat), (s.lane p n).tx.rangeNext = some r ∧ (s.lane p n).tx.rangeIdle = true ∧
      (s.lane p n).tx.state ≠ .safe ∧ r < 4) ∧
    (∃ (p : PortId) (n : LaneId) (pMax : Nat) (pMin : Nat) (nMax : Nat) (nMin : Nat) (s : State), (s.lane p n).tx.compEn = true ∧
      (s.lane p n).tx.state = .idle ∧ (s.port p).duplex = true ∧ pMax ≤ 13500 ∧ 500 ≤ pMin ∧ nMax ≤ 13500 ∧ 500 ≤ nMin) ∧
    (∃ (p : PortId) (n : LaneId) (s : State), toneMode ((s.lane p n).act .txToneCtrl) = 2) ∧
    (∃ (p : PortId) (n : LaneId) (s : State) (g : ToneSeg) (rest : List ToneSeg), toneMode ((s.lane p n).act .txToneCtrl) = 3 ∧
      (s.lane p n).tx.segs = g :: rest) ∧
    (∃ (who : Initiator) (p : PortId) (n : LaneId) (s : State), WriteReaches who s (laneBase p n + 0x60) ∧
      (s.port p).link.state = .down) :=
  ⟨⟨0, wPort (nat .up), by decide +kernel⟩,
   ⟨0, 0, (wTx (fun t => { t with state := .data, walkLeft := 0, walk := some ⟨0, 0, 0, 63, 0, 0⟩ }) (wPort (nat .up))), ⟨0, 0, 0,
     63, 0, 0⟩, by decide +kernel⟩,
   ⟨0, 0, wTx (fun t => { t with cellNext := some (0, 8), cellAge := 64 }) svc, 0, 8, by decide +kernel⟩,
   ⟨0, 0, wTx (fun t => { t with rangeNext := some 3, rangeIdle := false, state := .data }) svc, 3, by decide +kernel⟩,
   ⟨0, 0, wTx (fun t => { t with rangeNext := some 3, rangeIdle := true }) svc, 3, by decide +kernel⟩,
   ⟨0, 0, 13500, 500, 13500, 500,
     (wTx (fun t => { t with compEn := true, state := .idle }) (wPort fun q => nat .up { q with snd := { q.snd with agreed := some { offer0 with mode := 2 } } })),
     by decide +kernel⟩,
   ⟨0, 0, (wLane (fun l => l.setReg .txToneCtrl fun r => { r with inForce := 2 }) svc), by decide +kernel⟩,
   ⟨0, 0,
     wTx (fun t => { t with segs := [⟨1, 2, 3, 4⟩] }) (wLane (fun l => l.setReg .txToneCtrl fun r => { r with inForce := 3 }) svc),
     ⟨1, 2, 3, 4⟩, [], by decide +kernel⟩,
   ⟨.pcie, 0, 0, svc, by simp only [WriteReaches]; decide +kernel⟩⟩

theorem witness_ReceiverCommandsComplete :
    (∃ (p : PortId) (n : LaneId) (xs : List RxSample) (s : State) (x : LaneRx), x = ((receive p n xs s).lane p n).rx ∧
      x.phase = .joint ∧ bits ((s.lane p n).act .rxCtrl) 13 12 ≠ 2 ∧ agcSymbols ≤ x.run.agcCnt ∧
      agcOk x.agcTarget x.run.agcSq x.run.agcCnt = false ∧ agcActive x.agcTarget x.run.epSq x.run.epCnt = true) ∧
    (∃ (p : PortId) (n : LaneId) (xs : List RxSample) (s : State) (x : LaneRx), x = ((receive p n xs s).lane p n).rx ∧
      x.phase = .track ∧ bits ((s.lane p n).act .rxCtrl) 13 12 ≠ 2 ∧ epochSymbols ≤ x.run.epCnt ∧
      agcOk x.agcTarget x.run.epSq x.run.epCnt = false ∧ agcActive x.agcTarget x.run.epSq x.run.epCnt = true ∧
      agcMove x.agcTarget x.run.epSq x.run.epCnt x.vga ≠ x.vga ∧ 64 ≤ x.vgaAge) ∧
    (∃ (p : PortId) (n : LaneId) (s : State), swapDue (s.lane p n) = true ∧ (s.lane p n).rx.phase = .far) ∧
    (∃ (p : PortId) (n : LaneId) (comps : List (Int × Nat)) (s : State), (s.lane p n).rx.slices.stopped = false ∧
      (s.lane p n).rx.slices.calDone = false ∧ (s.lane p n).rx.phase ≠ .off ∧ (s.lane p n).rx.phase ≠ .hold ∧
      comparisonFits (s.port p) = true ∧ chooseComparator s.boot.limits.compNoise comps = none) ∧
    (∃ (p : PortId) (n : LaneId) (cal : Int × Int × Int) (diff : Int × Int × Int) (v : Nat) (s : State),
      (s.lane p n).rx.slices.stopped = false ∧ (s.lane p n).rx.slices.calDone = false ∧ (s.lane p n).rx.phase ≠ .off ∧
      (s.lane p n).rx.phase ≠ .hold ∧ comparisonFits (s.port p) = true ∧
      chooseComparator s.boot.limits.compNoise [(0, v)] = some 0 ∧ refCheckBad s p = false ∧ diff = (0, 0, 0) ∧
      s.boot.limits.sliceOk cal.1 cal.2.1 cal.2.2 v = true ∧
      s.boot.limits.sliceStepOk ((s.lane p n).rx.slices.results.getD (s.lane p n).rx.slices.inCal (0, 0, 0)) cal = true) ∧
    (∃ (p : PortId) (n : LaneId) (s : State), (s.lane p n).rx.phase = .echo ∧ (s.lane p n).rx.searched = false) ∧
    (∃ (p : PortId) (n : LaneId) (xs : List RxSample) (s : State) (x : LaneRx), x = ((receive p n xs s).lane p n).rx ∧
      (s.lane p n).rx.phase = .echo) ∧
    (∃ (p : PortId) (n : LaneId) (xs : List RxSample) (s : State) (x : LaneRx), x = ((receive p n xs s).lane p n).rx ∧
      x.phase = .track ∧ x.run.errCnt ≠ 0) ∧
    (∃ (p : PortId) (n : LaneId) (trials : List Nat) (xs : List RxSample) (s : State) (x : LaneRx),
      x = ((receive p n xs s).lane p n).rx ∧ x.phase = .far ∧ x.run.errCnt ≠ 0 ∧ 128 ≤ trials.length ∧ x.searched = false) ∧
    (∃ (p : PortId) (n : LaneId) (xs : List RxSample) (s : State) (u : State), u = receive p n xs s ∧
      (u.lane p n).rx.phase = .track) ∧
    (∃ (p : PortId) (n : LaneId) (s : State), (s.lane p n).rx.revDue = true ∧ (s.lane p n).rx.held = false ∧
      (s.lane p n).rx.unstable = false ∧ (s.lane p n).rx.revSince < 2) ∧
    (∃ (p : PortId) (n : LaneId) (s : State), (s.lane p n).rx.phase = .track) ∧
    (∃ (p : PortId) (n : LaneId) (s : State), (s.lane p n).rx.phase = .track ∧ (s.lane p n).rx.slices.stopped = false) :=
  ⟨⟨0, 0, [], wRun .joint (fun x => { x with agcCnt := 1024, agcSq := 1024 * 1600, epCnt := 1024, epSq := 1024 * 1600 }) 30, _,
     rfl, by decide +kernel⟩,
   ⟨0, 0, [], wRun .track (fun x => { x with epCnt := 220160, epSq := 220160 * 1600 }) 30, _, rfl, by decide +kernel⟩,
   ⟨0, 0,
     (wRx (fun r => { r with phase := .far, slices := { r.slices with calDone := true, retired := [], sinceSwap := 65535 } }) (wLane (fun l => l.setReg .rxRotCtrl fun r => { r with inForce := 0x10001 }) svc)),
     by decide +kernel⟩,
   ⟨0, 0, [], wRx (fun r => { r with phase := .echo }) svc, by decide +kernel⟩,
   ⟨0, 0, (0, 0, 0), (0, 0, 0), 0, wRx (fun r => { r with phase := .echo }) svc, by decide +kernel⟩,
   ⟨0, 0, wRx (fun r => { r with phase := .echo }) svc, by decide +kernel⟩,
   ⟨0, 0, [], wRx (fun r => { r with phase := .echo }) svc, _, rfl, by decide +kernel⟩,
   ⟨0, 0, [], wRun .track (fun x => { x with errCnt := 1 }) 30, _, rfl, by decide +kernel⟩,
   ⟨0, 0, List.replicate 128 0, [], wRun .far (fun x => { x with errCnt := 1 }) 30, _, rfl, by decide +kernel⟩,
   ⟨0, 0, [], wRun .track id 30, _, rfl, by decide +kernel⟩,
   ⟨0, 0, wRx (fun r => { r with revDue := true, revSince := 1 }) svc, by decide +kernel⟩,
   ⟨0, 0, (wRx (fun r => { r with phase := .track }) svc), by decide +kernel⟩,
   ⟨0, 0, (wRx (fun r => { r with phase := .track }) svc), by decide +kernel⟩⟩

theorem witness_FolioCommandsComplete :
    (∃ (p : PortId) (n : LaneId) (f : RxFolio) (s : State), (s.port p).takesFolio n = true ∧ (s.port p).recv n = none ∧
      decodeFolio (bitOf ((s.port p).act .fecCtrl) 15) (bits ((s.port p).act .fecCtrl) 3 0) (bits ((s.port p).act .fecCtrl) 14 8) f = none) ∧
    (∃ (p : PortId) (n : LaneId) (slot : Nat) (s : State),
      (s.port p).lre.naks = [{ lane := n.val, slot := slot, sends := 1, due := false, busy := false, waited := true }] ∧
      1 < bits ((s.port p).act .lreCtrl) 5 4) ∧
    (∃ (p : PortId) (n : LaneId) (headers : List (List Bool)) (i : Nat) (s : State), (s.lane p n).code.hunting = true ∧
      (huntRound headers).1 = some i) ∧
    (∃ (p : PortId) (n : LaneId) (headers : List (List Bool)) (s : State), (s.lane p n).code.hunting = true ∧
      huntRound headers = (none, true)) ∧
    (∃ (p : PortId) (n : LaneId) (s : State), (s.lane p n).code.lock = true ∧ (s.lane p n).code.lockDue = true ∧
      (s.lane p n).code.state = .locked) ∧
    (∃ (p : PortId) (n : LaneId) (s : State), (s.lane p n).code.alignedF = true ∧ 2 ≤ (s.lane p n).code.alignMiss) ∧
    (∃ (p : PortId) (n : LaneId) (s : State) (u : State), (s.lane p n).rx.cdrLock = true ∧ (s.lane p n).rx.phase ≠ .hold ∧
      u = s.modLane p n (fun l => { l with rx := { l.rx with cdrLock := false } })) ∧
    (∃ (p : PortId) (n : LaneId) (r : Nat) (s : State), (s.port p).recv n = some r ∧ (s.port p).snd.leader = false ∧
      (s.port p).code.loaded = false ∧ (s.port p).link.state = .align ∧ (s.lane p n).code.alignedF = true) ∧
    (∃ (p : PortId) (s : State), (s.port p).link.state = .align ∧ 16 ≤ (s.port p).code.alignPeriods ∧ (s.port p).code.chg = none ∧
      (s.port p).bothReady ≠ 0 ∧ (s.port p).minLanes ≤ popcount8 (s.port p).bothReady) ∧
    (∃ (p : PortId) (s : State), (s.port p).link.state = .align ∧ 16 ≤ (s.port p).code.alignPeriods ∧ (s.port p).code.chg = none ∧
      popcount8 (s.port p).bothReady < (s.port p).minLanes) :=
  ⟨⟨0, 0, { invalid := [], blocks := [], errs := List.range 44, rel := [], arrival := 0, ago := 0 },
     (wLc (fun c => { c with lock := true }) (wPort (nat .up))), by decide +kernel⟩,
   ⟨0, 0, 7,
     (wPort fun q => { (q.setReg .lreCtrl fun r => { r with inForce := 0x20 }) with lre := { q.lre with naks := [{ lane := 0, slot := 7, sends := 1, due := false, busy := false, waited := true }] } }),
     by decide +kernel⟩,
   ⟨0, 0, [List.replicate 1024 true], 0, wLc (fun c => { c with state := .hunt }) svc, by decide +kernel⟩,
   ⟨0, 0, List.replicate 172 (List.replicate 17 false), wLc (fun c => { c with state := .hunt }) svc, by decide +kernel⟩,
   ⟨0, 0, (wLc (fun c => { c with state := .locked, lock := true, lockDue := true }) svc), by decide +kernel⟩,
   ⟨0, 0, (wLc (fun c => { c with alignedF := true, alignMiss := 2 }) svc), by decide +kernel⟩,
   ⟨0, 0, wRx (fun r => { r with cdrLock := true }) svc, _, by decide +kernel, by decide +kernel, rfl⟩,
   ⟨0, 0, 5,
     (wLc (fun c => { c with alignedF := true, recvOfs := some 5 }) (wPort fun q => nat .align { q with code := { q.code with slotCnt := 0, loaded := false }, snd := { q.snd with leader := false } })),
     by decide +kernel⟩,
   ⟨0,
     wLc (fun c => { c with state := .aligned, deskewed := true }) (wPort fun q => nat .align { (q.setReg .codeCtrl fun r => { r with inForce := 1 }) with code := { q.code with alignPeriods := 16, partner := { q.code.partner with ready := 0xFF } } }),
     by decide +kernel⟩,
   ⟨0,
     (wPort fun q => nat .align { q with code := { q.code with alignPeriods := 16 }, snd := { q.snd with agreed := some offer0 } }),
     by decide +kernel⟩⟩

theorem witness_LaneChangeCommandsComplete :
    (∃ (p : PortId) (k : ChgKind) (s : State), (s.port p).code.chg = some k ∧
      epochReached ((s.port p).nextSlot / 64) (s.port p).code.chgEpoch = true ∧ k ≠ .planned) ∧
    (∃ (p : PortId) (n : LaneId) (c : Nat) (ep : Nat) (s : State), (s.lane p n).code.trig = some (c, ep) ∧ c ≠ 6 ∧
      (s.lane p n).code.state = .active) ∧
    (∃ (p : PortId) (n : LaneId) (ep : Nat) (s : State), (s.lane p n).code.trig = some (6, ep) ∧
      (s.lane p n).code.state = .active) ∧
    (∃ (who : Initiator) (p : PortId) (s : State), WriteReaches who s (portBase p + 0x1020)) ∧
    (∃ (p : PortId) (s : State), (s.port p).code.plan = .proposed ∧
      epochReached ((s.port p).nextSlot / 64) ((s.port p).code.chgEpoch + epochMod - 16) = true) ∧
    (∃ (p : PortId) (n : LaneId) (s : State), (s.lane p n).code.state = .shed ∧ (s.lane p n).code.autoAdd = true ∧
      (s.lane p n).code.shedCap = false ∧ bitOf ((s.port p).act .codeCtrl) 6 = true ∧ bits (s.port p).code.readdCtrl 31 24 = 0 ∧
      (s.port p).code.addSent.testBit n.val = false ∧ (s.port p).link.state = .degraded ∧ (s.lane p n).test.loop.isFar = false) ∧
    (∃ (p : PortId) (n : LaneId) (s : State), (s.lane p n).code.state = .adding) ∧
    (∃ (p : PortId) (id : Nat) (nextMap : Nat) (s : State) (u : State), (s.port p).noticesOk = true ∧
      u = wakeTrigger p (s.modPort p fun q => { q with code := { q.code with noticeSeen := id % 256 } }) ∧
      (u.port p).code.plan = .responder ∧ (u.port p).code.nextMap = nextMap) ∧
    (∃ (p : PortId) (s : State) (k : ChgKind), (s.port p).noticesOk = true ∧ ((wakeTrigger p s).port p).code.chg = some k) ∧
    (∃ (p : PortId) (n : LaneId) (s : State), (s.port p).noticesOk = true ∧ ((wakeTrigger p s).port p).code.chg = none ∧
      ((wakeTrigger p s).lane p n).test.loop = .none ∧ ((wakeTrigger p s).lane p n).code.state = .shed) ∧
    (∃ (p : PortId) (id : Nat) (what : Nat) (s : State), (s.port p).noticesOk = true ∧ ((s.port p).takeNotice id 0x10).1 = true ∧
      ((s.port p).takeNotice id 0x10).2.code.plan = .proposed ∧ ((s.port p).takeNotice id 0x10).2.code.nextMap = what) ∧
    (∃ (p : PortId) (id : Nat) (lane : Nat) (s : State), (s.port p).noticesOk = true ∧ ((s.port p).takeNotice id 0x11).1 = true ∧
      lane < 8 ∧ ((s.port p).takeNotice id 0x11).2.code.addSent.testBit lane = true) ∧
    (∃ (p : PortId) (id : Nat) (n : LaneId) (reason : Nat) (s : State), (s.port p).noticesOk = true ∧
      ((s.port p).takeNotice id 0x11).1 = true ∧ ((s.port p).takeNotice id 0x11).2.code.addSent.testBit n.val = true ∧ reason ≠ 1) :=
  ⟨⟨0, .linkUp, (wCode fun c => { c with chg := some .linkUp, chgEpoch := 0, slotCnt := 0 }), by decide +kernel⟩,
   ⟨0, 0, 1, 0, (wLc (fun c => { c with trig := some (1, 0), state := .active }) svc), by decide +kernel⟩,
   ⟨0, 0, 0, (wLc (fun c => { c with trig := some (6, 0), state := .active }) svc), by decide +kernel⟩,
   ⟨.pcie, 0, svc, by simp only [WriteReaches]; decide +kernel⟩,
   ⟨0, (wCode fun c => { c with plan := .proposed, chgEpoch := 16, slotCnt := 0 }), by decide +kernel⟩,
   ⟨0, 0,
     (wLc (fun c => { c with state := .shed, autoAdd := true }) (wPort fun q => nat .degraded { (q.setReg .codeCtrl fun r => { r with inForce := 0x40 }) with code := { q.code with readdCtrl := 0, addSent := 0 } })),
     by decide +kernel⟩,
   ⟨0, 0, (wLc (fun c => { c with state := .adding }) svc), by decide +kernel⟩,
   ⟨0, 1, 0x0F, wPort fun q => nat .up { q with code := { q.code with plan := .responder, nextMap := 0x0F } }, _,
     by decide +kernel, rfl, by decide +kernel⟩,
   ⟨0, (wPort fun q => nat .up { q with code := { q.code with chg := some .planned } }), .planned, by decide +kernel⟩,
   ⟨0, 0, (wLc (fun c => { c with state := .shed }) (wPort (nat .up))), by decide +kernel⟩,
   ⟨0, 1, 0x0F,
     (wPort fun q => nat .up { q with code := { q.code with plan := .proposed, nextMap := 0x0F }, snd := { q.snd with await := [{ typ := 0x10, payload := [1], resends := 0 }] } }),
     by decide +kernel⟩,
   ⟨0, 255, 7,
     (wPort fun q => nat .up { q with code := { q.code with addSent := 0x80 }, snd := { q.snd with await := [{ typ := 0x11, payload := [255], resends := 0 }] } }),
     by decide +kernel⟩,
   ⟨0, 255, 7, 2,
     wPort fun q => nat .up { q with code := { q.code with addSent := 0x80 }, snd := { q.snd with await := [{ typ := 0x11, payload := [255], resends := 0 }] } },
     by decide +kernel⟩⟩

theorem witness_SoundingCommandsComplete :
    (∃ (p : PortId) (cm : Bool) (rx0 : Int) (tx0 : Int) (since : Nat) (s : State) (pair : Bool),
      pair = (!cm && (s.port p).pairOf rx0 tx0 since) ∧ (s.port p).instRuns cm = true ∧ ((s.port p).snd.inst cm).rx = .none ∧
      (cm && (s.port p).blanksCm since) = false) ∧
    (∃ (p : PortId) (cm : Bool) (s : State), ((s.port p).snd.inst cm).rx = .preamble) ∧
    (∃ (p : PortId) (cm : Bool) (timing : Nat) (bin : Nat) (s : State), ((s.port p).snd.inst cm).rx = .preamble ∧ 1 ≤ timing ∧
      2 < bin) ∧
    (∃ (p : PortId) (cm : Bool) (w1 : Int) (w2 : Int) (s : State), ((s.port p).snd.inst cm).rx ≠ .none ∧
      w1 ≤ ((s.port p).snd.inst cm).refPow - 24 ∧ w2 ≤ ((s.port p).snd.inst cm).refPow - 24) ∧
    (∃ (p : PortId) (cm : Bool) (w : Word) (s : State), ((s.port p).snd.inst cm).rx = .preamble ∧ hdrOk cm w = true) ∧
    (∃ (p : PortId) (cm : Bool) (typ : Nat) (len : Nat) (psf : Nat) (s : State), ((s.port p).snd.inst cm).rx = .payload ∧
      ((s.port p).snd.inst cm).hdr = some (typ, len, psf)) ∧
    (∃ (p : PortId) (f : SndFrame) (s : State), (s.port p).instRuns true = true ∧ (s.port p).link.burst = false ∧
      (s.group p).relocking = false ∧ (s.port p).duplex = false ∧ cmNext (s.port p).snd.queue = some f ∧
      (s.port p).snd.cur = none) ∧
    (∃ (p : PortId) (s : State), (s.port p).link.state = .sound ∧ (s.port p).snd.round < bits (s.port p).snd.diffCtrl 31 24 ∧
      (s.port p).snd.partner = none ∧ (s.group p).relocking = false) ∧
    (∃ (p : PortId) (ofs : Nat) (s : State), (s.port p).link.state = .sound ∧ (s.port p).snd.callOfs = some ofs ∧
      (s.port p).snd.diff.rx = .none ∧ (s.port p).snd.diffCur = none ∧ (s.port p).snd.diffDue = none ∧
      (s.group p).relocking = false) ∧
    (∃ (p : PortId) (s : State), (s.port p).link.state = .sound ∧ bits (s.port p).snd.diffCtrl 31 24 ≤ (s.port p).snd.round ∧
      (s.port p).snd.partner = none ∧ (s.group p).relocking = false ∧ bitOf (s.port p).snd.ctrl 4 = true) ∧
    (∃ (p : PortId) (s : State), (s.port p).link.state = .sound ∧ bits (s.port p).snd.diffCtrl 31 24 ≤ (s.port p).snd.round ∧
      (s.port p).snd.partner = none ∧ (s.group p).relocking = false ∧ bitOf (s.port p).snd.ctrl 4 = false) ∧
    (∃ (p : PortId) (f : SndFrame) (s : State), (s.port p).snd.cur = some f) ∧
    (∃ (p : PortId) (f : SndFrame) (s : State), (s.port p).snd.diffCur = some f) ∧
    (∃ (p : PortId) (i : Nat) (s : State), (s.port p).snd.train = some i) :=
  ⟨⟨0, false, 0, 1, 1000, wPort fun q => { q with link := { q.link with state := .sound } }, _, rfl, by decide +kernel⟩,
   ⟨0, false, (wSnd fun x => { x with diff := { x.diff with rx := .preamble, refPow := 24 } }), by decide +kernel⟩,
   ⟨0, false, 1, 3, (wSnd fun x => { x with diff := { x.diff with rx := .preamble, refPow := 24 } }), by decide +kernel⟩,
   ⟨0, false, 0, 0, (wSnd fun x => { x with diff := { x.diff with rx := .preamble, refPow := 24 } }), by decide +kernel⟩,
   ⟨0, false, (0x00006000 ||| BitVec.setWidth 32 (crc8 (msbBits 24 0x60))),
     (wSnd fun x => { x with diff := { x.diff with rx := .preamble, refPow := 24 } }), by decide +kernel⟩,
   ⟨0, false, 1, 0, 6, (wSnd fun x => { x with diff := { x.diff with rx := .payload, hdr := some (1, 0, 6) } }),
     by decide +kernel⟩,
   ⟨0, (frame 0x10), (wPort fun q => nat .up { q with snd := { q.snd with queue := [frame 0x10] } }), by decide +kernel⟩,
   ⟨0,
     wPort fun q => { q with link := { q.link with state := .sound }, snd := { q.snd with diffCtrl := 0x02000000, round := 1 } },
     by decide +kernel⟩,
   ⟨0, 0,
     (wPort fun q => { q with link := { q.link with state := .sound }, snd := { q.snd with diffCtrl := 0x02000000, callOfs := some 0 } }),
     by decide +kernel⟩,
   ⟨0,
     wPort fun q => { q with link := { q.link with state := .sound }, snd := { q.snd with diffCtrl := 0x02000000, round := 2, ctrl := 0x10 } },
     by decide +kernel⟩,
   ⟨0,
     wPort fun q => { q with link := { q.link with state := .sound }, snd := { q.snd with diffCtrl := 0x02000000, round := 2, ctrl := 0 } },
     by decide +kernel⟩,
   ⟨0, (frame 0x10), (wSnd fun x => { x with cur := some (frame 0x10) }), by decide +kernel⟩,
   ⟨0, frame 1, wSnd fun x => { x with diffCur := some (frame 1) }, by decide +kernel⟩,
   ⟨0, 0, wSnd fun x => { x with train := some 0 }, by decide +kernel⟩⟩

theorem witness_NegotiationCommandsComplete :
    (∃ (p : PortId) (f : SndFrame) (sf : Nat) (b : Bool) (s : State), (s.port p).snd.diffDue = some (f, sf, b) ∧ f.typ = 0x06 ∧
      (s.group p).relocking = false ∧ (s.port p).snd.diffCur = none ∧ (s.port p).snd.train = none ∧
      (b = true ∨ (s.port p).snd.diff.rx = .none)) ∧
    (∃ (p : PortId) (c : CallInfo) (sf : Nat) (s : State), callOk p c s = true ∧ (s.port p).hears sf = true ∧
      (s.port p).link.state = .sound ∧ (s.port p).snd.partner = none) ∧
    (∃ (p : PortId) (c : CallInfo) (s : State), (s.port p).link.state = .sound ∧ callOk p c s = true) ∧
    (∃ (p : PortId) (session : Nat) (f : SndFrame) (s : State), (s.port p).sessionIs session = true ∧
      (s.port p).snd.goDone = false ∧ (s.port p).snd.leader = true ∧ (s.port p).snd.diffLast = some f ∧ f.typ = 0x03) ∧
    (∃ (p : PortId) (session : Nat) (o : Offer) (s : State), (s.port p).sessionIs session = true ∧ (s.port p).snd.goDone = false ∧
      (s.port p).snd.leader = false ∧ (s.port p).snd.offer = none ∧ o.mode ≠ 0 ∧ s.canProvide p (rateFreq o.rate) = false) ∧
    (∃ (p : PortId) (session : Nat) (o : Offer) (f : SndFrame) (s : State), (s.port p).sessionIs session = true ∧
      (s.port p).snd.leader = true ∧ (s.port p).snd.goDone = false ∧ (s.port p).snd.offer = some o ∧
      (s.port p).snd.diffLast = some f ∧ f.typ = 0x04 ∧ (s.port p).snd.closing = none ∧ s.canProvide p (rateFreq o.rate) = true) ∧
    (∃ (p : PortId) (session : Nat) (o : Offer) (s : State), (s.port p).sessionIs session = true ∧ (s.port p).snd.leader = true ∧
      (s.port p).snd.goDone = false ∧ (s.port p).snd.offer = some o ∧ (s.port p).snd.closing = none) ∧
    (∃ (p : PortId) (session : Nat) (o : Offer) (f : SndFrame) (s : State), (s.port p).sessionIs session = true ∧
      (s.port p).snd.leader = false ∧ (s.port p).snd.goDone = false ∧ (s.port p).snd.offer = some o ∧
      (s.port p).snd.diffLast = some f ∧ f.typ = 0x05 ∧ o.mode ≠ 0) ∧
    (∃ (p : PortId) (f : SndFrame) (s : State), (s.port p).snd.diffLast = some f ∧ f.typ = 0x04 ∧ (s.port p).inParley = true ∧
      (s.port p).snd.leader = true ∧ (s.port p).snd.goDone = false ∧ (s.port p).snd.diffDue = none ∧
      (s.port p).snd.diffResends < 3 ∧ (s.group p).relocking = false) ∧
    (∃ (p : PortId) (s : State), (s.port p).inParley = true ∧ (s.port p).snd.goDone = false ∧ (s.port p).link.downDue = none ∧
      (s.group p).relocking = false) ∧
    (∃ (p : PortId) (code : Nat) (s : State), (s.port p).inParley = true ∧ (s.port p).snd.goDone = false ∧
      (s.port p).link.downDue = none ∧ (s.group p).relocking = false ∧ (s.port p).snd.leader = true ∧
      3 ≤ (s.port p).snd.diffResends ∧ (s.port p).snd.closing = some code) ∧
    (∃ (p : PortId) (s : State), (s.port p).link.retryHold = true ∧ (s.group p).relocking = false) :=
  ⟨⟨0, frame 6, 9, false, wSnd fun x => { x with diffDue := some (frame 6, 9, false) }, by decide +kernel⟩,
   ⟨0, call0, 9, wPort fun q => { q with link := { q.link with state := .sound }, snd := { q.snd with ctrl := 4 } },
     by unfold callOk; rw [Bool.and_comm (decide (_ = Config.uid.toNat))]; decide +kernel⟩,
   ⟨0,
     { version := 1, part := 1, uid := 0, port := 1, lanes := 0xFF, rand := 0, modes := 1, rates := 7, minLanes := 1, rangeMax := 0, cmSf := 7, mgmtSf := 7, replay := 64 },
     (wPort fun q => { q with link := { q.link with state := .sound }, snd := { q.snd with ctrl := 4 } }),
     by unfold callOk; rw [Bool.and_comm (decide (_ = Config.uid.toNat))]; decide +kernel⟩,
   ⟨0, 5, (frame 3),
     (wPort fun q => nat .parley { q with snd := { q.snd with session := 5, leader := true, diffLast := some (frame 3) } }),
     by decide +kernel⟩,
   ⟨0, 5, { offer0 with rate := 3 },
     (wGroup (fun g => { g with planInForce := 1 }) (wPort fun q => nat .parley { q with snd := { q.snd with session := 5, leader := false } })),
     by decide +kernel⟩,
   ⟨0, 5, offer0, (frame 4),
     (wPort fun q => nat .parley { q with snd := { q.snd with session := 5, leader := true, offer := some offer0, diffLast := some (frame 4) } }),
     by decide +kernel⟩,
   ⟨0, 5, offer0,
     (wPort fun q => nat .parley { q with snd := { q.snd with session := 5, leader := true, offer := some offer0 } }),
     by decide +kernel⟩,
   ⟨0, 5, offer0, (frame 5),
     (wPort fun q => nat .parley { q with snd := { q.snd with session := 5, leader := false, offer := some offer0, diffLast := some (frame 5) } }),
     by decide +kernel⟩,
   ⟨0, frame 4,
     wPort fun q => nat .parley { q with snd := { q.snd with session := 5, leader := true, diffLast := some (frame 4), diffResends := 2 } },
     by decide +kernel⟩,
   ⟨0, wPort fun q => nat .parley { q with snd := { q.snd with session := 5, leader := false } }, by decide +kernel⟩,
   ⟨0, 6,
     wPort fun q => nat .parley { q with snd := { q.snd with session := 5, leader := true, diffResends := 3, closing := some 6 } },
     by decide +kernel⟩,
   ⟨0, wLink fun l => { l with retryHold := true }, by decide +kernel⟩⟩

theorem witness_TrainingCommandsComplete :
    (∃ (p : PortId) (s : State), (s.port p).inParley = true ∧ (s.port p).snd.goDone = true ∧ (s.port p).link.downDue = none ∧
      (s.group p).relocking = false ∧ s.provides p (rateFreq (s.port p).modeRate.2) = true ∧ (s.port p).rangesWait = false) ∧
    (∃ (p : PortId) (s : State), (s.port p).link.state = .train ∧ (s.port p).snd.path = .native) ∧
    (∃ (p : PortId) (step : Nat) (s : State), (s.port p).snd.path = .native ∧ (s.port p).link.state = .align ∧
      (s.port p).snd.leader = true ∧ (s.port p).snd.step < step) ∧
    (∃ (p : PortId) (k : Nat) (s : State), (s.port p).snd.switchTo = some k ∧ (s.port p).link.state = .train ∧ k < 4) ∧
    (∃ (p : PortId) (s : State), (s.port p).snd.switchTo = some 4 ∧ (s.port p).link.state = .train) ∧
    (∃ (p : PortId) (s : State), (s.port p).link.state = .train ∧ (s.port p).snd.path = .native ∧ (s.port p).snd.leader = true ∧
      (s.port p).snd.switchTo = none ∧ (s.port p).minLanes ≤ popcount8 (s.port p).stepMet) ∧
    (∃ (p : PortId) (s : State), (s.port p).link.state = .train ∧ (s.port p).snd.path = .native) ∧
    (∃ (p : PortId) (c : Nat) (s : State), (s.port p).link.downDue = some c ∧ (s.port p).diag.running = none ∧ c ≠ 2) :=
  ⟨⟨0,
     wGroup (fun g => { g with lock := true, freq := .f592 }) (wPort fun q => nat .parley { q with snd := { q.snd with session := 5, goDone := true, agreed := some offer0 } }),
     by decide +kernel⟩,
   ⟨0, (wPort (nat .train)), by decide +kernel⟩,
   ⟨0, 4, (wPort fun q => nat .align { q with snd := { q.snd with leader := true, step := 3 } }), by decide +kernel⟩,
   ⟨0, 3, (wPort fun q => nat .train { q with snd := { q.snd with switchTo := some 3 } }), by decide +kernel⟩,
   ⟨0, (wPort fun q => nat .train { q with snd := { q.snd with switchTo := some 4 } }), by decide +kernel⟩,
   ⟨0,
     wRx (fun r => { r with conv := true, phase := .track }) (wPort fun q => nat .train { (q.setReg .codeCtrl fun r => { r with inForce := 1 }) with snd := { q.snd with leader := true, step := 2, set := 1, partnerConv := 0xFF, partnerCdr := 0xFF, agreed := some offer0 } }),
     by decide +kernel⟩,
   ⟨0, (wPort (nat .train)), by decide +kernel⟩,
   ⟨0, 1, (wLink fun l => { l with downDue := some 1 }), by decide +kernel⟩⟩

theorem witness_IeeeCommandsComplete :
    (∃ (p : PortId) (i : SubId) (s : State), (s.port p).link.state ≠ .sound ∧ (s.port p).subRuns i .parley = true ∧
      (s.group p).relocking = false) ∧
    (∃ (p : PortId) (i : SubId) (phy : Nat) (page : BitVec 48) (s : State), (s.port p).subRuns i .parley = true ∧
      (s.port p).ieee[i.val].page = some page ∧ phy ≠ 0 ∧
      phy = phyResolved ((s.port p).advertised i &&& (s.port p).ieee[i.val].able)) ∧
    (∃ (p : PortId) (i : SubId) (s : State), (s.port p).subRuns i .parley = true ∧ (s.port p).ieee[i.val].page = none ∧
      (s.port p).soundsFirst = false ∧ (s.port p).ieee[i.val].waitGroup = false ∧ (s.group p).relocking = false) ∧
    (∃ (p : PortId) (i : SubId) (s : State), (s.port p).subRuns i .train = true) ∧
    (∃ (p : PortId) (i : SubId) (s : State), (s.port p).subRuns i .train = true) ∧
    (∃ (p : PortId) (i : SubId) (s : State), (s.port p).subRuns i .up = true) ∧
    (∃ (p : PortId) (i : SubId) (order : List Nat) (blocks : List PcsBlock) (errs : Nat) (drift : Int) (s : State) (r : RcAcc × Bool),
      (s.port p).subRuns i .up = true ∧ amOk (phyLanes (s.port p).ieee[i.val].phy) order = true ∧ 0 < errs ∧ errs ≤ 15 ∧
      r = rateComp (s.port p).ieee[i.val].comp (s.port p).ieee[i.val].drop drift (codewordBlocks true blocks) ∧ r.2 = false) ∧
    (∃ (ad : BitVec 5) (s : State), s.boot.configDone = true ∧ ad.toNat = s.boot.prtad) ∧
    (∃ (ad : BitVec 5) (p : PortId) (i : SubId) (s : State), s.boot.configDone = true ∧ ad.toNat = s.boot.prtad ∧
      s.mdioSub = some (p, i)) ∧
    (∃ (ad : BitVec 5) (p : PortId) (i : SubId) (s : State), s.boot.configDone = true ∧ ad.toNat = s.boot.prtad ∧
      s.mdioSub = some (p, i) ∧ (s.port p).ieeeMode = true ∧ (s.port p).ieee[i.val].state = .up) ∧
    (∃ (ad : BitVec 5) (p : PortId) (i : SubId) (s : State), s.boot.configDone = true ∧ ad.toNat = s.boot.prtad ∧
      s.mdioSub = some (p, i)) :=
  ⟨⟨0, 0,
     wPort fun q => { q with snd := { q.snd with path := .ieee, ctrl := 0 }, ieee := updAt q.ieee 0 fun b => { b with state := .parley } },
     by decide +kernel⟩,
   ⟨0, 0, 1, 1,
     wPort fun q => { (q.setReg .ieeeCfg fun r => { r with inForce := 0x200, accepted := 0x200 }) with snd := { q.snd with path := .ieee }, ieee := updAt q.ieee 0 fun b => { b with state := .parley, page := some 1, able := 1, advMask := 0xFF } },
     by decide +kernel⟩,
   ⟨0, 0,
     wPort fun q => { q with snd := { q.snd with path := .ieee, ctrl := 0 }, ieee := updAt q.ieee 0 fun b => { b with state := .parley } },
     by decide +kernel⟩,
   ⟨0, 0,
     (wPort fun q => { q with snd := { q.snd with path := .ieee }, ieee := updAt q.ieee 0 fun b => { b with state := .train } }),
     by decide +kernel⟩,
   ⟨0, 0,
     (wPort fun q => { q with snd := { q.snd with path := .ieee }, ieee := updAt q.ieee 0 fun b => { b with state := .train } }),
     by decide +kernel⟩,
   ⟨0, 0,
     (wPort fun q => { q with snd := { q.snd with path := .ieee }, ieee := updAt q.ieee 0 fun b => { b with state := .up } }),
     by decide +kernel⟩,
   ⟨0, 0, [0], [], 15, 0,
     wPort fun q => { q with snd := { q.snd with path := .ieee }, ieee := updAt q.ieee 0 fun b => { b with state := .up, phy := 1, comp := 32 } },
     _, by decide +kernel, by decide +kernel, by decide +kernel, by decide +kernel, rfl, by decide +kernel⟩,
   ⟨0, svc, by decide +kernel⟩,
   ⟨0, 0, 0,
     wPort fun q => { (q.setReg .ieeeCfg fun r => { r with inForce := 0x200, accepted := 0x200 }) with snd := { q.snd with path := .ieee }, ieee := updAt q.ieee 0 fun b => { b with state := .up, page := some 1, advMask := 0xFF } },
     by decide +kernel⟩,
   ⟨0, 0, 0,
     wPort fun q => { (q.setReg .ieeeCfg fun r => { r with inForce := 0x200, accepted := 0x200 }) with snd := { q.snd with path := .ieee }, ieee := updAt q.ieee 0 fun b => { b with state := .up, page := some 1, advMask := 0xFF } },
     by decide +kernel⟩,
   ⟨0, 0, 0,
     wPort fun q => { (q.setReg .ieeeCfg fun r => { r with inForce := 0x200, accepted := 0x200 }) with snd := { q.snd with path := .ieee }, ieee := updAt q.ieee 0 fun b => { b with state := .up, page := some 1, advMask := 0xFF } },
     by decide +kernel⟩⟩

theorem witness_SpillCommandsComplete :
    (∃ (via : Origin) (ideReq : Bool) (capture : Nat) (sh1 : Nat) (sh2 : Nat) (sh3 : Nat) (links : List CxlTrain) (s : State),
      Serves via 0x0401 s ∧ sizesOk capture sh1 sh2 sh3 = true ∧ anyParcel s = false ∧ captureRuns s = false ∧ s.test.unrep = [] ∧
      s.test.bist = none ∧
      layoutFits ((mapCaps 2048 (links.map fun t => if t.usable ideReq then t else { t with capGib := 0 })).take 8).sum s.boot.ledgerGib capture sh1 sh2 sh3 = true) ∧
    (∃ (via : Origin) (w : Nat) (r : Nat) (pods : List (Nat × Nat)) (s : State), Serves via 0x0402 s ∧ s.store.state = 2 ∧
      anyParcel s = false ∧
      admitted { s with store := { s.store with cfgD := Nat.min w r - 10, podBw := podBwOf s pods } } = true) ∧
    (∃ (via : Origin) (w : Nat) (r : Nat) (pods : List (Nat × Nat)) (s : State), Serves via 0x0402 s ∧ s.store.state = 2 ∧
      anyParcel s = false ∧
      admitted { s with store := { s.store with cfgD := Nat.min w r - 10, podBw := podBwOf s pods } } = false) ∧
    (∃ (via : Origin) (cls : Nat) (min : Nat) (floor : Nat) (weight : Nat) (ceil : Nat) (portCap : Nat) (s : State),
      Serves via 0x0403 s ∧ 1 ≤ cls ∧ cls ≤ 3 ∧ classParOk min floor weight ceil portCap = true ∧
      admitted { s with store := { s.store with cls := updNat s.store.cls (cls - 1) fun _ => { min := min, floor := floor, weight := weight, ceil := ceil, portCap := portCap, minEff := min } } } = true) ∧
    (∃ (via : Origin) (cls : Nat) (min : Nat) (floor : Nat) (weight : Nat) (ceil : Nat) (portCap : Nat) (s : State),
      Serves via 0x0403 s ∧ 1 ≤ cls ∧ cls ≤ 3 ∧ classParOk min floor weight ceil portCap = true ∧
      admitted { s with store := { s.store with cls := updNat s.store.cls (cls - 1) fun _ => { min := min, floor := floor, weight := weight, ceil := ceil, portCap := portCap, minEff := min } } } = false) ∧
    (∃ (via : Origin) (mask : BitVec 96) (s : State), Serves via 0x0404 s ∧ s.part.hasStore = false ∧
      ((maskPorts mask).any fun p => !s.part.hasPort p) = false) ∧
    (∃ (via : Origin) (p : PortId) (s : State), Serves via 0x0404 s ∧ s.part.hasStore = true ∧ s.part.hasPort p = true ∧
      maskPorts (1 <<< p.val) = [p] ∧ (s.port p).spill.h2l.inStore = false ∧ (s.port p).spill.l2h.inStore = false ∧
      admitted (s.mapPorts fun q x => if [p].contains q then { x with cls := 2 } else x) = true) ∧
    (∃ (via : Origin) (capture : Nat) (sh1 : Nat) (sh2 : Nat) (sh3 : Nat) (s : State), Serves via 0x0405 s ∧
      sizesOk capture sh1 sh2 sh3 = true ∧
      layoutFits (s.store.mx.toList.map CxlLink.capGib).sum s.store.ledgerGib capture sh1 sh2 sh3 = true ∧ anyParcel s = false ∧
      captureRuns s = false) ∧
    (∃ (via : Origin) (m : CxlId) (s : State), Serves via 0x0406 s ∧ s.store.mx[m.val].state = 2) ∧
    (∃ (via : Origin) (m : CxlId) (s : State), Serves via 0x0406 s ∧ s.store.mx[m.val].state ≠ 2) :=
  ⟨⟨(.slot 0), true, 8, 0, 0, 0, [{ present := true, width := 0, rate := 0, hasIde := true, capGib := 64, d := 1000 }],
     (runs 0x0401 svc), by simp only [Serves]; decide +kernel⟩,
   ⟨.slot 0, 1010, 1010, [], runs 0x0402 (wStore fun x => { x with state := 2 }), by simp only [Serves]; decide +kernel⟩,
   ⟨.slot 0, 10, 10, [], runs 0x0402 (wStore fun x => { x with state := 2, cls := x.cls.map fun c => { c with min := 4800 } }),
     by simp only [Serves]; decide +kernel⟩,
   ⟨.slot 0, 3, 10, 10, 255, 4800, 2047,
     runs 0x0403 (wStore fun x => { x with cfgD := 47150, podBw := Vector.replicate 8 (616, 616) }),
     by simp only [Serves]; decide +kernel⟩,
   ⟨.slot 0, 3, 10, 10, 255, 4800, 2047,
     runs 0x0403 ((wStore fun x => { x with cfgD := 0 }).modPort 0 fun q => { q with cls := 3 }),
     by simp only [Serves]; decide +kernel⟩,
   ⟨(.slot 0), 0xFFFFFFFFFFFFFFFFFFFFFFFF, (runs 0x0404 { svc with part := .s }), by simp only [Serves]; decide +kernel⟩,
   ⟨(.slot 0), 0, (runs 0x0404 svc), by simp only [Serves]; decide +kernel⟩,
   ⟨(.slot 0), 8, 1, 1, 1, (runs 0x0405 (wMx id)), by simp only [Serves]; decide +kernel⟩,
   ⟨(.slot 0), 0, (runs 0x0406 (wMx id)), by simp only [Serves]; decide +kernel⟩,
   ⟨.slot 0, 0, runs 0x0406 svc, by simp only [Serves]; decide +kernel⟩⟩

theorem witness_SpillEventsComplete :
    (∃ (m : CxlId) (s : State), s.store.mx[m.val].state = 2) ∧
    (∃ (m : CxlId) (s : State), s.store.mx[m.val].state ≠ 2) ∧
    (∃ (m : CxlId) (width : Nat) (rate : Nat) (s : State), s.store.mx[m.val].state = 2 ∧ width ≤ 2 ∧ rate ≤ 1) ∧
    (∃ (m : CxlId) (s : State), s.store.mx[m.val].state = 2 ∧ s.store.mx[m.val].fenced = false) ∧
    (∃ (m : CxlId) (s : State), s.store.mx[m.val].state = 2 ∧ s.store.mx[m.val].qual = true) ∧
    (∃ (m : CxlId) (width : Nat) (rate : Nat) (s : State), s.store.mx[m.val].state = 3 ∧ s.store.mx[m.val].excluded = false ∧
      width ≤ 2 ∧ rate ≤ 1) ∧
    (∃ (p : PortId) (l2h : Bool) (s : State), (grantInterval s).store.state = 2 ∧ grantAllowed (grantInterval s) true p = true ∧
      (((grantInterval s).port p).spill.q l2h).readable ((grantInterval s).port p).headRoom = true) ∧
    (∃ (p : PortId) (l2h : Bool) (m : CxlId) (r : Nat) (v : Vector Int 8) (s : State), (grantInterval s).store.state = 2 ∧
      grantAllowed (grantInterval s) false p = true ∧ (((grantInterval s).port p).spill.q l2h).wantsWrite = true ∧
      placeNext (grantInterval s) p = some (m, r, v)) ∧
    (∃ (p : PortId) (l2h : Bool) (slot : BitVec 32768) (i : Nat) (c : Parcel) (lk : CxlId) (rg : Nat) (g : Nat) (k : Nat) (h : ParcelHeader) (blocks : List Block) (s : State),
      ((s.port p).spill.q l2h).first = some i ∧ ((s.port p).spill.q l2h).parcels[i]? = some c ∧ c.place = .stored lk rg g k ∧
      ((s.port p).spill.q l2h).reading ≠ 0 ∧ readSlot slot = some (h, blocks, false) ∧ h.expected p l2h g c.pseq = true) ∧
    (∃ (p : PortId) (l2h : Bool) (i : Nat) (c : Parcel) (lk : CxlId) (rg : Nat) (g : Nat) (k : Nat) (s : State),
      ((s.port p).spill.q l2h).first = some i ∧ ((s.port p).spill.q l2h).parcels[i]? = some c ∧ c.place = .stored lk rg g k ∧
      ((s.port p).spill.q l2h).reading ≠ 0) ∧
    (∃ (p : PortId) (s : State), (s.port p).snd.path = .native ∧ (s.port p).guarWindow = 0 ∧ (s.port p).spill.winFail = 0) :=
  ⟨⟨0, wMx id, by decide +kernel⟩,
   ⟨0, svc, by decide +kernel⟩,
   ⟨0, 2, 1, (wMx id), by decide +kernel⟩,
   ⟨0, (wMx fun m => { m with fenced := false }), by decide +kernel⟩,
   ⟨0, (wMx fun m => { m with qual := true }), by decide +kernel⟩,
   ⟨0, 2, 1, wStore fun x => { x with mx := updAt x.mx 0 fun m => { m with state := 3 } }, by decide +kernel⟩,
   ⟨0, false,
     (wStore fun x => { x with state := 2, ledgerGib := 1, commonGib := 63, nowD := 100, podBw := Vector.replicate 8 (100, 100), mx := updAt x.mx 0 fun m => { m with state := 2, capGib := 64, dM := 100 }, cls := x.cls.map fun c => { c with ceil := 100 } }).modPort 0 fun q => { q with cls := 1, spill := { q.spill with h2l := { q.spill.h2l with parcels := [{ pseq := 0, blocks := [], place := .stored 0 1 1 0 }], reading := 0 } } },
     by decide +kernel⟩,
   ⟨0, false, 0, 0, (Vector.replicate 8 0),
     (wStore fun x => { x with state := 2, ledgerGib := 1, commonGib := 63, nowD := 100, podBw := Vector.replicate 8 (100, 100), mx := updAt x.mx 0 fun m => { m with state := 2, capGib := 64, dM := 100 }, cls := x.cls.map fun c => { c with ceil := 100 } }).modPort 0 fun q => { q with cls := 1, spill := { q.spill with h2l := { q.spill.h2l with parcels := [{ pseq := 0, blocks := [], place := .waiting }], reading := 0 } } },
     by decide +kernel, by decide +kernel, by decide +kernel, by decide +kernel⟩,
   ⟨0, false, slotImage 0 { gen := 1, port := 0, l2h := false, cls := 1, count := 1, pseq := 0, next := 0 }, 0,
     { pseq := 0, blocks := [], place := .stored 0 1 1 0 }, 0, 1, 1, 0,
     { gen := 1, port := 0, l2h := false, cls := 1, count := 1, pseq := 0, next := 0 }, _,
     (wStore fun x => { x with state := 2, ledgerGib := 1, commonGib := 63, nowD := 100, podBw := Vector.replicate 8 (100, 100), mx := updAt x.mx 0 fun m => { m with state := 2, capGib := 64, dM := 100 }, cls := x.cls.map fun c => { c with ceil := 100 } }).modPort 0 fun q => { q with cls := 1, spill := { q.spill with h2l := { q.spill.h2l with parcels := [{ pseq := 0, blocks := [], place := .stored 0 1 1 0 }], reading := 1 } } },
     by decide +kernel, by decide +kernel, by decide +kernel, by decide +kernel, Laws.readSlot_slotImage _ _, by decide +kernel⟩,
   ⟨0, false, 0, { pseq := 0, blocks := [], place := .stored 0 1 1 0 }, 0, 1, 1, 0,
     (wStore fun x => { x with state := 2, ledgerGib := 1, commonGib := 63, nowD := 100, podBw := Vector.replicate 8 (100, 100), mx := updAt x.mx 0 fun m => { m with state := 2, capGib := 64, dM := 100 }, cls := x.cls.map fun c => { c with ceil := 100 } }).modPort 0 fun q => { q with cls := 1, spill := { q.spill with h2l := { q.spill.h2l with parcels := [{ pseq := 0, blocks := [], place := .stored 0 1 1 0 }], reading := 1 } } },
     by decide +kernel⟩,
   ⟨0, (wPort (nat .up)), by decide +kernel⟩⟩

theorem witness_HostCommandsComplete :
    (∃ (p : PortId) (h : HostLaneId) (s : State), (s.port p).host.tx = .framing ∧ (s.port p).host.rxLock.testBit h.val = false) ∧
    (∃ (p : PortId) (h : HostLaneId) (d : BitVec 256) (k : HostMarker) (s : State), (s.port p).host.tx = .framing ∧
      readMarker h.val d = some k ∧ (s.port p).host.rxLock.testBit h.val = false ∧
      (((s.port p).host.markLock h.val (some k)).markTake k).txFail &&& (0xFFF ^^^ ((s.port p).host.markLock h.val (some k)).txFail) = 0) ∧
    (∃ (p : PortId) (h : HostLaneId) (s : State), (s.port p).host.tx = .framing ∧ (s.port p).host.rxLock.testBit h.val = true ∧
      ((s.port p).host.markLock h.val none).rxLock.testBit h.val = false) ∧
    (∃ (p : PortId) (s : State), (s.port p).host.tx = .framing) ∧
    (∃ (p : PortId) (m : List Nat) (n : Nat) (s : State), (s.port p).host.tx = .framing ∧ (s.port p).host.rxLock ≠ 0 ∧
      (s.port p).host.rxNext = some (m, n) ∧ 2 ≤ n) ∧
    (∃ (p : PortId) (h : HostLaneId) (s : State), (s.port p).host.tx = .framing ∧ carries (s.port p).host.rxMap h.val = true ∧
      (s.port p).host.rxFail.testBit h.val = false) ∧
    (∃ (who : Initiator) (p : PortId) (s : State), WriteReaches who s (portBase p + 0x4010)) ∧
    (∃ (p : PortId) (h : HostLaneId) (period : Nat) (s : State), (s.port p).host.tx = .framing ∧
      carries (s.port p).host.rxMap h.val = true ∧ period ≠ 16 * h.val ∧ (s.port p).host.rxFail.testBit h.val = false ∧
      (s.port p).host.rxLock.testBit h.val = true) ∧
    (∃ (p : PortId) (h : HostLaneId) (period : Nat) (s : State), (s.port p).host.tx = .framing ∧
      carries (s.port p).host.rxMap h.val = true ∧ period ≠ 16 * h.val ∧ (s.port p).host.rxFail.testBit h.val = false ∧
      (s.port p).host.rxLock.testBit h.val = true ∧ (s.port p).cls = 0) ∧
    (∃ (who : Initiator) (s : State), WriteReaches who s 0x400) ∧
    (∃ (s : State), s.fsi.clkOk = true) ∧
    (∃ (s : State), s.fsi.clkOk = false) ∧
    (∃ (s : State), s.fsi.mode = 2) :=
  ⟨⟨0, 0, wHost fun x => { x with tx := .framing }, by decide +kernel⟩,
   ⟨0, 0, ((svc.port 0).marker 0).setWidth 256, (readMarker 0 (((svc.port 0).marker 0).setWidth 256)).getD ⟨0, [], 0⟩,
     wHost fun x => { x with tx := .framing }, by decide +kernel⟩,
   ⟨0, 0, wHost fun x => { x with tx := .framing, rxLock := 1, rxMiss := updNat x.rxMiss 0 fun _ => 1 }, by decide +kernel⟩,
   ⟨0, (wHost fun x => { x with tx := .framing, rxMap := Vector.ofFn fun i => i.val, rxLock := 0xFFF }), by decide +kernel⟩,
   ⟨0, [0], 2, (wHost fun x => { x with tx := .framing, rxLock := 1, rxNext := some ([0], 2) }), by decide +kernel⟩,
   ⟨0, 0, (wHost fun x => { x with tx := .framing, rxMap := Vector.ofFn fun i => i.val, rxLock := 0xFFF }), by decide +kernel⟩,
   ⟨.pcie, 0, svc, by simp only [WriteReaches]; decide +kernel⟩,
   ⟨0, 0, 16, (wHost fun x => { x with tx := .framing, rxMap := Vector.ofFn fun i => i.val, rxLock := 0xFFF }), by decide +kernel⟩,
   ⟨0, 0, 16, (wHost fun x => { x with tx := .framing, rxMap := Vector.ofFn fun i => i.val, rxLock := 0xFFF }), by decide +kernel⟩,
   ⟨.pcie, svc, by simp only [WriteReaches]; decide +kernel⟩,
   ⟨{ svc with fsi := { svc.fsi with clkOk := true } }, by decide +kernel⟩,
   ⟨{ svc with fsi := { svc.fsi with clkOk := false } }, by decide +kernel⟩,
   ⟨{ svc with fsi := { svc.fsi with mode := 2 } }, by decide +kernel⟩⟩

theorem witness_LinkCommandsComplete :
    (∃ (who : Initiator) (p : PortId) (s : State), WriteReaches who s (portBase p + 0x80C)) ∧
    (∃ (who : Initiator) (p : PortId) (s : State), WriteReaches who s (portBase p + 0x818)) ∧
    (∃ (p : PortId) (s : State), (s.port p).link.snapDone = false) ∧
    (∃ (p : PortId) (s : State), (s.port p).quietOk = true ∧ (s.port p).farLoop = false ∧ (s.port p).link.quietPend = false ∧
      (s.port p).link.quietReq = none) ∧
    (∃ (p : PortId) (e : Nat) (s : State), (s.port p).noticesOk = true ∧ (s.port p).link.quietReq = none ∧
      (s.port p).link.quietPend = false ∧ (s.port p).quietOk = true ∧ e < epochMod) ∧
    (∃ (p : PortId) (e : Nat) (s : State), (s.port p).noticesOk = true ∧ (s.port p).link.quietReq = some e) ∧
    (∃ (p : PortId) (e : Nat) (s : State), (s.port p).noticesOk = true ∧ (s.port p).link.quietReq = some e) ∧
    (∃ (p : PortId) (s : State), (s.port p).link.quietPend = true ∧ (s.port p).link.state = .up ∧
      epochReached ((s.port p).nextSlot / 64) (s.port p).link.quietEpoch = true) ∧
    (∃ (p : PortId) (s : State), (s.port p).link.state = .quiet ∧ (s.port p).link.inWindow = false ∧
      (s.port p).inWindowK (s.port p).link.refreshK (s.port p).nextSlot = true) ∧
    (∃ (p : PortId) (s : State), (s.port p).link.state = .quiet ∧ (s.port p).link.inWindow = true ∧ (s.port p).code.map = 0 ∧
      (s.port p).inWindowK (s.port p).link.refreshK (s.port p).nextSlot = false ∧
      ((s.modPort p fun q => { q with link := { q.link with refreshK := q.link.refreshK + 1 } }).port p).unsettled = false) ∧
    (∃ (p : PortId) (s : State), (s.port p).link.state = .wake ∧ (s.port p).link.wakeRole = .initiator ∧
      (s.port p).link.wakeData = false) ∧
    (∃ (p : PortId) (s : State), (s.port p).link.state = .wake ∧ (s.port p).link.wakeRole = .responder ∧
      (s.port p).link.wakeData = false) ∧
    (∃ (p : PortId) (s : State), (s.port p).link.burst = true ∧ (s.port p).link.wakeHeads < 2 ∧ (s.port p).link.bursts < 2) ∧
    (∃ (p : PortId) (s : State), (s.port p).link.state = .wake) ∧
    (∃ (p : PortId) (s : State), (s.port p).link.state = .quiet ∧ (s.port p).cls ≠ 0 ∧ ((setLink p .wake s).port p).cls ≠ 0) ∧
    (∃ (p : PortId) (k : Nat) (f : SndFrame) (s : State), (s.port p).snd.await[k]? = some f ∧ f.resends < 4) :=
  ⟨⟨.pcie, 0, svc, by simp only [WriteReaches]; decide +kernel⟩,
   ⟨.pcie, 0, svc, by simp only [WriteReaches]; decide +kernel⟩,
   ⟨0, (wLink fun l => { l with snapDone := false }), by decide +kernel⟩,
   ⟨0,
     (wPort fun q => nat .up { (q.setReg .linkCtrl fun r => { r with inForce := 0xC }) with snd := { q.snd with agreed := some offer0 } }),
     by decide +kernel⟩,
   ⟨0, 3,
     wPort fun q => nat .up { (q.setReg .linkCtrl fun r => { r with inForce := 0xC }) with snd := { q.snd with agreed := some offer0 } },
     by decide +kernel⟩,
   ⟨0, 3,
     ((wPort fun q => nat .up { (q.setReg .linkCtrl fun r => { r with inForce := 0xC }) with snd := { q.snd with agreed := some offer0 } }).modPort 0 fun q => { q with link := { q.link with quietReq := some 3 } }),
     by decide +kernel⟩,
   ⟨0, 3,
     ((wPort fun q => nat .up { (q.setReg .linkCtrl fun r => { r with inForce := 0xC }) with snd := { q.snd with agreed := some offer0 } }).modPort 0 fun q => { q with link := { q.link with quietReq := some 3 } }),
     by decide +kernel⟩,
   ⟨0, (wPort fun q => nat .up { q with link := { q.link with quietPend := true, quietEpoch := 0 } }), by decide +kernel⟩,
   ⟨0,
     (wPort fun q => nat .quiet { q with link := { q.link with refreshK := 1, inWindow := false }, code := { q.code with slotCnt := 51630 } }),
     by decide +kernel⟩,
   ⟨0, (wPort fun q => nat .quiet { q with link := { q.link with inWindow := true, refreshK := 1 } }), by decide +kernel⟩,
   ⟨0, (wPort fun q => nat .wake { q with link := { q.link with wakeRole := .initiator } }), by decide +kernel⟩,
   ⟨0, (wPort fun q => nat .wake { q with link := { q.link with wakeRole := .responder } }), by decide +kernel⟩,
   ⟨0, (wLink fun l => { l with burst := true, wakeHeads := 1, bursts := 1 }), by decide +kernel⟩,
   ⟨0, (wPort (nat .wake)), by decide +kernel⟩,
   ⟨0, (wPort fun q => nat .quiet { q with cls := 1 }), by decide +kernel⟩,
   ⟨0, 0, { frame 0x10 with resends := 3 }, (wSnd fun x => { x with await := [{ frame 0x10 with resends := 3 }] }),
     by decide +kernel⟩⟩

theorem witness_CalibrationCommandsComplete :
    (∃ (via : Origin) (stk : BitVec 4) (s : State), Serves via 0x0201 s ∧ stk ≠ 0 ∧ s.cal.run = none) ∧
    (∃ (r : CalRunning) (p : PortId) (n : LaneId) (i : Nat) (x : Listen) (s : State), s.cal.run = some r ∧
      r.names (.listen p n i x) = true ∧ x.active s.boot.limits.quiet = true) ∧
    (∃ (r : CalRunning) (s : State), s.cal.run = some r ∧ skippedStk r { s with cal := { s.cal with run := none } } = 0) ∧
    (∃ (r : CalRunning) (p : PortId) (n : LaneId) (v : Int) (s : State), s.cal.run = some r ∧ r.names (.ctleTrim p n v) = true ∧
      v.natAbs ≤ s.boot.limits.ctleTrim ∧ skippedStk r { s with cal := { s.cal with run := none } } = 0) ∧
    (∃ (p : PortId) (n : LaneId) (e : List Int) (w : Nat) (s : State), (s.lane p n).tx.state = .data ∧
      (s.port p).link.state ≠ .quiet ∧ bitOf ((s.lane p n).act .calLaneCtrl) 0 = true ∧ 16 ≤ (s.lane p n).cal.dacFolios ∧
      (s.lane p n).tx.cellNext = none ∧ (s.lane p n).cal.dacNext = none ∧
      dacJudge s.boot.limits s.boot.limits.dacHyst ((s.lane p n).tx.retireA, (s.lane p n).tx.retireB) e = .kept w) ∧
    (∃ (p : PortId) (n : LaneId) (d : Int) (k : Bool) (s : State), (s.lane p n).cal.ctleDue = some (d, k) ∧
      (s.lane p n).rx.phase = .track ∧ liveAllowed s p n = true ∧ swapDue (s.lane p n) = false) ∧
    (∃ (p : PortId) (n : LaneId) (k : Nat) (d : Int) (s : State), (s.lane p n).cal.ctleCheck = some (k, d) ∧
      (s.lane p n).cal.ctleDue = none ∧ (s.lane p n).rx.phase = .track) ∧
    (∃ (via : Origin) (s : State), Serves via 0x0202 s ∧ s.boot.job = none) ∧
    (∃ (via : Origin) (chunk : Nat) (c : CalSet) (s : State), Serves via 0x0203 s ∧ chunk ≤ 127 ∧ s.cal.inForce ≠ 0 ∧
      (s.cal.sector s.cal.inForce).set = some c ∧ s.storeBusy = false) ∧
    (∃ (via : Origin) (chunk : Nat) (data : List Byte) (s : State), Serves via 0x0204 s ∧ chunk ≤ 127 ∧ data.length = 2048 ∧
      s.boot.job = none) ∧
    (∃ (via : Origin) (q : StackPortId) (first : Nat) (count : Nat) (s : State), Serves via 0x0205 s ∧
      first + count ≤ (s.stk q).deskew.length ∧ count ≤ 1024) ∧
    (∃ (via : Origin) (s : State), Serves via 0x0206 s) ∧
    (∃ (j : FlashJob) (s : State), s.boot.job = some j ∧ j.op = .imgWrite) ∧
    (∃ (j : FlashJob) (s : State), s.boot.job = some j ∧ j.op = .calStore) :=
  ⟨⟨(.slot 0), 1, (runs 0x0201 svc), by simp only [Serves]; decide +kernel⟩,
   ⟨{ origin := .slot 0, ports := [0], laneMask := 0xFF, stkMask := 0, items := 0xFFFF }, 0, 0, 2, ⟨true, [], []⟩,
     wCal fun c => { c with run := some { origin := .slot 0, ports := [0], laneMask := 0xFF, stkMask := 0, items := 0xFFFF } },
     by decide +kernel⟩,
   ⟨{ origin := .slot 0, ports := [0], laneMask := 0xFF, stkMask := 0, items := 0xFFFF },
     (wCal fun c => { c with run := some { origin := .slot 0, ports := [0], laneMask := 0xFF, stkMask := 0, items := 0xFFFF } }),
     by decide +kernel⟩,
   ⟨{ origin := .slot 0, ports := [0], laneMask := 0xFF, stkMask := 0, items := 0xFFFF }, 0, 0, 0,
     wCal fun c => { c with run := some { origin := .slot 0, ports := [0], laneMask := 0xFF, stkMask := 0, items := 0xFFFF } },
     by decide +kernel⟩,
   ⟨0, 0, [], 0,
     (wLcal (fun c => { c with dacFolios := 16 }) (wTx (fun t => { t with state := .data }) (wLane (fun l => l.setReg .calLaneCtrl fun r => { r with inForce := 1 }) (wPort (nat .up))))),
     by decide +kernel⟩,
   ⟨0, 0, 1, true,
     (wLcal (fun c => { c with ctleDue := some (1, true) }) (wRx (fun r => { r with phase := .track, sinceChange := 16 }) svc)),
     by decide +kernel⟩,
   ⟨0, 0, 0, 1, (wLcal (fun c => { c with ctleCheck := some (0, 1) }) (wRx (fun r => { r with phase := .track }) svc)),
     by decide +kernel⟩,
   ⟨(.slot 0), (runs 0x0202 svc), by simp only [Serves]; decide +kernel⟩,
   ⟨(.slot 0), 127,
     { seq := 1, source := 0, origin := 0, part := 1, uid := 0, stored := 0, deskew := [], skMeas := 0, ports := [], lanes := [] },
     (runs 0x0203 (wCal fun x => { x with inForce := 1, secA := { x.secA with set := some { seq := 1, source := 0, origin := 0, part := 1, uid := 0, stored := 0, deskew := [], skMeas := 0, ports := [], lanes := [] } } })),
     by simp only [Serves]; decide +kernel⟩,
   ⟨(.slot 0), 127, (List.replicate 2048 0), (runs 0x0204 svc), by simp only [Serves]; decide +kernel⟩,
   ⟨(.slot 0), 0, 0, 0, (runs 0x0205 svc), by simp only [Serves]; decide +kernel⟩,
   ⟨(.slot 0), (runs 0x0206 svc), by simp only [Serves]; decide +kernel⟩,
   ⟨{ op := .imgWrite, stage := 0, origin := .slot 0, opcode := 0x0703 },
     (wBoot fun b => { b with job := some { op := .imgWrite, stage := 0, origin := .slot 0, opcode := 0x0703 } }),
     by decide +kernel⟩,
   ⟨{ op := .calStore, stage := 0, origin := .slot 0, opcode := 0x0703 },
     (wBoot fun b => { b with job := some { op := .calStore, stage := 0, origin := .slot 0, opcode := 0x0703 } }),
     by decide +kernel⟩⟩

theorem witness_DiagnosticCommandsComplete :
    (∃ (via : Origin) (p : PortId) (vf : Nat) (s : State), Serves via 0x0301 s ∧ s.portOpen p = true ∧
      diagAdmits p false s = true ∧ (s.port p).diag.running = none ∧ 100 ≤ vf ∧ vf ≤ 190) ∧
    (∃ (via : Origin) (p : PortId) (s : State), Serves via 0x0302 s ∧ s.portOpen p = true ∧ diagAdmits p false s = true ∧
      (s.port p).diag.running = none) ∧
    (∃ (via : Origin) (p : PortId) (s : State), Serves via 0x0303 s ∧ s.portOpen p = true ∧ diagAdmits p false s = true ∧
      (s.port p).diag.running = none) ∧
    (∃ (via : Origin) (p : PortId) (range : Nat) (sf : Nat) (s : State), Serves via 0x0304 s ∧ s.portOpen p = true ∧
      diagAdmits p true s = true ∧ (s.port p).diag.running = none ∧ 6 ≤ sf ∧ sf ≤ 12 ∧ range ≤ 2 ∧
      (s.port p).snd.path ≠ .soundingOnly) ∧
    (∃ (via : Origin) (p q : PortId) (kind : Nat) (index : Nat) (r : DiagResult) (s : State), via.portFor p = q ∧ Serves via 0x0305 s ∧
      s.portOpen q = true ∧ 1 ≤ kind ∧ kind ≤ 4 ∧ index < 8 ∧
      ((s.port q).diag.kept.find? fun r => r.kind == kind && r.index == index) = some r) ∧
    (∃ (via : Origin) (p q : PortId) (kind : Nat) (index : Nat) (s : State), via.portFor p = q ∧ Serves via 0x0305 s ∧ s.portOpen q = true ∧
      1 ≤ kind ∧ kind ≤ 2 ∧ 0x10 ≤ index ∧ index < 0x18 ∧ ((s.port q).diag.kept.find? fun r => r.kind == kind && r.index == index) = none ∧
      (s.port q).diag.notQuiet.contains (kind, index) = false) ∧
    (∃ (via : Origin) (p : PortId) (vf : Nat) (s : State), Serves via 0x0306 s ∧ s.portOpen p = true ∧ 100 ≤ vf ∧ vf ≤ 190 ∧
      (s.port p).snd.path = .native ∧ ((s.port p).link.state = .up ∨ (s.port p).link.state = .degraded)) ∧
    (∃ (p : PortId) (s : State), (s.port p).diag.running = some .tdr) ∧
    (∃ (p : PortId) (x : Listen) (s : State), (s.port p).diag.running = some .rl ∧ x.active s.boot.limits.quiet = true) ∧
    (∃ (p : PortId) (s : State), (s.port p).diag.running = some .serving ∧ (s.port p).diag.il = .driving) ∧
    (∃ (p : PortId) (session : Nat) (uid : BitVec 64) (s : State), (s.port p).diagState true = true ∧
      (s.port p).diagSession session = true ∧ uid ≠ Config.uid ∧ bitOf (s.port p).diag.ctrl 0 = true ∧
      (s.port p).diag.running = none ∧ (s.port p).diag.il ≠ .granted ∧ diagAdmits p true s = true) ∧
    (∃ (p : PortId) (session : Nat) (uid : BitVec 64) (k : DiagKind) (s : State), (s.port p).diagState true = true ∧
      (s.port p).diagSession session = true ∧ uid ≠ Config.uid ∧ bitOf (s.port p).diag.ctrl 0 = true ∧
      (s.port p).diag.running = some k ∧ (s.port p).diag.il ≠ .granted) ∧
    (∃ (p : PortId) (port : Nat), port = p.val) ∧
    (∃ (p : PortId) (session : Nat) (s : State), (s.port p).diag.il = .requested ∧ (s.port p).diagSession session = true) ∧
    (∃ (p : PortId) (session : Nat) (s : State), (s.port p).diag.il = .requested ∧ (s.port p).diagSession session = true) ∧
    (∃ (p : PortId) (s : State), (s.port p).diag.il = .granted) ∧
    (∃ (p : PortId) (session : Nat) (s : State), (s.port p).diag.il = .measuring ∧ (s.port p).diagSession session = true) ∧
    (∃ (p : PortId) (s : State), (s.port p).diag.il = .measuring) :=
  ⟨⟨(.slot 0), 0, 190, (runs 0x0301 (wGroup (fun g => { g with lock := true, freq := .f592 }) svc)),
     by simp only [Serves]; decide +kernel⟩,
   ⟨(.slot 0), 0, (runs 0x0302 (wGroup (fun g => { g with lock := true, freq := .f592 }) svc)),
     by simp only [Serves]; decide +kernel⟩,
   ⟨(.slot 0), 0, (runs 0x0303 (wGroup (fun g => { g with lock := true, freq := .f592 }) svc)),
     by simp only [Serves]; decide +kernel⟩,
   ⟨.slot 0, 0, 2, 12, runs 0x0304 (wGroup (fun g => { g with lock := true, freq := .f592 }) svc),
     by simp only [Serves]; decide +kernel⟩,
   ⟨(.slot 0), 0, 0, 4, 7, { kind := 4, index := 7, result := 0, fs := 1, time := 0, vf := 0, events := [], entries := [] },
     (runs 0x0305 (wDiag fun d => { d with kept := [{ kind := 4, index := 7, result := 0, fs := 1, time := 0, vf := 0, events := [], entries := [] }] })),
     by simp only [Serves]; decide +kernel⟩,
   ⟨.slot 0, 0, 0, 1, 0x10, runs 0x0305 svc, by simp only [Serves]; decide +kernel⟩,
   ⟨(.slot 0), 0, 100, (runs 0x0306 (wPort (nat .up))), by simp only [Serves]; decide +kernel⟩,
   ⟨0, (wDiag fun d => { d with running := some .tdr }), by decide +kernel⟩,
   ⟨0, ⟨true, [], []⟩, wDiag fun x => { x with running := some .rl }, by decide +kernel⟩,
   ⟨0, (wDiag fun d => { d with running := some .serving, il := .driving }), by decide +kernel⟩,
   ⟨0, 0, Config.uid + 1,
     wGroup (fun g => { g with lock := true, freq := .f592 }) (wPort fun q => { q with diag := { q.diag with ctrl := 1, running := none } }),
     by decide +kernel, by decide +kernel, by simp, by decide +kernel⟩,
   ⟨0, 0, Config.uid + 1, .tdr,
     wGroup (fun g => { g with lock := true, freq := .f592 }) (wPort fun q => { q with diag := { q.diag with ctrl := 1, running := some .tdr } }),
     by decide +kernel, by decide +kernel, by simp, by decide +kernel⟩,
   ⟨0, 0, by decide +kernel⟩,
   ⟨0, 0, wDiag fun x => { x with il := .requested }, by decide +kernel⟩,
   ⟨0, 0, wDiag fun x => { x with il := .requested }, by decide +kernel⟩,
   ⟨0, (wDiag fun d => { d with il := .granted }), by decide +kernel⟩,
   ⟨0, 0, wDiag fun x => { x with il := .measuring }, by decide +kernel⟩,
   ⟨0, (wDiag fun d => { d with il := .measuring }), by decide +kernel⟩⟩

theorem witness_CaptureCommandsComplete :
    (∃ (via : Origin) (p : PortId) (lanes : BitVec 8) (vga : Nat) (peak : Nat) (n : Nat) (count : Nat) (trig : CapTrigger) (s : State),
      Serves via 0x0310 s ∧ s.portOpen p = true ∧ lanes.toNat ≠ 0 ∧ vga ≤ 96 ∧ peak ≤ 31 ∧ n ≠ 0 ∧ n % 4096 = 0 ∧
      n ≤ capShare (popcount8 lanes.toNat) ∧ count ≠ 0 ∧ count * n ≤ capLimit (s.group p).freq.code ∧ trig.ok lanes.toNat = true ∧
      diagAdmits p false s = true ∧ s.store.state = 2 ∧ s.store.captureGib ≠ 0 ∧ (s.port p).diag.running = none ∧
      s.cap.outcome ≠ .running) ∧
    (∃ (p : PortId) (s : State), s.cap.outcome = .running ∧ s.cap.port = some p ∧ s.cap.taken < s.cap.count ∧ s.cap.due (s.port p) = true ∧
      (s.cap.staging.length + 1) * s.cap.s ≤ capShare (popcount8 s.cap.laneMask)) ∧
    (∃ (p : PortId) (s : State), s.cap.outcome = .running ∧ s.cap.port = some p ∧ s.cap.taken < s.cap.count ∧ s.cap.due (s.port p) = true ∧
      capShare (popcount8 s.cap.laneMask) < (s.cap.staging.length + 1) * s.cap.s) ∧
    (∃ (link : CxlId) (g : CapSegment) (rest : List CapSegment) (s : State), s.cap.staging = g :: rest ∧
      s.cap.outcome = .running ∧ (getNat s.store.mx link.val CxlLink.reset).takes = true ∧ captureRoom (grantInterval s) = true ∧
      s.cap.stored.length + 1 < s.cap.count ∧ (s.cap.stored.length + 2) * s.cap.segSlots ≤ s.store.captureGib * 2 ^ 18) ∧
    (∃ (s : State), s.cap.outcome = .running) ∧
    (∃ (via : Origin) (s : State), Serves via 0x0313 s) ∧
    (∃ (via : Origin) (s : State), Serves via 0x0311 s) ∧
    (∃ (via : Origin) (k : Nat) (ofs : Nat) (g : CapSegment) (s : State), Serves via 0x0312 s ∧ s.cap.stored[k]? = some g ∧
      ofs + 2048 ≤ s.cap.segSlots * 4096 ∧ g.lost = false) :=
  ⟨⟨(.slot 0), 0, 1, 96, 31, 1572864, 301, (.slot 16777216),
     (runs 0x0310 (wGroup (fun g => { g with lock := true, freq := .f592 }) (wStore fun x => { x with state := 2, captureGib := 1 }))),
     by simp only [Serves]; decide +kernel⟩,
   ⟨0, (wCap fun c => { c with outcome := .running, port := some 0, taken := 0, count := 1, laneMask := 1, s := 4096 }),
     by decide +kernel⟩,
   ⟨0, (wCap fun c => { c with outcome := .running, port := some 0, taken := 0, count := 1, laneMask := 0xFF, s := 200704 }),
     by decide +kernel⟩,
   ⟨0,
     { port := 0, laneMask := 1, txGroup := false, number := 0, s := 4096, fs := 1, vga := 0, peak := 0, slot := 0, sec := 0, ns := 0, link := 0, samples := [], lost := false },
     [],
     { (wMx id) with store := { (wMx id).store with captureGib := 1, nowD := 1000 }, cap := { svc.cap with outcome := .running, staging := [{ port := 0, laneMask := 1, txGroup := false, number := 0, s := 4096, fs := 1, vga := 0, peak := 0, slot := 0, sec := 0, ns := 0, link := 0, samples := [], lost := false }], count := 2, s := 4096, laneMask := 1 } },
     by decide +kernel⟩,
   ⟨(wCap fun c => { c with outcome := .running }), by decide +kernel⟩,
   ⟨(.slot 0), (runs 0x0313 svc), by simp only [Serves]; decide +kernel⟩,
   ⟨(.slot 0), (runs 0x0311 svc), by simp only [Serves]; decide +kernel⟩,
   ⟨(.slot 0), 0, 0,
     { port := 0, laneMask := 1, txGroup := false, number := 0, s := 4096, fs := 1, vga := 0, peak := 0, slot := 0, sec := 0, ns := 0, link := 0, samples := [], lost := false },
     (runs 0x0312 (wCap fun c => { c with stored := [{ port := 0, laneMask := 1, txGroup := false, number := 0, s := 4096, fs := 1, vga := 0, peak := 0, slot := 0, sec := 0, ns := 0, link := 0, samples := [], lost := false }], s := 4096 })),
     by simp only [Serves]; decide +kernel⟩⟩

theorem witness_ClockCommandsComplete :
    (∃ (counts : List Nat), countsGood .refclk counts = true) ∧
    (∃ (counts : List Nat) (s : State), countsGood .xa counts = true ∧ s.clk.xaDelay = true) ∧
    (∃ (n : Nat) (s : State), s.clk.trimSrc ≠ 0 ∧ trimNominal s.clk.trimSrc < 10 * n) ∧
    (∃ (n : Nat) (s : State), s.clk.trimSrc ≠ 0 ∧ 10 * n < trimNominal s.clk.trimSrc) ∧
    (∃ (s : State), s.clk.trimmed = false) ∧
    (∃ (n : Nat), 10000 ≤ n ∧ n ≤ 15000) ∧
    (∃ (s : State), s.clk.trimmed = false) ∧
    (∃ (s : State), s.clk.trimmed = true) ∧
    (∃ (r : RefSel) (s : State), s.clk.rpllSrc = some r ∧ s.clk.rpllLock = false ∧ s.pwr.trip = false ∧
      (s.clk.judge r).good = true) ∧
    (∃ (s : State), s.clk.rpllLock = true) ∧
    (∃ (s : State), s.clk.rpllLock = true) ∧
    (∃ (r : RefSel) (s : State), s.clk.rpllSrc = some r ∧ s.clk.altWait = true ∧ s.clk.allFro = true ∧
      (s.clk.judge r).good = false ∧ (s.clk.judge r.other).good = true) ∧
    (∃ (d : Fin 4) (s : State), s.clk.dom[d.val].ramp ≠ 0) ∧
    (∃ (d : Fin 4) (s : State), 8 ≤ s.clk.dom[d.val].ramp) ∧
    (∃ (count : Nat) (s : State), (s.clk.judge .refclk).good = true ∧ s.clk.froOk = true ∧
      absDiff (10 * count) (nominalCount10 .refclk) * 100 ≤ nominalCount10 .refclk) ∧
    (∃ (count : Nat) (s : State), (s.clk.judge .xa).good = true ∧ s.clk.froOk = true ∧
      nominalCount10 .xa * 4 < absDiff (10 * count) (nominalCount10 .xa) * 100) ∧
    (∃ (k : PodId) (g : GroupId) (s : State), (s.pod k).groups[g.val].lock = true) ∧
    (∃ (s : State), s.clk.stkLock = true) ∧
    (∃ (k : PodId) (g : GroupId) (s : State), s.pwr.trip = false ∧ s.clk.rpllLock = true ∧ s.part.hasPod k = true ∧
      (s.pod k).groups[g.val].lock = false) ∧
    (∃ (who : Initiator) (s : State), WriteReaches who s 0x300) ∧
    (∃ (who : Initiator) (s : State), WriteReaches who s 0x308) :=
  ⟨⟨(List.replicate 16 2768), by decide +kernel⟩,
   ⟨(List.replicate 16 11070), (wClk fun c => { c with xaDelay := true }), by decide +kernel⟩,
   ⟨44300, (wClk fun c => { c with trimSrc := 1 }), by decide +kernel⟩,
   ⟨44200, (wClk fun c => { c with trimSrc := 1 }), by decide +kernel⟩,
   ⟨(wClk fun c => { c with trimmed := false }), by decide +kernel⟩,
   ⟨15000, by decide +kernel⟩,
   ⟨(wClk fun c => { c with trimmed := false }), by decide +kernel⟩,
   ⟨wClk fun c => { c with trimmed := true }, by decide +kernel⟩,
   ⟨.xa, (wClk fun c => { c with rpllSrc := some .xa, rpllLock := false, xa := { c.xa with good := true } }), by decide +kernel⟩,
   ⟨svc, by decide +kernel⟩,
   ⟨svc, by decide +kernel⟩,
   ⟨.refclk,
     (wClk fun c => { c with rpllSrc := some .refclk, altWait := true, dom := Vector.replicate 4 { fro := true, ramp := 0, toFro := false, running := true }, ref := { c.ref with good := false }, xa := { c.xa with good := true } }),
     by decide +kernel⟩,
   ⟨3, (wClk fun c => { c with dom := Vector.replicate 4 { fro := true, ramp := 1, toFro := false, running := true } }),
     by decide +kernel⟩,
   ⟨3, (wClk fun c => { c with dom := Vector.replicate 4 { fro := true, ramp := 8, toFro := false, running := true } }),
     by decide +kernel⟩,
   ⟨2768, (wClk fun c => { c with froOk := true, ref := { c.ref with good := true } }), by decide +kernel⟩,
   ⟨12000, (wClk fun c => { c with froOk := true, xa := { c.xa with good := true } }), by decide +kernel⟩,
   ⟨0, 0, (wGroup (fun g => { g with lock := true }) svc), by decide +kernel⟩,
   ⟨svc, by decide +kernel⟩,
   ⟨0, 0, svc, by decide +kernel⟩,
   ⟨.pcie, svc, by simp only [WriteReaches]; decide +kernel⟩,
   ⟨.pcie, svc, by simp only [WriteReaches]; decide +kernel⟩⟩

theorem witness_PowerCommandsComplete :
    (∃ (k : PodId) (s : State), s.part.hasPod k = true ∧ avsHeld s k = false ∧ bits (s.pod k).avs.ctrl 31 30 = 0) ∧
    (∃ (k : PodId) (s : State), s.part.hasPod k = true ∧ avsHeld s k = true) ∧
    (∃ (k : PodId) (s : State), s.part.hasPod k = true ∧ (s.pod k).avs.writePend = true) ∧
    (∃ (k : PodId) (s : State), s.part.hasPod k = true ∧ (s.pod k).avs.writePend = true ∧ (s.pod k).avs.retries = 2) ∧
    (∃ (k : PodId) (s : State), s.part.hasPod k = true) ∧
    (∃ (k : PodId) (s : State), s.part.hasPod k = true) ∧
    (∃ (who : Initiator) (k : PodId) (s : State), WriteReaches who s (podBase k + 0x200)) ∧
    (∃ (k : PodId) (x : RegionMeas) (dev : Nat) (s : State), s.part.hasPod k = true ∧ podDeviation s k x = some dev) ∧
    (∃ (k : PodId) (s : State), (s.pod k).region.quiet = true) ∧
    (∃ (s : State), s.pwr.aon.quiet = true) ∧
    (∃ (r : Rail) (mv : Nat) (ns : Nat), (r.falling ≤ mv ∨ ns < 100)) ∧
    (∃ (mv : Nat) (ns : Nat), mv < 670 ∧ 100 ≤ ns) ∧
    (∃ (mv : Nat) (ns : Nat), mv < 800 ∧ 100 ≤ ns) ∧
    (∃ (mv : Nat) (ns : Nat), mv < 1080 ∧ 100 ≤ ns) ∧
    (∃ (level : Nat) (s : State), s.pwr.lost = [.aon] ∧ 7600 ≤ level ∧ level ≤ 8400) ∧
    (∃ (level : Nat) (s : State), s.pwr.lost = [.vddaLine] ∧ 8730 ≤ level ∧ level ≤ 9270) ∧
    (∃ (i : Fin 24) (j : Fin 8), i.val = 16 + j.val) :=
  ⟨⟨0, (wPod (fun q => { q with avs := { q.avs with ctrl := 0 } }) svc), by decide +kernel⟩,
   ⟨0, { svc with pwr := { svc.pwr with trip := true } }, by decide +kernel⟩,
   ⟨0, (wPod (fun q => { q with avs := { q.avs with writePend := true } }) svc), by decide +kernel⟩,
   ⟨0, (wPod (fun q => { q with avs := { q.avs with writePend := true, retries := 2 } }) svc), by decide +kernel⟩,
   ⟨0, svc, by decide +kernel⟩,
   ⟨0, svc, by decide +kernel⟩,
   ⟨.pcie, 0, svc, by simp only [WriteReaches]; decide +kernel⟩,
   ⟨0, .clock 131072, 0, wClk fun c => { c with rpllLock := true }, by decide +kernel⟩,
   ⟨0,
     (wPod (fun q => { q with region := { supply := ⟨0, false, true⟩, temp := ⟨0, false, true⟩, clock := ⟨0, false, true⟩, fault := true } }) svc),
     by decide +kernel⟩,
   ⟨{ svc with pwr := { svc.pwr with aon := { supply := ⟨0, false, true⟩, temp := ⟨0, false, true⟩, clock := ⟨0, false, true⟩, fault := true } } },
     by decide +kernel⟩,
   ⟨.hub, 10000, 0, by decide +kernel⟩,
   ⟨669, 100, by decide +kernel⟩,
   ⟨799, 100, by decide +kernel⟩,
   ⟨1079, 100, by decide +kernel⟩,
   ⟨7600, { svc with pwr := { svc.pwr with lost := [.aon] } }, by decide +kernel⟩,
   ⟨9270, { svc with pwr := { svc.pwr with lost := [.vddaLine] } }, by decide +kernel⟩,
   ⟨23, 7, by decide +kernel⟩⟩

theorem witness_BootCommandsComplete :
    (∃ (s : State), s.boot.step = 0 ∧ s.pwr.lost = []) ∧
    (∃ (via : Origin) (delay : Nat) (s : State), Serves via 0x0706 s ∧ 10 ≤ delay ∧ delay ≤ 1000 ∧ s.boot.job = none) ∧
    (∃ (d : Nat) (s : State), s.boot.devReset = some d) ∧
    (∃ (s : State), s.boot.step = 1 ∧ s.clk.trimmed = true ∧ s.pwr.trip = false ∧ bitOf s.boot.straps 3 = true) ∧
    (∃ (x : Sfdp) (s : State), s.boot.step = 1 ∧ s.clk.trimmed = true ∧ s.pwr.trip = false ∧ bitOf s.boot.straps 3 = false ∧
      x.fit = true ∧ 32 ≤ x.mib) ∧
    (∃ (s : State), s.boot.step = 1 ∧ s.clk.trimmed = true ∧ s.pwr.trip = false ∧ bitOf s.boot.straps 3 = false) ∧
    (∃ (s : State), s.boot.step = 1 ∧ s.clk.trimmed = false ∧ s.pwr.trip = false) ∧
    (∃ (stored : List Byte) (x : List Byte) (s : State), s.boot.step = 3 ∧ s.sectionStored 1 stored = some x) ∧
    (∃ (stored : List Byte) (x : List Byte) (s : State), s.boot.step = 5 ∧ s.pwr.trip = false ∧ s.sectionStored 2 stored = some x) ∧
    (∃ (s : State), s.boot.step = 6 ∧ s.clk.rpllLock = false) ∧
    (∃ (stored : List Byte) (x : List Byte) (s : State), s.boot.step = 7 ∧ s.sectionStored 3 stored = some x) ∧
    (∃ (s : State), s.boot.step = 8) ∧
    (∃ (stored : List Byte) (x : List Byte) (k : Fin 2) (s : State), s.boot.step = 9 ∧ s.pwr.trip = false ∧
      s.boot.stream = false ∧ s.sectionStored 7 stored = some x ∧ k = (if s.boot.slot = 1 then 1 else 0)) ∧
    (∃ (n : Nat) (s : State), s.boot.step = 10 ∧ s.boot.stageCEnd = false ∧ s.fw.clerk = .starting ∧ s.pwr.trip = false ∧
      (s.fw.running.any fun r => r.origin = .stageC) = false ∧ stageCAt s.boot.stageC s.boot.stageCPos = (.ends, n)) ∧
    (∃ (port : Option PortId) (packet : List Byte) (n : Nat) (s : State), s.boot.step = 10 ∧ s.boot.stageCEnd = false ∧
      s.fw.clerk = .running ∧ s.pwr.trip = false ∧ (s.fw.running.any fun r => r.origin = .stageC) = false ∧
      stageCAt s.boot.stageC s.boot.stageCPos = (.cmd packet, n) ∧ mayStart (natAt packet 0 2) port s = true) ∧
    (∃ (a : BitVec 32) (v : Word) (n : Nat) (s : State), s.boot.step = 10 ∧ s.boot.stageCEnd = false ∧ s.fw.clerk = .running ∧
      s.pwr.trip = false ∧ (s.fw.running.any fun r => r.origin = .stageC) = false ∧
      stageCAt s.boot.stageC s.boot.stageCPos = (.write a v, n)) ∧
    (∃ (s : State), s.boot.step = 11 ∧ s.boot.configDone = false ∧ s.pwr.trip = false) :=
  ⟨⟨(wBoot fun b => { b with step := 0, configDone := false }), by decide +kernel⟩,
   ⟨(.slot 0), 1000, (runs 0x0706 svc), by simp only [Serves]; decide +kernel⟩,
   ⟨10, (wBoot fun b => { b with devReset := some 10 }), by decide +kernel⟩,
   ⟨{ (wBoot fun b => { b with step := 1, configDone := false, straps := 8 }) with clk := { svc.clk with trimmed := true } },
     by decide +kernel⟩,
   ⟨⟨true, true, true, true, 32⟩,
     { (wBoot fun b => { b with configDone := false, step := 1, straps := 0 }) with clk := { svc.clk with trimmed := true } },
     by decide +kernel⟩,
   ⟨{ (wBoot fun b => { b with step := 1, configDone := false, straps := 0 }) with clk := { svc.clk with trimmed := true } },
     by decide +kernel⟩,
   ⟨{ (wBoot fun b => { b with step := 1, configDone := false }) with clk := { svc.clk with trimmed := false } },
     by decide +kernel⟩,
   ⟨[1], [1], wBoot fun b => { b with configDone := false, step := 3 }, by decide +kernel⟩,
   ⟨[1], [1], wBoot fun b => { b with configDone := false, step := 5 }, by decide +kernel⟩,
   ⟨{ (wBoot fun b => { b with step := 6, configDone := false }) with clk := { svc.clk with rpllLock := false } },
     by decide +kernel⟩,
   ⟨[1], [1], wBoot fun b => { b with configDone := false, step := 7 }, by decide +kernel⟩,
   ⟨(wBoot fun b => { b with step := 8, configDone := false }), by decide +kernel⟩,
   ⟨[1], [1], 0, wBoot fun b => { b with configDone := false, step := 9, slot := 0 }, by decide +kernel⟩,
   ⟨0,
     { (wBoot fun b => { b with configDone := false, step := 10, stageCEnd := false }) with fw := { svc.fw with clerk := .starting } },
     by decide +kernel⟩,
   ⟨none, [7, 1], 16,
     wBoot fun b => { b with configDone := false, step := 10, stageCEnd := false, stageC := [0, 0, 0, 2, 0, 0, 0, 2, 7, 1, 0, 0, 0, 0, 0, 0] },
     by decide +kernel⟩,
   ⟨0x18, 5, 8,
     wBoot fun b => { b with configDone := false, step := 10, stageCEnd := false, stageC := [0, 0, 0, 0x18, 0, 0, 0, 5] },
     by decide +kernel⟩,
   ⟨(wBoot fun b => { b with step := 11, configDone := false }), by decide +kernel⟩⟩

theorem witness_ImageCommandsComplete :
    (∃ (via : Origin) (s : State), Serves via 0x0701 s) ∧
    (∃ (via : Origin) (blocks : Nat) (s : State), Serves via 0x0702 s ∧ 1 ≤ blocks ∧ blocks ≤ 256 ∧ s.boot.singleSlot = false ∧
      s.boot.job = none) ∧
    (∃ (via : Origin) (blocks : Nat) (s : State), Serves via 0x0702 s ∧ 1 ≤ blocks ∧ blocks ≤ 256 ∧ s.boot.singleSlot = true ∧
      s.fw.clerk = .running) ∧
    (∃ (j : FlashJob) (s : State), s.boot.job = some j ∧ j.op = .imgErase ∧ 2 ≤ s.boot.left) ∧
    (∃ (j : FlashJob) (s : State), s.boot.job = some j ∧ j.op = .imgErase ∧ s.boot.left = 1) ∧
    (∃ (via : Origin) (ofs : Nat) (data : List Byte) (s : State), Serves via 0x0703 s ∧ 1 ≤ data.length ∧ data.length ≤ 2048 ∧
      ofs + data.length ≤ 0x1000000 ∧ erasedRange s.boot ofs data.length = true ∧ s.boot.job = none) ∧
    (∃ (via : Origin) (ofs : Nat) (data : List Byte) (s : State), Serves via 0x0703 s ∧ 1 ≤ data.length ∧ data.length ≤ 2048 ∧
      ofs + data.length ≤ 0x1000000 ∧ erasedRange s.boot ofs data.length = false) ∧
    (∃ (via : Origin) (data : List Byte) (s : State), Serves via 0x0703 s ∧ s.boot.stream = true ∧ s.boot.configDone = false ∧
      1 ≤ data.length ∧ data.length ≤ 2048 ∧ (s.boot.streamBuf ++ data).length < 4096) ∧
    (∃ (via : Origin) (data : List Byte) (why : Nat) (s : State), Serves via 0x0703 s ∧ s.boot.stream = true ∧
      s.boot.configDone = false ∧ 1 ≤ data.length ∧ data.length ≤ 2048 ∧ s.boot.streamOfs < 4096 ∧
      4096 ≤ (s.boot.streamBuf ++ data).length ∧ streamHeader (parseHeader ((s.boot.streamBuf ++ data).take 4096)) s = some why) ∧
    (∃ (via : Origin) (rest : List Byte) (s : State), Serves via 0x0704 s ∧ s.boot.job = none ∧
      (s.boot.step = 14 ∨ ((parseHeader ((slotContent s.boot rest).take 4096)).placements = s.bootedHdr.placements ∧ laterGen (parseHeader ((slotContent s.boot rest).take 4096)).gen s.bootedHdr.gen = true))) ∧
    (∃ (via : Origin) (k : Fin 2) (s : State), Serves via 0x0705 s ∧ s.boot.stream = false ∧ s.boot.job = none ∧
      k = (if s.boot.slot = 1 then 1 else 0) ∧ triedState s.boot.hdr[k.val].state = true) ∧
    (∃ (via : Origin) (k : Fin 2) (s : State), Serves via 0x0705 s ∧ s.boot.stream = false ∧ s.boot.job = none ∧
      k = (if s.boot.slot = 1 then 1 else 0) ∧ triedState s.boot.hdr[k.val].state = true ∧ s.boot.hdr[k.val].svn ≤ 256) ∧
    (∃ (p : PortId) (tag : Nat) (s : State), Serves (.farEnd p tag) 0x0101 s ∧ s.part.hasPort p = true) ∧
    (∃ (n : SlotId) (p : PortId) (s : State), Serves (.slot n) 0x0101 s ∧ s.part.hasPort p = true) :=
  ⟨⟨(.slot 0), (runs 0x0701 svc), by simp only [Serves]; decide +kernel⟩,
   ⟨(.slot 0), 256, (runs 0x0702 svc), by simp only [Serves]; decide +kernel⟩,
   ⟨(.slot 0), 1, (runs 0x0702 (wBoot fun b => { b with singleSlot := true })), by simp only [Serves]; decide +kernel⟩,
   ⟨{ op := .imgErase, stage := 0, origin := .slot 0, opcode := 0x0703 },
     (wBoot fun b => { b with left := 2, job := some { op := .imgErase, stage := 0, origin := .slot 0, opcode := 0x0703 } }),
     by decide +kernel⟩,
   ⟨{ op := .imgErase, stage := 0, origin := .slot 0, opcode := 0x0703 },
     (wBoot fun b => { b with left := 1, job := some { op := .imgErase, stage := 0, origin := .slot 0, opcode := 0x0703 } }),
     by decide +kernel⟩,
   ⟨(.slot 0), 0xFFF800, (List.replicate 2048 0), (runs 0x0703 (wBoot fun b => { b with erased := 256, writes := [] })),
     by simp only [Serves]; decide +kernel⟩,
   ⟨(.slot 0), 0, [0], (runs 0x0703 (wBoot fun b => { b with erased := 0 })), by simp only [Serves]; decide +kernel⟩,
   ⟨.slot 0, [0], runs 0x0703 (wBoot fun b => { b with stream := true, configDone := false }),
     by simp only [Serves]; decide +kernel⟩,
   ⟨.slot 0, List.replicate 2048 0, 5, noKeys, by simp only [Serves]; decide +kernel, rfl, rfl, by decide +kernel,
     by decide +kernel, by decide +kernel, by decide +kernel, streamHeader_noKeys _⟩,
   ⟨.slot 0, [], runs 0x0704 (wBoot fun b => { b with step := 14 }), by simp only [Serves]; decide +kernel⟩,
   ⟨(.slot 0), 0, (runs 0x0705 (wBoot fun b => { b with slot := 0, hdr := b.hdr.set 0 { b.hdr[0] with state := 0xFFFF0000 } })),
     by simp only [Serves]; decide +kernel⟩,
   ⟨.slot 0, 0,
     runs 0x0705 (wBoot fun b => { b with slot := 0, hdr := b.hdr.set 0 { b.hdr[0] with state := 0xFFFF0000, svn := 256 } }),
     by simp only [Serves]; decide +kernel⟩,
   ⟨0, 1, { svc with fw := { svc.fw with running := [{ origin := .farEnd 0 1, opcode := 0x0101, tag := 0, port := none }] } },
     by simp only [Serves]; decide +kernel⟩,
   ⟨0, 0, runs 0x0101 svc, by simp only [Serves]; decide +kernel⟩⟩

theorem witness_SelfTestCommandsComplete :
    (∃ (via : Origin) (pods : BitVec 8) (hub : Bool) (groups : BitVec 8) (banks : BitVec 16) (scope : List MemBank) (here : List MemBank) (s : State),
      Serves via 0x0A01 s ∧ scope = bistScope pods.toNat hub groups.toNat banks.toNat ∧
      here = scope.filter (fun b => b.present s.part) ∧ here.any (bankGated s) = false ∧ groups &&& 0xE1 = 0 ∧ scope ≠ [] ∧
      here.all (bankFree s) = true ∧ s.test.bist = none ∧ otherRuns via 0x0A01 s = false) ∧
    (∃ (found : BistFound) (r : BistRun) (b : MemBank) (rest : List MemBank) (s : State), s.test.bist = some r ∧
      r.left = b :: rest ∧ r.repair = false ∧ bistCode b found = 1) ∧
    (∃ (r : BistRun) (b : MemBank) (rest : List MemBank) (s : State), s.test.bist = some r ∧ r.left = b :: rest ∧
      r.repair = false) ∧
    (∃ (via : Origin) (pod : Option PodId) (group : Nat) (bank : Nat) (b : MemBank) (x : BankResult) (s : State),
      Serves via 0x0A02 s ∧ namedBank pod group bank = some b ∧ b.present s.part = true ∧
      (s.test.results.find? fun r => r.bank = b) = some x) ∧
    (∃ (via : Origin) (pod : Option PodId) (group : Nat) (bank : Nat) (b : MemBank) (s : State), Serves via 0x0A02 s ∧
      namedBank pod group bank = some b ∧ b.present s.part = false) ∧
    (∃ (via : Origin) (pod : Option PodId) (group : Nat) (b : MemBank) (s : State), Serves via 0x0A05 s ∧
      namedBank pod group 0 = some b ∧ s.test.soft = [] ∧ s.test.map = []) ∧
    (∃ (via : Origin) (s : State), Serves via 0x0A06 s ∧ s.test.soft = [] ∧ s.test.map.length < 512 ∧
      otherRuns via 0x0A06 s = false ∧ otherRuns via 0x0A08 s = false) ∧
    (∃ (via : Origin) (s : State), Serves via 0x0A06 s ∧ s.test.map.length < 512 ∧ otherRuns via 0x0A06 s = false ∧
      otherRuns via 0x0A08 s = false) ∧
    (∃ (via : Origin) (s : State), Serves via 0x0A07 s ∧ s.test.scanLocked = false ∧ otherRuns via 0x0A07 s = false) ∧
    (∃ (s : State), s.test.jtag = .auth ∧ s.test.scanLocked = false ∧ s.fw.libDead = false) ∧
    (∃ (via : Origin) (response : List Byte) (s : State), Serves via 0x0A08 s ∧ s.test.scanLocked = false ∧
      s.test.challenge.isSome = true ∧ response.length = 96 ∧ otherRuns via 0x0A06 s = false ∧ otherRuns via 0x0A08 s = false ∧
      s.test.bist = none) ∧
    (∃ (op : BitVec 8) (s : State), s.pwr.lost = [] ∧ JtagInstr.ofOpcode op.toNat = .auth) ∧
    (∃ (op : BitVec 8) (s : State), s.pwr.lost = [] ∧ JtagInstr.ofOpcode op.toNat = .bypass) ∧
    (∃ (via : Origin) (s : State), Serves via 0x0A04 s) :=
  ⟨⟨(.slot 0), 1, false, 2, 1, (bistScope 1 false 2 1), ((bistScope 1 false 2 1).filter fun b => b.present .a), (runs 0x0A01 svc),
     by simp only [Serves]; decide +kernel⟩,
   ⟨{ cycles := Config.bistCycles 1, misr := Config.bistSignature 1, fails := [], rows := [], badSpares := [] },
     { origin := .slot 0, left := [{ group := .podReplay, pod := 0, bank := 0 }], all := [{ group := .podReplay, pod := 0, bank := 0 }], diag := false, raw := false, repair := false, partialF := false },
     { group := .podReplay, pod := 0, bank := 0 }, [],
     wTest fun x => { x with bist := some { origin := .slot 0, left := [{ group := .podReplay, pod := 0, bank := 0 }], all := [{ group := .podReplay, pod := 0, bank := 0 }], diag := false, raw := false, repair := false, partialF := false } },
     by decide +kernel, rfl, rfl, by simp [bistCode, MemGroup.code]⟩,
   ⟨{ origin := .slot 0, left := [{ group := .podReplay, pod := 0, bank := 0 }], all := [{ group := .podReplay, pod := 0, bank := 0 }], diag := false, raw := false, repair := false, partialF := false },
     { group := .podReplay, pod := 0, bank := 0 }, [],
     wTest fun x => { x with bist := some { origin := .slot 0, left := [{ group := .podReplay, pod := 0, bank := 0 }], all := [{ group := .podReplay, pod := 0, bank := 0 }], diag := false, raw := false, repair := false, partialF := false } },
     by decide +kernel⟩,
   ⟨(.slot 0), (some 0), 1, 0, { group := .podReplay, pod := 0, bank := 0 },
     { bank := { group := .podReplay, pod := 0, bank := 0 }, code := 1, kind := 0, fails := [], misr := 0 },
     (runs 0x0A02 (wTest fun x => { x with results := [{ bank := { group := .podReplay, pod := 0, bank := 0 }, code := 1, kind := 0, fails := [], misr := 0 }] })),
     by simp only [Serves]; decide +kernel⟩,
   ⟨(.slot 0), (some 4), 1, 0, { group := .podReplay, pod := 4, bank := 0 }, (runs 0x0A02 { svc with part := .b48 }),
     by simp only [Serves]; decide +kernel⟩,
   ⟨(.slot 0), (some 0), 1, { group := .podReplay, pod := 0, bank := 0 }, (runs 0x0A05 svc),
     by simp only [Serves]; decide +kernel⟩,
   ⟨(.slot 0), (runs 0x0A06 svc), by simp only [Serves]; decide +kernel⟩,
   ⟨(.slot 0), (runs 0x0A06 svc), by simp only [Serves]; decide +kernel⟩,
   ⟨(.slot 0), (runs 0x0A07 svc), by simp only [Serves]; decide +kernel⟩,
   ⟨(wTest fun x => { x with jtag := .auth }), by decide +kernel⟩,
   ⟨(.slot 0), (List.replicate 96 0), (runs 0x0A08 (wTest fun x => { x with challenge := some [] })),
     by simp only [Serves]; decide +kernel⟩,
   ⟨0x40, svc, by decide +kernel⟩,
   ⟨0xFF, svc, by decide +kernel⟩,
   ⟨(.slot 0), (runs 0x0A04 svc), by simp only [Serves]; decide +kernel⟩⟩

theorem witness_LoopbackCommandsComplete :
    (∃ (via : Origin) (p : PortId) (n : LaneId) (s : State), Serves via 0x0A03 s ∧ s.portOpen p = true ∧
      (s.port p).idleDown = true ∧ s.portSafe p = false ∧ s.calHolds p = false ∧
      diagUses s p (1#8 <<< (n : LaneId).val).toNat = false ∧ otherRuns via 0x0A03 s = false) ∧
    (∃ (via : Origin) (p : PortId) (n : LaneId) (heard : List Listen) (s : State), Serves via 0x0A03 s ∧ s.portOpen p = true ∧
      (s.port p).idleDown = true ∧ s.portSafe p = false ∧ s.calHolds p = false ∧
      diagUses s p (1#8 <<< (n : LaneId).val).toNat = false ∧ otherRuns via 0x0A03 s = false ∧
      (heard.any fun x => x.active s.boot.limits.quiet) = false) ∧
    (∃ (via : Origin) (p : PortId) (n : LaneId) (heard : List Listen) (s : State), Serves via 0x0A03 s ∧ s.portOpen p = true ∧
      (s.port p).idleDown = true ∧ s.portSafe p = false ∧ s.calHolds p = false ∧
      diagUses s p (1#8 <<< (n : LaneId).val).toNat = false ∧ otherRuns via 0x0A03 s = false ∧
      (heard.any fun x => x.active s.boot.limits.quiet) = true) ∧
    (∃ (via : Origin) (p : PortId) (n : LaneId) (s : State), Serves via 0x0A03 s ∧ s.portOpen p = true ∧
      otherRuns via 0x0A03 s = false ∧ (s.lane p n).test.loop = .serial) ∧
    (∃ (via : Origin) (p : PortId) (n : LaneId) (s : State), Serves via 0x0A03 s ∧ s.portOpen p = true ∧
      farAllowed (s.port p) n = true ∧ (s.port p).loopFeature = true ∧ (s.port p).changePending = false ∧
      (s.lane p n).test.loop = .none ∧ otherRuns via 0x0A03 s = false) ∧
    (∃ (p : PortId) (n : LaneId) (s : State), (s.port p).loopFeature = true ∧ farAllowed (s.port p) n = true ∧
      (s.port p).changePending = false ∧ (s.lane p n).test.loop = .none) ∧
    (∃ (p : PortId) (s : State), (s.port p).loopFeature = false) ∧
    (∃ (p : PortId) (n : LaneId) (s : State), (s.lane p n).test.loop = .farAsked) ∧
    (∃ (p : PortId) (n : LaneId) (s : State), (s.lane p n).test.loop = .farAsked) ∧
    (∃ (p : PortId) (n : LaneId) (s : State), (s.lane p n).test.loop = .farGranted) ∧
    (∃ (p : PortId) (n : LaneId) (s : State), (s.lane p n).test.loop = .farServe) ∧
    (∃ (p : PortId) (n : LaneId) (s : State), (s.lane p n).test.chkEn = true ∧ (s.lane p n).test.chkLock = false ∧
      prbsStarts s p n = true) ∧
    (∃ (p : PortId) (n : LaneId) (s : State), (s.lane p n).test.chkEn = true ∧ (s.lane p n).test.chkLock = true ∧
      prbsAllowed s p n = true) ∧
    (∃ (who : Initiator) (p : PortId) (n : LaneId) (s : State), WriteReaches who s (laneBase p n + 0x500)) :=
  ⟨⟨(.slot 0), 0, 0, (runs 0x0A03 svc), by simp only [Serves]; decide +kernel⟩,
   ⟨.slot 0, 0, 0, [⟨false, [], []⟩], runs 0x0A03 svc, by simp only [Serves]; decide +kernel⟩,
   ⟨.slot 0, 0, 0, [⟨true, [], []⟩], runs 0x0A03 svc, by simp only [Serves]; decide +kernel⟩,
   ⟨(.slot 0), 0, 0, (runs 0x0A03 (wLt (fun t => { t with loop := .serial }) svc)), by simp only [Serves]; decide +kernel⟩,
   ⟨(.slot 0), 0, 0,
     (runs 0x0A03 (wLc (fun c => { c with state := .shed }) (wPort fun q => nat .up { q with snd := { q.snd with agreed := some offer0 } }))),
     by simp only [Serves]; decide +kernel⟩,
   ⟨0, 0,
     (wLc (fun c => { c with state := .shed }) (wPort fun q => nat .up { q with snd := { q.snd with agreed := some offer0 } })),
     by decide +kernel⟩,
   ⟨0, svc, by decide +kernel⟩,
   ⟨0, 0, (wLt (fun t => { t with loop := .farAsked }) svc), by decide +kernel⟩,
   ⟨0, 0, (wLt (fun t => { t with loop := .farAsked }) svc), by decide +kernel⟩,
   ⟨0, 0, (wLt (fun t => { t with loop := .farGranted }) svc), by decide +kernel⟩,
   ⟨0, 0, (wLt (fun t => { t with loop := .farServe }) svc), by decide +kernel⟩,
   ⟨0, 0, wLt (fun t => { t with prbsCtrl := 0x100 }) svc, by decide +kernel⟩,
   ⟨0, 0, (wLt (fun t => { t with prbsCtrl := 0x100, chkLock := true }) svc), by decide +kernel⟩,
   ⟨.pcie, 0, 0, svc, by simp only [WriteReaches]; decide +kernel⟩⟩

theorem witness_FaultCommandsComplete :
    (∃ (k : PodId) (s : State), s.podOpen k = true) ∧
    (∃ (c : Cause), Cause.isCondition c = false) ∧
    (∃ (who : Initiator) (i : Inst) (s : State), WriteReaches who s (fltBase i + 4)) ∧
    (∃ (who : Initiator) (s : State), WriteReaches who s 0x10318) ∧
    (∃ (who : Initiator) (s : State), WriteReaches who s 0x10200) ∧
    (∃ (who : Initiator) (c : Cause) (s : State), WriteReaches who s (0x10100 + 4 * Cause.code c)) ∧
    (∃ (via : Origin) (code : Nat) (inst : Nat) (delay : Nat) (hold : Nat) (c : Cause) (i : Inst) (s : State),
      Serves via 0x0901 s ∧ s.flt.fiEn = true ∧ namedInst s.part code inst = some (c, i) ∧ delay ≤ 1000000 ∧ 1 ≤ hold ∧
      hold ≤ 1000000 ∧ (s.flt.armed.any fun a => a.is c i) = false ∧ s.flt.armed.length < 16) ∧
    (∃ (via : Origin) (s : State), Serves via 0x0901 s ∧ s.flt.fiEn = false) ∧
    (∃ (via : Origin) (a : Armed) (rest : List Armed) (s : State), Serves via 0x0902 s ∧ s.flt.fiEn = true ∧
      s.flt.armed = a :: rest) ∧
    (∃ (via : Origin) (s : State), Serves via 0x0903 s ∧ s.flt.fiEn = true) ∧
    (∃ (c : Cause) (i : Inst) (a : Armed) (s : State), s.flt.armed = [a] ∧ a.is c i = true ∧ a.left = 1) ∧
    (∃ (c : Cause) (i : Inst) (a : Armed) (s : State), s.flt.armed = [a] ∧ a.is c i = true ∧ 2 ≤ a.left) :=
  ⟨⟨0, svc, by decide +kernel⟩,
   ⟨.laneShed, by decide +kernel⟩,
   ⟨.pcie, .dev, svc, by simp only [WriteReaches]; decide +kernel⟩,
   ⟨.lib, svc, by simp only [WriteReaches]; decide +kernel⟩,
   ⟨.pcie, svc, by simp only [WriteReaches]; decide +kernel⟩,
   ⟨.pcie, .froFail, svc, by simp only [WriteReaches]; decide +kernel⟩,
   ⟨(.slot 0), 0x26, 0, 1000000, 1000000, .froFail, .dev, (runs 0x0901 (wFlt fun x => { x with fiEn := true })),
     by simp only [Serves]; decide +kernel⟩,
   ⟨(.slot 0), (runs 0x0901 svc), by simp only [Serves]; decide +kernel⟩,
   ⟨(.slot 0), { cause := .froFail, inst := .dev, delay := 0, repeatMode := true, period := 1, left := 1, hold := 1 }, [],
     (runs 0x0902 (wFlt fun x => { x with fiEn := true, armed := [{ cause := .froFail, inst := .dev, delay := 0, repeatMode := true, period := 1, left := 1, hold := 1 }] })),
     by simp only [Serves]; decide +kernel⟩,
   ⟨(.slot 0), (runs 0x0903 (wFlt fun x => { x with fiEn := true })), by simp only [Serves]; decide +kernel⟩,
   ⟨.froFail, .dev, { cause := .froFail, inst := .dev, delay := 0, repeatMode := true, period := 1, left := 1, hold := 1 },
     (wFlt fun x => { x with armed := [{ cause := .froFail, inst := .dev, delay := 0, repeatMode := true, period := 1, left := 1, hold := 1 }] }),
     by decide +kernel⟩,
   ⟨.froFail, .dev, { cause := .froFail, inst := .dev, delay := 0, repeatMode := true, period := 1, left := 2, hold := 1 },
     (wFlt fun x => { x with armed := [{ cause := .froFail, inst := .dev, delay := 0, repeatMode := true, period := 1, left := 2, hold := 1 }] }),
     by decide +kernel⟩⟩

theorem witness_StackLinkCommandsComplete :
    (∃ (p : StackPortId) (s : State), (s.stk p).state = .clock ∧ s.clk.stkLock = true ∧
      stackPllSource s.clk (s.modStk p fun x => { x with rclk := true }).upstreamClock = s.clk.stkSrc) ∧
    (∃ (p : StackPortId) (s : State), (s.stk p).state ≠ .off) ∧
    (∃ (p : StackPortId) (d : Fin 4) (sofs : List Nat) (s : State), (s.stk p).state = .lock ∧ sofsLock sofs = true ∧
      (s.stk p).lockMask ||| (1#4 <<< d.val) = 0xF) ∧
    (∃ (p : StackPortId) (spread : Nat) (s : State), (s.stk p).state = .align ∧ spread ≤ 4) ∧
    (∃ (p : StackPortId) (s : State), (s.stk p).state = .align) ∧
    (∃ (p : StackPortId) (missed : Nat) (errored : Nat) (s : State), (s.stk p).state = .lock ∧ (4 ≤ missed ∨ 64 ≤ errored)) ∧
    (∃ (p : StackPortId) (missed : Nat) (errored : Nat) (s : State), (s.stk p).state = .up ∧ (4 ≤ missed ∨ 64 ≤ errored)) ∧
    (∃ (p : StackPortId) (s : State), (s.stk p).state = .up ∧ s.stack.upstream = some p) ∧
    (∃ (p : StackPortId) (s : State), (s.stk p).state = .up ∧ s.stack.upstream ≠ some p ∧ (s.stk p).role = .downstream) ∧
    (∃ (s : State), s.clk.stkLock = true ∧ s.isMaster = true ∧ s.stack.sofSent = true) ∧
    (∃ (s : State), s.clk.stkLock = true ∧ s.isMaster = true ∧ s.stack.sofSent = false) ∧
    (∃ (s : State), s.clk.stkLock = true ∧ s.isMaster = false ∧ s.upstreamUp = true) ∧
    (∃ (p : StackPortId) (s : State), ((s.stk p).state = .hello ∨ (s.stk p).state = .up)) ∧
    (∃ (p : StackPortId) (h : Hello) (s : State), (s.stk p).state = .hello ∧ h.peer ≠ Config.uid) ∧
    (∃ (p : StackPortId) (h : Hello) (s : State), (s.stk p).state = .hello ∧ h.peer = Config.uid) ∧
    (∃ (p : StackPortId) (s : State), (s.stk p).state = .up) ∧
    (∃ (p : StackPortId) (quads : List StkQuad) (s : State), (s.stk p).state = .up ∧ (stkReassemble (stkColumns (s.stk p).polInv quads)).bind stkParse = none) ∧
    (∃ (p : StackPortId) (quads : List StkQuad) (msg : StkMsg) (s : State), (s.stk p).state = .up ∧
      (stkReassemble (stkColumns (s.stk p).polInv quads)).bind stkParse = some msg ∧ stkSequenced msg.typ = true ∧ msg.lseq = (s.stk p).rxSeq ∧
      (s.stk p).toAck < 7 ∧ (stkClass msg.typ).isNone = false) ∧
    (∃ (p : StackPortId) (quads : List StkQuad) (msg : StkMsg) (s : State), (s.stk p).state = .up ∧
      (stkReassemble (stkColumns (s.stk p).polInv quads)).bind stkParse = some msg ∧ stkSequenced msg.typ = true ∧ msg.lseq = (s.stk p).rxSeq ∧
      (s.stk p).toAck < 7 ∧ (stkClass msg.typ).isNone = false ∧ (msg.dst = 0xFFFE ∨ s.stack.id = some msg.dst)) ∧
    (∃ (p : StackPortId) (quads : List StkQuad) (msg : StkMsg) (s : State), (s.stk p).state = .up ∧
      (stkReassemble (stkColumns (s.stk p).polInv quads)).bind stkParse = some msg ∧ stkSequenced msg.typ = true ∧ msg.lseq = (s.stk p).rxSeq ∧
      (s.stk p).toAck < 7 ∧ (stkClass msg.typ).isNone = true) ∧
    (∃ (p : StackPortId) (quads : List StkQuad) (msg : StkMsg) (s : State), (s.stk p).state = .up ∧
      (stkReassemble (stkColumns (s.stk p).polInv quads)).bind stkParse = some msg ∧ stkSequenced msg.typ = true ∧ msg.lseq ≠ (s.stk p).rxSeq) ∧
    (∃ (p : StackPortId) (next : BitVec 8) (s : State), (s.stk p).state = .up ∧ next.toNat = (s.stk p).txSeq) ∧
    (∃ (p : StackPortId) (s : State), (s.stk p).state = .up ∧ 0 < (s.stk p).toAck) :=
  ⟨⟨0, wStk (fun x => { x with state := .clock }) (wClk fun c => { c with stkSrc := 1 }), by decide +kernel⟩,
   ⟨0, wStk (fun x => { x with state := .lock }) svc, by decide +kernel⟩,
   ⟨0, 3, [0, 10000, 20000], wStk (fun x => { x with state := .lock, lockMask := 7 }) svc, by decide +kernel⟩,
   ⟨0, 4, (wStk (fun x => { x with state := .align }) svc), by decide +kernel⟩,
   ⟨0, (wStk (fun x => { x with state := .align }) svc), by decide +kernel⟩,
   ⟨0, 4, 0, wStk (fun x => { x with state := .lock }) svc, by decide +kernel⟩,
   ⟨0, 0, 64, wStk (fun x => { x with state := .up }) svc, by decide +kernel⟩,
   ⟨0, (wStk (fun x => { x with state := .up }) (wStack fun x => { x with upstream := some 0 })), by decide +kernel⟩,
   ⟨0, (wStk (fun x => { x with state := .up, role := .downstream }) svc), by decide +kernel⟩,
   ⟨{ (wStack fun x => { x with sofSent := true, frame := 1 }) with boot := { svc.boot with straps := 1 } }, by decide +kernel⟩,
   ⟨{ (wStack fun x => { x with sofSent := false, frame := 1 }) with boot := { svc.boot with straps := 1 } }, by decide +kernel⟩,
   ⟨(wStk (fun x => { x with state := .up }) (wStack fun x => { x with upstream := some 0 })), by decide +kernel⟩,
   ⟨0, (wStk (fun x => { x with state := .hello }) svc), by decide +kernel⟩,
   ⟨0, { uid := 1, part := 1, port := 0, root := false, depth := 0, id := 0, gen := 0, master := 0, peer := Config.uid + 1 },
     (wStk (fun x => { x with state := .hello }) svc), by decide +kernel, by simp⟩,
   ⟨0, { uid := 1, part := 1, port := 0, root := false, depth := 0, id := 0, gen := 0, master := 0, peer := Config.uid },
     (wStk (fun x => { x with state := .hello }) svc), by decide +kernel, rfl⟩,
   ⟨0, (wStk (fun x => { x with state := .up }) svc), by decide +kernel⟩,
   ⟨0, [], wStk (fun x => { x with state := .up }) (wStack fun x => { x with id := some 1 }), by decide +kernel⟩,
   ⟨0,
     (stkEncode (List.replicate 4 false) (StkMsg.columns { typ := 0x01, last := false, nak := false, dst := 1, src := 0, tag := 0, frag := 0, lseq := 0, payload := [1] })).1,
     { typ := 0x01, last := false, nak := false, dst := 1, src := 0, tag := 0, frag := 0, lseq := 0, payload := [1] },
     wStk (fun x => { x with state := .up }) (wStack fun x => { x with id := some 1 }), by decide +kernel⟩,
   ⟨0,
     (stkEncode (List.replicate 4 false) (StkMsg.columns { typ := 0x01, last := false, nak := false, dst := 1, src := 0, tag := 0, frag := 0, lseq := 0, payload := [1] })).1,
     { typ := 0x01, last := false, nak := false, dst := 1, src := 0, tag := 0, frag := 0, lseq := 0, payload := [1] },
     wStk (fun x => { x with state := .up }) (wStack fun x => { x with id := some 1 }), by decide +kernel⟩,
   ⟨0,
     (stkEncode (List.replicate 4 false) (StkMsg.columns { typ := 0x60, last := false, nak := false, dst := 1, src := 0, tag := 0, frag := 0, lseq := 0, payload := [1] })).1,
     { typ := 0x60, last := false, nak := false, dst := 1, src := 0, tag := 0, frag := 0, lseq := 0, payload := [1] },
     wStk (fun x => { x with state := .up }) (wStack fun x => { x with id := some 1 }), by decide +kernel⟩,
   ⟨0,
     (stkEncode (List.replicate 4 false) (StkMsg.columns { typ := 0x01, last := false, nak := false, dst := 1, src := 0, tag := 0, frag := 0, lseq := 1, payload := [1] })).1,
     { typ := 0x01, last := false, nak := false, dst := 1, src := 0, tag := 0, frag := 0, lseq := 1, payload := [1] },
     wStk (fun x => { x with state := .up }) (wStack fun x => { x with id := some 1 }), by decide +kernel⟩,
   ⟨0, 0, (wStk (fun x => { x with state := .up }) svc), by decide +kernel⟩,
   ⟨0, (wStk (fun x => { x with state := .up, toAck := 1 }) svc), by decide +kernel⟩⟩

theorem witness_EnumerationCommandsComplete :
    (∃ (s : State), s.stack.busy = false ∧ (s.stack.wantCmd = true ∨ (s.stack.wanted = true ∧ s.stack.autoEnum = true))) ∧
    (∃ (s : State), s.stack.busy = false ∧ s.isMaster = true) ∧
    (∃ (p : StackPortId) (gen : BitVec 16) (depth : Nat) (s : State), s.isMaster = false ∧ (s.stk p).enumerable = true ∧
      depth < 8 ∧ s.stack.master = 0 ∧ (s.stack.genSeen = false ∨ laterGen16 gen.toNat s.stack.gen = true)) ∧
    (∃ (s : State), s.isMaster = true) ∧
    (∃ (p : StackPortId) (d : Nat) (s : State), s.stack.busy = true ∧ s.isMaster = false ∧ s.stack.parent = none ∧
      bestParent s = some (p, d) ∧ s.stack.runRenumber = false ∧ d < 7) ∧
    (∃ (p : StackPortId) (gen : BitVec 16) (s : State), s.stack.busy = true ∧ gen.toNat = s.stack.gen ∧ (s.stk p).fwd = true) ∧
    (∃ (p : StackPortId) (gen : BitVec 16) (k : Nat) (s : State), s.stack.busy = true ∧ s.stack.reported = true ∧
      gen.toNat = s.stack.gen ∧ s.stack.parent = some p ∧ s.stack.id = none ∧ k < 1024) ∧
    (∃ (p : StackPortId) (s : State), s.isMaster = true ∧ s.stackUp p = true) ∧
    (∃ (p : StackPortId) (s : State), s.stack.upstream = some p ∧ s.isMaster = false) ∧
    (∃ (via : Origin) (s : State), Serves via 0x0501 s ∧ s.isMaster = true ∧ s.stack.busy = true) ∧
    (∃ (via : Origin) (s : State), Serves via 0x0501 s ∧ s.isMaster = true ∧ s.stack.busy = false) ∧
    (∃ (via : Origin) (s : State), Serves via 0x0502 s ∧ s.isMaster = true ∧ s.stack.busy = false) ∧
    (∃ (via : Origin) (s : State), Serves via 0x0502 s ∧ s.isMaster = false) :=
  ⟨⟨wStack fun x => { x with wantCmd := true }, by decide +kernel⟩,
   ⟨{ svc with boot := { svc.boot with straps := 1 } }, by decide +kernel⟩,
   ⟨0, 1, 7, wStk (fun x => { x with state := .up }) svc, by decide +kernel⟩,
   ⟨{ (svc) with boot := { svc.boot with straps := 1 } }, by decide +kernel⟩,
   ⟨0, 6, (wStk (fun x => { x with disc := some 6 }) (wStack fun x => { x with busy := true })), by decide +kernel⟩,
   ⟨0, 0, (wStk (fun x => { x with fwd := true }) (wStack fun x => { x with busy := true })), by decide +kernel⟩,
   ⟨0, 0, 1023, (wStack fun x => { x with busy := true, reported := true, parent := some 0 }), by decide +kernel⟩,
   ⟨0, { (wStk (fun x => { x with state := .up }) svc) with boot := { svc.boot with straps := 1 } }, by decide +kernel⟩,
   ⟨0, (wStack fun x => { x with upstream := some 0 }), by decide +kernel⟩,
   ⟨(.slot 0), (runs 0x0501 { (wStack fun x => { x with busy := true }) with boot := { svc.boot with straps := 1 } }),
     by simp only [Serves]; decide +kernel⟩,
   ⟨(.slot 0), (runs 0x0501 { (svc) with boot := { svc.boot with straps := 1 } }), by simp only [Serves]; decide +kernel⟩,
   ⟨(.slot 0), (runs 0x0502 { (svc) with boot := { svc.boot with straps := 1 } }), by simp only [Serves]; decide +kernel⟩,
   ⟨(.slot 0), (runs 0x0502 svc), by simp only [Serves]; decide +kernel⟩⟩

theorem witness_StackMessageCommandsComplete :
    (∃ (w : Nat) (s : State), closedWindow s.stack.frame (s.stack.depth.getD 8) = some w ∧ s.isMaster = true) ∧
    (∃ (w : Nat) (s : State), closedWindow s.stack.frame (s.stack.depth.getD 8) = some w ∧ s.isMaster = false ∧ s.hasPath = false) ∧
    (∃ (p : StackPortId) (s : State), (s.stk p).role = .downstream ∧ s.stackUp p = true ∧ s.isMaster = true ∧
      0 < s.stack.closedTo) ∧
    (∃ (src : Nat) (tag : Nat) (frag : Nat) (last : Bool) (data : List Byte) (l : List TunnelBuf) (s : State),
      tunnelAdd src tag frag last data s.stack.tunIn = (l, none)) ∧
    (∃ (src : Nat) (tag : Nat) (frag : Nat) (last : Bool) (data : List Byte) (l : List TunnelBuf) (bytes : List Byte) (s : State),
      tunnelAdd src tag frag last data s.stack.tunIn = (l, some bytes)) ∧
    (∃ (src : Nat) (tag : Nat) (frag : Nat) (last : Bool) (data : List Byte) (t : TunnelOut) (l : List TunnelBuf) (bytes : List Byte) (s : State),
      (s.stack.tunOut.find? fun t => t.tag == tag && t.dst == src) = some t ∧
      tunnelAdd src tag frag last data s.stack.respIn = (l, some bytes)) ∧
    (∃ (tag : Nat) (t : TunnelOut) (s : State), (s.stack.tunOut.find? fun t => t.tag == tag) = some t) ∧
    (∃ (via : Origin) (dst : Nat) (packet : List Byte) (s : State), Serves via 0x0503 s ∧ 8 ≤ packet.length ∧
      packet.length ≤ 4096 ∧ dstHeld s dst = true ∧ s.stack.id ≠ some dst) ∧
    (∃ (via : Origin) (dst : Nat) (packet : List Byte) (s : State), Serves via 0x0503 s ∧ 8 ≤ packet.length ∧
      packet.length ≤ 4096 ∧ dstHeld s dst = true ∧ s.stack.id = some dst) ∧
    (∃ (via : Origin) (s : State), Serves via 0x0504 s) ∧
    (∃ (via : Origin) (count : Nat) (s : State), Serves via 0x0505 s ∧ 1 ≤ count ∧ count ≤ 32 ∧ s.isMaster = true) ∧
    (∃ (s : State), s.isMaster = true) :=
  ⟨⟨1, { (wStack fun x => { x with frame := 20 }) with boot := { svc.boot with straps := 1 } }, by decide +kernel⟩,
   ⟨1, (wStack fun x => { x with frame := 20 }), by decide +kernel⟩,
   ⟨0,
     { (wStk (fun x => { x with state := .up, role := .downstream }) (wStack fun x => { x with closedTo := 1 })) with boot := { svc.boot with straps := 1 } },
     by decide +kernel⟩,
   ⟨1, 2, 0, false, [], [{ peer := 1, tag := 2, next := 1, bytes := [] }], svc, by decide +kernel⟩,
   ⟨1, 2, 0, true, [], [], [], svc, by decide +kernel⟩,
   ⟨1, 2, 0, true, [], { tag := 2, dst := 1, origin := .slot 0 }, [], [],
     (wStack fun x => { x with tunOut := [{ tag := 2, dst := 1, origin := .slot 0 }] }), by decide +kernel⟩,
   ⟨2, { tag := 2, dst := 1, origin := .slot 0 },
     (wStack fun x => { x with tunOut := [{ tag := 2, dst := 1, origin := .slot 0 }] }), by decide +kernel⟩,
   ⟨(.slot 0), 2, (List.replicate 8 0), (runs 0x0503 (wStack fun x => { x with id := some 1 })),
     by simp only [Serves]; decide +kernel⟩,
   ⟨(.slot 0), 1, (List.replicate 4096 0), (runs 0x0503 (wStack fun x => { x with id := some 1 })),
     by simp only [Serves]; decide +kernel⟩,
   ⟨(.slot 0), (runs 0x0504 svc), by simp only [Serves]; decide +kernel⟩,
   ⟨(.slot 0), 32, (runs 0x0505 { (svc) with boot := { svc.boot with straps := 1 } }), by simp only [Serves]; decide +kernel⟩,
   ⟨{ (svc) with boot := { svc.boot with straps := 1 } }, by decide +kernel⟩⟩

theorem witness_TimeCommandsComplete :
    (∃ (who : Initiator) (s : State), WriteReaches who s 0x20000) ∧
    (∃ (who : Initiator) (s : State), WriteReaches who s 0x20008) ∧
    (∃ (via : Origin) (sec : Nat) (ns : Nat) (frac : Nat) (s : State), Serves via 0x0601 s ∧ sec < 2 ^ 48 ∧ ns < 1000000000 ∧
      frac < 65536 ∧ s.time.src ≠ 4 ∧ s.time.run = true) ∧
    (∃ (via : Origin) (ns : Int) (s : State), Serves via 0x0602 s ∧ -2147483648 ≤ ns ∧ ns ≤ 2147483648 ∧ s.time.src ≠ 4 ∧
      s.time.run = true) ∧
    (∃ (via : Origin) (t2 : Nat) (t3 : Nat) (s : State), Serves via 0x0603 s ∧ s.time.stamps.contains t2 = true ∧
      s.time.stamps.contains t3 = true ∧ s.time.src = 1 ∧ s.time.run = true) ∧
    (∃ (via : Origin) (s : State), Serves via 0x0604 s) ∧
    (∃ (s : State), s.time.state = .locked) ∧
    (∃ (s : State), bitOf s.clk.gate 10 = true ∧ s.time.src ≠ 2) ∧
    (∃ (f : Nat) (s : State), bitOf s.clk.gate 10 = true ∧ s.time.src = 2 ∧ s.time.run = true ∧ s.fw.clerk = .running ∧
      s.time.ctr % secUnits / 2 ^ 24 = f ∧ f ≤ 6553600000) ∧
    (∃ (s : State), s.time.ppsAllowed = true ∧ s.time.reached < s.time.boundary ∧
      s.time.pulsed.contains s.time.boundary = false) ∧
    (∃ (p : PortId) (a : Nat × Nat) (b : Nat × Nat) (sent : List (Nat × Nat)) (recv : List (Nat × Nat)) (s : State),
      (s.port p).snd.path = .native ∧ bitOf (s.port p).time.tsCtrl 2 = true ∧ (s.port p).time.sentAl = a :: sent ∧
      (s.port p).time.recvAl = b :: recv) ∧
    (∃ (p : PortId) (slotTx : Nat) (slotRx : Nat) (a : Nat × Nat) (b : Nat × Nat) (s : State), (s.port p).snd.path = .native ∧
      bitOf (s.port p).time.tsCtrl 2 = true ∧ ((s.port p).time.sentAl.find? fun a => a.1 == slotRx) = some a ∧
      ((s.port p).time.recvAl.find? fun a => a.1 == slotTx) = some b ∧ s.time.src ≠ 3) ∧
    (∃ (f : Nat) (res : Nat) (own : Nat) (s : State), s.time.lastSof = some (f, res, own) ∧ s.timeValid = true ∧ f % 16 = 0) ∧
    (∃ (f : Nat) (res : Nat) (own : Nat) (s : State), s.time.lastSof = some (f, res, own) ∧ s.time.run = true ∧ s.time.src = 4 ∧
      s.upstreamUp = true) ∧
    (∃ (p : PortId) (s : State), accessible s (portBase p + 0xE10) = true) ∧
    (∃ (s : State), accessible s 0x20010 = true) ∧
    (∃ (s : State), accessible s 0x20024 = true) :=
  ⟨⟨.pcie, svc, by simp only [WriteReaches]; decide +kernel⟩,
   ⟨.pcie, svc, by simp only [WriteReaches]; decide +kernel⟩,
   ⟨(.slot 0), (2 ^ 48 - 1), 999999999, 65535, (runs 0x0601 (wTime fun x => { x with run := true })),
     by simp only [Serves]; decide +kernel⟩,
   ⟨(.slot 0), -2147483648, (runs 0x0602 (wTime fun x => { x with run := true })), by simp only [Serves]; decide +kernel⟩,
   ⟨(.slot 0), 5, 6, (runs 0x0603 (wTime fun x => { x with run := true, stamps := [5, 6], src := 1 })),
     by simp only [Serves]; decide +kernel⟩,
   ⟨(.slot 0), (runs 0x0604 svc), by simp only [Serves]; decide +kernel⟩,
   ⟨(wTime fun x => { x with run := true, state := .locked }), by decide +kernel⟩,
   ⟨svc, by decide +kernel⟩,
   ⟨0, wTime fun x => { x with run := true, src := 2, ctr := secUnits }, by decide +kernel⟩,
   ⟨(wTime fun x => { x with run := true, outEn := true, state := .locked, ctr := 10 ^ 30 }), by decide +kernel⟩,
   ⟨0, (7, 8), (9, 10), [], [],
     (wPort fun q => { q with snd := { q.snd with path := .native }, time := { q.time with tsCtrl := 4, sentAl := [(7, 8)], recvAl := [(9, 10)] } }),
     by decide +kernel⟩,
   ⟨0, 9, 7, (7, 8), (9, 10),
     (wPort fun q => { q with snd := { q.snd with path := .native }, time := { q.time with tsCtrl := 4, sentAl := [(7, 8)], recvAl := [(9, 10)] } }),
     by decide +kernel⟩,
   ⟨16, 1, 2, (wTime fun x => { x with run := true, state := .locked, lastSof := some (16, 1, 2) }), by decide +kernel⟩,
   ⟨16, 1, 2,
     (wStk (fun x => { x with state := .up }) { (wTime fun x => { x with run := true, src := 4, lastSof := some (16, 1, 2) }) with stack := { svc.stack with upstream := some 0 } }),
     by decide +kernel⟩,
   ⟨0, svc, by decide +kernel⟩,
   ⟨svc, by decide +kernel⟩,
   ⟨svc, by decide +kernel⟩⟩

theorem witness_FirmwareCommandsComplete :
    (∃ (who : Initiator) (s : State), WriteReaches who s 0x58000) ∧
    (∃ (who : Initiator) (s : State), WriteReaches who s 0x58004) ∧
    (∃ (n : SlotId) (port : Option PortId) (op : Nat) (s : State), s.fw.slots[n.val].state = .posted ∧
      op = beNat (memReadList s.fw.mem (slotBase n) 2) ∧ secondOfLong s n = false ∧ postedBefore s n (libGroup op) = false ∧
      mayStart op port s = true) ∧
    (∃ (via : Origin) (r : RunCmd) (s : State), (s.fw.running.find? fun r => r.origin = via) = some r) ∧
    (∃ (via : Origin) (p : PortId) (packet : List Byte) (s : State), Serves via 0x0102 s ∧ s.portOpen p = true ∧
      packet.length ≤ 1016 ∧ (s.port p).farOpen = true ∧ (s.fw.far.any fun f => f.1 = p) = false) ∧
    (∃ (p : PortId) (session : Nat) (tag : Nat) (frag : Nat) (last : Bool) (data : List Byte) (l : List FarBuf) (s : State),
      (s.port p).farTakes session = true ∧ farAdd p tag frag last data s.fw.farIn = (l, none)) ∧
    (∃ (p : PortId) (session : Nat) (s : State), (s.port p).farTakes session = false) ∧
    (∃ (p : PortId) (session : Nat) (tag : Nat) (frag : Nat) (last : Bool) (data : List Byte) (l : List FarBuf) (bytes : List Byte) (s : State),
      (s.port p).farTakes session = true ∧ farAdd p tag frag last data s.fw.farIn = (l, some bytes) ∧
      bitOf s.fw.mbxCtrl 1 = true ∧ farPermits (beNat (bytes.take 2)) = true) ∧
    (∃ (p : PortId) (session : Nat) (tag : Nat) (frag : Nat) (last : Bool) (data : List Byte) (f : PortId × Nat × Origin) (l : List FarBuf) (bytes : List Byte) (s : State),
      (s.port p).farTakes session = true ∧ (s.fw.far.find? fun f => f.1 = p && f.2.1 == tag) = some f ∧
      farAdd p tag frag last data s.fw.farResp = (l, some bytes)) ∧
    (∃ (p : PortId) (f : PortId × Nat × Origin) (s : State), (s.fw.far.find? fun f => f.1 = p) = some f) ∧
    (∃ (s : State), s.clerkRuns = true) ∧
    (∃ (s : State), s.fw.clerk = .restarting ∧ s.boot.configDone = true) ∧
    (∃ (s : State), s.fw.clerk = .restarting ∧ s.boot.configDone = false) ∧
    (∃ (s : State), s.clerkRuns = true ∧ s.fw.violSeen = true) ∧
    (∃ (s : State), s.clerkRuns = true ∧ s.fw.violSeen = false) ∧
    (∃ (s : State), s.boot.inReset = false) :=
  ⟨⟨.pcie, svc, by simp only [WriteReaches]; decide +kernel⟩,
   ⟨.pcie, svc, by simp only [WriteReaches]; decide +kernel⟩,
   ⟨0, none, 0x0701,
     (wSlots [{ state := .posted, spi := false, long := false, order := 0 }] (wFw fun f => { f with mem := [(0, 7), (1, 1)] })),
     by decide +kernel⟩,
   ⟨(.slot 0), { origin := .slot 0, opcode := 0x0701, tag := 0, port := none }, (runs 0x0701 svc), by decide +kernel⟩,
   ⟨(.slot 0), 0, (List.replicate 1016 0), (runs 0x0102 (wPort (nat .up))), by simp only [Serves]; decide +kernel⟩,
   ⟨0, 0, 2, 0, false, [], [{ port := 0, tag := 2, next := 1, bytes := [] }], wPort (nat .up), by decide +kernel⟩,
   ⟨0, 0, svc, by decide +kernel⟩,
   ⟨0, 0, 2, 0, true, [1, 1], [], [1, 1], { (wPort (nat .up)) with fw := { svc.fw with mbxCtrl := 2 } }, by decide +kernel⟩,
   ⟨0, 0, 2, 0, true, [], (0, 2, .slot 0), [], [], { (wPort (nat .up)) with fw := { svc.fw with far := [(0, 2, .slot 0)] } },
     by decide +kernel⟩,
   ⟨0, (0, 2, .slot 0), (wFw fun f => { f with far := [(0, 2, .slot 0)] }), by decide +kernel⟩,
   ⟨svc, by decide +kernel⟩,
   ⟨(wFw fun f => { f with clerk := .restarting }), by decide +kernel⟩,
   ⟨{ (wFw fun f => { f with clerk := .restarting }) with boot := { svc.boot with configDone := false } }, by decide +kernel⟩,
   ⟨(wFw fun f => { f with violSeen := true }), by decide +kernel⟩,
   ⟨svc, by decide +kernel⟩,
   ⟨svc, by decide +kernel⟩⟩

theorem witness_LedgerCommandsComplete :
    (∃ (via : Origin) (s : State), Serves via 0x0801 s ∧ s.ledger.ring = [] ∧ s.ledger.reserveOk = false) ∧
    (∃ (via : Origin) (count : Nat) (s : State), Serves via 0x0802 s ∧ 1 ≤ count ∧ count ≤ 21) ∧
    (∃ (via : Origin) (s : State), Serves via 0x0802 s) ∧
    (∃ (via : Origin) (s : State), Serves via 0x0803 s ∧ s.ledger.run = true) ∧
    (∃ (via : Origin) (text : List Byte) (s : State), Serves via 0x0804 s ∧ 1 ≤ text.length ∧ text.length ≤ 96 ∧
      s.ledger.run = true ∧ s.ledger.allowance ≠ 0) ∧
    (∃ (via : Origin) (text : List Byte) (s : State), Serves via 0x0804 s ∧ 1 ≤ text.length ∧ text.length ≤ 96 ∧
      s.ledger.run = true ∧ s.ledger.allowance = 0) ∧
    (∃ (via : Origin) (nonce : List Byte) (s : State), Serves via 0x0805 s ∧ nonce.length = 48) ∧
    (∃ (via : Origin) (chunk : Nat) (s : State), Serves via 0x0806 s ∧ chunk ≤ 1) ∧
    (∃ (via : Origin) (slot : Nat) (sig : List Byte) (s : State), Serves via 0x0807 s ∧ slot ≤ 3 ∧ sig.length = 96 ∧
      s.fw.revoked.testBit slot = false) ∧
    (∃ (s : State), s.ledger.run = true ∧ s.ledger.unsealed.length ≤ (openRecs s.ledger.unsealed).length) ∧
    (∃ (s : State), s.ledger.run = true ∧ (openRecs s.ledger.unsealed).length < s.ledger.unsealed.length) ∧
    (∃ (s : State), s.ledger.run = true) ∧
    (∃ (id : Nat) (acc : Nat) (chain : BitVec 384) (s : State), s.stack.id = some id ∧ s.ledger.lastSeal = some (acc, chain) ∧
      s.isMaster = false) ∧
    (∃ (s : State), s.ledger.run = true) ∧
    (∃ (s : State), s.ledger.run = false) :=
  ⟨⟨(.slot 0), (runs 0x0801 (wLedger fun l => { l with ring := [], reserveOk := false })), by simp only [Serves]; decide +kernel⟩,
   ⟨(.slot 0), 21, (runs 0x0802 svc), by simp only [Serves]; decide +kernel⟩,
   ⟨(.slot 0), (runs 0x0802 svc), by simp only [Serves]; decide +kernel⟩,
   ⟨(.slot 0), (runs 0x0803 (wLedger fun l => { l with run := true })), by simp only [Serves]; decide +kernel⟩,
   ⟨(.slot 0), (List.replicate 96 0), (runs 0x0804 (wLedger fun l => { l with run := true, allowance := 1 })),
     by simp only [Serves]; decide +kernel⟩,
   ⟨(.slot 0), [0], (runs 0x0804 (wLedger fun l => { l with run := true, allowance := 0 })),
     by simp only [Serves]; decide +kernel⟩,
   ⟨(.slot 0), (List.replicate 48 0), (runs 0x0805 svc), by simp only [Serves]; decide +kernel⟩,
   ⟨(.slot 0), 1, (runs 0x0806 svc), by simp only [Serves]; decide +kernel⟩,
   ⟨(.slot 0), 3, (List.replicate 96 0), (runs 0x0807 svc), by simp only [Serves]; decide +kernel⟩,
   ⟨(wLedger fun l => { l with run := true }), by decide +kernel⟩,
   ⟨(wLedger fun l => { l with run := true, unsealed := [{ accession := 0, type := 2, flags := 0, code := 0, time := 0, uptime := 0, tstate := 0, body := [], chain := 0 }] }),
     by decide +kernel⟩,
   ⟨(wLedger fun l => { l with run := true }), by decide +kernel⟩,
   ⟨1, 0, 5, { (wStack fun x => { x with id := some 1 }) with ledger := { svc.ledger with lastSeal := some (0, 5) } },
     by decide +kernel⟩,
   ⟨(wLedger fun l => { l with run := true }), by decide +kernel⟩,
   ⟨(wLedger fun l => { l with run := false }), by decide +kernel⟩⟩

theorem witness_RegisterMapCommandsComplete :
    (∃ (who : Initiator) (p : PortId) (s : State), WriteReaches who s (portBase p)) ∧
    (∃ (who : Initiator) (p : PortId) (n : LaneId) (s : State), WriteReaches who s (laneBase p n + 0x7F0)) ∧
    (∃ (who : Initiator) (addr : BitVec 32) (s : State), WriteReaches who s (wordAddr addr)) ∧
    (∃ (addr : BitVec 32) (s : State), accessible s (wordAddr addr) = true) ∧
    (∃ (who : Initiator) (s : State), (who ≠ .spi ∨ s.hubSlow = false)) ∧
    (∃ (s : State), s.hubSlow = true) ∧
    (∃ (who : Initiator) (s : State), WriteReaches who s 0x10) ∧
    (∃ (ofs : Nat) (s : State), s.part.hasStore = true ∧ s.reg.capWin * 2 ^ 30 + ofs / 4 * 4 < s.store.captureGib * 2 ^ 30 ∧
      ofs < 2 ^ 30 ∧ s.store.state = 2 ∧ s.cap.outcome ≠ .running) :=
  ⟨⟨.pcie, 0, svc, by simp only [WriteReaches]; decide +kernel⟩,
   ⟨.pcie, 0, 0, svc, by simp only [WriteReaches]; decide +kernel⟩,
   ⟨.pcie, 0x10, svc, by simp only [WriteReaches]; decide +kernel⟩,
   ⟨0x10, svc, by decide +kernel⟩,
   ⟨.spi, svc, by decide +kernel⟩,
   ⟨wClk fun c => { c with dom := Vector.replicate 4 { fro := true, ramp := 0, toFro := false, running := true } },
     by decide +kernel⟩,
   ⟨.pcie, svc, by simp only [WriteReaches]; decide +kernel⟩,
   ⟨0x3FFFFFFC, (wStore fun x => { x with state := 2, captureGib := 1 }), by decide +kernel⟩⟩

theorem witness_StepTakesTheFront :
    ∃ (c : Instr) (rest : List Instr) (s : State), s.pending = c :: rest :=
  ⟨(.slotBoundary 0), [], { svc with pending := [.slotBoundary 0] }, by decide +kernel⟩

theorem witness_IdleStepIsOneCycle :
    (∃ (s : State), s.pending = [] ∧ s.boot.inReset = true) ∧
    (∃ (s : State), s.pending = [] ∧ s.boot.inReset = false ∧ (s.time.run && bitOf s.clk.gate 10) = false) ∧
    (∃ (s : State), s.pending = [] ∧ s.boot.inReset = false ∧ (s.time.run && bitOf s.clk.gate 10) = true) :=
  ⟨⟨{ svc with boot := { svc.boot with inReset := true } }, by decide +kernel⟩,
   ⟨(wTime fun x => { x with run := false }), by decide +kernel⟩,
   ⟨(wTime fun x => { x with run := true }), by decide +kernel⟩⟩

theorem witness_EveryStepKeepsSlotMemory :
    ∃ (s : State) (t : State), MemInv s ∧ step s = .next t :=
  ⟨{ svc with pending := [.xbDetect] }, _, by unfold MemInv; decide +kernel, rfl⟩

theorem witness_FusesOnlyGrow :
    ∃ (s : State) (t : State), step s = .next t :=
  ⟨{ svc with pending := [.xbDetect] }, _, rfl⟩

theorem witness_PartAndQueueAreKept :
    (∃ (c : Instr) (s : State) (t : State), exec c s = .next t) ∧
    (∃ (s : State) (t : State), step s = .next t) :=
  ⟨⟨.xbDetect, svc, _, rfl⟩,
   ⟨{ svc with pending := [.xbDetect] }, _, rfl⟩⟩

theorem witness_OwnPortFrame :
    ∃ (c : Instr) (p : PortId) (s : State) (t : State), ownPort c = some p ∧ exec c s = .next t :=
  ⟨.parcelClose 0 false, 0, svc, _, by decide, rfl⟩

theorem witness_CalmCommandFrame :
    (∃ (c : Instr) (s : State) (t : State), calmCommand c = true ∧ exec c s = .next t) ∧
    (∃ (c : Instr) (s : State) (t : State), clockCommand c = true ∧ exec c s = .next t) ∧
    (∃ (c : Instr) (s : State) (t : State), lateCommand c = true ∧ exec c s = .next t) :=
  ⟨⟨.parcelClose 0 false, svc, _, by decide, rfl⟩,
   ⟨.parentChoose, svc, _, by decide, rfl⟩,
   ⟨.alignmentLoss 0 0, svc, _, by decide, rfl⟩⟩

theorem witness_UnreachableAccessIsABusError :
    (∃ (addr : BitVec 32) (s : State), accessible s (wordAddr addr) = false) ∧
    (∃ (a : Nat) (s : State), 0x20000 ≤ a ∧ a < 0x30000 ∧ bitOf s.clk.gate 10 = false) ∧
    (∃ (i : StackPortId) (o : Nat) (s : State), o < 8 ∧ bitOf s.clk.gate (12 + i.val) = false) ∧
    (∃ (a : Nat) (s : State), 0x40000 ≤ a ∧ a < 0x50000 ∧ (bitOf s.clk.gate 11 = false ∨ s.part.hasStore = false)) ∧
    (∃ (k : PodId) (o : Nat) (s : State), o < 0x10000 ∧ (s.part.hasPod k = false ∨ (s.pod k).bridge.up = false)) ∧
    (∃ (p : PortId) (o : Nat) (s : State), o < 0x10000 ∧ (s.part.hasPort p = false ∨ (s.pod (podOf p)).bridge.up = false)) ∧
    (∃ (a : Nat), (0x60000 ≤ a ∧ a < 0x80000) ∨ (0x100000 ≤ a ∧ a < 0x1000000) ∨ 0x1600000 ≤ a) :=
  ⟨⟨0x60000, svc, by decide +kernel⟩,
   ⟨0x20000, (wClk fun c => { c with gate := 0 }), by decide +kernel⟩,
   ⟨3, 7, (wClk fun c => { c with gate := 0 }), by decide +kernel⟩,
   ⟨0x40000, { svc with part := .s }, by decide +kernel⟩,
   ⟨0, 0xFFFF, cut, by decide +kernel⟩,
   ⟨0, 0xFFFF, cut, by decide +kernel⟩,
   ⟨0x1600000, by decide +kernel⟩⟩

theorem witness_EarlyAndPartialWritesAreIgnored :
    (∃ (who : Initiator) (addr : BitVec 32) (s : State), (who = .pcie ∨ who = .spi ∨ who = .mdio) ∧ s.boot.configDone = false ∧
      accessible s (wordAddr addr) = true ∧ (wordAddr addr < 0x50000 ∨ 0x60000 ≤ wordAddr addr)) ∧
    (∃ (who : Initiator) (addr : BitVec 32) (be : BitVec 4) (s : State), WriteReaches who s (wordAddr addr) ∧ be ≠ 0xF ∧
      (wordAddr addr < 0x50000 ∨ 0x58000 ≤ wordAddr addr)) :=
  ⟨⟨.pcie, 0x10, (wBoot fun b => { b with configDone := false }), by decide +kernel⟩,
   ⟨.pcie, 0x58000, 7, svc, by simp only [WriteReaches]; decide +kernel⟩⟩

theorem witness_IgnoredWritesAreRecorded :
    (∃ (who : Initiator) (s : State), (who ≠ .spi ∨ s.hubSlow = false)) ∧
    (∃ (who : Initiator) (v : Word) (s : State), WriteReaches who s 0x10 ∧ bitOf v 31 = true) ∧
    (∃ (who : Initiator) (v : Word) (s : State), WriteReaches who s 0x10 ∧ bitOf v 31 = false) :=
  ⟨⟨.spi, svc, by decide +kernel⟩,
   ⟨.pcie, 0x80000000, svc, by simp only [WriteReaches]; decide +kernel⟩,
   ⟨.pcie, 0x7FFFFFFF, svc, by simp only [WriteReaches]; decide +kernel⟩⟩

theorem witness_StagedRegisters :
    (∃ (who : Initiator) (p : PortId) (r : PortSt) (s : State), WriteReaches who s (portBase p + r.ofs)) ∧
    (∃ (who : Initiator) (p : PortId) (n : LaneId) (r : LaneSt) (s : State), WriteReaches who s (laneBase p n + r.ofs)) ∧
    (∃ (who : Initiator) (p : PortId) (s : State), WriteReaches who s (portBase p) ∧ (s.port p).commitPending = false) ∧
    (∃ (who : Initiator) (p : PortId) (n : LaneId) (s : State), WriteReaches who s (laneBase p n + 0x7F0) ∧
      (s.port p).commitPending = false) :=
  ⟨⟨.pcie, 0, .lreCtrl, svc, by simp only [WriteReaches]; decide +kernel⟩,
   ⟨.pcie, 0, 0, .txCtrl, svc, by simp only [WriteReaches]; decide +kernel⟩,
   ⟨.pcie, 0, svc, by simp only [WriteReaches]; decide +kernel⟩,
   ⟨.pcie, 0, 0, svc, by simp only [WriteReaches]; decide +kernel⟩⟩

theorem witness_CommitsAreJudged :
    (∃ (who : Initiator) (p : PortId) (v : Word) (s : State), WriteReaches who s (portBase p) ∧ bits v 1 0 ≠ 0 ∧
      (s.port p).commitPending = true ∨ bits v 1 0 = 3) ∧
    (∃ (who : Initiator) (p : PortId) (n : LaneId) (v : Word) (s : State), WriteReaches who s (laneBase p n + 0x7F0) ∧
      bits v 1 0 ≠ 0 ∧ (s.port p).commitPending = true ∨ bits v 1 0 = 3) ∧
    (∃ (p : PortId) (s : State), (s.group p).relocking = true) ∧
    (∃ (p : PortId) (s : State) (o : Nat), (s.group p).relocking = false ∧ (s.port p).commit.pend = true ∧
      (s.port p).commit.config = false ∧ firstRefused (portChecks s p) = some o) ∧
    (∃ (p : PortId) (s : State), (s.group p).relocking = false ∧ (s.port p).commit.pend = true ∧
      firstRefused (portChecks s p) = none) ∧
    (∃ (who : Initiator) (p : PortId) (s : State), WriteReaches who s (portBase p) ∧ (s.port p).commitPending = false) :=
  ⟨⟨.pcie, 0, 3, svc, by simp only [WriteReaches]; decide +kernel⟩,
   ⟨.pcie, 0, 0, 2, (wPort fun q => { q with commit := { q.commit with pend := true } }),
     by simp only [WriteReaches]; decide +kernel⟩,
   ⟨0, (wGroup (fun g => { g with target := some .f592 }) svc), by decide +kernel⟩,
   ⟨0,
     (wPort fun q => { (q.setReg .fecCtrl fun r => { r with snap := 0xFFFFFFFF }) with commit := { q.commit with pend := true, config := false } }),
     4104, by decide +kernel⟩,
   ⟨0, (wPort fun q => { q with commit := { q.commit with pend := true } }), by decide +kernel⟩,
   ⟨.pcie, 0, svc, by simp only [WriteReaches]; decide +kernel⟩⟩

theorem witness_WideRegistersLatch :
    (∃ (who : Initiator) (addr : BitVec 32) (s : State) (v : Nat), accessible s (wordAddr addr) = true ∧
      s.wide (Place.ofAddr (wordAddr addr)) = some v ∧ (who ≠ .spi ∨ s.hubSlow = false)) ∧
    (∃ (who : Initiator) (addr : BitVec 32) (s : State), accessible s (wordAddr addr + 4) = true ∧
      (s.wide (Place.ofAddr (wordAddr addr))).isSome = true ∧ (who ≠ .spi ∨ s.hubSlow = false)) :=
  ⟨⟨.spi, 0x58024, wLedger fun l => { l with newest := 0 }, 0, by decide +kernel⟩,
   ⟨.spi, 0x58024, svc, by decide +kernel⟩⟩

theorem witness_SlotMemoryReadsBack :
    (∃ (o : Nat) (s : State), MemInv s ∧ o < 0x8000 ∧ o % 4 = 0 ∧ s.fw.slots[(slotAt o).val].state ≠ .posted ∧
      s.fw.slots[(slotAt o).val].state ≠ .running) ∧
    (∃ (o : Nat) (s : State), o < 0x8000 ∧ o % 4 = 0 ∧
      (s.fw.slots[(slotAt o).val].state = .posted ∨ s.fw.slots[(slotAt o).val].state = .running)) :=
  ⟨⟨0x7FFC, svc, by simp only [MemInv]; decide +kernel⟩,
   ⟨0xFFC, (wSlots [{ state := .posted, spi := false, long := false, order := 0 }] svc), by decide +kernel⟩⟩

theorem witness_MailboxSlots :
    (∃ (who : Initiator) (s : State), (who ≠ .spi ∨ s.hubSlow = false)) ∧
    (∃ (n : SlotId) (s : State), s.fw.slots[n.val].state = .free ∧
      bitOf ((memRead s.fw.mem (slotBase n + 3)).setWidth 32) 0 = false) ∧
    (∃ (n : SlotId) (m : SlotId) (s : State), n.val % 2 = 0 ∧ slotAfter n = some m ∧ s.fw.slots[n.val].state = .free ∧
      s.fw.slots[m.val].state = .free ∧ bitOf ((memRead s.fw.mem (slotBase n + 3)).setWidth 32) 0 = true) ∧
    (∃ (n : SlotId) (s : State), s.fw.slots[n.val].state ≠ .free) ∧
    (∃ (n : SlotId) (s : State), bitOf ((memRead s.fw.mem (slotBase n + 3)).setWidth 32) 0 = true ∧
      (n.val % 2 = 1 ∨ (∃ m, slotAfter n = some m ∧ s.fw.slots[m.val].state ≠ .free))) ∧
    (∃ (n : SlotId) (s : State), s.fw.slots[n.val].state = .done ∧ secondOfLong s n = false) ∧
    (∃ (n : SlotId) (s : State), s.fw.slots[n.val].state ≠ .done) ∧
    (∃ (o : Nat) (s : State), o < 0x8000 ∧ o % 4 = 0 ∧
      (s.fw.slots[(slotAt o).val].state = .posted ∨ s.fw.slots[(slotAt o).val].state = .running)) :=
  ⟨⟨.spi, svc, by decide +kernel⟩,
   ⟨7, svc, by decide +kernel⟩,
   ⟨0, 1, (wFw fun f => { f with mem := [(3, 1)] }), by decide +kernel⟩,
   ⟨0, (wSlots [{ state := .done, spi := false, long := false, order := 0 }] svc), by decide +kernel⟩,
   ⟨7, (wFw fun f => { f with mem := [(0x7003, 1)] }), by decide +kernel⟩,
   ⟨0, (wSlots [{ state := .done, spi := false, long := false, order := 0 }] svc), by decide +kernel⟩,
   ⟨0, svc, by decide +kernel⟩,
   ⟨0xFFC, (wSlots [{ state := .running, spi := false, long := false, order := 0 }] svc), by decide +kernel⟩⟩

theorem witness_SmallPartRefusesOpcodes :
    (∃ (s : State), s.part = .s ∧ s.fw.clerk ≠ .restarting) ∧
    (∃ (via : Origin) (s : State), s.part = .s ∧ Serves via 0x0404 s) ∧
    (∃ (via : Origin) (cls : Nat) (s : State), s.part = .s ∧ Serves via 0x0404 s ∧ 0 < cls) :=
  ⟨⟨{ svc with part := .s }, by decide +kernel⟩,
   ⟨(.slot 0), (runs 0x0404 { svc with part := .s }), by simp only [Serves]; decide +kernel⟩,
   ⟨(.slot 0), 1, (runs 0x0404 { svc with part := .s }), by simp only [Serves]; decide +kernel⟩⟩

theorem witness_GatedCommandsReturnGated :
    (∃ (op : Nat) (s : State), libGroup op = false ∧ partLacks s.part op = false ∧ s.fw.clerk ≠ .restarting ∧
      cmdGated s op = true) ∧
    (∃ (via : Origin) (op : Nat) (p : PortId) (s : State), Serves via op s ∧
      (s.part.hasPort p = false ∨ (s.pod (podOf p)).bridge.up = false)) :=
  ⟨⟨0x0601, (wClk fun c => { c with gate := 0 }), by decide +kernel⟩,
   ⟨(.slot 0), 0x0301, 0, (runs 0x0301 cut), by simp only [Serves]; decide +kernel⟩⟩

theorem witness_ClerkGivesUp :
    (∃ (s : State), (s.fw.clerk = .running ∨ s.fw.clerk = .starting)) ∧
    (∃ (op : Nat) (s : State), libGroup op = false ∧ partLacks s.part op = false ∧ s.fw.clerk = .givenUp) ∧
    (∃ (who : Initiator) (s : State), s.fw.clerk = .givenUp ∧ (who ≠ .spi ∨ s.hubSlow = false)) :=
  ⟨⟨svc, by decide +kernel⟩,
   ⟨0x0601, (wFw fun f => { f with clerk := .givenUp }), by decide +kernel⟩,
   ⟨.spi, wFw fun f => { f with clerk := .givenUp }, by decide +kernel⟩⟩

theorem witness_StickyBits :
    (∃ (who : Initiator) (c : Cause) (i : Inst) (s : State), c.scope = i.scope ∧ i.present s.part = true ∧
      accessible s (fltBase i) = true ∧ (who ≠ .spi ∨ s.hubSlow = false)) ∧
    (∃ (c : Cause) (i : Inst) (s : State), c.isCondition = true ∧ (fltGet c i s).real = true) ∧
    (∃ (c : Cause) (i : Inst) (s : State), (c.isCondition = false ∨ (fltGet c i s).real = false)) ∧
    (∃ (c : Cause) (i : Inst), c.scope = i.scope) ∧
    (∃ (who : Initiator) (c : Cause) (i : Inst) (s : State), c.scope = i.scope ∧ WriteReaches who s (fltBase i + 4)) :=
  ⟨⟨.spi, .froFail, .dev, svc, by decide +kernel⟩,
   ⟨.froFail, .dev, (fltMod .froFail .dev (fun x => { x with real := true }) svc), by decide +kernel⟩,
   ⟨.froFail, .dev, svc, by decide +kernel⟩,
   ⟨.froFail, .dev, by decide +kernel⟩,
   ⟨.pcie, .froFail, .dev, svc, by simp only [WriteReaches]; decide +kernel⟩⟩

theorem witness_ClassFIsCopied :
    (∃ (o : Occ), o.cls = .f) ∧
    (∃ (o : Occ), o.cls ≠ .f) ∧
    (∃ (s : State), s.boot.devReset.isSome = true) :=
  ⟨⟨{ cause := .froFail, inst := .dev, detail := 0, cls := .f, react := React.none, real := true, inj := false, time := 0, safe := false },
     by decide +kernel⟩,
   ⟨{ cause := .froFail, inst := .dev, detail := 0, cls := .u, react := React.none, real := true, inj := false, time := 0, safe := false },
     by decide +kernel⟩,
   ⟨(wBoot fun b => { b with devReset := some 10 }), by decide +kernel⟩⟩

theorem witness_FaultRecords :
    (∃ (o : Occ) (s : State), (getNat s.flt.recs (recOf o.inst) FltRec.free).pend = false) ∧
    (∃ (o : Occ) (s : State) (r : FltRec) (k : FltClass), getNat s.flt.recs (recOf o.inst) FltRec.free = r ∧ r.pend = true ∧
      r.cls = some k) ∧
    (∃ (o : Occ) (i : Inst), recOf i ≠ recOf o.inst) ∧
    (∃ (o : Occ), (o.react.record = true ∨ o.safe = true)) ∧
    (∃ (o : Occ), o.react.record = false ∧ o.safe = false) ∧
    (∃ (who : Initiator) (r : BitVec 7) (s : State), WriteReaches who s 0x10318 ∧
      (getNat s.flt.recs r.toNat FltRec.free).pend = true) ∧
    (∃ (who : Initiator) (r : BitVec 7) (s : State), WriteReaches who s 0x10318 ∧
      (getNat s.flt.recs r.toNat FltRec.free).pend = false) :=
  ⟨⟨{ cause := .froFail, inst := .dev, detail := 0, cls := .u, react := React.none, real := true, inj := false, time := 0, safe := false },
     svc, by decide +kernel⟩,
   ⟨{ cause := .froFail, inst := .dev, detail := 0, cls := .u, react := React.none, real := true, inj := false, time := 0, safe := false },
     (wFlt fun x => { x with recs := x.recs.map fun _ => { FltRec.free with pend := true, cls := some .u, primary := 1 } }),
     { FltRec.free with pend := true, cls := some .u, primary := 1 }, .u, by decide +kernel⟩,
   ⟨{ cause := .froFail, inst := .dev, detail := 0, cls := .u, react := React.none, real := true, inj := false, time := 0, safe := false },
     (.pod 0), by decide +kernel⟩,
   ⟨{ cause := .froFail, inst := .dev, detail := 0, cls := .u, react := React.none, real := true, inj := false, time := 0, safe := true },
     by decide +kernel⟩,
   ⟨{ cause := .froFail, inst := .dev, detail := 0, cls := .u, react := React.none, real := true, inj := false, time := 0, safe := false },
     by decide +kernel⟩,
   ⟨.pcie, 104,
     (wFlt fun x => { x with recs := x.recs.map fun _ => { FltRec.free with pend := true, cls := some .u, primary := 1 } }),
     by simp only [WriteReaches]; decide +kernel⟩,
   ⟨.pcie, 127, svc, by simp only [WriteReaches]; decide +kernel⟩⟩

theorem witness_FixedActionsStay :
    (∃ (who : Initiator) (c : Cause) (s : State), WriteReaches who s (0x10100 + 4 * c.code) ∧ (who ≠ .spi ∨ s.hubSlow = false)) ∧
    (∃ (c : Cause), (React.ofWord (BitVec.ofNat 32 c.fixedReact)).podSafe = true) ∧
    (∃ (c : Cause), (React.ofWord (BitVec.ofNat 32 c.fixedReact)).devSafe = true) ∧
    (∃ (c : Cause) (s : State), (bitOf (getNat s.flt.react c.code 0) 8 = false ∨ c.reportOnly = true)) :=
  ⟨⟨.spi, .froFail, svc, by simp only [WriteReaches]; decide +kernel⟩,
   ⟨.bridgeFail, by decide +kernel⟩,
   ⟨.supplyLoss, by decide +kernel⟩,
   ⟨.laneShed, svc, by decide +kernel⟩⟩

theorem witness_KeystreamGenerator :
    (∃ (n : Nat) (k : Nat), k < n) ∧
    (∃ (i : Nat), i < 58) :=
  ⟨⟨1, 0, by decide +kernel⟩,
   ⟨57, by decide +kernel⟩⟩

theorem witness_LedgerChain :
    ∃ (ring : Option (List LedgerRec)) (s : State), s.boot.step = 8 ∧ (ring = none ∨ ring = some []) :=
  ⟨none, wBoot fun b => { b with step := 8, configDone := false }, by decide +kernel⟩

end Sys2Proof.Tests
end

section
/-!
PROOFS. What the checks before a command answer, and which addresses no access reaches (O42, O50, O51).
-/
namespace Sys2Proof

open Sys2Proof.Machine

/-! ### What the start of a command leaves -/

/-- The start of a command leaves the part. -/
@[simp] theorem startCommand_part (via : Origin) (opcode : Nat) (port : Option PortId) (s : State) :
    (startCommand via opcode port s).part = s.part :=
  (startCommand_kept (.refl s) via opcode port).part

/-- The start of a command leaves the clocks and their gates. -/
@[simp] theorem startCommand_clk (via : Origin) (opcode : Nat) (port : Option PortId) (s : State) :
    (startCommand via opcode port s).clk = s.clk := by
  obtain ⟨_, _, _, _, hclk, _, _⟩ := (calm_iff _ _).mpr (startCommand_calm (.refl s) via opcode port)
  exact hclk

/-- A slot's new state leaves the Clerk's. -/
@[simp] theorem setSlot_clerk (n : SlotId) (st : SlotState) (s : State) : (setSlot n st s).fw.clerk = s.fw.clerk := by
  unfold setSlot
  cases slotAfter n with
  | none => rfl
  | some m => dsimp only; split <;> rfl

/-- The start of a command leaves the Clerk's state. -/
@[simp] theorem startCommand_clerk (via : Origin) (opcode : Nat) (port : Option PortId) (s : State) :
    (startCommand via opcode port s).fw.clerk = s.fw.clerk := by
  unfold startCommand
  split
  · rfl
  · cases via with
    | slot n => exact setSlot_clerk n _ _
    | tunnel | stageC | farEnd => rfl

/-! ### What the checks before a command's own answer -/

/-- Whether a command's block is gated, by the clock gates alone. -/
theorem cmdGated_congr {s t : State} (h : t.clk = s.clk) (opcode : Nat) : cmdGated t opcode = cmdGated s opcode := by
  simp only [cmdGated, h]

/-- An opcode that the part lacks is answered BAD_OPCODE (R8). -/
theorem command_lacked {via : Origin} {opcode : Nat} {s : State} {body : State → State} (hc : s.fw.clerk ≠ .restarting)
    (hp : partLacks s.part opcode = true) :
    command via opcode s body = reply via opcode 0x02 [] (startCommand via opcode none s) := by
  simp [command, hc, hp]

/-- A command of the Clerk's whose block is gated is answered GATED (R347). -/
theorem command_gated {via : Origin} {opcode : Nat} {s : State} {body : State → State} (hl : libGroup opcode = false)
    (hp : partLacks s.part opcode = false) (hc : s.fw.clerk ≠ .restarting) (hg : cmdGated s opcode = true) :
    command via opcode s body = reply via opcode 0x04 [] (startCommand via opcode none s) := by
  have hg' : cmdGated (startCommand via opcode none s) opcode = true := by rw [cmdGated_congr (startCommand_clk ..), hg]
  simp [command, hl, hp, hc, hg']

/-- A command of the spill store reaches the hub fabric's gate of the store (R237). -/
theorem cmdGated_store {s : State} {opcode : Nat} (h : opcode = 0x0401 ∨ opcode = 0x0402 ∨ opcode = 0x0405 ∨ opcode = 0x0406) :
    cmdGated s opcode = !bitOf s.clk.gate 11 := by
  rcases h with rfl | rfl | rfl | rfl <;> simp [cmdGated]

/-- A command of the time counter reaches its gate. -/
theorem cmdGated_time {s : State} {opcode : Nat} (h : 0x0601 ≤ opcode) (h' : opcode ≤ 0x0604) :
    cmdGated s opcode = !bitOf s.clk.gate 10 := by
  have hd : opcode / 256 = 6 := by omega
  simp [cmdGated, hd]

/-- A pod that the part lacks, or whose bridge is down, is out of reach. -/
theorem podOpen_eq_false {s : State} {k : PodId} (h : s.part.hasPod k = false ∨ (s.pod k).bridge.up = false) :
    s.podOpen k = false := by
  rcases h with h | h <;> simp [State.podOpen, h]

/-- A port that the part lacks, or whose pod's bridge is down, is out of reach. -/
theorem portOpen_eq_false {s : State} {p : PortId} (h : s.part.hasPort p = false ∨ (s.pod (podOf p)).bridge.up = false) :
    s.portOpen p = false := by
  rcases h with h | h <;> simp [State.portOpen, State.podOpen, h]

/-- A port command that is served, on a port out of reach, is answered GATED (R10, R347). -/
theorem portCommand_closed {via : Origin} {opcode : Nat} {p : PortId} {s : State} {body : State → State}
    (h : Serves via opcode s) (hp : s.portOpen p = false) : portCommand via opcode p s body = reply via opcode 0x04 [] s := by
  simp only [portCommand, startCommand_running h, ite_self]
  rw [command_serves h]
  simp [hp]

/-- Settles O51: the gate is looked at before the command's own checks, and the port before the command's parameters. -/
theorem gatedCommandsReturnGated : Obligations.GatedCommandsReturnGated := by
  unfold Obligations.GatedCommandsReturnGated
  refine ⟨fun via op s body hl hp hc hg => command_gated hl hp hc hg, fun s => ⟨fun op h => cmdGated_store h,
    fun op h h' => cmdGated_time h h'⟩, fun via op p s body h hp => portCommand_closed h (portOpen_eq_false hp), fun p => rfl⟩

/-! ### The MLB-9620S -/

/-- A port command of an opcode that the part lacks is answered BAD_OPCODE, whatever its port (R8). -/
theorem portCommand_lacked {via : Origin} {opcode : Nat} {p : PortId} {s : State} {body : State → State}
    (hc : s.fw.clerk ≠ .restarting) (hp : partLacks s.part opcode = true) :
    ∃ u, portCommand via opcode p s body = reply via opcode 0x02 [] u := by
  refine ⟨startCommand via opcode none (startCommand via opcode (some p) s), ?_⟩
  unfold portCommand
  rw [if_neg hc]
  exact command_lacked (by rwa [startCommand_clerk]) (by rwa [startCommand_part])

/-- The MLB-9620S has every port. -/
theorem hasPort_s (p : PortId) : Part.hasPort .s p = true := decide_eq_true p.isLt

/-- PORT_CLASS of class 0 does nothing where there is no store (R8). -/
theorem execPortClass_s_zero {via : Origin} {mask : BitVec 96} {s : State} (hp : s.part = .s) (h : Serves via 0x0404 s) :
    execPortClass via mask 0 s = .next (reply via 0x0404 0x00 [] s) := by
  simp [execPortClass, command_serves h, hp, hasPort_s, Part.hasStore]

/-- PORT_CLASS of another class is refused where there is no store (R8). -/
theorem execPortClass_s_pos {via : Origin} {mask : BitVec 96} {cls : Nat} {s : State} (hp : s.part = .s)
    (h : Serves via 0x0404 s) (hc : 0 < cls) : execPortClass via mask cls s = .next (reply via 0x0404 0x03 [] s) := by
  simp [execPortClass, command_serves h, hp, Part.hasStore, Nat.pos_iff_ne_zero.mp hc]

/-- Settles O50: the part is asked for the opcode before any parameter is looked at, and PORT_CLASS asks whether there is a store. -/
theorem smallPartRefusesOpcodes : Obligations.SmallPartRefusesOpcodes := by
  unfold Obligations.SmallPartRefusesOpcodes
  refine ⟨fun via s hs hc => ?_, fun via mask s hs h => execPortClass_s_zero hs h,
    fun via mask cls s hs h hp => execPortClass_s_pos hs h hp⟩
  have lacks {op : Nat} {body : State → State} (hop : partLacks .s op = true) :
      Host.Outcome.next (φ := Fault) (ρ := Refusal) (command via op s body)
        = .next (reply via op 0x02 [] (startCommand via op none s)) :=
    congrArg _ (command_lacked hc (hs ▸ hop))
  have lacksPort {p : PortId} {body : State → State} :
      ∃ u, Host.Outcome.next (φ := Fault) (ρ := Refusal) (portCommand via 0x0310 p s body) = .next (reply via 0x0310 0x02 [] u) :=
    (portCommand_lacked hc (by rw [hs]; rfl)).imp fun _ h => congrArg _ h
  exact ⟨fun _ _ _ _ _ _ _ _ _ => lacks rfl, fun _ _ _ _ => lacks rfl, fun _ _ _ _ _ _ => lacks rfl,
    fun _ _ _ _ => lacks rfl, fun _ => lacks rfl, fun _ _ _ _ _ _ _ _ => lacksPort, lacks rfl, fun _ _ => lacks rfl, lacks rfl⟩

/-! ### Addresses that no access reaches -/

/-- A read of an inaccessible address is a bus error. -/
theorem regRead_gated {who : Initiator} {addr : Nat} {s : State} {f : State → State} (h : accessible s addr = false) :
    regRead who addr s f = busError who s := by
  simp [regRead, h]

/-- The time counter's window follows its gate. -/
theorem accessible_time {s : State} {a : Nat} (h : 0x20000 ≤ a) (h' : a < 0x30000) : accessible s a = bitOf s.clk.gate 10 := by
  rw [accessible, if_neg (by omega), if_pos h']

/-- A stack port's words follow its gate. -/
theorem accessible_stackPort {s : State} (i : StackPortId) {o : Nat} (h : o < 8) :
    accessible s (0x30020 + 8 * i.val + o) = bitOf s.clk.gate (12 + i.val) := by
  have hi := i.isLt
  have hd : (0x30020 + 8 * i.val + o - 0x30020) / 8 = i.val := by omega
  have hr : (decide (0x30020 ≤ 0x30020 + 8 * i.val + o) && decide (0x30020 + 8 * i.val + o < 0x30040)) = true := by
    rw [Bool.and_eq_true, decide_eq_true_eq, decide_eq_true_eq]
    omega
  rw [accessible, if_neg (by omega), if_neg (by omega), if_pos (by omega), if_pos hr, hd]

/-- The spill store's window follows the part and its gate. -/
theorem accessible_store {s : State} {a : Nat} (h : 0x40000 ≤ a) (h' : a < 0x50000) :
    accessible s a = (s.part.hasStore && bitOf s.clk.gate 11) := by
  rw [accessible, if_neg (by omega), if_neg (by omega), if_neg (by omega), if_pos h']

/-- A pod's window is in reach exactly where the pod is. -/
theorem accessible_pod {s : State} (k : PodId) {o : Nat} (h : o < 0x10000) : accessible s (podBase k + o) = s.podOpen k := by
  have hk := k.isLt
  have hd : (0x80000 + k.val * 0x10000 + o - 0x80000) / 0x10000 = k.val := by omega
  unfold podBase
  rw [accessible, if_neg (by omega), if_neg (by omega), if_neg (by omega), if_neg (by omega), if_neg (by omega),
    if_neg (by omega), if_pos (by omega)]
  simp only [hd, hk, dif_pos, Fin.eta]

/-- A port's window is in reach exactly where the port is. -/
theorem accessible_port {s : State} (p : PortId) {o : Nat} (h : o < 0x10000) : accessible s (portBase p + o) = s.portOpen p := by
  have hp := p.isLt
  have hd : (0x1000000 + p.val * 0x10000 + o - 0x1000000) / 0x10000 = p.val := by omega
  unfold portBase
  rw [accessible, if_neg (by omega), if_neg (by omega), if_neg (by omega), if_neg (by omega), if_neg (by omega),
    if_neg (by omega), if_neg (by omega), if_neg (by omega)]
  simp only [hd, hp, dif_pos, Fin.eta]

/-- No address outside the regions of Table 21.1 is in reach. -/
theorem accessible_outside {s : State} {a : Nat}
    (h : (0x60000 ≤ a ∧ a < 0x80000) ∨ (0x100000 ≤ a ∧ a < 0x1000000) ∨ 0x1600000 ≤ a) : accessible s a = false := by
  unfold accessible
  rcases h with ⟨h, h'⟩ | ⟨h, h'⟩ | h
  · rw [if_neg (by omega), if_neg (by omega), if_neg (by omega), if_neg (by omega), if_neg (by omega), if_pos h']
  · rw [if_neg (by omega), if_neg (by omega), if_neg (by omega), if_neg (by omega), if_neg (by omega), if_neg (by omega),
      if_neg (by omega), if_pos h']
  · rw [if_neg (by omega), if_neg (by omega), if_neg (by omega), if_neg (by omega), if_neg (by omega), if_neg (by omega),
      if_neg (by omega), if_neg (by omega), dif_neg (by omega)]

/-- Settles O42: region by region, an address is in reach exactly where the gate, the part and the bridge say so. -/
theorem unreachableAccessIsABusError : Obligations.UnreachableAccessIsABusError := by
  unfold Obligations.UnreachableAccessIsABusError
  refine ⟨fun who addr v be s h => ⟨congrArg _ (regWrite_gated h), congrArg _ (regRead_gated h), congrArg _ (regRead_gated h)⟩,
    fun a s h h' hg => ?_, fun i o s h hg => ?_, fun a s h h' hg => ?_, fun k o s h hk => ?_, fun p o s h hp => ?_,
    fun a s h => accessible_outside h⟩
  · rw [accessible_time h h', hg]
  · rw [accessible_stackPort i h, hg]
  · rw [accessible_store h h', Bool.and_eq_false_iff]
    exact hg.symm
  · rw [accessible_pod k h, podOpen_eq_false hk]
  · rw [accessible_port p h, portOpen_eq_false hp]

end Sys2Proof
end

section
/-!
PROOFS. No command undoes what every step keeps (Kept): one lemma for each command, whose proof names for each operation of the
meaning, in the order of the meaning, the lemma that says what the operation keeps (O38).
-/
namespace Sys2Proof

open Sys2Proof.Machine

/-! ### How a meaning is put together -/

/-- An update of the record keeps, whatever it puts into the fields that Kept does not speak of. -/
theorem Kept.set {s t : State} {fresh up ports pods flt store fsi reg clk pwr boot test stack time cal cap slots nextOrder
    mbxCtrl running waiting lastReply msi clerk restarts viol violSeen restartTimes libDead config far farTag farIn farResp
    imageStore run ringOk reserveOk unanchored k offset newest newestSealed ringBlocks ringSkip chain lastSeal unsealed ring
    reserve allowance coalesced coalCnt sealCnt} (h : Kept s t) :
    Kept s ⟨t.part, fresh, up, ports, pods, flt,
      ⟨slots, nextOrder, mbxCtrl, t.fw.mem, running, waiting, lastReply, msi, clerk, restarts, viol, violSeen, restartTimes,
        libDead, config, far, farTag, farIn, farResp, t.fw.revoked, t.fw.svnMin, imageStore⟩,
      ⟨run, ringOk, reserveOk, unanchored, t.ledger.ctr, k, offset, newest, newestSealed, ringBlocks, ringSkip, chain, lastSeal,
        unsealed, ring, reserve, allowance, coalesced, coalCnt, sealCnt⟩,
      store, fsi, reg, clk, pwr, boot, test, stack, time, cal, cap, t.pending⟩ :=
  h.upd rfl rfl rfl rfl

/-- The minimum SVN rises. -/
theorem Kept.raiseSvn {s t : State} (h : Kept s t) (n : Nat) :
    Kept s { t with fw := { t.fw with svnMin := Nat.max t.fw.svnMin n } } :=
  h.trans ⟨rfl, rfl, id, le_rfl, Nat.le_max_left _ _, fun _ => id⟩

/-- A key's revocation is added to those before it. -/
theorem Kept.revoke {s t : State} (h : Kept s t) (slot : Nat) :
    Kept s { t with fw := { t.fw with revoked := t.fw.revoked ||| (1 <<< slot) } } :=
  h.trans ⟨rfl, rfl, id, le_rfl, le_rfl, fun k hk => by rw [Nat.testBit_or, hk, Bool.true_or]⟩

/-- Kept.ite where the branches use the condition. -/
theorem Kept.dite {c : Prop} [Decidable c] {s : State} {a : c → State} {b : ¬c → State} (ha : ∀ h, Kept s (a h))
    (hb : ∀ h, Kept s (b h)) : Kept s (if h : c then a h else b h) := by
  split
  · exact ha _
  · exact hb _

/-- Kept.foldl where a tally runs beside the state. -/
theorem Kept.foldlFst {α β} {s : State} {l : List α} {f : State × β → α → State × β} {a : State × β}
    (k : ∀ a x, Kept s a.1 → Kept s (f a x).1) (h : Kept s a.1) : Kept s (l.foldl f a).1 := by
  induction l generalizing a with
  | nil => exact h
  | cons x xs ih => exact ih (k _ _ h)

/-- Where a command goes on to a next state, nothing that every step keeps is undone. -/
structure NextKept (s : State) (o : Host.Outcome State Fault Refusal) : Prop where
  kept : ∀ {t}, o = .next t → Kept s t

theorem NextKept.next {s t : State} (h : Kept s t) : NextKept s (.next t) := ⟨fun e => by cases e; exact h⟩

theorem NextKept.same {s : State} : NextKept s (.next s) := .next (.refl s)

theorem NextKept.ite {c : Prop} [Decidable c] {s : State} {a b : Host.Outcome State Fault Refusal} (ha : NextKept s a)
    (hb : NextKept s b) : NextKept s (if c then a else b) := by
  split
  · exact ha
  · exact hb

theorem NextKept.dite {c : Prop} [Decidable c] {s : State} {a : c → Host.Outcome State Fault Refusal}
    {b : ¬c → Host.Outcome State Fault Refusal} (ha : ∀ h, NextKept s (a h)) (hb : ∀ h, NextKept s (b h)) :
    NextKept s (if h : c then a h else b h) := by
  split
  · exact ha _
  · exact hb _

theorem NextKept.command {s : State} {via : Origin} {opcode : Nat} {body : State → State}
    (h : ∀ x, Kept s x → Kept s (body x)) : NextKept s (.next (command via opcode s body)) :=
  .next (command_kept (.refl s) _ _ _ h)

theorem NextKept.portCommand {s : State} {via : Origin} {opcode : Nat} {p : PortId} {body : State → State}
    (h : ∀ x, Kept s x → Kept s (body x)) : NextKept s (.next (portCommand via opcode p s body)) :=
  .next (portCommand_kept (.refl s) _ _ _ _ h)

theorem NextKept.regWrite {s : State} {who : Initiator} {addr : Nat} {f : State → State}
    (h : ∀ x, Kept s x → Kept s (f x)) : NextKept s (.next (regWrite who addr s f)) :=
  .next (regWrite_kept (.refl s) _ _ _ h)

theorem NextKept.regRead {s : State} {who : Initiator} {addr : Nat} {f : State → State}
    (h : ∀ x, Kept s x → Kept s (f x)) : NextKept s (.next (regRead who addr s f)) :=
  .next (regRead_kept (.refl s) _ _ _ h)

/-! ### The commands of Machine/Spill -/

theorem execSpillInit_kept (via ideReq capture sh1 sh2 sh3 links w r pods s) :
    NextKept s (execSpillInit via ideReq capture sh1 sh2 sh3 links w r pods s) :=
  .command fun _ h =>
    .ite (reply_kept h ..) <|
    .ite (reply_kept h ..) <|
    .ite (reply_kept (.ite h <| reHoldAll_kept (.set h)) ..) <|
    reply_kept (reHoldAll_kept (classRecord_kept (.ite (reduceEffs_kept (.set h)) <| .set h) ..)) ..

theorem execSpillMeasure_kept (via d w r pods s) : NextKept s (execSpillMeasure via d w r pods s) :=
  .command fun _ h => .ite (reply_kept h ..) <| .ite (reply_kept (recomputeNowD_kept (.set h)) ..) <| reply_kept h ..

theorem execClassSet_kept (via cls min floor weight ceil portCap s) :
    NextKept s (execClassSet via cls min floor weight ceil portCap s) :=
  .command fun _ h =>
    .ite (reply_kept h ..) <|
    .ite (reply_kept h ..) <|
    reply_kept (reHoldAll_kept (classRecord_kept (.ite (.set (.set h)) <| reduceEffs_kept (.set h)) ..)) ..

theorem execPortClass_kept (via mask cls s) : NextKept s (execPortClass via mask cls s) :=
  .command fun _ h =>
    .ite (reply_kept h ..) <|
    .ite (reply_kept h ..) <|
    .ite (reply_kept h ..) <|
    .ite (reply_kept h ..) <|
    reply_kept
      (classRecord_kept
        (.foldl (fun _ _ h2 => guarRise_kept (reHold_kept h2 _) _)
          (mapPorts_kept (.ite h <| .foldl (fun _ _ h2 => guarFail_kept h2 ..) h) _))
        ..)
      ..

theorem execShelfSet_kept (via capture sh1 sh2 sh3 s) : NextKept s (execShelfSet via capture sh1 sh2 sh3 s) :=
  .command fun _ h =>
    .ite (reply_kept h ..) <| .ite (reply_kept h ..) <| reply_kept (reHoldAll_kept (classRecord_kept (.set h) ..)) ..

theorem execLinkUnfence_kept (via m s) : NextKept s (execLinkUnfence via m s) :=
  .command fun _ h => .ite (reply_kept h ..) <| reply_kept (reHoldAll_kept (recomputeNowD_kept (modMx_kept h ..))) ..

theorem execCxlLinkDrop_kept (m s) : NextKept s (execCxlLinkDrop m s) :=
  .next <| cxlDrop_kept (.refl _) _

theorem execCxlLinkDowntrain_kept (m width rate s) : NextKept s (execCxlLinkDowntrain m width rate s) :=
  .ite .same <|
  .ite (.next <| cxlDrop_kept (modMx_kept (.refl _) ..) _) <|
  .next <| recomputeNowD_kept (raise_kept (modMx_kept (.refl _) ..) ..)

theorem execCxlLinkFence_kept (m s) : NextKept s (execCxlLinkFence m s) :=
  .ite .same <| .next <| reHoldAll_kept (recomputeNowD_kept (raise_kept (loseSegments_kept (modMx_kept (.refl _) ..) _) ..))

theorem execCxlRetrainDone_kept (m width rate s) : NextKept s (execCxlRetrainDone m width rate s) :=
  .ite .same <| .next <| modMx_kept (.refl _) ..

theorem execCxlLinkReturn_kept (m s) : NextKept s (execCxlLinkReturn m s) :=
  .ite .same <| .next <| reHoldAll_kept (recomputeNowD_kept (modMx_kept (.refl _) ..))

theorem execMinEffRestore_kept (s) : NextKept s (execMinEffRestore s) :=
  .next <| .set (.refl _)

theorem execParcelClose_kept (p l2h s) : NextKept s (execParcelClose p l2h s) :=
  .next <| reHold_kept (modPort_kept (.refl _) ..) _

theorem execParcelWriteGrant_kept (p l2h read s) : NextKept s (execParcelWriteGrant p l2h read s) :=
  .ite (.next <| grantInterval_kept (.refl _)) <|
  .ite
    (.ite (.next <| countGrant_kept (modPort_kept (grantInterval_kept (.refl _)) ..) ..) <|
    .next <| grantInterval_kept (.refl _)) <|
  .ite (.next <| writeParcel_kept (grantInterval_kept (.refl _)) ..) <| .next <| grantInterval_kept (.refl _)

theorem execParcelReadDone_kept (p l2h slot s) : NextKept s (execParcelReadDone p l2h slot s) := by
  unfold execParcelReadDone
  dsimp only
  split
  · exact .same
  · split
    · exact .same
    · split
      · refine .ite .same ?_
        split
        · exact .next <| parcelLoss_kept (.refl _) ..
        · exact .ite
            (.next <| reHoldAll_kept (.ite (raise_kept (modPort_kept (.refl _) ..) ..) <| modPort_kept (.refl _) ..)) <|
          .next <| parcelLoss_kept (.refl _) ..
      · exact .same

theorem execGuarWindowEnd_kept (p s) : NextKept s (execGuarWindowEnd p s) :=
  .ite .same <| .next <| modPort_kept (.ite (modPort_kept (.refl _) ..) <| guarFail_kept (modPort_kept (.refl _) ..) ..) ..

/-! ### The commands of Machine/Time -/

theorem execTimeCfgWrite_kept (who v s) : NextKept s (execTimeCfgWrite who v s) :=
  .regWrite fun _ h => writeTimeCfg_kept h _

theorem execTimeRateWrite_kept (who v s) : NextKept s (execTimeRateWrite who v s) :=
  .regWrite fun _ h => writeTimeRate_kept h ..

theorem execTimeSet_kept (via sec ns frac s) : NextKept s (execTimeSet via sec ns frac s) :=
  .command fun _ h => .ite (reply_kept h ..) <| .ite (reply_kept h ..) <| reply_kept (timeLoad_kept h _) ..

theorem execTimeStep_kept (via ns s) : NextKept s (execTimeStep via ns s) :=
  .command fun _ h => .ite (reply_kept h ..) <| .ite (reply_kept h ..) <| reply_kept (timeAdd_kept h _) ..

theorem execTimePtpSample_kept (via t1 t2 t3 t4 corr s) : NextKept s (execTimePtpSample via t1 t2 t3 t4 corr s) :=
  .command fun _ h => .ite (reply_kept h ..) <| .ite (reply_kept h ..) <| reply_kept (timeSample_kept h ..) ..

theorem execTimeStatus_kept (via s) : NextKept s (execTimeStatus via s) :=
  .command fun _ h => reply_kept h ..

theorem execTimeHoldoverTimeout_kept (s) : NextKept s (execTimeHoldoverTimeout s) :=
  .ite (.next <| timeToHoldover_kept (.refl _)) .same

theorem execPpsInEdge_kept (s) : NextKept s (execPpsInEdge s) :=
  .ite .same <|
  .ite (.next <| modTime_kept (.refl _) _) <|
  .ite (.next <| timeSample_kept (modTime_kept (.refl _) _) ..) <|
  .ite (.next <| timeSample_kept (modTime_kept (.refl _) _) ..) <| .next <| modTime_kept (.refl _) _

theorem execPpsOutPulse_kept (s) : NextKept s (execPpsOutPulse s) :=
  .ite (.next <| modTime_kept (.refl _) _) .same

theorem execPpsOutFall_kept (s) : NextKept s (execPpsOutFall s) :=
  .next <| modTime_kept (.refl _) _

theorem execTimeFrameSend_kept (p s) : NextKept s (execTimeFrameSend p s) := by
  refine .ite .same ?_
  split
  · exact .next <| queueCm_kept (.refl _) ..
  · exact .same

theorem execTimeFrameReceive_kept (p slotTx t1 slotRx t2 s) : NextKept s (execTimeFrameReceive p slotTx t1 slotRx t2 s) := by
  unfold execTimeFrameReceive
  dsimp only
  split
  · exact .ite .same <| .ite (.next <| timeSample_kept (modPort_kept (.refl _) ..) ..) <| .next <| modPort_kept (.refl _) ..
  · exact .same

theorem execTimeSyncSend_kept (s) : NextKept s (execTimeSyncSend s) := by
  unfold execTimeSyncSend
  split
  · exact .same
  · exact .ite .same <| .next <| .foldl (fun _ _ h => .ite (stkSend_kept h ..) h) (.refl _)

theorem execTimeSyncReceive_kept (frame t r s) : NextKept s (execTimeSyncReceive frame t r s) := by
  unfold execTimeSyncReceive
  split
  · exact .same
  · exact .ite .same <| .next <| timeSample_kept (.refl _) ..

theorem execTsEntryRead_kept (who p s) : NextKept s (execTsEntryRead who p s) :=
  .regRead fun _ h => readTsEntry_kept h _

theorem execTimeNowRead_kept (who s) : NextKept s (execTimeNowRead who s) :=
  .regRead fun _ h => readTimeNow_kept h _

theorem execPpsinRead_kept (who s) : NextKept s (execPpsinRead who s) :=
  .regRead fun _ h => readPpsin_kept h

/-! ### The commands of Machine/Clocks -/

theorem execXaDelayExpire_kept (s) : NextKept s (execXaDelayExpire s) :=
  .next <| .set (.refl _)

theorem execRefJudgedGood_kept (r counts s) : NextKept s (execRefJudgedGood r counts s) :=
  .ite (.next <| rpllTryStart_kept (retrim_kept (.set (.refl _)))) .same

theorem execFroTrimUpdate_kept (count s) : NextKept s (execFroTrimUpdate count s) :=
  .ite .same <| .next <| sroTrim_kept (.set (.refl _))

theorem execFlashAccessTimeout_kept (s) : NextKept s (execFlashAccessTimeout s) :=
  .ite .same <| .next <| flashTimeout_kept (.refl _)

theorem execXbDetect_kept (s) : NextKept s (execXbDetect s) :=
  .next <| sroTrim_kept (.set (.refl _))

theorem execXbLoss_kept (s) : NextKept s (execXbLoss s) :=
  .next <| sroTrim_kept (.set (.refl _))

theorem execRpllLock_kept (pass s) : NextKept s (execRpllLock pass s) := by
  unfold execRpllLock
  split
  · exact .same
  · exact .ite .same <| .next <| dspPass_kept (endCond_kept (stackPllSettle_kept (.set (.refl _))) ..) _

theorem execDomainRampStep_kept (d s) : NextKept s (execDomainRampStep d s) :=
  .ite .same <| .next <| refMoveStep_kept (.set (.refl _))

theorem execForcedSwitch_kept (d s) : NextKept s (execForcedSwitch d s) :=
  .ite .same <| .next <| refMoveStep_kept (truncateOn_kept (.set (.refl _)) _)

theorem execClockMonitorWindow_kept (r count early s) : NextKept s (execClockMonitorWindow r count early s) :=
  .ite .same <| .next <| .ite (refFailed_kept (.set (.refl _)) _) <| .set (.refl _)

theorem execRpllHoldover_kept (s) : NextKept s (execRpllHoldover s) :=
  .ite (.next <| timeToHoldover_kept (.set (.refl _))) .same

theorem execRpllUnlock_kept (s) : NextKept s (execRpllUnlock s) :=
  .ite .same <| .next <| raiseWith_kept (rootLost_kept (.set (.refl _))) ..

theorem execRpllAltRestart_kept (s) : NextKept s (execRpllAltRestart s) := by
  unfold execRpllAltRestart
  split
  · exact .same
  · exact .ite (.next <| .set (.refl _)) .same

theorem execFroCheck_kept (count s) : NextKept s (execFroCheck count s) :=
  .ite (.next <| endCond_kept (.set (.refl _)) ..) <| .next <| raiseAs_kept (.set (.refl _)) ..

theorem execPllUnlock_kept (pll s) : NextKept s (execPllUnlock pll s) := by
  unfold execPllUnlock
  split
  · exact .ite .same <| .next <| raiseAgain_kept (modPod_kept (.refl _) ..) ..
  · exact .ite .same <| .next <| raiseAgain_kept (modPod_kept (.refl _) ..) ..
  · exact .ite .same <| .next <| raiseAgain_kept (.set (.refl _)) ..
  · exact .ite .same <| .next <| raiseAgain_kept (.set (.refl _)) ..

theorem execClkCfgWrite_kept (who v s) : NextKept s (execClkCfgWrite who v s) :=
  .regWrite fun _ h => writeClkCfg_kept h ..

theorem execClkGateWrite_kept (who v s) : NextKept s (execClkGateWrite who v s) :=
  .regWrite fun _ h => writeClkGate_kept h ..

theorem execXaFirstJudgementEnd_kept (s) : NextKept s (execXaFirstJudgementEnd s) :=
  .next <| rpllTryStart_kept (.set (.refl _))

/-! ### The commands of Machine/Device -/

theorem execLpllRetune_kept (p f s) : NextKept s (execLpllRetune p f s) :=
  .next <| .ite (needFreq_kept (.refl _) ..) <| .refl _

theorem execLpllPlanApply_kept (k g s) : NextKept s (execLpllPlanApply k g s) :=
  .next <|
  .ite (.refl _) <|
  .ite (planWaitEnd_kept (modGroup_kept (.refl _) ..) ..) <|
  startRetune_kept (planWaitEnd_kept (modGroup_kept (.refl _) ..) ..) ..

theorem execPodLpllCtrlWrite_kept (who k g v s) : NextKept s (execPodLpllCtrlWrite who k g v s) :=
  .regWrite fun _ h => writeLpllCtrl_kept h ..

theorem execBridgeFlitReceive_kept (k toHub crcOk s) : NextKept s (execBridgeFlitReceive k toHub crcOk s) :=
  .next <|
  .ite (.refl _) <|
  .ite (modPod_kept (.refl _) ..) <| .ite (bridgeFailed_kept (.refl _) _) <| raise_kept (modPod_kept (.refl _) ..) ..

theorem execBridgeFlitSend_kept (k toHub waiting newUs s) : NextKept s (execBridgeFlitSend k toHub waiting newUs s) :=
  .next <| .ite (.refl _) <| modPod_kept (.refl _) ..

theorem execBridgeTrained_kept (k s) : NextKept s (execBridgeTrained k s) :=
  .next <| .ite (.refl _) <| endCond_kept (.foldl (fun _ _ h => hubApply_kept h _) (modPod_kept (.refl _) ..)) ..

/-! ### The commands of Machine/Stack -/

theorem execStackClockDetect_kept (p s) : NextKept s (execStackClockDetect p s) :=
  .ite .same <|
  .next <|
  .ite (stkToLock_kept (stackPllSettle_kept (modStk_kept (.refl _) ..)) _) <| stackPllSettle_kept (modStk_kept (.refl _) ..)

theorem execStackLaneLock_kept (p d sofs inv centre s) : NextKept s (execStackLaneLock p d sofs inv centre s) :=
  .ite .same <| .next <| modStk_kept (.refl _) ..

theorem execStackPortAlign_kept (p spread frame compl s) : NextKept s (execStackPortAlign p spread frame compl s) :=
  .ite (.next <| modStk_kept (.refl _) ..) .same

theorem execStackAlignTimeout_kept (p s) : NextKept s (execStackAlignTimeout p s) :=
  .ite (.next <| modStk_kept (stkToLock_kept (.refl _) _) ..) .same

theorem execStackLaneLockLoss_kept (p d missed errored s) : NextKept s (execStackLaneLockLoss p d missed errored s) := by
  refine .ite (.next <| modStk_kept (.refl _) ..) ?_
  split
  · exact .next <| stkFail_kept (modStk_kept (.refl _) ..) ..
  · exact .next <| stkToLock_kept (modStk_kept (.refl _) ..) _
  · exact .next <| stkToLock_kept (modStk_kept (.refl _) ..) _
  · exact .next <| modStk_kept (modStk_kept (.refl _) ..) ..
  · exact .next <| modStk_kept (.refl _) ..

theorem execStackSofReceive_kept (p frame dt s) : NextKept s (execStackSofReceive p frame dt s) :=
  .ite .same <| .ite (.next <| .set (.refl _)) <| .ite (.next <| .set (.refl _)) .same

theorem execStackSofSend_kept (residence cols spoil s) : NextKept s (execStackSofSend residence cols spoil s) :=
  .ite .same <|
  .next <|
  .ite (.set (.foldl (fun _ _ h => modStk_kept h ..) (.set (.refl _)))) <|
  .foldl (fun _ _ h => modStk_kept h ..) (.set (.refl _))

theorem execHelloSend_kept (p s) : NextKept s (execHelloSend p s) := by
  unfold execHelloSend
  split
  · exact .next <| modStk_kept (.refl _) ..
  · exact .next <| modStk_kept (.refl _) ..
  · exact .same

theorem execHelloReceive_kept (p h s) : NextKept s (execHelloReceive p h s) := by
  unfold execHelloReceive
  split
  · exact .next <| .ite (stkUp_kept (modStk_kept (.refl _) ..) ..) <| modStk_kept (.refl _) ..
  · exact .next <| judgeRole_kept (modStk_kept (.refl _) ..) ..
  · exact .same

theorem execStackLinkTimeout_kept (p s) : NextKept s (execStackLinkTimeout p s) :=
  .next <| stkFail_kept (.refl _) ..

theorem execStackLinkFail_kept (p clockLost s) : NextKept s (execStackLinkFail p clockLost s) :=
  .next <| stkFail_kept (.refl _) ..

theorem execStackMsgReceive_kept (p quads s) : NextKept s (execStackMsgReceive p quads s) := by
  refine .ite .same ?_
  dsimp only
  have h₁ {f} := modStk_kept (.refl s) p f
  have h₂ {f g} := modStk_kept (h₁ (f := f)) p g
  split
  · exact .next <| stkDiscard_kept h₁ _
  · exact .ite (.next h₁) <| .ite (.next <| linkAck_kept h₁ ..) <| .next <|
      have h₃ := Kept.ite (linkAck_kept h₂ ..) h₂
      .ite (modStk_kept h₃ ..) <| stkRouteOn_kept h₃ ..

theorem execLinkAckReceive_kept (p next nak s) : NextKept s (execLinkAckReceive p next nak s) :=
  .ite .same <| .next <| .ite (stkResend_kept (modStk_kept (.refl _) ..) _) <| modStk_kept (.refl _) ..

theorem execLinkAckSend_kept (p s) : NextKept s (execLinkAckSend p s) :=
  .ite (.next <| linkAck_kept (.refl _) ..) .same

theorem execStackResendTimeout_kept (p s) : NextKept s (execStackResendTimeout p s) :=
  .next <| stkResend_kept (.refl _) _

theorem execEnumRunStart_kept (s) : NextKept s (execEnumRunStart s) :=
  .ite .same <| .ite (.next <| enumStart_kept (.refl _)) <| .next <| .set (.refl _)

theorem execDiscoverReceive_kept (p gen depth master renumber s) :
    NextKept s (execDiscoverReceive p gen depth master renumber s) :=
  .ite .same <|
  .ite .same <|
  .ite (.next <| modStk_kept (.set (clearRun_kept (.refl _))) ..) <|
  .ite (.ite (.next <| reportTry_kept (answerStandby_kept (modStk_kept (.refl _) ..) _) _) <| .next <| modStk_kept (.refl _) ..)
    .same

theorem execParentChoose_kept (s) : NextKept s (execParentChoose s) := by
  refine .ite .same ?_
  split
  · exact .same
  · exact .next <|
    reportTry_kept
      (.foldl (fun _ _ h => .ite (answerStandby_kept h _) h)
        (.ite (forwardDiscover_kept (.set (.refl _)) ..) <| .foldl (fun _ _ h => .ite (modStk_kept h ..) h) (.set (.refl _))))
      _

theorem execReportReceive_kept (p gen r s) : NextKept s (execReportReceive p gen r s) :=
  .ite (.next <| reportTry_kept (modStk_kept (.refl _) ..) _) .same

theorem execReportDue_kept (expired s) : NextKept s (execReportDue expired s) :=
  .next <| reportTry_kept (.refl _) _

theorem execAssignReceive_kept (p gen b s) : NextKept s (execAssignReceive p gen b s) :=
  .ite .same <|
  .next <| releaseHeld_kept (endEnum_kept (assignChildren_kept (.foldl (fun _ _ h => modStk_kept h ..) (.set (.refl _))) ..))

theorem execTopoChangeReceive_kept (p s) : NextKept s (execTopoChangeReceive p s) :=
  .ite (.next <| topoChange_kept (.refl _)) .same

theorem execOrphanNoticeReceive_kept (p s) : NextKept s (execOrphanNoticeReceive p s) :=
  .ite (.next <| orphanNotice_kept (.set (.refl _))) .same

theorem execFaultWindowClose_kept (s) : NextKept s (execFaultWindowClose s) := by
  unfold execFaultWindowClose
  split
  · exact .same
  · exact .ite (.next <| .foldl (fun _ _ h => stackRecord_kept h _) (.set (.refl _))) <|
    .ite (.next <| sendReports_kept (.set (.refl _)) ..) <| .next <| .set (.refl _)

theorem execFaultReportReceive_kept (p entries s) : NextKept s (execFaultReportReceive p entries s) :=
  .ite .same <| .next <| .set (.refl _)

theorem execMgmtReqReceive_kept (src tag frag last data s) : NextKept s (execMgmtReqReceive src tag frag last data s) := by
  unfold execMgmtReqReceive
  dsimp only
  split
  · exact .next <| .set (.refl _)
  · exact .next <| acceptPacket_kept (.set (.refl _)) ..

theorem execMgmtRespReceive_kept (src tag frag last data s) : NextKept s (execMgmtRespReceive src tag frag last data s) := by
  unfold execMgmtRespReceive
  split
  · exact .same
  · dsimp only
    split
    · exact .next <| .set (.refl _)
    · exact .next <| reply_kept (.set (.set (.refl _))) ..

theorem execTunnelTimeout_kept (tag s) : NextKept s (execTunnelTimeout tag s) := by
  unfold execTunnelTimeout
  split
  · exact .same
  · exact .next <| reply_kept (.set (.refl _)) ..

theorem execLedgerAnchorReceive_kept (member uid accession chain s) :
    NextKept s (execLedgerAnchorReceive member uid accession chain s) :=
  .ite (.next <| ledgerAppend_kept (.refl _) ..) .same

theorem execStkEnum_kept (via s) : NextKept s (execStkEnum via s) :=
  .command fun _ h => .ite (reply_kept h ..) <| reply_kept (.ite (.set h) <| enumStart_kept h) ..

theorem execStkRenumber_kept (via s) : NextKept s (execStkRenumber via s) :=
  .command fun _ h => .ite (reply_kept h ..) <| reply_kept (.ite (.set (.set h)) <| enumStart_kept (.set h)) ..

theorem execStkTunnel_kept (via dst packet s) : NextKept s (execStkTunnel via dst packet s) :=
  .command fun _ h => .ite (reply_kept h ..) <| .ite (.set (.set h)) <| .foldl (fun _ _ h2 => stkDeliver_kept h2 _) (.set h)

theorem execStkPortInfo_kept (via s) : NextKept s (execStkPortInfo via s) :=
  .command fun _ h => reply_kept h ..

theorem execStkFrecRead_kept (via count s) : NextKept s (execStkFrecRead via count s) :=
  .command fun _ h => .ite (reply_kept h ..) <| .ite (reply_kept h ..) <| reply_kept (.set h) ..

/-! ### The commands of Machine/Calibration -/

theorem execCalRun_kept (via ports lanes stk items s) : NextKept s (execCalRun via ports lanes stk items s) :=
  .command fun _ h =>
    .ite (reply_kept h ..) <| .ite (reply_kept h ..) <| .ite (reply_kept h ..) <| .ite (reply_kept h ..) <| .set h

theorem execCalRunDone_kept (meas us s) : NextKept s (execCalRunDone meas us s) := by
  unfold execCalRunDone
  refine .next ?_
  split
  · exact .refl _
  · extract_lets ms act cal s₁
    have h₁ : Kept s s₁ := .set (.refl _)
    split
    · refine reply_kept (.foldl (fun t m h => ?_) h₁) ..
      split
      · exact modLane_kept h ..
      · exact h
    · refine reply_kept ?_ ..
      exact .foldlFst (fun a m h => applyMeas_kept h m) h₁

theorem execDacMeasureDone_kept (p n e s) : NextKept s (execDacMeasureDone p n e s) := by
  refine .next <| .ite (.refl _) <| .ite (modLane_kept (.refl _) ..) ?_
  dsimp only
  split
  · exact modLane_kept (modLane_kept (.refl _) ..) ..
  · exact raise_kept (modLane_kept (modLane_kept (.refl _) ..) ..) ..
  · exact modLane_kept (modLane_kept (.refl _) ..) ..
  · exact modLane_kept (modLane_kept (.refl _) ..) ..

theorem execCtleStepApply_kept (p n s) : NextKept s (execCtleStepApply p n s) := by
  refine .next ?_
  dsimp only
  split
  · exact .refl _
  · exact .ite (.refl _) <| modLane_kept (.refl _) ..

theorem execCtleCheckTimeout_kept (p n s) : NextKept s (execCtleCheckTimeout p n s) := by
  refine .next ?_
  dsimp only
  split
  · exact .ite (modLane_kept (.refl _) ..) <| .refl _
  · exact .refl _

theorem execCtleFreezeEnd_kept (p n s) : NextKept s (execCtleFreezeEnd p n s) :=
  .next <| modLane_kept (.refl _) ..

theorem execCalStore_kept (via s) : NextKept s (execCalStore via s) :=
  .command fun _ h => .ite (reply_kept h ..) <| startStore_kept h ..

theorem execCalExport_kept (via chunk s) : NextKept s (execCalExport via chunk s) := by
  refine .command fun _ h => .ite (reply_kept h ..) ?_
  split
  · exact reply_kept h ..
  · exact .ite (reply_kept h ..) <| reply_kept h ..

theorem execCalImport_kept (via chunk data last s) : NextKept s (execCalImport via chunk data last s) := by
  refine .command fun _ h => .ite (reply_kept h ..) <| .ite (reply_kept h ..) <| .ite (reply_kept (.set h) ..) ?_
  dsimp only
  split
  · exact reply_kept (.set h) ..
  · exact startStore_kept (.set h) ..

theorem execCalCoefRead_kept (via port n stage first count anchor s) :
    NextKept s (execCalCoefRead via port n stage first count anchor s) :=
  .command fun _ h =>
    .ite (.dite (fun _ => .ite (reply_kept h ..) <| reply_kept h ..) fun _ => reply_kept h ..) <|
    .dite (fun _ =>
        .ite (reply_kept h ..) <|
        .ite (reply_kept h ..) <| .ite (reply_kept h ..) <| .ite (reply_kept h ..) <| reply_kept h ..) fun _ =>
      reply_kept h ..

theorem execCalLimitsRead_kept (via s) : NextKept s (execCalLimitsRead via s) :=
  .command fun _ h => reply_kept h ..

/-! ### The commands of Machine/SelfTest -/

theorem execBistRun_kept (via pods hub groups banks diag raw repair s) :
    NextKept s (execBistRun via pods hub groups banks diag raw repair s) :=
  .command fun _ h =>
    .ite (reply_kept h ..) <|
    .ite (reply_kept h ..) <| .ite (reply_kept h ..) <| .ite (reply_kept h ..) <| bistNext_kept (.set h) _

theorem execBistBankDone_kept (found s) : NextKept s (execBistBankDone found s) := by
  refine .next ?_
  split
  · exact .refl _
  · split
    · exact .refl _
    · extract_lets code s₁ test s₂ x s₃
      have h₁ : Kept s s₂ := .set (setBankResult_kept (.refl _) ..)
      have h₂ : Kept s x.1 := repairRows_kept h₁ ..
      have h₃ : Kept s s₃ := .ite (.ite h₂ <| unrepairable_kept h₂ _) h₁
      split
      · exact bistNext_kept h₃ _
      · exact h₃

theorem execBistRead_kept (via pod group bank s) : NextKept s (execBistRead via pod group bank s) := by
  refine .command fun _ h => ?_
  split
  · exact reply_kept h ..
  · exact reply_kept h ..

theorem execRepairRead_kept (via pod group s) : NextKept s (execRepairRead via pod group s) := by
  refine .command fun _ h => ?_
  split
  · exact reply_kept h ..
  · exact reply_kept h ..

theorem execFuseRepair_kept (via pods hub vppOk good s) : NextKept s (execFuseRepair via pods hub vppOk good s) :=
  .command fun _ h =>
    .ite (reply_kept h ..) <|
    .ite (reply_kept h ..) <| .ite (reply_kept h ..) <| reply_kept (fuseRecords_kept (programMap_kept h ..) _) ..

theorem execLoopSet_kept (via p lanes kind heard s) : NextKept s (execLoopSet via p lanes kind heard s) := by
  refine .portCommand fun _ h =>
    .ite (reply_kept h ..) <|
    .ite (reply_kept h ..) <| .ite (reply_kept h ..) <| .ite (reply_kept h ..) <| .ite (reply_kept h ..) ?_
  split
  · exact reply_kept (.foldl (fun _ _ h2 => .ite (queueCm_kept (setLoop_kept h2 ..) ..) <| modLane_kept h2 ..) h) ..
  · exact .foldl (fun _ _ h2 => .set (queueCm_kept (setLoop_kept h2 ..) ..)) h
  · exact reply_kept (.foldl (fun _ _ h2 => modLane_kept h2 ..) h) ..

theorem execLoopbackReqReceive_kept (p n s) : NextKept s (execLoopbackReqReceive p n s) :=
  .next <| .ite (queueCm_kept (setLoop_kept (.refl _) ..) ..) <| queueCm_kept (.refl _) ..

theorem execLoopbackAckReceive_kept (p n s) : NextKept s (execLoopbackAckReceive p n s) :=
  .next <| .ite (.refl _) <| modPort_kept (setLoop_kept (.refl _) ..) ..

theorem execLoopbackDeclineReceive_kept (p n _reason s) : NextKept s (execLoopbackDeclineReceive p n _reason s) :=
  .next <| .ite (.refl _) <| loopReqFails_kept (.refl _) ..

theorem execFarLoopbackStart_kept (p n s) : NextKept s (execFarLoopbackStart p n s) :=
  .next <|
  .ite (by
      dsimp only
      split
      · exact reply_kept (takeLoopReq_kept (modLane_kept (.refl _) ..) ..) ..
      · exact takeLoopReq_kept (modLane_kept (.refl _) ..) ..) <|
  .ite (modLane_kept (.refl _) ..) <| .refl _

theorem execLoopbackEndReceive_kept (p n s) : NextKept s (execLoopbackEndReceive p n s) := by
  refine .next ?_
  split
  · exact modLane_kept (.refl _) ..
  · exact modLane_kept (.refl _) ..
  · exact modLane_kept (.refl _) ..
  · exact modLane_kept (.refl _) ..
  · exact .refl _

theorem execPrbsLock_kept (p n rx s) : NextKept s (execPrbsLock p n rx s) :=
  .next <| .ite (.refl _) <| modLane_kept (.refl _) ..

theorem execPrbsLockLoss_kept (p n rx s) : NextKept s (execPrbsLockLoss p n rx s) :=
  .next <| .ite (.refl _) <| modLane_kept (.refl _) ..

theorem execStPrbsCtrlWrite_kept (who p n v s) : NextKept s (execStPrbsCtrlWrite who p n v s) :=
  .regWrite fun _ h => writePrbsCtrl_kept h ..

theorem execPrbsClear_kept (who p n s) : NextKept s (execPrbsClear who p n s) :=
  .regWrite fun _ h => written_kept (modLane_kept h ..)

theorem execBandgapCheck_kept (die diff s) : NextKept s (execBandgapCheck die diff s) :=
  .next <| bandgapSample_kept (.refl _) ..

theorem execRefCheck_kept (via bandgap slope inl s) : NextKept s (execRefCheck via bandgap slope inl s) :=
  .command fun _ h =>
    reply_kept (bandgapSample_kept (.foldl (fun _ _ h2 => rampSample_kept (bandgapSample_kept h2 ..) ..) h) ..) ..

theorem execJtagInstruction_kept (opcode s) : NextKept s (execJtagInstruction opcode s) := by
  refine .next <| .ite (.refl _) <| .ite (.ite (.set (.refl _)) <| raise_kept (.set (.refl _)) ..) ?_
  split
  · exact endCond_kept (.set (.refl _)) ..
  · exact endCond_kept (.set (.refl _)) ..
  · exact endCond_kept (.set (.refl _)) ..
  · exact .ite (.set (.refl _)) <| endCond_kept (.set (.refl _)) ..
  · exact .set (.refl _)

theorem execScanChallenge_kept (via pods hub s) : NextKept s (execScanChallenge via pods hub s) := by
  refine .next ?_
  split
  · exact command_kept (.refl _) _ _
      _ fun _ h => .ite (reply_kept h ..) <| .ite (reply_kept h ..) <| reply_kept (issueChallenge_kept h ..) ..
  · exact .ite (.refl _) <| issueChallenge_kept (.refl _) ..

theorem execScanAuth_kept (via response stepsOk s) : NextKept s (execScanAuth via response stepsOk s) := by
  refine .next ?_
  split
  · exact command_kept (.refl _) _ _
      _ fun _ h =>
      .ite (reply_kept h ..) <| .ite (reply_kept h ..) <| .ite (reply_kept h ..) <| reply_kept (scanResponse_kept h ..) ..
  · exact .ite (.refl _) <| scanResponse_kept (.refl _) ..

theorem execScanChallengeExpire_kept (s) : NextKept s (execScanChallengeExpire s) :=
  .next <| .set (.refl _)

/-! ### The commands of Machine/Power -/

theorem execAvsExamine_kept (k slacks s) : NextKept s (execAvsExamine k slacks s) :=
  .ite .same <| .next <| setCond_kept (modPod_kept (.refl _) ..) ..

theorem execAvsWriteRetry_kept (k ok s) : NextKept s (execAvsWriteRetry k ok s) :=
  .ite .same <|
  .ite .same <|
  .ite (.next <| modPod_kept (.refl _) ..) <|
  .ite (.next <| modPod_kept (.refl _) ..) <| .next <| raise_kept (modPod_kept (.refl _) ..) ..

theorem execAvsStatusPoll_kept (k alert iout s) : NextKept s (execAvsStatusPoll k alert iout s) :=
  .ite .same <| .next <| .ite (modPod_kept (.refl _) ..) <| endCond_kept (modPod_kept (.refl _) ..) ..

theorem execPodAvsCtrlWrite_kept (who k v s) : NextKept s (execPodAvsCtrlWrite who k v s) :=
  .regWrite fun _ h => writePodAvs_kept h ..

theorem execRegionSample_kept (pair x s) : NextKept s (execRegionSample pair x s) := by
  unfold execRegionSample
  split
  · refine .ite .same ?_
    split
    · exact .next <| setCondUp_kept (modPod_kept (.refl _) ..) ..
    · exact .next <| modPod_kept (.refl _) ..
  · split
    · exact .next <| setCondUp_kept (.set (.refl _)) ..
    · exact .same

theorem execRegionFaultClear_kept (pair s) : NextKept s (execRegionFaultClear pair s) := by
  unfold execRegionFaultClear
  split
  · exact .ite (.next <| endCond_kept (modPod_kept (.refl _) ..) ..) .same
  · exact .ite (.next <| endCond_kept (.set (.refl _)) ..) .same

theorem execSupplyLoss_kept (r mv ns s) : NextKept s (execSupplyLoss r mv ns s) := by
  refine .ite .same ?_
  dsimp only
  split
  · exact .next <| holdInReset_kept (.set (.refl _)) _
  · exact .next <| holdInReset_kept (.set (.refl _)) _
  · exact .next <| holdInReset_kept (.set (.refl _)) _
  · exact .ite (.next <| .set (.refl _)) <|
    .next <| bridgeFailed_kept (.foldl (fun _ _ h => txToSafe_kept h _) (.set (.refl _))) _
  · exact .next <| raise_kept (.set (.refl _)) ..
  · exact .next <| raise_kept (.set (.refl _)) ..
  · exact .next <| raise_kept (allTxOff_kept (.set (.refl _))) ..

theorem execSupplyRestore_kept (r level straps pass s) : NextKept s (execSupplyRestore r level straps pass s) :=
  .next <|
  .ite (.refl _) <|
  .ite (.ite (.set (.refl _)) <| startBoot_kept (.set (.refl _)) ..) <|
  .ite (.set (.refl _)) <| endCond_kept (.set (.refl _)) ..

theorem execSensorConversion_kept (i ok reading s) : NextKept s (execSensorConversion i ok reading s) :=
  .dite
    (fun _ =>
      have h := judgeTemps_kept (judgeSensors_kept (modPod_kept (.refl s) ..) ..) _
      .ite .same <| .next <| .ite (thermalTrip_kept h _) h)
    (fun _ =>
      have h := judgeTemps_kept (judgeSensors_kept (.set (.refl s)) ..) _
      .next <| .ite (thermalTrip_kept h _) h)

/-! ### The commands of Machine/Boot -/

theorem execPowerOnReset_kept (s) : NextKept s (execPowerOnReset s) :=
  .next <| .set (fullReset_kept (.refl _) _)

theorem execPorstNAssert_kept (s) : NextKept s (execPorstNAssert s) :=
  .next <| .set (fullReset_kept (.refl _) _)

theorem execPorstNRelease_kept (straps pass s) : NextKept s (execPorstNRelease straps pass s) :=
  .next <| .ite (.refl _) <| startBoot_kept (.refl _) ..

theorem execPePerstNAssert_kept (s) : NextKept s (execPePerstNAssert s) :=
  .next <| .set (.refl _)

theorem execPePerstNRelease_kept (s) : NextKept s (execPePerstNRelease s) :=
  .next <| .set (.refl _)

theorem execTrstNAssert_kept (s) : NextKept s (execTrstNAssert s) :=
  .next <| endCond_kept (.set (.refl _)) ..

theorem execBootTrimmed_kept (h0 h1 flash s) : NextKept s (execBootTrimmed h0 h1 flash s) :=
  .next <|
  .ite (.refl _) <| .ite (.set (.refl _)) <| .ite (bootFailed_kept (.refl _) _) <| tryCandidates_kept (.set (.refl _)) ..

theorem execBootTrimTimeout_kept (s) : NextKept s (execBootTrimTimeout s) :=
  .ite .same <| .next <| bootFailed_kept (.refl _) _

theorem execBootLibConfigRead_kept (stored secA secB s) : NextKept s (execBootLibConfigRead stored secA secB s) :=
  .next <| .ite (.refl _) <| withSection_kept (.refl _) _ _ _ fun _ => .set (chooseCalSet_kept (.set (.refl _)) ..)

theorem execBootRpllTimeout_kept (s) : NextKept s (execBootRpllTimeout s) :=
  .ite (.next <| .set (.refl _)) .same

theorem execBootClerkFwRead_kept (stored s) : NextKept s (execBootClerkFwRead stored s) :=
  .next <| .ite (withSection_kept (.refl _) _ _ _ fun _ => .set (.refl _)) <| .refl _

theorem execBootLedgerAnchor_kept (ring failedBits s) : NextKept s (execBootLedgerAnchor ring failedBits s) :=
  .next <| .ite (.set (imageRecord_kept (ledgerBootAnchor_kept (.refl _) ..) ..)) <| .refl _

theorem execBootUserAreaRead_kept (stored pass s) : NextKept s (execBootUserAreaRead stored pass s) :=
  .next <|
  .ite (.refl _) <|
  .ite (.ite (streamRestart_kept (.refl _)) <| bootFailed_kept (.refl _) _) <|
  .ite (corePass_kept (.set (.refl _)) _) <| .set (corePass_kept (.set (.refl _)) _)

theorem execImgInfo_kept (via s) : NextKept s (execImgInfo via s) :=
  .command fun _ h => reply_kept h ..

theorem execImgErase_kept (via blocks s) : NextKept s (execImgErase via blocks s) :=
  .command fun _ h => .ite (reply_kept h ..) <| .ite (reply_kept h ..) <| .ite (reply_kept h ..) <| reply_kept (.set h) ..

theorem execImgEraseBlockDone_kept (s) : NextKept s (execImgEraseBlockDone s) := by
  unfold execImgEraseBlockDone
  split
  · exact .ite (.next <| .set (.refl _)) .same
  · exact .same

theorem execImgWrite_kept (via ofs data s) : NextKept s (execImgWrite via ofs data s) :=
  .command fun _ h => .ite (reply_kept h ..) <| .ite (reply_kept h ..) <| .set h

theorem execImgWriteStream_kept (via ofs data s) : NextKept s (execImgWriteStream via ofs data s) := by
  refine .command fun _ h => .ite (reply_kept h ..) ?_
  dsimp only
  split
  · exact reply_kept (streamRestart_kept h) ..
  · exact reply_kept (.set h) ..

theorem execImgCommit_kept (via rest s) : NextKept s (execImgCommit via rest s) := by
  refine .command fun _ h => ?_
  dsimp only
  split
  · exact reply_kept h ..
  · exact .ite (reply_kept h ..) <| .ite (reply_kept h ..) <| .set h

theorem execImgConfirm_kept (via raiseSvn s) : NextKept s (execImgConfirm via raiseSvn s) :=
  .command fun _ h =>
    .ite (reply_kept h ..) <|
    .ite (reply_kept h ..) <|
    .ite (reply_kept h ..) <|
    have h₁ := imageRecord_kept (.set h) ..
    reply_kept (.ite (imageRecord_kept (.raiseSvn h₁ _) ..) h₁) ..

theorem execDevReset_kept (via delay s) : NextKept s (execDevReset via delay s) :=
  .command fun _ h => .ite (reply_kept h ..) <| .ite (reply_kept h ..) <| reply_kept (.set h) ..

theorem execDevResetExpire_kept (straps pass s) : NextKept s (execDevResetExpire straps pass s) :=
  .next <| .ite (.refl _) <| startBoot_kept (.set (fullReset_kept (.refl _) _)) ..

/-! ### The commands of Machine/Faults -/

theorem execFaultMessage_kept (k s) : NextKept s (execFaultMessage k s) :=
  .ite .same <| .next <| settleSafe_kept (.foldl (fun _ _ h => hubApply_kept h _) (messageLeaves_kept (.refl _) _))

theorem execEventCauseExpire_kept (c i s) : NextKept s (execEventCauseExpire c i s) :=
  .next <| .ite (.refl _) <| settleSafe_kept (fltMod_kept (.refl _) ..)

theorem execStickyClear_kept (who i v s) : NextKept s (execStickyClear who i v s) :=
  .regWrite fun _ h => written_kept (clearSticky_kept h ..)

theorem execRecAck_kept (who index s) : NextKept s (execRecAck who index s) :=
  .regWrite fun _ h => writeRecAck_kept h ..

theorem execRecAckAll_kept (who s) : NextKept s (execRecAckAll who s) :=
  .regWrite fun _ h => writeRecAck_kept h ..

theorem execFltSelWrite_kept (who v s) : NextKept s (execFltSelWrite who v s) :=
  .regWrite fun _ h => writeFltSel_kept h _

theorem execFltSelClear_kept (who v s) : NextKept s (execFltSelClear who v s) :=
  .regWrite fun _ h => writeFltSel_kept h _

theorem execFltReactWrite_kept (who c v s) : NextKept s (execFltReactWrite who c v s) :=
  .regWrite fun _ h => writeFltReact_kept h ..

theorem execFiArm_kept (via code inst delay rep period count hold s) :
    NextKept s (execFiArm via code inst delay rep period count hold s) := by
  refine .command fun _ h => .ite (reply_kept h ..) ?_
  split
  · exact reply_kept h ..
  · exact .ite (reply_kept h ..) <| .ite (reply_kept h ..) <| reply_kept (ledgerAppend_kept (.set h) ..) ..

theorem execFiStop_kept (via what s) : NextKept s (execFiStop via what s) :=
  .command fun _ h => .ite (reply_kept h ..) <| .ite (reply_kept (.set h) ..) <| reply_kept h ..

theorem execFiList_kept (via s) : NextKept s (execFiList via s) :=
  .command fun _ h => .ite (reply_kept h ..) <| reply_kept h ..

theorem execInjectionDeliver_kept (c i s) : NextKept s (execInjectionDeliver c i s) :=
  .next <| .ite (raiseInjected_kept (.set (.refl _)) ..) <| .refl _

theorem execInjectHoldEnd_kept (c i s) : NextKept s (execInjectHoldEnd c i s) :=
  .next <| settleSafe_kept (fltMod_kept (.refl _) ..)

/-! ### The commands of Machine/Firmware -/

theorem execMbxDoorbell_kept (who v s) : NextKept s (execMbxDoorbell who v s) :=
  .regWrite fun _ h => writeDoorbell_kept h ..

theorem execMbxRelease_kept (who v s) : NextKept s (execMbxRelease who v s) :=
  .regWrite fun _ h => writeRelease_kept h ..

theorem execCommandStart_kept (via port lengthOk s) : NextKept s (execCommandStart via port lengthOk s) := by
  refine .next ?_
  split
  · exact .ite (startPacket_kept (.refl _) ..) <| .refl _
  · split
    · exact .refl _
    · exact .ite (.set (startPacket_kept (.set (.refl _)) ..)) <| .refl _

theorem execCommandTimeout_kept (via s) : NextKept s (execCommandTimeout via s) := by
  refine .next ?_
  split
  · exact .refl _
  · exact endCommand_kept (.refl _) ..

theorem execFarCmd_kept (via p packet s) : NextKept s (execFarCmd via p packet s) :=
  .portCommand fun _ h =>
    .ite (reply_kept h ..) <| .ite (reply_kept h ..) <| .ite (reply_kept h ..) <| sendMgmt_kept (.set h) ..

theorem execFarRequestReceive_kept (p session tag frag last data s) :
    NextKept s (execFarRequestReceive p session tag frag last data s) := by
  refine .next <| .ite (.refl _) ?_
  split
  · exact .set (.refl _)
  · exact .ite (.set (.refl _)) <| .ite (.set (.set (.refl _))) <| replyBy_kept (.set (.refl _)) ..

theorem execFarReplyReceive_kept (p session tag frag last data s) :
    NextKept s (execFarReplyReceive p session tag frag last data s) := by
  refine .next <| .ite (.refl _) ?_
  split
  · exact .refl _
  · dsimp only
    split
    · exact .set (.refl _)
    · exact reply_kept (.set (.set (.refl _))) ..

theorem execFarCmdTimeout_kept (p s) : NextKept s (execFarCmdTimeout p s) := by
  refine .next ?_
  split
  · exact .refl _
  · exact reply_kept (.set (.refl _)) ..

theorem execClerkWatchdogExpire_kept (s) : NextKept s (execClerkWatchdogExpire s) :=
  .next <|
  .ite (.refl _) <|
  .ite (.set (mapPorts_kept (endClerkCommands_kept (raise_kept (.refl _) ..) _) _)) <|
  .set (mapPorts_kept (endClerkCommands_kept (raise_kept (.refl _) ..) _) _)

theorem execClerkRestartDone_kept (stored s) : NextKept s (execClerkRestartDone stored s) :=
  .next <| .ite (.refl _) <| .ite (.set (.refl _)) <| .set (.refl _)

theorem execFirewallViolation_kept (addr core s) : NextKept s (execFirewallViolation addr core s) :=
  .next <| .ite (.refl _) <| .ite (ledgerAppend_kept (.set (.refl _)) ..) <| .set (.refl _)

theorem execLibRomCheck_kept (ok s) : NextKept s (execLibRomCheck ok s) :=
  .next <| .ite (.refl _) <| libIntegrity_kept (.refl _) _

theorem execLibFirewallCheck_kept (ok s) : NextKept s (execLibFirewallCheck ok s) :=
  .next <| .ite (.refl _) <| libIntegrity_kept (.refl _) _

theorem execLibWatchdogExpire_kept (s) : NextKept s (execLibWatchdogExpire s) :=
  .next <| .ite (.refl _) <| libIntegrity_kept (.refl _) _

/-! ### The commands of Machine/Ledger -/

theorem execLedgerInfo_kept (via s) : NextKept s (execLedgerInfo via s) :=
  .command fun _ h => reply_kept h ..

theorem execLedgerRead_kept (via first count s) : NextKept s (execLedgerRead via first count s) :=
  .command fun _ h => .ite (reply_kept h ..) <| reply_kept h ..

theorem execLedgerSeal_kept (via programOk s) : NextKept s (execLedgerSeal via programOk s) :=
  .command fun _ h => .ite (reply_kept h ..) <| reply_kept (ledgerMakeSeal_kept h _) ..

theorem execLedgerNote_kept (via text s) : NextKept s (execLedgerNote via text s) :=
  .command fun _ h =>
    .ite (reply_kept h ..) <| .ite (reply_kept h ..) <| .ite (reply_kept h ..) <| reply_kept (ledgerAppend_kept h ..) ..

theorem execAttestQuote_kept (via nonce s) : NextKept s (execAttestQuote via nonce s) :=
  .command fun _ h => .ite (reply_kept h ..) <| reply_kept h ..

theorem execCertRead_kept (via chunk s) : NextKept s (execCertRead via chunk s) :=
  .command fun _ h => .ite (reply_kept h ..) <| reply_kept (.set h) ..

theorem execKeyRevoke_kept (via slot sig vppOk s) : NextKept s (execKeyRevoke via slot sig vppOk s) :=
  .command fun _ h =>
    .ite (reply_kept h ..) <|
    .ite (reply_kept h ..) <|
    .ite (reply_kept h ..) <|
    .ite (reply_kept h ..) <|
    reply_kept (imageRecord_kept (.revoke h _) ..) ..

theorem execSealDue_kept (programOk s) : NextKept s (execSealDue programOk s) :=
  .next <| .ite (.refl _) <| .ite (ledgerProgram_kept (.refl _) _) <| ledgerMakeSeal_kept (.refl _) _

theorem execCountersRecordDue_kept (s) : NextKept s (execCountersRecordDue s) :=
  .next <|
  .ite (.refl _) <|
  .foldl (fun _ _ h => modPort_kept (.ite (ledgerAppend_kept (modPort_kept h ..) ..) <| modPort_kept h ..) ..) (.refl _)

theorem execWitnessSend_kept (s) : NextKept s (execWitnessSend s) := by
  refine .next ?_
  split
  · exact .ite (.refl _) <| stkDeliver_kept (.refl _) _
  · exact .refl _

theorem execAllowanceRefill_kept (s) : NextKept s (execAllowanceRefill s) :=
  .next <| .ite (summaries_kept (.set (.refl _)) _) <| .set (.refl _)

/-! ### The commands of Machine/Transmit -/

theorem execFfeWalkStep_kept (p n s) : NextKept s (execFfeWalkStep p n s) :=
  .next <| .ite (modLane_kept (.refl _) ..) <| .refl _

theorem execDacCellExchange_kept (p n s) : NextKept s (execDacCellExchange p n s) := by
  refine .next ?_
  split
  · exact .refl _
  · exact .ite (.refl _) <| modLane_kept (.refl _) ..

theorem execRangeIdleStart_kept (p n s) : NextKept s (execRangeIdleStart p n s) :=
  .next <| .ite (.refl _) <| modLane_kept (.refl _) ..

theorem execRangeTakeEffect_kept (p n s) : NextKept s (execRangeTakeEffect p n s) := by
  refine .next ?_
  split
  · exact .refl _
  · exact .ite (.refl _) <| modLane_kept (.refl _) ..

theorem execComplianceInterval_kept (p n vcm pMax pMin nMax nMin swing s) :
    NextKept s (execComplianceInterval p n vcm pMax pMin nMax nMin swing s) :=
  .next <|
  .ite (.refl _) <|
  .ite (endCond_kept (modLane_kept (.refl _) ..) ..) <| raise_kept (modLane_kept (modLane_kept (.refl _) ..) ..) ..

theorem execToneRampReload_kept (p n samples s) : NextKept s (execToneRampReload p n samples s) :=
  .next <| modLane_kept (.refl _) ..

theorem execTxToneRegWrite_kept (who p n reg v s) : NextKept s (execTxToneRegWrite who p n reg v s) :=
  .regWrite fun _ h => writeToneReg_kept h ..

/-! ### The commands of Machine/Receive -/

theorem execAgcStep_kept (p n samples s) : NextKept s (execAgcStep p n samples s) :=
  .next <|
  .ite (receive_kept (.refl _) ..) <|
  .ite (modLane_kept (receive_kept (.refl _) ..) ..) <|
  .ite (.ite (modLane_kept (receive_kept (.refl _) ..) ..) <| modLane_kept (modLane_kept (receive_kept (.refl _) ..) ..) ..) <|
  modLane_kept (modLane_kept (receive_kept (.refl _) ..) ..) ..

theorem execSliceSwap_kept (p n s) : NextKept s (execSliceSwap p n s) :=
  .next <| .ite (.refl _) <| modLane_kept (.refl _) ..

theorem execSliceCalDone_kept (p n cal diff comps slope inl s) : NextKept s (execSliceCalDone p n cal diff comps slope inl s) :=
  .next <|
  .ite (.refl _) <|
  .ite (rampSample_kept (checkSpare_kept (modLane_kept (.refl _) ..) ..) ..) <| checkSpare_kept (modLane_kept (.refl _) ..) ..

theorem execEchoSearchEnd_kept (p n samples s) : NextKept s (execEchoSearchEnd p n samples s) :=
  .next <| .ite (.refl _) <| modLane_kept (.refl _) ..

theorem execEchoConverge_kept (p n powers samples s) : NextKept s (execEchoConverge p n powers samples s) :=
  .next <|
  .ite (.refl _) <|
  .ite (tsRise_kept (modLane_kept (receive_kept (.refl _) ..) ..) _) <| modLane_kept (receive_kept (.refl _) ..) ..

theorem execSnrWindowEnd_kept (p n lock trials samples s) : NextKept s (execSnrWindowEnd p n lock trials samples s) :=
  .next <|
  .ite (receive_kept (.refl _) ..) <|
  .ite (tsRise_kept (modLane_kept (receive_kept (.refl _) ..) ..) _) <| modLane_kept (receive_kept (.refl _) ..) ..

theorem execAlignFolioReceive_kept (p n decisions samples s) : NextKept s (execAlignFolioReceive p n decisions samples s) :=
  .next <|
  .ite (receive_kept (.refl _) ..) <| anchorPoint_kept (modLane_kept (echoReport_kept (receive_kept (.refl _) ..) ..) ..) ..

theorem execAnchorRevert_kept (p n s) : NextKept s (execAnchorRevert p n s) :=
  .next <| .ite (.refl _) <| .ite (raise_kept (modLane_kept (.refl _) ..) ..) <| modLane_kept (.refl _) ..

theorem execEyeHeightUpdate_kept (p n codes s) : NextKept s (execEyeHeightUpdate p n codes s) :=
  .next <| .ite (.refl _) <| modLane_kept (.refl _) ..

theorem execEyeWidthUpdate_kept (p n offsets s) : NextKept s (execEyeWidthUpdate p n offsets s) :=
  .next <| .ite (.refl _) <| modLane_kept (.refl _) ..

/-! ### The commands of Machine/Lre -/

theorem execNakRepeatDue_kept (p n slot s) : NextKept s (execNakRepeatDue p n slot s) :=
  .next <| modPort_kept (.refl _) ..

/-! ### The commands of Machine/FolioRx -/

theorem execFolioReceive_kept (p n f s) : NextKept s (execFolioReceive p n f s) := by
  unfold execFolioReceive
  refine .next <| .ite (.refl _) ?_
  extract_lets s₁ w s₂ s₃
  have h₂ : Kept s s₂ := modPort_kept (modLane_kept (.refl _) ..) ..
  have h₃ : Kept s s₃ := by
    unfold s₃
    split
    · exact modLane_kept h₂ ..
    · exact h₂
  split
  · exact folioBad_kept (missAlign_kept h₃ ..) ..
  · exact .ite (folioBad_kept (missAlign_kept (modPort_kept h₃ ..) ..) ..) <|
    .ite (folioBad_kept (missAlign_kept h₃ ..) ..) <|
    folioGood_kept h₃ ..

theorem execBlockLockAcquire_kept (p n headers s) : NextKept s (execBlockLockAcquire p n headers s) :=
  .next <| .ite (.refl _) <| modLane_kept (.refl _) ..

theorem execBlockLockLoss_kept (p n s) : NextKept s (execBlockLockLoss p n s) :=
  .next <| .ite (.refl _) <| ownTrigger_kept (modLane_kept (.refl _) ..) ..

theorem execAlignmentLoss_kept (p n s) : NextKept s (execAlignmentLoss p n s) :=
  .next <| .ite (.refl _) <| framingFails_kept (ownTrigger_kept (modLane_kept (.refl _) ..) ..) ..

theorem execFollowerCountLoad_kept (p n s) : NextKept s (execFollowerCountLoad p n s) := by
  refine .next ?_
  dsimp only
  split
  · exact .ite (.refl _) <| modPort_kept (.refl _) ..
  · exact .refl _

/-! ### The commands of Machine/Lanes -/

theorem execAlignTimeout_kept (p s) : NextKept s (execAlignTimeout p s) :=
  .next <| .ite (.refl _) <| .ite (modPort_kept (.refl _) ..) <| downDue_kept (.refl _) ..

theorem execChangeEpoch_kept (p s) : NextKept s (execChangeEpoch p s) := by
  refine .next ?_
  dsimp only
  split
  · exact .refl _
  · exact .ite (.refl _) <|
    .ite (judgeWaiting_kept (modPort_kept (.refl _) ..) _) <| judgeWaiting_kept (applyChange_kept (.refl _) ..) _

theorem execLaneQuarantine_kept (p n s) : NextKept s (execLaneQuarantine p n s) := by
  refine .next ?_
  split
  · exact .ite (.refl _) <| sendLaneNotice_kept (quarantine_kept (.refl _) ..) ..
  · exact .refl _

theorem execPartnerQuarantine_kept (p n s) : NextKept s (execPartnerQuarantine p n s) := by
  refine .next ?_
  split
  · exact .ite (.refl _) <| quarantine_kept (.refl _) ..
  · exact .refl _

theorem execLaneReqShed_kept (who p v s) : NextKept s (execLaneReqShed who p v s) :=
  .regWrite fun _ h => writeLaneReq_kept h ..

theorem execLaneReqAdd_kept (who p v s) : NextKept s (execLaneReqAdd who p v s) :=
  .regWrite fun _ h => writeLaneReq_kept h ..

theorem execPlannedShedDeadline_kept (p s) : NextKept s (execPlannedShedDeadline p s) :=
  .next <| .ite (.refl _) <| judgeWaiting_kept (shedRecord_kept (modPort_kept (.refl _) ..) ..) _

theorem execReaddHoldoffExpire_kept (p n s) : NextKept s (execReaddHoldoffExpire p n s) := by
  refine .next <| .ite (.refl _) ?_
  split
  · exact sendAddNotice_kept (.refl _) ..
  · exact sendAddNotice_kept (.refl _) ..
  · exact modPort_kept (.refl _) ..
  · exact modPort_kept (.refl _) ..
  · exact .refl _

theorem execAddAttemptTimeout_kept (p n s) : NextKept s (execAddAttemptTimeout p n s) :=
  .next <| .ite (judgeWaiting_kept (failAdd_kept (.refl _) ..) _) <| .refl _

theorem execLaneNoticeReceive_kept (p id kind quar nextMap epoch s) :
    NextKept s (execLaneNoticeReceive p id kind quar nextMap epoch s) := by
  unfold execLaneNoticeReceive
  refine .next <| .ite (.refl _) ?_
  have h {f} : Kept s (wakeTrigger p (s.modPort p f)) := wakeTrigger_kept (modPort_kept (.refl s) ..) _
  refine .ite (sendAck_kept (.foldl (fun _ _ h => .ite (shedTrigger_kept h ..) h) (modPort_kept h ..)) ..) <|
    .ite h <|
    .ite (sendAck_kept h ..) <|
    .ite (sendAck_kept (adoptPlan_kept (modPort_kept h ..) ..) ..) <|
    .ite (sendDecline_kept (modPort_kept h ..) ..) ?_
  split
  · exact sendAck_kept (adoptPlan_kept h ..) ..
  · exact h

theorem execAddNoticeReceive_kept (p id n s) : NextKept s (execAddNoticeReceive p id n s) :=
  .next <|
  .ite (.refl _) <|
  .ite (sendDecline_kept (wakeTrigger_kept (.refl _) _) ..) <|
  .ite (sendDecline_kept (wakeTrigger_kept (.refl _) _) ..) <|
  .ite (sendDecline_kept (wakeTrigger_kept (.refl _) _) ..) <|
  beginAdd_kept (sendAck_kept (modPort_kept (wakeTrigger_kept (.refl _) _) ..) ..) ..

theorem execNoticeAckReceive_kept (p id typ what epoch s) : NextKept s (execNoticeAckReceive p id typ what epoch s) :=
  .next <|
  .ite (.refl _) <|
  .ite (.refl _) <|
  .ite (.dite (fun _ => .ite (beginAdd_kept (modPort_kept (.refl _) ..) ..) <| modPort_kept (.refl _) ..) fun _ =>
      modPort_kept (.refl _) ..) <|
  .ite
    (.ite (modPort_kept (modPort_kept (.refl _) ..) ..) <|
    .ite (modPort_kept (modPort_kept (.refl _) ..) ..) <| modPort_kept (.refl _) ..) <|
  modPort_kept (.refl _) ..

theorem execNoticeDeclineReceive_kept (p id typ lane reason epoch s) :
    NextKept s (execNoticeDeclineReceive p id typ lane reason epoch s) :=
  .next <|
  .ite (.refl _) <|
  .ite (.refl _) <|
  .ite (.ite (modPort_kept (modPort_kept (.refl _) ..) ..) <| modPort_kept (.refl _) ..) <|
  .dite (fun _ =>
      .ite (modPort_kept (.refl _) ..) <|
      .ite (modPort_kept (modPort_kept (.refl _) ..) ..) <|
      judgeWaiting_kept (failAdd_kept (modPort_kept (.refl _) ..) ..) _) fun _ =>
    modPort_kept (.refl _) ..

/-! ### The commands of Machine/Sounding -/

theorem execPreambleDetect_kept (p cm rx0 tx0 since s) : NextKept s (execPreambleDetect p cm rx0 tx0 since s) :=
  .next <| .ite (.refl _) <| modInst_kept (.refl _) ..

theorem execFalseDetect_kept (p cm s) : NextKept s (execFalseDetect p cm s) :=
  .next <| .ite (.refl _) <| modInst_kept (.refl _) ..

theorem execNewPreambleDetect_kept (p cm power timing bin synced tx0 s) :
    NextKept s (execNewPreambleDetect p cm power timing bin synced tx0 s) :=
  .next <| .ite (.refl _) <| .ite (modInst_kept (.refl _) ..) <| .ite (modInst_kept (.refl _) ..) <| modInst_kept (.refl _) ..

theorem execSndReceptionTruncate_kept (p cm w1 w2 s) : NextKept s (execSndReceptionTruncate p cm w1 w2 s) :=
  .next <| .ite (.refl _) <| modInst_kept (.refl _) ..

theorem execSndHeaderReceive_kept (p cm w s) : NextKept s (execSndHeaderReceive p cm w s) := by
  refine .next ?_
  split
  · exact .ite (modInst_kept (.refl _) ..) <| modInst_kept (.refl _) ..
  · exact .ite (modInst_kept (.refl _) ..) <| modInst_kept (.refl _) ..
  · exact .refl _

theorem execSndFrameReceive_kept (p cm raw s) : NextKept s (execSndFrameReceive p cm raw s) := by
  refine .next ?_
  dsimp only
  split
  · exact .ite (modInst_kept (.refl _) ..) <| modInst_kept (.refl _) ..
  · exact .refl _

theorem execCmFrameSend_kept (p clear s) : NextKept s (execCmFrameSend p clear s) := by
  refine .next <| .ite (.refl _) ?_
  split
  · exact .refl _
  · split
    · exact modPort_kept (.refl _) ..
    · exact .ite (modPort_kept (.refl _) ..) <| .refl _

theorem execSoundRound_kept (p s) : NextKept s (execSoundRound p s) :=
  .next <| .ite (.refl _) <| modPort_kept (draw_kept (.refl _)) ..

theorem execCallSend_kept (p s) : NextKept s (execCallSend p s) :=
  .next <| .ite (.refl _) <| modPort_kept (.refl _) ..

theorem execSoundWindowEnd_kept (p s) : NextKept s (execSoundWindowEnd p s) :=
  .next <| .ite (.refl _) <| .ite (toClause73_kept (.refl _) _) <| soundWindow_kept (modPort_kept (.refl _) ..) _

/-! ### The commands of Machine/Parley -/

theorem execTurnReply_kept (p s) : NextKept s (execTurnReply p s) := by
  refine .next ?_
  dsimp only
  split
  · exact .refl _
  · exact .ite (.refl _) <|
    modPort_kept (by
        split
        · exact .ite (enterParley_kept (.refl _) ..) <| .refl _
        · exact .refl _) ..

theorem execCallReceive_kept (p c sf snr s) : NextKept s (execCallReceive p c sf snr s) :=
  .next <|
  .ite (.refl _) <|
  .ite (.ite (.refl _) <| answerCall_kept (.refl _) ..) <|
  .ite (answerCall_kept (enterSound_kept (setWaiting_kept (modPort_kept (.refl _) ..) ..) _) ..) <|
  .ite (by
      split
      · exact .ite (modPort_kept (.refl _) ..) <| .refl _
      · exact .refl _) <|
  .refl _

theorem execReturnReceive_kept (p c cRand cUid cPort pairTx sf s) :
    NextKept s (execReturnReceive p c cRand cUid cPort pairTx sf s) :=
  .next <| .ite (.refl _) <| modPort_kept (enterParley_kept (modPort_kept (.refl _) ..) ..) ..

theorem execProbeReceive_kept (p session mask est measured rtt s) :
    NextKept s (execProbeReceive p session mask est measured rtt s) :=
  .next <|
  .ite (.refl _) <|
  .ite (.ite (.refl _) <| sendOffer_kept (modPort_kept (.refl _) ..) ..) <|
  .ite (modPort_kept (.refl _) ..) <| modPort_kept (.refl _) ..

theorem execOfferReceive_kept (p session o s) : NextKept s (execOfferReceive p session o s) :=
  .next <|
  .ite (.refl _) <|
  .ite (modPort_kept (.refl _) ..) <|
  .ite (modPort_kept (modPort_kept (.refl _) ..) ..) <|
  .ite (modPort_kept (needFreq_kept (modPort_kept (.refl _) ..) ..) ..) <| modPort_kept (modPort_kept (.refl _) ..) ..

theorem execAcceptReceive_kept (p session no s) : NextKept s (execAcceptReceive p session no s) := by
  refine .next <| .ite (.refl _) ?_
  split
  · refine .ite (.refl _) ?_
    split
    · exact failParley_kept (.refl _) ..
    · exact .ite (modPort_kept (needFreq_kept (.refl _) ..) ..) <| sendOffer_kept (.refl _) ..
  · exact .refl _

theorem execRefuseReceive_kept (p session no rates s) : NextKept s (execRefuseReceive p session no rates s) := by
  refine .next <| .ite (.refl _) ?_
  split
  · exact .ite (.refl _) <| sendOffer_kept (modPort_kept (.refl _) ..) ..
  · exact .refl _

theorem execGoReceive_kept (p session s) : NextKept s (execGoReceive p session s) :=
  .next <| .ite (.refl _) <| applyGo_kept (.refl _) _

theorem execParleyResend_kept (p s) : NextKept s (execParleyResend p s) :=
  .next <| .ite (.refl _) <| .ite (modPort_kept (.refl _) ..) <| .ite (diagEnd_kept (.refl _) ..) <| .refl _

theorem execParleyTimeout_kept (p exhausted s) : NextKept s (execParleyTimeout p exhausted s) :=
  .next <| .ite (.refl _) <| failParley_kept (.refl _) ..

theorem execNegRetryExpire_kept (p sub s) : NextKept s (execNegRetryExpire p sub s) := by
  refine .next <| .ite (.refl _) ?_
  split
  · exact .ite (.refl _) <| startLink_kept (modPort_kept (.refl _) ..) _
  · exact .ite (.refl _) <|
    .ite (startLink_kept (modPort_kept (.refl _) ..) _) <|
    .ite (enterIeee_kept (modPort_kept (.refl _) ..) ..) <| modPort_kept (.refl _) ..

theorem execSoundingFrameSent_kept (p kind s) : NextKept s (execSoundingFrameSent p kind s) := by
  refine .next ?_
  dsimp only
  split
  · split
    · exact diffSent_kept (.refl _) ..
    · exact .refl _
  · split
    · exact modPort_kept (.refl _) ..
    · exact .refl _
  · split
    · exact modPort_kept (.refl _) ..
    · exact .refl _

/-! ### The commands of Machine/Train -/

theorem execTrainStart_kept (p s) : NextKept s (execTrainStart p s) :=
  .next <| .ite (.refl _) <| .ite (needFreq_kept (.refl _) ..) <| .ite (.refl _) <| setLink_kept (modPort_kept (.refl _) ..) ..

theorem execTrainStatSend_kept (p req s) : NextKept s (execTrainStatSend p req s) :=
  .next <| .ite (.refl _) <| queueTs_kept (modPort_kept (.refl _) ..) _

theorem execTrainStatReceive_kept (p session step seq conv cdr req ack set s) :
    NextKept s (execTrainStatReceive p session step seq conv cdr req ack set s) :=
  .next <|
  .ite (.refl _) <|
  have h₁ := Kept.ite (modPort_kept (.refl s) ..) (.refl s)
  have h₂ := modPort_kept (modPort_kept h₁ ..) ..
  have h₃ := setJudged_kept (modPort_kept (modPort_kept h₁ ..) ..) _
  .ite
    (.ite (queueTs_kept (modPort_kept h₁ ..) _) <|
    .ite (.ite (queueTs_kept h₂ _) h₂) <|
    modPort_kept h₁ ..) <|
  .ite (modPort_kept h₃ ..) h₃

theorem execTrainStepSwitch_kept (p s) : NextKept s (execTrainStepSwitch p s) := by
  refine .next ?_
  dsimp only
  split
  · exact .refl _
  · exact .ite (.refl _) <| .ite (toAlign_kept (.refl _) _) <| modPort_kept (.refl _) ..

theorem execTrainStepTimeout_kept (p s) : NextKept s (execTrainStepTimeout p s) :=
  .next <| .ite (.refl _) <| .ite (failTrain_kept (.refl _) ..) <| queueTs_kept (modPort_kept (.refl _) ..) _

theorem execTrainPartnerTimeout_kept (p s) : NextKept s (execTrainPartnerTimeout p s) :=
  .next <| .ite (failTrain_kept (.refl _) ..) <| .refl _

theorem execTrainTimeout_kept (p s) : NextKept s (execTrainTimeout p s) :=
  .next <| .ite (failTrain_kept (.refl _) ..) <| .refl _

theorem execPortDownEnter_kept (p s) : NextKept s (execPortDownEnter p s) := by
  refine .next ?_
  dsimp only
  split
  · exact .refl _
  · exact
      have h := enterDown_kept (.ite (diagEnd_kept (.refl s) ..) (.refl s)) ..
      startLink_kept (modPort_kept (.ite h <| setWaiting_kept h ..) ..) _

/-! ### The commands of Machine/Link -/

theorem execLinkReqWake_kept (who p v s) : NextKept s (execLinkReqWake who p v s) :=
  .regWrite fun _ h => writeLinkReq_kept h ..

theorem execLinkReqRestart_kept (who p v s) : NextKept s (execLinkReqRestart who p v s) :=
  .regWrite fun _ h => writeLinkReq_kept h ..

theorem execLinkSnapRequest_kept (who p v s) : NextKept s (execLinkSnapRequest who p v s) :=
  .regWrite fun _ h => writeLinkSnap_kept h ..

theorem execLinkSnapTake_kept (p s) : NextKept s (execLinkSnapTake p s) :=
  .next <| .ite (.refl _) <| modPort_kept (.refl _) ..

theorem execQuietRequest_kept (p s) : NextKept s (execQuietRequest p s) :=
  .next <| .ite (.refl _) <| queueCm_kept (modPort_kept (.refl _) ..) ..

theorem execQuietReqReceive_kept (p epoch s) : NextKept s (execQuietReqReceive p epoch s) := by
  refine .next <| .ite (.refl _) ?_
  split
  · exact modPort_kept (.refl _) ..
  · exact .ite (queueCm_kept (.refl _) ..) <| .ite (queueCm_kept (modPort_kept (.refl _) ..) ..) <| queueCm_kept (.refl _) ..

theorem execQuietAckReceive_kept (p epoch s) : NextKept s (execQuietAckReceive p epoch s) :=
  .next <| .ite (modPort_kept (.refl _) ..) <| .refl _

theorem execQuietDeclineReceive_kept (p epoch s) : NextKept s (execQuietDeclineReceive p epoch s) :=
  .next <| .ite (.refl _) <| modPort_kept (.refl _) ..

theorem execQuietEnter_kept (p s) : NextKept s (execQuietEnter p s) :=
  .next <| .ite (.refl _) <| reHold_kept (holdFall_kept (guarJudge_kept (setLink_kept (modPort_kept (.refl _) ..) ..) _) _) _

theorem execRefreshWindowStart_kept (p s) : NextKept s (execRefreshWindowStart p s) :=
  .next <| .ite (.refl _) <| standingTriggers_kept (modPort_kept (.refl _) ..) _

theorem execRefreshWindowEnd_kept (p s) : NextKept s (execRefreshWindowEnd p s) :=
  .next <|
  .ite (.refl _) <|
  .ite (wakeStart_kept (modPort_kept (.foldl (fun _ _ h => .ite (windowDrift_kept h ..) h) (.refl _)) ..) ..) <|
  modPort_kept (modPort_kept (.foldl (fun _ _ h => .ite (windowDrift_kept h ..) h) (.refl _)) ..) ..

theorem execWakeTrigger_kept (p why s) : NextKept s (execWakeTrigger p why s) := by
  refine .next ?_
  split
  · exact .ite (.refl _) <| wakeTrigger_kept (.refl _) _
  · exact .ite (wakeTrigger_kept (.refl _) _) <| .refl _
  · exact .ite (wakeTrigger_kept (.refl _) _) <| .refl _
  · exact wakeTrigger_kept (.refl _) _

theorem execWakeTxData_kept (p s) : NextKept s (execWakeTxData p s) :=
  .next <| .ite (.refl _) <| wakeComplete_kept (modPort_kept (.refl _) ..) _

theorem execWakeRespond_kept (p s) : NextKept s (execWakeRespond p s) :=
  .next <| .ite (.refl _) <| wakeComplete_kept (modPort_kept (.refl _) ..) _

theorem execWakeBurstTimeout_kept (p s) : NextKept s (execWakeBurstTimeout p s) :=
  .next <|
  .ite (.refl _) <|
  .ite (wakeComplete_kept (modPort_kept (.refl _) ..) _) <| .ite (modPort_kept (.refl _) ..) <| modPort_kept (.refl _) ..

theorem execWakeTimeout_kept (p s) : NextKept s (execWakeTimeout p s) :=
  .next <| .ite (.refl _) <| downDue_kept (modPort_kept (.refl _) ..) ..

theorem execWakeBurstDetect_kept (p s) : NextKept s (execWakeBurstDetect p s) :=
  .next <|
  .ite (.refl _) <|
  reHold_kept
    (.ite (holdFall_kept (modPort_kept (setLink_kept (.refl _) ..) ..) _) <| modPort_kept (setLink_kept (.refl _) ..) ..) _

theorem execSndFrameResend_kept (p k s) : NextKept s (execSndFrameResend p k s) := by
  refine .next ?_
  split
  · exact .refl _
  · refine .ite (modPort_kept (modPort_kept (.refl _) ..) ..) ?_
    dsimp only
    split
    · exact .dite (fun _ =>
          .ite (judgeWaiting_kept (failAdd_kept (modPort_kept (.refl _) ..) ..) _) <| modPort_kept (.refl _) ..) fun _ =>
        modPort_kept (.refl _) ..
    · exact modPort_kept (modPort_kept (.refl _) ..) ..
    · exact .dite (fun _ => loopReqFails_kept (modPort_kept (.refl _) ..) ..) fun _ =>
        modPort_kept (.refl _) ..
    · exact modPort_kept (.refl _) ..

/-! ### The commands of Machine/Ieee -/

theorem execPllLockRegained_kept (pll s) : NextKept s (execPllLockRegained pll s) := by
  refine .ite .same ?_
  split
  · exact .ite .same <| .next <| groupLocked_kept (.refl _) ..
  · exact .ite .same <| .next <| podPllBack_kept (modPod_kept (.refl _) ..) ..
  · exact .ite .same <|
    .next <| .foldl (fun _ _ h => .ite (stkToLock_kept h _) h) (hubPllBack_kept (.set (stackPllSettle_kept (.refl _))) _)
  · exact .ite .same <| .next <| hubPllBack_kept (.set (.refl _)) _

theorem execLpllRelockDone_kept (k g s) : NextKept s (execLpllRelockDone k g s) :=
  .next <| .ite (.refl _) <| groupLocked_kept (.refl _) ..

theorem execClause73PageReceive_kept (p i page able s) : NextKept s (execClause73PageReceive p i page able s) :=
  .next <|
  .ite (.refl _) <|
  .ite (.ite (modSub_kept (toClause73_kept (.refl _) _) ..) <| .refl _) <| .ite (modSub_kept (.refl _) ..) <| .refl _

theorem execClause73Resolve_kept (p i s) : NextKept s (execClause73Resolve p i s) :=
  .next <|
  .ite (.refl _) <|
  .ite (subTrain_kept (needFreq_kept (modSub_kept (.refl _) ..) ..) ..) <|
  modSub_kept (needFreq_kept (modSub_kept (.refl _) ..) ..) ..

theorem execAnAttemptTimeout_kept (p i s) : NextKept s (execAnAttemptTimeout p i s) :=
  .next <|
  .ite (.refl _) <|
  .ite
    (enterSound_kept
      (.ite (waitingDone_kept (modSub_kept (modSub_kept (.refl _) ..) ..) _) <| modSub_kept (modSub_kept (.refl _) ..) ..) _) <|
  .ite (waitingDone_kept (modSub_kept (modSub_kept (.refl _) ..) ..) _) <| modSub_kept (modSub_kept (.refl _) ..) ..

theorem execIeeeTrainDone_kept (p i partnerAsks wants reqs s) : NextKept s (execIeeeTrainDone p i partnerAsks wants reqs s) :=
  .next <| .ite (.refl _) <| setLink_kept (mapLanes_kept (modSub_kept (.refl _) ..) ..) ..

theorem execIeeeTrainTimeout_kept (p i s) : NextKept s (execIeeeTrainTimeout p i s) :=
  .next <| .ite (subDown_kept (.refl _) ..) <| .refl _

theorem execIeeeSubportFail_kept (p i why s) : NextKept s (execIeeeSubportFail p i why s) :=
  .next <| .ite (subDown_kept (.refl _) ..) <| .refl _

theorem execCdrLockLost_kept (p n s) : NextKept s (execCdrLockLost p n s) := by
  refine .next <| .ite (.refl _) ?_
  dsimp only
  split
  · exact subDown_kept (modLane_kept (.refl _) ..) ..
  · exact framingFails_kept (ownTrigger_kept (modLane_kept (.refl _) ..) ..) ..

theorem execIeeeCodewordReceive_kept (p i host order blocks errs drift s) :
    NextKept s (execIeeeCodewordReceive p i host order blocks errs drift s) :=
  .next <|
  .ite (.refl _) <|
  have h₁ := modPort_kept (.refl s) ..
  have h₂ := modSub_kept (.ite (raise_kept h₁ ..) h₁) ..
  have h₃ := Kept.ite (modPort_kept h₂ ..) h₂
  .ite (raise_kept h₃ ..) h₃

theorem execMdioPageWrite_kept (prtad v s) : NextKept s (execMdioPageWrite prtad v s) :=
  .next <| .ite (.set (.refl _)) <| .refl _

theorem execMdioPmaReset_kept (prtad s) : NextKept s (execMdioPmaReset prtad s) :=
  .next <|
  mdioWrite_kept (.refl _) _
    _ fun _ _ _ h =>
    .ite (subRestart_kept h ..) <| subRestart_kept (.ite (enterDown_kept (subDown_kept h ..) ..) <| subDown_kept h ..) ..

theorem execMdioAnRestart_kept (prtad s) : NextKept s (execMdioAnRestart prtad s) :=
  .next <|
  mdioWrite_kept (.refl _) _
    _ fun _ _ _ h => .ite h <| setLink_kept (waitingDone_kept (modSub_kept (modPort_kept h ..) ..) _) ..

theorem execMdioAdvMaskWrite_kept (prtad covers sets s) : NextKept s (execMdioAdvMaskWrite prtad covers sets s) :=
  .next <| mdioWrite_kept (.refl _) _ _ fun _ _ _ h => modSub_kept h ..

/-! ### The commands of Machine/HostIf -/

theorem execHostMarkerReceive_kept (p h d s) : NextKept s (execHostMarkerReceive p h d s) :=
  .next <| .ite (.refl _) <| .ite (failHostLane_kept (modPort_kept (.refl _) ..) ..) <| modPort_kept (.refl _) ..

theorem execHostFrameStart_kept (p tx s) : NextKept s (execHostFrameStart p tx s) :=
  .next <|
  .ite (.refl _) <|
  .ite (capacityAdds_kept (judgeWaiting_kept (modPort_kept (.refl _) ..) _) _) <| .ite (.refl _) <| modPort_kept (.refl _) ..

theorem execHostLaneFail_kept (p h why s) : NextKept s (execHostLaneFail p h why s) :=
  .next <| .ite (failHostLane_kept (.refl _) ..) <| .refl _

theorem execHostReqTxMove_kept (who p v s) : NextKept s (execHostReqTxMove who p v s) :=
  .regWrite fun _ h => writeHostReq_kept h ..

theorem execHostCodewordReceive_kept (p h period errs units late s) :
    NextKept s (execHostCodewordReceive p h period errs units late s) :=
  .next <|
  .ite (.refl _) <|
  have h₁ := raise_kept (modPort_kept (.refl s) ..) ..
  have h₂ := Kept.foldl (fun _ _ h => hostArrive_kept h ..) (modPort_kept (.refl s) ..)
  .ite (reHold_kept (modPort_kept (.ite (failHostLane_kept h₁ ..) h₁) ..) _) <|
  .ite (wakeTrigger_kept h₂ _) h₂

theorem execFsiCtrlWrite_kept (who v s) : NextKept s (execFsiCtrlWrite who v s) :=
  .regWrite fun _ h => writeFsiCtrl_kept h _

theorem execFsiClkLoss_kept (s) : NextKept s (execFsiClkLoss s) :=
  .next <| .ite (raise_kept (.set (.refl _)) ..) <| .refl _

theorem execFsiClkRestore_kept (s) : NextKept s (execFsiClkRestore s) :=
  .next <| .ite (.refl _) <| endCond_kept (.set (.refl _)) ..

theorem execFsiEventExpire_kept (p s) : NextKept s (execFsiEventExpire p s) :=
  .next <| modPort_kept (.refl _) ..

theorem execFsiClkEdge_kept (sel s) : NextKept s (execFsiClkEdge sel s) :=
  .next <| driveFsi_kept (judgeEvents_kept (.set (.refl _)))

theorem execFsiSelChange_kept (sel s) : NextKept s (execFsiSelChange sel s) :=
  .next <| .ite (driveFsi_kept (.set (.refl _))) <| .set (.refl _)

/-! ### The commands of Machine/Diagnostics -/

theorem execDiagTdr_kept (via p pairs vf threshold s) : NextKept s (execDiagTdr via p pairs vf threshold s) :=
  .next <| diagStart_kept (.refl _) _ _ _ _ _ _ fun _ h => modPort_kept (diagTake_kept (freeNat_kept h) ..) ..

theorem execDiagRl_kept (via p pairs s) : NextKept s (execDiagRl via p pairs s) :=
  .next <| diagStart_kept (.refl _) _ _ _ _ _ _ fun _ h => modPort_kept (diagTake_kept h ..) ..

theorem execDiagNext_kept (via p mask s) : NextKept s (execDiagNext via p mask s) :=
  .next <| diagStart_kept (.refl _) _ _ _ _ _ _ fun _ h => modPort_kept (diagTake_kept h ..) ..

theorem execDiagRunDone_kept (p listens meas s) : NextKept s (execDiagRunDone p listens meas s) := by
  refine .next ?_
  dsimp only
  split
  · exact .ite (sendDiff_kept (diagRelease_kept (.refl _) _) ..) <| .refl _
  · exact .ite (diagFinish_kept (keepResults_kept (.refl _) ..) ..) <| diagEnd_kept (modPort_kept (.refl _) ..) ..
  · exact .ite (diagFinish_kept (keepResults_kept (.refl _) ..) ..) <| diagEnd_kept (modPort_kept (.refl _) ..) ..
  · exact .ite (diagFinish_kept (keepResults_kept (.refl _) ..) ..) <| diagEnd_kept (modPort_kept (.refl _) ..) ..
  · exact .refl _

theorem execDiagRead_kept (via p kind index s) : NextKept s (execDiagRead via p kind index s) := by
  refine .portCommand fun _ h => .ite (reply_kept h ..) ?_
  dsimp only
  split
  · exact reply_kept h ..
  · exact reply_kept h ..

theorem execDiagLive_kept (via p vf s) : NextKept s (execDiagLive via p vf s) :=
  .portCommand fun _ h => .ite (reply_kept h ..) <| .ite (reply_kept h ..) <| reply_kept h ..

theorem execDiagIl_kept (via p mask cable range sf s) : NextKept s (execDiagIl via p mask cable range sf s) :=
  .next <| diagStart_kept (.refl _) _ _ _ _ _ _ fun _ h => sendDiff_kept (modPort_kept (diagTake_kept h ..) ..) ..

theorem execIlReqReceive_kept (p session uid port mask range fs s) :
    NextKept s (execIlReqReceive p session uid port mask range fs s) :=
  .next <|
  .ite (.refl _) <|
  .ite (sendDiff_kept (.refl _) ..) <|
  .ite (sendDiff_kept (modPort_kept (diagTake_kept (.refl _) ..) ..) ..) <| sendDiff_kept (.refl _) ..

theorem execIlAckReceive_kept (p session fs s) : NextKept s (execIlAckReceive p session fs s) :=
  .next <| .ite (.refl _) <| modPort_kept (.refl _) ..

theorem execIlDeclineReceive_kept (p session _reason s) : NextKept s (execIlDeclineReceive p session _reason s) :=
  .next <| .ite (.refl _) <| diagEnd_kept (.refl _) ..

theorem execIlScheduleStart_kept (p s) : NextKept s (execIlScheduleStart p s) :=
  .next <| .ite (.refl _) <| modPort_kept (.refl _) ..

theorem execIlDoneReceive_kept (p session meas s) : NextKept s (execIlDoneReceive p session meas s) :=
  .next <| .ite (.refl _) <| ilFinish_kept (.refl _) ..

theorem execIlDoneTimeout_kept (p meas s) : NextKept s (execIlDoneTimeout p meas s) :=
  .next <| .ite (.refl _) <| ilFinish_kept (.refl _) ..

theorem execCaptureStart_kept (via p lanes txGroup vga peak n count trigger s) :
    NextKept s (execCaptureStart via p lanes txGroup vga peak n count trigger s) :=
  .portCommand fun _ h =>
    .ite (diagReply_kept h ..) <|
    .ite (diagReply_kept h ..) <| .ite (diagReply_kept h ..) <| diagReply_kept (modPort_kept (.set h) ..) ..

theorem execCaptureTrigger_kept (samples s) : NextKept s (execCaptureTrigger samples s) := by
  refine .next ?_
  dsimp only
  split
  · exact .refl _
  · exact .ite (.refl _) <| .ite (.ite (.refl _) <| .set (.refl _)) <| .set (.refl _)

/-- The new grant interval is named first: the kernel would otherwise unfold it to compare the sizes that follow. -/
theorem execCaptureSegmentStored_kept (link s) : NextKept s (execCaptureSegmentStored link s) := by
  obtain ⟨g, hg⟩ : ∃ g, grantInterval s = g := ⟨_, rfl⟩
  have h : Kept s g := hg ▸ grantInterval_kept (.refl s)
  unfold execCaptureSegmentStored
  rw [hg]
  refine .next ?_
  dsimp only
  split
  · exact h
  · exact .ite h <| .ite (captureEnd_kept (.set h) _) <| .ite (captureEnd_kept (.set h) _) <| .set h

theorem execCaptureTimeout_kept (s) : NextKept s (execCaptureTimeout s) :=
  .next <| captureEnd_kept (.refl _) _

theorem execCaptureStop_kept (via s) : NextKept s (execCaptureStop via s) :=
  .command fun _ h => reply_kept (captureEnd_kept h _) ..

theorem execCaptureStatus_kept (via s) : NextKept s (execCaptureStatus via s) :=
  .command fun _ h => reply_kept h ..

theorem execCaptureRead_kept (via segment ofs s) : NextKept s (execCaptureRead via segment ofs s) := by
  refine .command fun _ h => ?_
  dsimp only
  split
  · exact reply_kept h ..
  · exact .ite (reply_kept h ..) <| .ite (reply_kept h ..) <| reply_kept (.set h) ..

/-! ### The commands of Machine/Slot -/

theorem execSlotBoundary_kept (p s) : NextKept s (execSlotBoundary p s) :=
  .next <|
  .ite (.refl _) <|
  have h := slotDue_kept (slotAdvance_kept (.refl s) _) _
  .ite (startLink_kept (modPort_kept h ..) _) <|
  modPort_kept (.ite (sendAlignSlot_kept h _) <| sendSlot_kept h _) ..

/-! ### The commands of Machine/RegMap -/

theorem execRcRead_kept (who addr s) : NextKept s (execRcRead who addr s) :=
  .regRead fun _ h => readReg_kept h ..

theorem execWideLoRead_kept (who addr s) : NextKept s (execWideLoRead who addr s) :=
  .regRead fun _ h => readReg_kept h ..

theorem execSpiStatusRead_kept (s) : NextKept s (execSpiStatusRead s) :=
  .next <| readValue_kept (.set (.refl _)) _

theorem execBar2Read_kept (ofs s) : NextKept s (execBar2Read ofs s) :=
  .next <| .ite (busError_kept (.refl _) _) <| readValue_kept (.set (.refl _)) _

theorem execBar2Write_kept (s) : NextKept s (execBar2Write s) :=
  .next <| ignored_kept (.refl _) ..

/-! ### The commands of Machine/Commit -/

theorem execPortCommit_kept (who p v s) : NextKept s (execPortCommit who p v s) :=
  .regWrite fun _ h => writePortCommit_kept h ..

theorem execPortRevert_kept (who p v s) : NextKept s (execPortRevert who p v s) :=
  .regWrite fun _ h => writePortCommit_kept h ..

theorem execLaneCommit_kept (who p n v s) : NextKept s (execLaneCommit who p n v s) :=
  .regWrite fun _ h => writeLaneCommit_kept h ..

theorem execLaneRevert_kept (who p n v s) : NextKept s (execLaneRevert who p n v s) :=
  .regWrite fun _ h => writeLaneCommit_kept h ..

theorem execCommitJudge_kept (p s) : NextKept s (execCommitJudge p s) :=
  .next <| commitJudge_kept (.refl _) _

theorem execRegisterWrite_kept (who addr v be s) : NextKept s (execRegisterWrite who addr v be s) :=
  .regWrite fun _ h => writeReg_kept h ..

theorem execGlbWrStatClear_kept (who v s) : NextKept s (execGlbWrStatClear who v s) :=
  .regWrite fun _ h => writeWrStat_kept h _

/-! ### The commands of Machine/BootConfig -/

theorem execBootDeviceConfigRead_kept (stored s) : NextKept s (execBootDeviceConfigRead stored s) :=
  .next <| .ite (.refl _) <| withSection_kept (.refl _) _ _ _ fun _ => applyDeviceConfig_kept (.refl _) _

theorem execStageCRecord_kept (port lengthOk s) : NextKept s (execStageCRecord port lengthOk s) := by
  refine .next <| .ite (.refl _) <| .ite (.refl _) ?_
  dsimp only
  split
  · exact .set (countIgnored_kept (regWrite_kept (.set (.refl _)) _ _ _ fun _ h => writeReg_kept h ..))
  · exact .ite (.set (startPacket_kept (.set (.refl _)) ..)) <| .set (.refl _)
  · exact stageCEnds_kept (.set (.refl _))
  · exact cfgSkip_kept (stageCEnds_kept (.set (.refl _)))

theorem execConfigDone_kept (s) : NextKept s (execConfigDone s) :=
  .next <| .ite (.refl _) <| driveFsi_kept (mapPorts_kept (.set (.refl _)) _)

theorem execFlashOperationDone_kept (ok s) : NextKept s (execFlashOperationDone ok s) := by
  refine .next ?_
  split
  · exact .refl _
  · dsimp only
    split
    · exact storeStep_kept (.refl _) ..
    · exact storeStep_kept (.refl _) ..
    · exact .refl _
    · exact reply_kept (.set (.refl _)) ..
    · exact reply_kept (commitWritten_kept (.set (.refl _)) _) ..
    · exact .set (.refl _)

theorem execPortInfo_kept (via port s) : NextKept s (execPortInfo via port s) :=
  .command fun _ h => .dite (fun _ => .ite (reply_kept h ..) <| reply_kept h ..) fun _ => reply_kept h ..

/-! ### Every command and every step -/

/-- No command undoes what every step keeps: each one's meaning is such a composition. -/
theorem exec_kept (c : Instr) (s : State) : NextKept s (exec c s) :=
  match c with
  | .slotBoundary .. => execSlotBoundary_kept ..
  | .lpllRetune .. => execLpllRetune_kept ..
  | .lpllRelockDone .. => execLpllRelockDone_kept ..
  | .lpllPlanApply .. => execLpllPlanApply_kept ..
  | .podLpllCtrlWrite .. => execPodLpllCtrlWrite_kept ..
  | .bridgeFlitReceive .. => execBridgeFlitReceive_kept ..
  | .bridgeFlitSend .. => execBridgeFlitSend_kept ..
  | .bridgeTrained .. => execBridgeTrained_kept ..
  | .ffeWalkStep .. => execFfeWalkStep_kept ..
  | .dacCellExchange .. => execDacCellExchange_kept ..
  | .rangeIdleStart .. => execRangeIdleStart_kept ..
  | .rangeTakeEffect .. => execRangeTakeEffect_kept ..
  | .complianceInterval .. => execComplianceInterval_kept ..
  | .toneRampReload .. => execToneRampReload_kept ..
  | .txToneRegWrite .. => execTxToneRegWrite_kept ..
  | .spillInit .. => execSpillInit_kept ..
  | .spillMeasure .. => execSpillMeasure_kept ..
  | .classSet .. => execClassSet_kept ..
  | .portClass .. => execPortClass_kept ..
  | .shelfSet .. => execShelfSet_kept ..
  | .linkUnfence .. => execLinkUnfence_kept ..
  | .cxlLinkDrop .. => execCxlLinkDrop_kept ..
  | .cxlLinkDowntrain .. => execCxlLinkDowntrain_kept ..
  | .cxlLinkFence .. => execCxlLinkFence_kept ..
  | .cxlLinkReturn .. => execCxlLinkReturn_kept ..
  | .cxlRetrainDone .. => execCxlRetrainDone_kept ..
  | .minEffRestore => execMinEffRestore_kept ..
  | .parcelClose .. => execParcelClose_kept ..
  | .parcelWriteGrant .. => execParcelWriteGrant_kept ..
  | .parcelReadDone .. => execParcelReadDone_kept ..
  | .guarWindowEnd .. => execGuarWindowEnd_kept ..
  | .calRun .. => execCalRun_kept ..
  | .calRunDone .. => execCalRunDone_kept ..
  | .calStore .. => execCalStore_kept ..
  | .calExport .. => execCalExport_kept ..
  | .calImport .. => execCalImport_kept ..
  | .calCoefRead .. => execCalCoefRead_kept ..
  | .calLimitsRead .. => execCalLimitsRead_kept ..
  | .dacMeasureDone .. => execDacMeasureDone_kept ..
  | .ctleStepApply .. => execCtleStepApply_kept ..
  | .ctleCheckTimeout .. => execCtleCheckTimeout_kept ..
  | .ctleFreezeEnd .. => execCtleFreezeEnd_kept ..
  | .diagTdr .. => execDiagTdr_kept ..
  | .diagRl .. => execDiagRl_kept ..
  | .diagNext .. => execDiagNext_kept ..
  | .diagIl .. => execDiagIl_kept ..
  | .diagRead .. => execDiagRead_kept ..
  | .diagLive .. => execDiagLive_kept ..
  | .diagRunDone .. => execDiagRunDone_kept ..
  | .ilReqReceive .. => execIlReqReceive_kept ..
  | .ilAckReceive .. => execIlAckReceive_kept ..
  | .ilDeclineReceive _ _ reason => execIlDeclineReceive_kept _ _ reason _
  | .ilScheduleStart .. => execIlScheduleStart_kept ..
  | .ilDoneReceive .. => execIlDoneReceive_kept ..
  | .ilDoneTimeout .. => execIlDoneTimeout_kept ..
  | .captureStart .. => execCaptureStart_kept ..
  | .captureStatus .. => execCaptureStatus_kept ..
  | .captureRead .. => execCaptureRead_kept ..
  | .captureStop .. => execCaptureStop_kept ..
  | .captureTrigger .. => execCaptureTrigger_kept ..
  | .captureSegmentStored .. => execCaptureSegmentStored_kept ..
  | .captureTimeout => execCaptureTimeout_kept ..
  | .xaDelayExpire => execXaDelayExpire_kept ..
  | .refJudgedGood .. => execRefJudgedGood_kept ..
  | .froTrimUpdate .. => execFroTrimUpdate_kept ..
  | .flashAccessTimeout => execFlashAccessTimeout_kept ..
  | .xbDetect => execXbDetect_kept ..
  | .xbLoss => execXbLoss_kept ..
  | .rpllLock .. => execRpllLock_kept ..
  | .domainRampStep .. => execDomainRampStep_kept ..
  | .forcedSwitch .. => execForcedSwitch_kept ..
  | .clockMonitorWindow .. => execClockMonitorWindow_kept ..
  | .rpllHoldover => execRpllHoldover_kept ..
  | .rpllUnlock => execRpllUnlock_kept ..
  | .rpllAltRestart => execRpllAltRestart_kept ..
  | .froCheck .. => execFroCheck_kept ..
  | .pllUnlock .. => execPllUnlock_kept ..
  | .pllLockRegained .. => execPllLockRegained_kept ..
  | .clkCfgWrite .. => execClkCfgWrite_kept ..
  | .clkGateWrite .. => execClkGateWrite_kept ..
  | .xaFirstJudgementEnd => execXaFirstJudgementEnd_kept ..
  | .avsExamine .. => execAvsExamine_kept ..
  | .avsWriteRetry .. => execAvsWriteRetry_kept ..
  | .avsStatusPoll .. => execAvsStatusPoll_kept ..
  | .podAvsCtrlWrite .. => execPodAvsCtrlWrite_kept ..
  | .regionSample .. => execRegionSample_kept ..
  | .regionFaultClear .. => execRegionFaultClear_kept ..
  | .supplyLoss .. => execSupplyLoss_kept ..
  | .supplyRestore .. => execSupplyRestore_kept ..
  | .sensorConversion .. => execSensorConversion_kept ..
  | .powerOnReset => execPowerOnReset_kept ..
  | .porstNAssert => execPorstNAssert_kept ..
  | .porstNRelease .. => execPorstNRelease_kept ..
  | .pePerstNAssert => execPePerstNAssert_kept ..
  | .trstNAssert => execTrstNAssert_kept ..
  | .bootTrimmed .. => execBootTrimmed_kept ..
  | .bootTrimTimeout => execBootTrimTimeout_kept ..
  | .bootLibConfigRead .. => execBootLibConfigRead_kept ..
  | .bootDeviceConfigRead .. => execBootDeviceConfigRead_kept ..
  | .bootRpllTimeout => execBootRpllTimeout_kept ..
  | .bootClerkFwRead .. => execBootClerkFwRead_kept ..
  | .bootLedgerAnchor .. => execBootLedgerAnchor_kept ..
  | .bootUserAreaRead .. => execBootUserAreaRead_kept ..
  | .stageCRecord .. => execStageCRecord_kept ..
  | .configDone => execConfigDone_kept ..
  | .imgInfo .. => execImgInfo_kept ..
  | .imgErase .. => execImgErase_kept ..
  | .imgEraseBlockDone => execImgEraseBlockDone_kept ..
  | .imgWrite .. => execImgWrite_kept ..
  | .imgWriteStream .. => execImgWriteStream_kept ..
  | .imgCommit .. => execImgCommit_kept ..
  | .imgConfirm .. => execImgConfirm_kept ..
  | .devReset .. => execDevReset_kept ..
  | .devResetExpire .. => execDevResetExpire_kept ..
  | .pePerstNRelease => execPePerstNRelease_kept ..
  | .bistRun .. => execBistRun_kept ..
  | .bistBankDone .. => execBistBankDone_kept ..
  | .bistRead .. => execBistRead_kept ..
  | .loopSet .. => execLoopSet_kept ..
  | .refCheck .. => execRefCheck_kept ..
  | .repairRead .. => execRepairRead_kept ..
  | .fuseRepair .. => execFuseRepair_kept ..
  | .scanChallenge .. => execScanChallenge_kept ..
  | .scanAuth .. => execScanAuth_kept ..
  | .scanChallengeExpire => execScanChallengeExpire_kept ..
  | .loopbackReqReceive .. => execLoopbackReqReceive_kept ..
  | .loopbackAckReceive .. => execLoopbackAckReceive_kept ..
  | .loopbackDeclineReceive _ _ reason => execLoopbackDeclineReceive_kept _ _ reason _
  | .farLoopbackStart .. => execFarLoopbackStart_kept ..
  | .loopbackEndReceive .. => execLoopbackEndReceive_kept ..
  | .prbsLock .. => execPrbsLock_kept ..
  | .prbsLockLoss .. => execPrbsLockLoss_kept ..
  | .stPrbsCtrlWrite .. => execStPrbsCtrlWrite_kept ..
  | .prbsClear .. => execPrbsClear_kept ..
  | .bandgapCheck .. => execBandgapCheck_kept ..
  | .jtagInstruction .. => execJtagInstruction_kept ..
  | .faultMessage .. => execFaultMessage_kept ..
  | .eventCauseExpire .. => execEventCauseExpire_kept ..
  | .stickyClear .. => execStickyClear_kept ..
  | .recAck .. => execRecAck_kept ..
  | .recAckAll .. => execRecAckAll_kept ..
  | .fltSelWrite .. => execFltSelWrite_kept ..
  | .fltSelClear .. => execFltSelClear_kept ..
  | .fltReactWrite .. => execFltReactWrite_kept ..
  | .fiArm .. => execFiArm_kept ..
  | .fiStop .. => execFiStop_kept ..
  | .fiList .. => execFiList_kept ..
  | .injectionDeliver .. => execInjectionDeliver_kept ..
  | .injectHoldEnd .. => execInjectHoldEnd_kept ..
  | .stackClockDetect .. => execStackClockDetect_kept ..
  | .stackLaneLock .. => execStackLaneLock_kept ..
  | .stackPortAlign .. => execStackPortAlign_kept ..
  | .stackAlignTimeout .. => execStackAlignTimeout_kept ..
  | .stackLaneLockLoss .. => execStackLaneLockLoss_kept ..
  | .stackSofReceive .. => execStackSofReceive_kept ..
  | .stackSofSend .. => execStackSofSend_kept ..
  | .helloSend .. => execHelloSend_kept ..
  | .helloReceive .. => execHelloReceive_kept ..
  | .stackLinkTimeout .. => execStackLinkTimeout_kept ..
  | .stackMsgReceive .. => execStackMsgReceive_kept ..
  | .linkAckReceive .. => execLinkAckReceive_kept ..
  | .linkAckSend .. => execLinkAckSend_kept ..
  | .stackResendTimeout .. => execStackResendTimeout_kept ..
  | .enumRunStart => execEnumRunStart_kept ..
  | .discoverReceive .. => execDiscoverReceive_kept ..
  | .orphanNoticeReceive .. => execOrphanNoticeReceive_kept ..
  | .parentChoose => execParentChoose_kept ..
  | .reportReceive .. => execReportReceive_kept ..
  | .reportDue .. => execReportDue_kept ..
  | .assignReceive .. => execAssignReceive_kept ..
  | .topoChangeReceive .. => execTopoChangeReceive_kept ..
  | .stackLinkFail .. => execStackLinkFail_kept ..
  | .faultWindowClose => execFaultWindowClose_kept ..
  | .faultReportReceive .. => execFaultReportReceive_kept ..
  | .mgmtReqReceive .. => execMgmtReqReceive_kept ..
  | .mgmtRespReceive .. => execMgmtRespReceive_kept ..
  | .tunnelTimeout .. => execTunnelTimeout_kept ..
  | .ledgerAnchorReceive .. => execLedgerAnchorReceive_kept ..
  | .stkEnum .. => execStkEnum_kept ..
  | .stkRenumber .. => execStkRenumber_kept ..
  | .stkTunnel .. => execStkTunnel_kept ..
  | .stkPortInfo .. => execStkPortInfo_kept ..
  | .stkFrecRead .. => execStkFrecRead_kept ..
  | .timeCfgWrite .. => execTimeCfgWrite_kept ..
  | .timeRateWrite .. => execTimeRateWrite_kept ..
  | .timeSet .. => execTimeSet_kept ..
  | .timeStep .. => execTimeStep_kept ..
  | .timePtpSample .. => execTimePtpSample_kept ..
  | .timeStatus .. => execTimeStatus_kept ..
  | .timeHoldoverTimeout => execTimeHoldoverTimeout_kept ..
  | .ppsInEdge => execPpsInEdge_kept ..
  | .ppsOutPulse => execPpsOutPulse_kept ..
  | .ppsOutFall => execPpsOutFall_kept ..
  | .timeFrameSend .. => execTimeFrameSend_kept ..
  | .timeFrameReceive .. => execTimeFrameReceive_kept ..
  | .timeSyncSend => execTimeSyncSend_kept ..
  | .timeSyncReceive .. => execTimeSyncReceive_kept ..
  | .tsEntryRead .. => execTsEntryRead_kept ..
  | .timeNowRead .. => execTimeNowRead_kept ..
  | .ppsinRead .. => execPpsinRead_kept ..
  | .mbxDoorbell .. => execMbxDoorbell_kept ..
  | .mbxRelease .. => execMbxRelease_kept ..
  | .commandStart .. => execCommandStart_kept ..
  | .commandTimeout .. => execCommandTimeout_kept ..
  | .portInfo .. => execPortInfo_kept ..
  | .farCmd .. => execFarCmd_kept ..
  | .farRequestReceive .. => execFarRequestReceive_kept ..
  | .farReplyReceive .. => execFarReplyReceive_kept ..
  | .farCmdTimeout .. => execFarCmdTimeout_kept ..
  | .ledgerInfo .. => execLedgerInfo_kept ..
  | .ledgerRead .. => execLedgerRead_kept ..
  | .ledgerSeal .. => execLedgerSeal_kept ..
  | .ledgerNote .. => execLedgerNote_kept ..
  | .attestQuote .. => execAttestQuote_kept ..
  | .certRead .. => execCertRead_kept ..
  | .keyRevoke .. => execKeyRevoke_kept ..
  | .sealDue .. => execSealDue_kept ..
  | .countersRecordDue => execCountersRecordDue_kept ..
  | .witnessSend => execWitnessSend_kept ..
  | .allowanceRefill => execAllowanceRefill_kept ..
  | .clerkWatchdogExpire => execClerkWatchdogExpire_kept ..
  | .clerkRestartDone .. => execClerkRestartDone_kept ..
  | .firewallViolation .. => execFirewallViolation_kept ..
  | .libRomCheck .. => execLibRomCheck_kept ..
  | .libFirewallCheck .. => execLibFirewallCheck_kept ..
  | .libWatchdogExpire => execLibWatchdogExpire_kept ..
  | .portCommit .. => execPortCommit_kept ..
  | .portRevert .. => execPortRevert_kept ..
  | .laneCommit .. => execLaneCommit_kept ..
  | .laneRevert .. => execLaneRevert_kept ..
  | .commitJudge .. => execCommitJudge_kept ..
  | .registerWrite .. => execRegisterWrite_kept ..
  | .rcRead .. => execRcRead_kept ..
  | .wideLoRead .. => execWideLoRead_kept ..
  | .glbWrStatClear .. => execGlbWrStatClear_kept ..
  | .spiStatusRead => execSpiStatusRead_kept ..
  | .bar2Read .. => execBar2Read_kept ..
  | .bar2Write => execBar2Write_kept ..
  | .agcStep .. => execAgcStep_kept ..
  | .sliceSwap .. => execSliceSwap_kept ..
  | .sliceCalDone .. => execSliceCalDone_kept ..
  | .cdrLockLost .. => execCdrLockLost_kept ..
  | .echoSearchEnd .. => execEchoSearchEnd_kept ..
  | .echoConverge .. => execEchoConverge_kept ..
  | .snrWindowEnd .. => execSnrWindowEnd_kept ..
  | .alignFolioReceive .. => execAlignFolioReceive_kept ..
  | .anchorRevert .. => execAnchorRevert_kept ..
  | .hostCodewordReceive .. => execHostCodewordReceive_kept ..
  | .folioReceive .. => execFolioReceive_kept ..
  | .nakRepeatDue .. => execNakRepeatDue_kept ..
  | .blockLockAcquire .. => execBlockLockAcquire_kept ..
  | .blockLockLoss .. => execBlockLockLoss_kept ..
  | .alignmentLoss .. => execAlignmentLoss_kept ..
  | .followerCountLoad .. => execFollowerCountLoad_kept ..
  | .alignTimeout .. => execAlignTimeout_kept ..
  | .changeEpoch .. => execChangeEpoch_kept ..
  | .laneQuarantine .. => execLaneQuarantine_kept ..
  | .partnerQuarantine .. => execPartnerQuarantine_kept ..
  | .laneReqShed .. => execLaneReqShed_kept ..
  | .laneReqAdd .. => execLaneReqAdd_kept ..
  | .plannedShedDeadline .. => execPlannedShedDeadline_kept ..
  | .readdHoldoffExpire .. => execReaddHoldoffExpire_kept ..
  | .addAttemptTimeout .. => execAddAttemptTimeout_kept ..
  | .laneNoticeReceive .. => execLaneNoticeReceive_kept ..
  | .addNoticeReceive .. => execAddNoticeReceive_kept ..
  | .noticeAckReceive .. => execNoticeAckReceive_kept ..
  | .noticeDeclineReceive .. => execNoticeDeclineReceive_kept ..
  | .preambleDetect .. => execPreambleDetect_kept ..
  | .falseDetect .. => execFalseDetect_kept ..
  | .newPreambleDetect .. => execNewPreambleDetect_kept ..
  | .sndReceptionTruncate .. => execSndReceptionTruncate_kept ..
  | .sndHeaderReceive .. => execSndHeaderReceive_kept ..
  | .sndFrameReceive .. => execSndFrameReceive_kept ..
  | .turnReply .. => execTurnReply_kept ..
  | .cmFrameSend .. => execCmFrameSend_kept ..
  | .sndFrameResend .. => execSndFrameResend_kept ..
  | .wakeBurstDetect .. => execWakeBurstDetect_kept ..
  | .soundRound .. => execSoundRound_kept ..
  | .callSend .. => execCallSend_kept ..
  | .soundWindowEnd .. => execSoundWindowEnd_kept ..
  | .callReceive .. => execCallReceive_kept ..
  | .returnReceive .. => execReturnReceive_kept ..
  | .probeReceive .. => execProbeReceive_kept ..
  | .offerReceive .. => execOfferReceive_kept ..
  | .acceptReceive .. => execAcceptReceive_kept ..
  | .refuseReceive .. => execRefuseReceive_kept ..
  | .goReceive .. => execGoReceive_kept ..
  | .parleyResend .. => execParleyResend_kept ..
  | .parleyTimeout .. => execParleyTimeout_kept ..
  | .negRetryExpire .. => execNegRetryExpire_kept ..
  | .trainStart .. => execTrainStart_kept ..
  | .clause73PageReceive .. => execClause73PageReceive_kept ..
  | .clause73Resolve .. => execClause73Resolve_kept ..
  | .anAttemptTimeout .. => execAnAttemptTimeout_kept ..
  | .trainStatSend .. => execTrainStatSend_kept ..
  | .trainStatReceive .. => execTrainStatReceive_kept ..
  | .trainStepSwitch .. => execTrainStepSwitch_kept ..
  | .trainStepTimeout .. => execTrainStepTimeout_kept ..
  | .trainPartnerTimeout .. => execTrainPartnerTimeout_kept ..
  | .trainTimeout .. => execTrainTimeout_kept ..
  | .ieeeTrainDone .. => execIeeeTrainDone_kept ..
  | .ieeeTrainTimeout .. => execIeeeTrainTimeout_kept ..
  | .ieeeSubportFail .. => execIeeeSubportFail_kept ..
  | .ieeeCodewordReceive .. => execIeeeCodewordReceive_kept ..
  | .mdioPageWrite .. => execMdioPageWrite_kept ..
  | .mdioPmaReset .. => execMdioPmaReset_kept ..
  | .mdioAnRestart .. => execMdioAnRestart_kept ..
  | .mdioAdvMaskWrite .. => execMdioAdvMaskWrite_kept ..
  | .portDownEnter .. => execPortDownEnter_kept ..
  | .hostMarkerReceive .. => execHostMarkerReceive_kept ..
  | .hostFrameStart .. => execHostFrameStart_kept ..
  | .hostLaneFail .. => execHostLaneFail_kept ..
  | .hostReqTxMove .. => execHostReqTxMove_kept ..
  | .fsiCtrlWrite .. => execFsiCtrlWrite_kept ..
  | .fsiClkLoss => execFsiClkLoss_kept ..
  | .fsiClkRestore => execFsiClkRestore_kept ..
  | .fsiEventExpire .. => execFsiEventExpire_kept ..
  | .linkReqWake .. => execLinkReqWake_kept ..
  | .linkReqRestart .. => execLinkReqRestart_kept ..
  | .linkSnapRequest .. => execLinkSnapRequest_kept ..
  | .linkSnapTake .. => execLinkSnapTake_kept ..
  | .eyeHeightUpdate .. => execEyeHeightUpdate_kept ..
  | .eyeWidthUpdate .. => execEyeWidthUpdate_kept ..
  | .quietRequest .. => execQuietRequest_kept ..
  | .quietReqReceive .. => execQuietReqReceive_kept ..
  | .quietAckReceive .. => execQuietAckReceive_kept ..
  | .quietDeclineReceive .. => execQuietDeclineReceive_kept ..
  | .quietEnter .. => execQuietEnter_kept ..
  | .refreshWindowStart .. => execRefreshWindowStart_kept ..
  | .refreshWindowEnd .. => execRefreshWindowEnd_kept ..
  | .wakeTrigger .. => execWakeTrigger_kept ..
  | .wakeTxData .. => execWakeTxData_kept ..
  | .wakeRespond .. => execWakeRespond_kept ..
  | .wakeBurstTimeout .. => execWakeBurstTimeout_kept ..
  | .wakeTimeout .. => execWakeTimeout_kept ..
  | .soundingFrameSent .. => execSoundingFrameSent_kept ..
  | .fsiClkEdge .. => execFsiClkEdge_kept ..
  | .fsiSelChange .. => execFsiSelChange_kept ..
  | .flashOperationDone .. => execFlashOperationDone_kept ..

/-- The passing of one cycle undoes nothing of it either. -/
theorem tick_kept (s : State) : Kept s (tick s) :=
  .ite (.refl _) <| .ite (.set (.set (.refl _))) <| .set (.refl _)

/-- A step undoes nothing of it beside taking the front command off the queue. -/
theorem step_kept {s t : State} (h : step s = .next t) : Kept { s with pending := s.pending.tail } t := by
  unfold step at h
  split at h
  next hp =>
    have hs : { s with pending := s.pending.tail } = s := by rw [hp, List.tail_nil, ← hp]
    cases h
    rw [hs]
    exact tick_kept s
  next c rest hp =>
    rw [hp]
    exact (exec_kept c _).kept h

/-- Settles O38: every command and every step keeps the part and the queue, and the queue's front is taken before the command is
carried out. -/
theorem partAndQueueAreKept : Obligations.PartAndQueueAreKept := by
  unfold Obligations.PartAndQueueAreKept
  exact ⟨fun c s t h => ⟨((exec_kept c s).kept h).part, ((exec_kept c s).kept h).pending⟩,
    fun s t h => ⟨(step_kept h).part, (step_kept h).pending⟩⟩

end Sys2Proof
end

section
/-!
PROOFS. Where the commands of the lane PLL groups and of the bridges complete, and with what (O1).
-/
namespace Sys2Proof

open Sys2Proof.Machine

/-! ### Lane PLL groups -/

/-- A frequency that the group is locked at is provided: the port does not wait (R20). -/
theorem needFreq_locked {p : PortId} {f : PllFreq} {s : State} (hl : (s.group p).lock = true) (hf : (s.group p).freq = f) :
    needFreq p f s = setWaiting p false s := by
  simp [needFreq, hl, hf]

/-- Under AUTO, a retunable group with no sounding frame in progress retunes to a frequency that it neither has nor goes to (R20). -/
theorem needFreq_retunes {p : PortId} {f : PllFreq} {s : State} (hf : (s.group p).freq ≠ f) (ht : (s.group p).target ≠ some f)
    (hauto : (s.group p).planInForce = 0) (hr : retunable s (podOf p) (groupOf p) = true)
    (hs : groupSounding s (podOf p) (groupOf p) = false) :
    needFreq p f s = setWaiting p false (startRetune (podOf p) (groupOf p) f s) := by
  simp [needFreq, hf, ht, hauto, hr, hs]

/-- LPLL_RETUNE is the port's need of the frequency, on a port of the part (R20). -/
theorem execLpllRetune_present {p : PortId} {f : PllFreq} {s : State} (hp : s.part.hasPort p = true) (hf : f ≠ .none) :
    execLpllRetune p f s = .next (needFreq p f s) := by
  simp [execLpllRetune, hp, hf]

/-- LPLL_RELOCK_DONE locks a group of the part that is not locked, where the root is and no trip stands (R19). -/
theorem execLpllRelockDone_unlocked {k : PodId} {g : GroupId} {s : State} (hk : s.part.hasPod k = true)
    (hr : s.clk.rpllLock = true) (ht : s.pwr.trip = false) (hl : (s.pod k).groups[g.val].lock = false) :
    execLpllRelockDone k g s = .next (groupLocked k g s) := by
  simp [execLpllRelockDone, hk, hr, ht, hl]

/-- LPLL_PLAN_APPLY puts a new plan in force, ends the waiting under the old one, and retunes the group unless the plan is AUTO or
names the group's frequency (R21). -/
theorem execLpllPlanApply_new {k : PodId} {g : GroupId} {s : State} (hr : retunable s k g = true)
    (hs : groupSounding s k g = false) (hp : (s.pod k).groups[g.val].plan ≠ (s.pod k).groups[g.val].planInForce) :
    execLpllPlanApply k g s = .next (
      let x := (s.pod k).groups[g.val]
      let u := planWaitEnd k g (s.modGroup k g fun x => { x with planInForce := x.plan })
      if x.plan = 0 ∨ x.freq = planFreq x.plan then u else startRetune k g (planFreq x.plan) u) := by
  simp [execLpllPlanApply, hr, hs, hp]

/-- A write of POD_LPLL_CTRLg of a plan that is not reserved sets the group's plan (R22). -/
theorem writeLpllCtrl_plan {k : PodId} {g : GroupId} {v : Word} {s : State} (h : bits v 3 0 ≤ 4) :
    writeLpllCtrl k g v s = written (s.modGroup k g fun x => { x with plan := bits v 3 0 }) := by
  rw [writeLpllCtrl, if_neg (Nat.not_lt.mpr h)]

/-- POD_LPLL_CTRL_WRITE is the write of the register, where it reaches it (R22). -/
theorem execPodLpllCtrlWrite_reaches {who : Initiator} {k : PodId} {g : GroupId} {v : Word} {s : State}
    (h : WriteReaches who s (podBase k + 0x100 + g.val * 4)) :
    execPodLpllCtrlWrite who k g v s = .next (writeLpllCtrl k g v s) :=
  congrArg _ (regWrite_reaches h)

/-! ### Bridges -/

/-- The direction of a bridge that modDir changes. -/
@[simp] theorem modDir_dir (b : Bridge) (d : Bool) (f : BridgeDir → BridgeDir) : (b.modDir d f).dir d = f (b.dir d) := by
  cases d <;> rfl

/-- BRIDGE_FLIT_RECEIVE of a good flit clears the count of its replays (R25). -/
theorem execBridgeFlitReceive_good {k : PodId} {d : Bool} {s : State} (h : s.podOpen k = true) :
    execBridgeFlitReceive k d true s =
      .next (s.modPod k fun q => { q with bridge := q.bridge.modDir d fun x => { x with replays := 0 } }) := by
  simp [execBridgeFlitReceive, h]

/-- BRIDGE_FLIT_SEND is one sending opportunity of one direction of the pod's bridge (R26). -/
theorem execBridgeFlitSend_open {k : PodId} {d : Bool} {w : List FlitKind} {new : Bool} {s : State} (h : s.podOpen k = true) :
    execBridgeFlitSend k d w new s =
      .next (s.modPod k fun q => { q with bridge := q.bridge.modDir d fun x => x.send s.fabOnFro d w new }) := by
  simp [execBridgeFlitSend, h]

/-- What a sending opportunity sends is the kind that is next in the account as it then stands (R26). -/
theorem bridgeDir_send_last (fro : Bool) (x : BridgeDir) (d : Bool) (w : List FlitKind) (new : Bool) :
    (x.send fro d w new).last = nextKind fro (if new then x.newUs fro else x) d w := rfl

/-- BRIDGE_TRAINED brings the bridge up and ends its failure, where no occurrence waits in the pod (R30). -/
theorem execBridgeTrained_idle {k : PodId} {s : State} (hk : s.part.hasPod k = true) (hr : s.boot.inReset = false)
    (hl : s.pwr.lost.contains (.pod k) = false) (hu : (s.pod k).bridge.up = false) (hq : (s.pod k).fltQueue = []) :
    execBridgeTrained k s = .next (endCond .bridgeFail (.pod k)
      (s.modPod k fun q => { q with fltQueue := [], bridge := { q.bridge with up := true } })) := by
  rw [execBridgeTrained, hk, hr, hl, hu, hq]
  rfl

/-- Settles O1: each command's own condition holds, and its result is the named operation of the group or of the bridge. -/
theorem pllAndBridgeCommandsComplete : Obligations.PllAndBridgeCommandsComplete := by
  unfold Obligations.PllAndBridgeCommandsComplete
  refine ⟨fun p f s hp hn hl hf => ?_, fun p f s hp hn hf ht hauto hr hs => ?_,
    fun k g s hk hr ht hl => execLpllRelockDone_unlocked hk hr ht hl,
    fun k g s hr hs hp => ⟨_, rfl, execLpllPlanApply_new hr hs hp⟩, fun who k g v s hw hv => ?_,
    fun k d s h => execBridgeFlitReceive_good h, fun k d w new s h => ?_,
    fun k s hk hr hl hu hq => ⟨_, execBridgeTrained_idle hk hr hl hu hq, rfl⟩⟩
  · exact (execLpllRetune_present hp hn).trans (congrArg _ (needFreq_locked hl hf))
  · exact (execLpllRetune_present hp hn).trans (congrArg _ (needFreq_retunes hf ht hauto hr hs))
  · refine ⟨_, (execPodLpllCtrlWrite_reaches hw).trans (congrArg _ (writeLpllCtrl_plan hv)), ?_, ?_, rfl, written_reply _⟩
    · rw [written_pod, modGroup_group]
    · rw [written_pod, modGroup_group]
  · refine ⟨_, execBridgeFlitSend_open h, ?_, modPod_ports .., modPod_flt ..⟩
    rw [modPod_pod, modDir_dir, bridgeDir_send_last]

end Sys2Proof
end

section
/-!
PROOFS. Where the commands of the line transmitter complete, and with what (O2).
-/
namespace Sys2Proof

open Sys2Proof.Machine

/-! ### Fields and staged registers -/

/-- The bits of a field are the word's from the field's place. -/
theorem testBit_bits (w : Word) (hi lo i : Nat) : (bits w hi lo).testBit i = (decide (i < hi + 1 - lo) && w.getLsbD (lo + i)) := by
  simp [bits, Nat.testBit_mod_two_pow, BitVec.testBit_toNat]

/-- A field reads back what setBits put there, where the value fits it. -/
theorem bits_setBits_same {w : Word} {hi lo v : Nat} (h : hi < 32) (hv : v < 2 ^ (hi + 1 - lo)) :
    bits (setBits w hi lo v) hi lo = v := by
  refine Nat.eq_of_testBit_eq fun i => ?_
  rw [testBit_bits]
  by_cases hin : i < hi + 1 - lo
  · have hbit : lo + i < 32 := by omega
    simp only [setBits, BitVec.getLsbD_or, BitVec.getLsbD_and, BitVec.getLsbD_not, BitVec.getLsbD_ofNat, Nat.testBit_mod_two_pow]
    simp [Nat.testBit_two_pow_sub_one, hin, hbit]
  · have hout : v.testBit i = false := Nat.testBit_lt_two_pow (hv.trans_le (Nat.pow_le_pow_right (by decide) (by omega)))
    simp [hin, hout]

/-- The staged registers of a lane that setReg leaves. -/
theorem lane_setReg_reg_other (l : Lane) {r q : LaneSt} (f : StReg → StReg) (h : r.ix ≠ q.ix) : (l.setReg r f).reg q = l.reg q :=
  updAt_other _ _ _ _ h

/-- TX_FFE0 in force after taps were put in force. -/
@[simp] theorem setTaps_act_ffe0 (l : Lane) (t : Taps) : (l.setTaps t).act .txFfe0 = t.word0 := by
  rw [Lane.setTaps, Lane.act, lane_setReg_reg_other _ _ (by decide), lane_setReg_reg]

/-- TX_FFE1 in force after taps were put in force. -/
@[simp] theorem setTaps_act_ffe1 (l : Lane) (t : Taps) : (l.setTaps t).act .txFfe1 = t.word1 := by
  rw [Lane.setTaps, Lane.act, lane_setReg_reg]

/-- RANGE in force after a range was put in force. -/
theorem setRange_range {l : Lane} {r : Nat} (h : r < 4) : bits ((l.setRange r).act .txCtrl) 1 0 = r := by
  rw [Lane.setRange, Lane.act, lane_setReg_reg]
  exact bits_setBits_same (by decide) h

/-! ### Slots, taps, cells and range -/

/-- SLOT_BOUNDARY of a port that is not in DOWN after what fell due: the slot's folios, then the patterns and the DACs (R40). -/
theorem execSlotBoundary_running {p : PortId} {s : State} (hp : s.part.hasPort p = true) (hs : s.podStopped (podOf p) = false)
    (hd : ((slotDue p (slotAdvance p s)).port p).link.state ≠ .down) :
    execSlotBoundary p s = .next (
      let u := slotDue p (slotAdvance p s)
      (if (u.port p).alignSlot then sendAlignSlot p u else sendSlot p u).modPort p fun q => q.sendPatterns.sendPrbs.drive) := by
  simp [execSlotBoundary, hp, hs, hd]

/-- FFE_WALK_STEP is one step of the walk, where a step is due and the lane is not in SAFE (R46). -/
theorem execFfeWalkStep_due {p : PortId} {n : LaneId} {s : State} (hw : (s.port p).walks = true)
    (hl : (s.lane p n).tx.walkLeft = 0) (hs : (s.lane p n).tx.state ≠ .safe) :
    execFfeWalkStep p n s = .next (s.modLane p n Lane.walkStep) := by
  simp [execFfeWalkStep, hw, hl, hs]

/-- A step of a walk in progress puts the next taps in force, and the walk ends where they are the target (R46). -/
theorem walkStep_walking {l : Lane} {target : Taps} (h : l.tx.walk = some target) :
    l.walkStep = { l.setTaps (l.taps.step target) with
      tx := { l.tx with walk := if l.taps.step target = target then none else some target, walkLeft := 64 } } := by
  rw [Lane.walkStep, h]
  rfl

/-- DAC_CELL_EXCHANGE of two different cells of M0 to M8 that is due exchanges them (R47). -/
theorem execDacCellExchange_due {p : PortId} {n : LaneId} {s : State} {a b : Nat} (hc : (s.lane p n).tx.cellNext = some (a, b))
    (hd : exchangeDue s p n = true) (hab : a ≠ b) (ha : a ≤ 8) (hb : b ≤ 8) :
    execDacCellExchange p n s = .next (s.modLane p n fun l =>
      { l with
        tx := { l.tx with retireA := a, retireB := b, cellNext := l.cal.dacNext, cellAge := 0 },
        cal := { l.cal with dacNext := none },
        rx := { l.rx with sinceChange := if (s.port p).walks && (s.port p).duplex then 0 else l.rx.sinceChange } }) := by
  simp [execDacCellExchange, hc, hd, hab, ha, hb]

/-- RANGE_IDLE_START takes a lane with a range waiting and no sounding frame on it into its idle slot (R49). -/
theorem execRangeIdleStart_waiting {p : PortId} {n : LaneId} {s : State} {r : Nat} (hr : (s.lane p n).tx.rangeNext = some r)
    (hi : (s.lane p n).tx.rangeIdle = false) (hs : (s.lane p n).tx.state ≠ .safe) (hf : (s.port p).soundsOn n = false) :
    execRangeIdleStart p n s = .next (s.modLane p n fun l =>
      { l with tx := { l.tx with rangeIdle := true, resume := l.tx.state, state := l.tx.state.toIdle } }) := by
  simp [execRangeIdleStart, hr, hi, hs, hf]

/-- RANGE_TAKE_EFFECT ends the idle slot with the new range in force (R49). -/
theorem execRangeTakeEffect_idle {p : PortId} {n : LaneId} {s : State} {r : Nat} (hr : (s.lane p n).tx.rangeNext = some r)
    (hi : (s.lane p n).tx.rangeIdle = true) (hs : (s.lane p n).tx.state ≠ .safe) :
    execRangeTakeEffect p n s = .next (s.modLane p n fun l =>
      { l.setRange r with tx := { l.tx with
          rangeNext := none, rangeIdle := false, state := if l.tx.state = .idle then l.tx.resume else l.tx.state } }) := by
  simp only [execRangeTakeEffect, hr, hi, hs, Bool.not_true, Bool.false_or, decide_false, Bool.false_eq_true, if_false]
  rfl

/-! ### Compliance monitor -/

/-- Pins of a duplex port within the limits of Table 2.6 violate nothing, where the swing is not judged. -/
theorem compFlags_within {range vcm pMax pMin nMax nMin swing : Nat} (h₁ : pMax ≤ 13500) (h₂ : 500 ≤ pMin) (h₃ : nMax ≤ 13500)
    (h₄ : 500 ≤ nMin) : compFlags true false range vcm pMax pMin nMax nMin swing = 0 := by
  have pHigh : ¬ (13500 : Int) < pMax := by omega
  have pLow : ¬ (pMin : Int) < 500 := by omega
  have nHigh : ¬ (13500 : Int) < nMax := by omega
  have nLow : ¬ (nMin : Int) < 500 := by omega
  simp [compFlags, b2n, pHigh, pLow, nHigh, nLow]

/-- A bank after every element became the same. -/
theorem mapIdx_const {α : Type} {n : Nat} (v : Vector α n) (c : α) : (mapIdx v fun _ _ => c) = Vector.replicate n c := by
  ext i hi
  simp [mapIdx]

/-- Runs that all stand at 0 set no flag (R54). -/
theorem compAt_clear {t : LaneTx} (h : t.compRun = Vector.replicate 5 0) : t.compAt = 0 := by
  rw [LaneTx.compAt, h]
  decide

/-- COMPLIANCE_INTERVAL of a monitored duplex lane in IDLE whose pins stay within the limits: the runs are 0 and the condition ends
(R54, R55). -/
theorem execComplianceInterval_within {p : PortId} {n : LaneId} {vcm pMax pMin nMax nMin swing : Nat} {s : State}
    (he : (s.lane p n).tx.compEn = true) (hi : (s.lane p n).tx.state = .idle) (hd : (s.port p).duplex = true)
    (h₁ : pMax ≤ 13500) (h₂ : 500 ≤ pMin) (h₃ : nMax ≤ 13500) (h₄ : 500 ≤ nMin) :
    execComplianceInterval p n vcm pMax pMin nMax nMin swing s = .next (endCond .compliance (.lane p n)
      (s.modLane p n fun l => { l with tx := { l.tx with compRun := Vector.replicate 5 0, compCur := 0 } })) := by
  have hm : (s.lane p n).tx.monitored = true := by simp [LaneTx.monitored, he, hi]
  simp [execComplianceInterval, hm, hi, hd, compFlags_within h₁ h₂ h₃ h₄, mapIdx_const, compAt_clear]

/-! ### Tone generator -/

/-- In RAMP the generator runs along the ramp from where it stands (R56, R58). -/
theorem toneAdvance_ramp {l : Lane} (k : Nat) (h : toneMode (l.act .txToneCtrl) = 2) :
    ((l.toneAdvance k).tx.facc.toNat, (l.toneAdvance k).tx.phase.toNat) =
      let r := toneRun l.tx.toneStart.toNat l.tx.toneStop.toNat (signed 32 l.tx.toneRamp.toNat) k (l.tx.facc.toNat, l.tx.phase.toNat)
      (r.1 % 2 ^ 48, r.2 % 2 ^ 32) := by
  simp [Lane.toneAdvance, h]

/-- The samples of a generator leave the registers in force. -/
@[simp] theorem toneAdvance_act (l : Lane) (k : Nat) (r : LaneSt) : (l.toneAdvance k).act r = l.act r := rfl

/-- The modem loads the first of the chirps that are still to start (R58, R133). -/
theorem nextSeg_cons {l : Lane} {g : ToneSeg} {rest : List ToneSeg} (h : l.tx.segs = g :: rest) :
    l.nextSeg = { l.loadSeg g with tx := { (l.loadSeg g).tx with segs := rest } } := by
  rw [Lane.nextSeg, h]

/-- TONE_RAMP_RELOAD outside MODEM is the samples alone (R56). -/
theorem execToneRampReload_free {p : PortId} {n : LaneId} {k : Nat} {s : State}
    (h : toneMode ((s.lane p n).act .txToneCtrl) ≠ 3) :
    ∃ t, execToneRampReload p n k s = .next t ∧ t.lane p n = (s.lane p n).toneAdvance k :=
  ⟨_, rfl, by simp [h]⟩

/-- TONE_RAMP_RELOAD in MODEM is the samples and then the next chirp (R58, R133). -/
theorem execToneRampReload_modem {p : PortId} {n : LaneId} {k : Nat} {s : State}
    (h : toneMode ((s.lane p n).act .txToneCtrl) = 3) :
    ∃ t, execToneRampReload p n k s = .next t ∧ t.lane p n = ((s.lane p n).toneAdvance k).nextSeg :=
  ⟨_, rfl, by simp [h]⟩

/-- A write of TX_TONE_STOP in DOWN sets STOP, within the largest FTW (R57, R60). -/
theorem writeToneReg_stop {who : Initiator} {p : PortId} {n : LaneId} {v : Word} {s : State} (h : (s.port p).link.state = .down) :
    writeToneReg who p n 2 v s = written (s.modLane p n fun l => { l with tx := { l.tx with toneStop := ftwWrite v } }) := by
  rw [writeToneReg, if_neg (not_not_intro h)]

/-- TX_TONE_REG_WRITE of TX_TONE_STOP is the write of the register, where it reaches it (R60). -/
theorem execTxToneRegWrite_stop_reaches {who : Initiator} {p : PortId} {n : LaneId} {v : Word} {s : State}
    (h : WriteReaches who s (laneBase p n + 0x60)) :
    execTxToneRegWrite who p n 2 v s = .next (writeToneReg who p n 2 v s) :=
  congrArg _ (regWrite_reaches h)

/-- Settles O2: each command's own condition holds, and its result is the named operation of the port or of the lane. -/
theorem transmitterCommandsComplete : Obligations.TransmitterCommandsComplete := by
  unfold Obligations.TransmitterCommandsComplete
  refine ⟨fun p s hp hs hd => execSlotBoundary_running hp hs hd, fun p n s target hw hl hs ht => ?_,
    fun p n s a b hc hd hab ha hb => ?_, fun p n s r hr hi hs hf => ?_, fun p n s r hr hi hs h4 => ?_,
    fun p n vcm pMax pMin nMax nMin swing s he hi hd h₁ h₂ h₃ h₄ => ?_, fun p n s k hm => ?_, fun p n s k g rest hm hg => ?_,
    fun who p n v s hw hd => ?_⟩
  · refine ⟨_, execFfeWalkStep_due hw hl hs, ?_⟩
    rw [modLane_lane, walkStep_walking ht]
    exact ⟨setTaps_act_ffe0 .., setTaps_act_ffe1 .., rfl, rfl⟩
  · refine ⟨_, execDacCellExchange_due hc hd hab ha hb, ?_⟩
    rw [modLane_lane]
    exact ⟨rfl, rfl, rfl, rfl⟩
  · refine ⟨_, execRangeIdleStart_waiting hr hi (by simp [hs]) hf, ?_⟩
    rw [modLane_lane]
    exact ⟨rfl, congrArg TxState.toIdle hs, hs⟩
  · refine ⟨_, execRangeTakeEffect_idle hr hi hs, ?_⟩
    rw [modLane_lane]
    exact ⟨setRange_range h4, rfl, rfl⟩
  · refine ⟨_, execComplianceInterval_within he hi hd h₁ h₂ h₃ h₄, ?_⟩
    rw [modLane_lane]
  · obtain ⟨t, ht, hlane⟩ := execToneRampReload_free (k := k) (by rw [hm]; decide)
    refine ⟨t, ht, ?_⟩
    rw [hlane]
    exact ⟨rfl, toneAdvance_ramp k hm⟩
  · obtain ⟨t, ht, hlane⟩ := execToneRampReload_modem (k := k) hm
    refine ⟨t, ht, ?_⟩
    rw [hlane, nextSeg_cons (l := (s.lane p n).toneAdvance k) hg]
    exact ⟨rfl, rfl, rfl, rfl, rfl⟩
  · refine ⟨_, (execTxToneRegWrite_stop_reaches hw).trans (congrArg _ (writeToneReg_stop hd)), ?_⟩
    rw [written_lane, modLane_lane]
    exact ⟨rfl, rfl, written_reply _⟩

end Sys2Proof
end

section
/-!
PROOFS. Where the commands of the line receiver complete, and with what (O3).
-/
namespace Sys2Proof

open Sys2Proof.Machine

/-! ### What samples and a queued TRAIN_STAT leave -/

/-- Samples change the receiver of their lane alone. -/
theorem receive_lane (p : PortId) (n : LaneId) (xs : List RxSample) (s : State) :
    (receive p n xs s).lane p n = { s.lane p n with rx := (s.port p).rxRun n xs } := by
  simp [receive, State.lane]

/-- Samples leave the registers in force. -/
@[simp] theorem receive_act (p : PortId) (n : LaneId) (xs : List RxSample) (s : State) (r : LaneSt) :
    ((receive p n xs s).lane p n).act r = (s.lane p n).act r := by
  rw [receive_lane]
  rfl

/-- Samples leave the transmitter. -/
@[simp] theorem receive_tx (p : PortId) (n : LaneId) (xs : List RxSample) (s : State) :
    ((receive p n xs s).lane p n).tx = (s.lane p n).tx := by
  rw [receive_lane]

/-- Samples leave the mode of the port. -/
@[simp] theorem receive_ieeeMode (p : PortId) (n : LaneId) (xs : List RxSample) (s : State) :
    ((receive p n xs s).port p).ieeeMode = (s.port p).ieeeMode := by
  rw [receive, modPort_port]
  rfl

/-- A TRAIN_STAT that waits leaves the lanes (R167). -/
@[simp] theorem queueTs_lane (p : PortId) (n : LaneId) (s : State) : (queueTs p s).lane p n = s.lane p n := by
  unfold queueTs
  split
  · rfl
  · simp [queueCm, State.lane]

/-- A rise of CONV or of CDR lock leaves the lanes (R167). -/
@[simp] theorem tsRise_lane (p : PortId) (n : LaneId) (s : State) : (tsRise p s).lane p n = s.lane p n := by
  unfold tsRise
  split
  · rw [queueTs_lane]
    simp [State.lane]
  · rfl

/-- Reporting a rise, or not, leaves the lanes. -/
theorem rise_lane (rise : Prop) [Decidable rise] (p : PortId) (n : LaneId) (s : State) :
    (if rise then tsRise p s else s).lane p n = s.lane p n := by
  split
  · exact tsRise_lane p n s
  · rfl

/-! ### AGC -/

section Agc

variable {p : PortId} {n : LaneId} {xs : List RxSample} {s : State} {x : LaneRx}

/-- AGC_STEP at the end of an interval of JOINT moves the gain, where the RMS is off the target and the epoch so far is active
(R65, R85). -/
theorem execAgcStep_joint (hx : x = ((receive p n xs s).lane p n).rx) (hj : x.phase = .joint)
    (hm : bits ((s.lane p n).act .rxCtrl) 13 12 ≠ 2) (hc : agcSymbols ≤ x.run.agcCnt)
    (ho : agcOk x.agcTarget x.run.agcSq x.run.agcCnt = false) (ha : agcActive x.agcTarget x.run.epSq x.run.epCnt = true) :
    ∃ t, execAgcStep p n xs s = .next t ∧ t.lane p n = { (receive p n xs s).lane p n with
      rx := { x.endInterval (decide (epochSymbols ≤ x.run.epCnt)) true with
        vga := agcMove x.agcTarget x.run.agcSq x.run.agcCnt x.vga } } := by
  refine ⟨_, rfl, ?_⟩
  by_cases hv : agcMove x.agcTarget x.run.agcSq x.run.agcCnt x.vga = x.vga
  · simp [← hx, hj, hm, Nat.not_lt.mpr hc, ho, ha, hv, LaneRx.endInterval]
  · simp [← hx, hj, hm, Nat.not_lt.mpr hc, ho, ha, hv]

/-- AGC_STEP at the end of an epoch of TRACK makes the step of the gain due, where the last one lies 64 slots back (R65, R90). -/
theorem execAgcStep_track (hx : x = ((receive p n xs s).lane p n).rx) (ht : x.phase = .track)
    (hm : bits ((s.lane p n).act .rxCtrl) 13 12 ≠ 2) (hc : epochSymbols ≤ x.run.epCnt)
    (ho : agcOk x.agcTarget x.run.epSq x.run.epCnt = false) (ha : agcActive x.agcTarget x.run.epSq x.run.epCnt = true)
    (hv : agcMove x.agcTarget x.run.epSq x.run.epCnt x.vga ≠ x.vga) (hage : 64 ≤ x.vgaAge) :
    ∃ t, execAgcStep p n xs s = .next t ∧ t.lane p n = { (receive p n xs s).lane p n with
      rx := { x.endInterval true true with
        vgaDue := some (decide (x.vga < agcMove x.agcTarget x.run.epSq x.run.epCnt x.vga)) } } := by
  refine ⟨_, rfl, ?_⟩
  simp [← hx, ht, hm, hc, Nat.not_lt.mpr hc, ho, ha, hv, Nat.not_lt.mpr hage, LaneRx.endInterval]

end Agc

/-! ### Slice rotation -/

/-- SLICE_SWAP that is due in FAR swaps the slices (R68, R92). -/
theorem execSliceSwap_far {p : PortId} {n : LaneId} {s : State} (hd : swapDue (s.lane p n) = true)
    (hf : (s.lane p n).rx.phase = .far) :
    execSliceSwap p n s =
      .next (s.modLane p n fun l => { l with rx := { l.rx with slices := l.rx.slices.swap, sinceChange := 0 } }) := by
  simp [execSliceSwap, hd, hf]

/-- A slice that shows no difference from the outgoing one keeps its calibrated trims (R69, step 4). -/
theorem matchTrims_zero (cal : Int × Int × Int) : matchTrims cal (0, 0, 0) = cal := by
  simp [matchTrims]

/-- A trim at its calibrated value stays there (R69, step 4). -/
theorem trimTowards_self (v : Int) : trimTowards v v = v := by
  simp [trimTowards]

/-- What follows a calibrated slice: the lane's spare condition, and the ramp check at each 1,024th slice of the pod (R408). -/
def afterSliceCal (p : PortId) (n : LaneId) (slope inl : Int) (s : State) : State :=
  let u := checkSpare p n s
  if podSliceCals (podOf p) u % 1024 = 0 then rampSample (podOf p) slope inl u else u

/-- A slice calibration runs on a lane: its rotation is not stopped, no calibrated slice waits, the receiver runs, and the live comparison
can have run (R69, R93). -/
def CalibratesSlice (p : PortId) (n : LaneId) (s : State) : Prop :=
  (s.lane p n).rx.slices.stopped = false ∧ (s.lane p n).rx.slices.calDone = false ∧ (s.lane p n).rx.phase ≠ .off ∧
    (s.lane p n).rx.phase ≠ .hold ∧ comparisonFits (s.port p) = true

section SliceCal

variable {p : PortId} {n : LaneId} {cal diff : Int × Int × Int} {slope inl : Int} {s : State}

/-- SLICE_CAL_DONE of a slice none of whose comparators is quiet enough fails the slice (R70, R71). -/
theorem execSliceCalDone_noComparator {comps : List (Int × Nat)} (hrun : CalibratesSlice p n s)
    (hnone : chooseComparator s.boot.limits.compNoise comps = none) :
    execSliceCalDone p n cal diff comps slope inl s = .next (afterSliceCal p n slope inl (s.modLane p n fun l =>
      { l.calResult 1 2 with rx := { l.rx with slices :=
          { (s.lane p n).rx.slices.failInCal with calCount := (s.lane p n).rx.slices.calCount + 1 } } })) := by
  obtain ⟨hstop, hdone, hoff, hhold, hfit⟩ := hrun
  simp [execSliceCalDone, hstop, hdone, hoff, hhold, hfit, hnone, afterSliceCal]

/-- SLICE_CAL_DONE of a slice within every limit and equal to the outgoing one puts its values in force (R69, R70). -/
theorem execSliceCalDone_accepts {v : Nat} (hrun : CalibratesSlice p n s)
    (hsome : chooseComparator s.boot.limits.compNoise [(0, v)] = some 0) (href : refCheckBad s p = false)
    (hok : s.boot.limits.sliceOk cal.1 cal.2.1 cal.2.2 v = true)
    (hstep : s.boot.limits.sliceStepOk
      ((s.lane p n).rx.slices.results.getD (s.lane p n).rx.slices.inCal (0, 0, 0)) cal = true) :
    execSliceCalDone p n cal (0, 0, 0) [(0, v)] slope inl s = .next (afterSliceCal p n slope inl (s.modLane p n fun l =>
      { l.calResult 1 1 with rx := { l.rx with slices :=
          { (s.lane p n).rx.slices.accept (s.lane p n).rx.slices.inCal cal cal 0 with
            calDone := true, calCount := (s.lane p n).rx.slices.calCount + 1 } } })) := by
  obtain ⟨hstop, hdone, hoff, hhold, hfit⟩ := hrun
  simp [execSliceCalDone, hstop, hdone, hoff, hhold, hfit, hsome, href, hok, hstep, matchTrims_zero, trimTowards_self,
    afterSliceCal, -List.getD_eq_getElem?_getD]

end SliceCal

/-! ### Echo canceller -/

/-- ECHO_SEARCH_END of a phase that has not been searched places the windows (R77). -/
theorem execEchoSearchEnd_unsearched {p : PortId} {n : LaneId} {xs : List RxSample} {s : State}
    (he : (s.lane p n).rx.phase = .echo) (hn : (s.lane p n).rx.searched = false) :
    execEchoSearchEnd p n xs s = .next (s.modLane p n fun l =>
      { l with rx := { l.rx with ecStart := l.ecPlaced (searchLags (bitOf (l.act .rxCtrl) 8) xs), searched := true } }) := by
  simp [execEchoSearchEnd, he, hn]

/-- ECHO_CONVERGE in ECHO takes the hybrid trims of the least power, reports the echo, and sets CONV where the residual has been low
long enough (R66, R77, R87). -/
theorem execEchoConverge_echo {p : PortId} {n : LaneId} {k : Nat} {ks : List Nat} {xs : List RxSample} {s : State} {x : LaneRx}
    (hx : x = ((receive p n xs s).lane p n).rx) (he : (s.lane p n).rx.phase = .echo) :
    ∃ t, execEchoConverge p n (k :: ks) xs s = .next t ∧ (t.lane p n).rx =
      { x.report with conv := x.conv || decide (16384 ≤ x.run.echoRun),
                      hybR := leastAt ((k :: ks).take 256) / 16, hybC := leastAt ((k :: ks).take 256) % 16 } := by
  subst hx
  refine ⟨_, by rw [execEchoConverge, if_neg (not_not_intro he)], ?_⟩
  rw [rise_lane, modLane_lane]
  rfl

/-! ### SNR -/

/-- The receiver after an SNR window in which something was decided (R64, R86, R87, R128): the window's SNR, CONV and CDR lock, and the best
PEAK and LF of a first search in FAR. -/
def Machine.LaneRx.windowEnd (x : LaneRx) (ieee lock : Bool) (floor : Nat) (trials : List Nat) : LaneRx :=
  let snr := snrOf ieee (x.estUnit ieee) x.run.errSum x.run.errCnt
  let hist := (snr :: x.snrHist).take 4
  let search := decide (x.phase = .far) && decide (128 ≤ trials.length) && !x.searched
  { x with snr := snr, snrHist := hist, cdrLock := x.cdrLock || (lock && (ieee || decide (x.freqOfs.natAbs ≤ 300))),
           conv := x.conv || decide (x.phase = .track) || snrConv floor hist,
           peak := if search then (bestCtle trials).1 else x.peak, lf := if search then (bestCtle trials).2 else x.lf,
           searched := x.searched || search, run := { x.run with errSum := 0, errCnt := 0 } }

/-- A window of TRACK keeps PEAK and LF, and CONV is set (R64, R87). -/
theorem windowEnd_track {x : LaneRx} {ieee lock : Bool} {floor : Nat} {trials : List Nat} (ht : x.phase = .track) :
    (x.windowEnd ieee lock floor trials).peak = x.peak ∧ (x.windowEnd ieee lock floor trials).lf = x.lf ∧
      (x.windowEnd ieee lock floor trials).conv = true := by
  simp [LaneRx.windowEnd, ht]

/-- A window of FAR with the 128 combinations tried, and none before, ends the search with the best of them (R64). -/
theorem windowEnd_searches {x : LaneRx} {ieee lock : Bool} {floor : Nat} {trials : List Nat} (hf : x.phase = .far)
    (hlen : 128 ≤ trials.length) (hn : x.searched = false) :
    ((x.windowEnd ieee lock floor trials).peak, (x.windowEnd ieee lock floor trials).lf) = bestCtle trials ∧
      (x.windowEnd ieee lock floor trials).searched = true := by
  simp [LaneRx.windowEnd, hf, hlen, hn]

/-- SNR_WINDOW_END of a window in which something was decided, in FAR, JOINT or TRACK (R86). -/
theorem execSnrWindowEnd_judged {p : PortId} {n : LaneId} {lock : Bool} {trials : List Nat} {xs : List RxSample} {s : State}
    {x : LaneRx} (hx : x = ((receive p n xs s).lane p n).rx) (hj : x.phase = .far ∨ x.phase = .joint ∨ x.phase = .track)
    (hd : x.run.errCnt ≠ 0) :
    ∃ t, execSnrWindowEnd p n lock trials xs s = .next t ∧
      (t.lane p n).rx = x.windowEnd (s.port p).ieeeMode lock (s.lane p n).snrMin trials := by
  have hjudges : (decide (x.phase = .far) || decide (x.phase = .joint) || decide (x.phase = .track)) = true := by
    simpa [or_assoc] using hj
  subst hx
  refine ⟨_, by
    simp only [execSnrWindowEnd, hjudges, hd, Bool.not_true, Bool.false_or, decide_false, Bool.false_eq_true, if_false]
    rfl, ?_⟩
  rw [rise_lane, modLane_lane, Lane.snrMin, receive_ieeeMode, receive_act]
  rfl

/-! ### The anchor -/

/-- ALIGN_FOLIO_RECEIVE in TRACK reports the echo, clears what the folio's period gathered, and is an anchor point (R77, R88 to R91). -/
theorem execAlignFolioReceive_track {p : PortId} {n : LaneId} {ds : List Int} {xs : List RxSample} {s u : State}
    (hu : u = receive p n xs s) (ht : (u.lane p n).rx.phase = .track) :
    execAlignFolioReceive p n ds xs s = .next (anchorPoint p n
      (patternMatches ds && decide ((u.lane p n).rx.uncSince = 0) && decide ((u.lane p n).snrMin ≤ (u.lane p n).rx.snr)
        && (u.lane p n).rx.run.halfActive)
      ((echoReport p n u).modLane p n fun l =>
        { l with rx := { l.rx with uncSince := 0,
                                   run := { l.rx.run with epochs := 0, epochsActive := 0, farSum := 0, ownSum := 0, farCnt := 0 } },
                 cal := { l.cal with ctleAge := l.cal.ctleAge + 1 } })) := by
  subst hu
  exact congrArg _ (if_neg (not_not_intro ht))

/-- ANCHOR_REVERT that is due takes the anchor back, and with fewer than three in a row raises nothing (R89, R91). -/
theorem execAnchorRevert_stable {p : PortId} {n : LaneId} {s : State} (hd : (s.lane p n).rx.revDue = true)
    (hh : (s.lane p n).rx.held = false) (hu : (s.lane p n).rx.unstable = false) (hr : (s.lane p n).rx.revSince < 2) :
    execAnchorRevert p n s = .next (s.modLane p n fun l =>
      { l with rx := { l.rx with coefs := l.rx.anchor, resid := Coefs.zero, revert := satAdd 16 l.rx.revert 1, revDue := false,
                                 revSince := l.rx.revSince + 1,
                                 unstable := l.rx.unstable || decide (3 ≤ l.rx.revSince + 1) } }) := by
  have hfew : ¬ 2 ≤ (s.lane p n).rx.revSince := Nat.not_le.mpr hr
  simp [execAnchorRevert, hd, hh, hu, hfew]

/-! ### Eye figures -/

/-- EYE_HEIGHT_UPDATE in TRACK loads the height of the eye (R267). -/
theorem execEyeHeightUpdate_track {p : PortId} {n : LaneId} {codes : List Nat} {s : State} (ht : (s.lane p n).rx.phase = .track) :
    execEyeHeightUpdate p n codes s =
      .next (s.modLane p n fun l => { l with qual := { l.qual with eyeH := Nat.min 255 (emptyRun (histOf codes)) } }) :=
  congrArg _ (if_neg (not_not_intro ht))

/-- EYE_WIDTH_UPDATE in TRACK with the rotation not stopped loads the width of the eye (R268). -/
theorem execEyeWidthUpdate_track {p : PortId} {n : LaneId} {offsets : List (List Nat)} {s : State}
    (ht : (s.lane p n).rx.phase = .track) (hs : (s.lane p n).rx.slices.stopped = false) :
    execEyeWidthUpdate p n offsets s = .next (s.modLane p n fun l =>
      { l with qual := { l.qual with eyeW := 2 * openRun (offsets.map fun l => decide (0 < emptyRun (histOf l))) } }) := by
  simp [execEyeWidthUpdate, ht, hs]

/-- Settles O3: each command's own condition holds, and its result is the named change of the lane's receiver or of its figures. -/
theorem receiverCommandsComplete : Obligations.ReceiverCommandsComplete := by
  unfold Obligations.ReceiverCommandsComplete
  refine ⟨fun p n xs s x hx hj hm hc ho ha => ?_, fun p n xs s x hx ht hm hc ho ha hv hage => ?_, fun p n s hd hf => ?_,
    fun p n cal diff comps slope inl s hstop hdone hoff hhold hfit hnone =>
      ⟨_, execSliceCalDone_noComparator ⟨hstop, hdone, hoff, hhold, hfit⟩ hnone, rfl⟩,
    fun p n cal diff v slope inl s hstop hdone hoff hhold hfit hsome href hdiff hok hstep => ?_,
    fun p n xs s he hn => ?_, fun p n k ks xs s x hx he => ?_, fun p n lock trials xs s x hx ht hd => ?_,
    fun p n lock trials xs s x hx hf hd hlen hn => ?_, fun p n ds xs s u hu ht => execAlignFolioReceive_track hu ht,
    fun p n s hd hh hu hr => ?_, fun p n codes s ht => ?_, fun p n offsets s ht hs => ?_⟩
  · obtain ⟨t, hnext, hlane⟩ := execAgcStep_joint hx hj hm hc ho ha
    refine ⟨t, hnext, ?_⟩
    rw [hlane]
    exact ⟨rfl, rfl, receive_tx ..⟩
  · obtain ⟨t, hnext, hlane⟩ := execAgcStep_track hx ht hm hc ho ha hv hage
    refine ⟨t, hnext, ?_⟩
    rw [hlane]
    exact ⟨rfl, rfl, rfl⟩
  · refine ⟨_, execSliceSwap_far hd hf, ?_⟩
    rw [modLane_lane]
    exact ⟨rfl, rfl, rfl⟩
  · subst hdiff
    exact ⟨_, execSliceCalDone_accepts ⟨hstop, hdone, hoff, hhold, hfit⟩ hsome href hok hstep, rfl⟩
  · refine ⟨_, execEchoSearchEnd_unsearched he hn, ?_⟩
    rw [modLane_lane]
    exact ⟨rfl, he, rfl⟩
  · obtain ⟨t, hnext, hrx⟩ := execEchoConverge_echo (k := k) (ks := ks) hx he
    refine ⟨t, hnext, ?_⟩
    rw [hrx]
    exact ⟨rfl, rfl, rfl, rfl, rfl⟩
  · obtain ⟨t, hnext, hrx⟩ := execSnrWindowEnd_judged (lock := lock) (trials := trials) hx (.inr (.inr ht)) hd
    refine ⟨t, hnext, ?_⟩
    obtain ⟨hpeak, hlf, hconv⟩ := windowEnd_track ht
    rw [hrx]
    exact ⟨rfl, rfl, hpeak, hlf, rfl, hconv⟩
  · obtain ⟨t, hnext, hrx⟩ := execSnrWindowEnd_judged (lock := lock) (trials := trials) hx (.inl hf) hd
    refine ⟨t, hnext, ?_⟩
    rw [hrx]
    exact windowEnd_searches hf hlen hn
  · refine ⟨_, execAnchorRevert_stable hd hh hu hr, ?_⟩
    rw [modLane_lane]
    exact ⟨rfl, rfl, rfl, rfl⟩
  · refine ⟨_, execEyeHeightUpdate_track ht, ?_⟩
    rw [modLane_lane]
    exact ⟨rfl, rfl, rfl⟩
  · refine ⟨_, execEyeWidthUpdate_track ht hs, ?_⟩
    rw [modLane_lane]
    exact ⟨rfl, rfl, rfl⟩

end Sys2Proof
end

section
/-!
PROOFS. The scrambler: its step, its discarded outputs, the words of its keystream, and its seeds (O57).
-/
namespace Sys2Proof

open Sys2Proof.Machine

/-! ### Steps -/

/-- What a step puts at s[0], which is its output: s[57] XOR s[38] (R104). -/
theorem ksStep_output (s : BitVec 58) : (ksStep s).getLsbD 0 = (s.getLsbD 57 ^^ s.getLsbD 38) := by
  simp [ksStep]

/-- A step shifts every other bit of the state left by one (R104). -/
theorem ksStep_shifts (s : BitVec 58) {i : Nat} (h : i < 57) : (ksStep s).getLsbD (i + 1) = s.getLsbD i := by
  have hin : i + 1 < 58 := by omega
  simp [ksStep, hin, BitVec.getLsbD_eq_getElem (show i < 58 by omega)]

/-- Steps one after another. -/
theorem ksRun_add (m n : Nat) (s : BitVec 58) : ksRun (m + n) s = ksRun n (ksRun m s) := by
  induction m generalizing s with
  | zero => rw [Nat.zero_add, ksRun]
  | succ m ih => rw [Nat.succ_add, ksRun, ksRun, ih]

/-! ### Words of the keystream -/

/-- The state after the outputs of a word. -/
theorem ksBits_state (n : Nat) (a : BitVec 256) (s : BitVec 58) : (ksBits n a s).2 = ksRun n s := by
  induction n generalizing a s with
  | zero => rfl
  | succ n ih => exact ih ..

/-- The bits that n outputs shift into a word: each output lies as far from bit 0 as outputs follow it, and what the word held lies above
them. -/
theorem ksBits_getLsbD (n : Nat) (a : BitVec 256) (s : BitVec 58) {i : Nat} (hi : i < 256) :
    (ksBits n a s).1.getLsbD i = if i < n then (ksRun (n - i) s).getLsbD 0 else a.getLsbD (i - n) := by
  induction n generalizing a s with
  | zero => rfl
  | succ n ih =>
    rw [ksBits, ih]
    rcases Nat.lt_trichotomy i n with hlt | rfl | hgt
    · rw [if_pos hlt, if_pos (by omega), show n + 1 - i = n - i + 1 by omega, ksRun]
    · simp [ksRun]
    · have hin : i - n < 256 := by omega
      have hpos : i - n ≠ 0 := by omega
      rw [if_neg (by omega), if_neg (by omega)]
      simp [hin, hpos, Nat.sub_sub, BitVec.getLsbD_eq_getElem (show i - (n + 1) < 256 by omega)]

/-- The words of a keystream follow one another, 256 outputs each. -/
theorem ksWords_go_getElem? {n k : Nat} (s : BitVec 58) (h : k < n) :
    (ksWords.go n s)[k]? = some (ksBits 256 0 (ksRun (256 * k) s)).1 := by
  induction k generalizing n s with
  | zero =>
    cases n with
    | zero => exact absurd h (Nat.not_lt_zero _)
    | succ n => rfl
  | succ k ih =>
    cases n with
    | zero => exact absurd h (Nat.not_lt_zero _)
    | succ n =>
      rw [ksWords.go, List.getElem?_cons_succ, ih _ (Nat.lt_of_succ_lt_succ h), ksBits_state, ← ksRun_add,
        Nat.mul_succ, Nat.add_comm]

/-- Bit 255 − j of the k-th word is the output of the step j + 1 after the 64 discarded ones and the words before it (R104). -/
theorem ksWords_output {n k : Nat} (seed : BitVec 58) (h : k < n) :
    ∃ w, (ksWords seed n)[k]? = some w ∧
      ∀ j, j < 256 → w.getLsbD (255 - j) = (ksRun (64 + 256 * k + j + 1) seed).getLsbD 0 := by
  refine ⟨_, ksWords_go_getElem? _ h, fun j hj => ?_⟩
  rw [ksBits_getLsbD _ _ _ (by omega), if_pos (by omega), show 256 - (255 - j) = j + 1 by omega, ← ksRun_add, ← ksRun_add,
    ← Nat.add_assoc, ← Nat.add_assoc]

/-! ### Seeds -/

/-- The four parts of a word put together of three words of 16 bits and one of 10. -/
theorem extractLsb'_four_parts (a b c : BitVec 16) (d : BitVec 10) :
    (a ++ b ++ c ++ d).extractLsb' 42 16 = a ∧ (a ++ b ++ c ++ d).extractLsb' 26 16 = b ∧
      (a ++ b ++ c ++ d).extractLsb' 10 16 = c ∧ (a ++ b ++ c ++ d).extractLsb' 0 10 = d := by
  refine ⟨?_, ?_, ?_, BitVec.extractLsb'_append_eq_right⟩
  · rw [BitVec.extractLsb'_append_eq_of_le (by decide), BitVec.extractLsb'_append_eq_of_le (by decide)]
    exact BitVec.extractLsb'_append_eq_left
  · rw [BitVec.extractLsb'_append_eq_of_le (by decide), BitVec.extractLsb'_append_eq_of_le (by decide)]
    exact BitVec.extractLsb'_append_eq_right
  · rw [BitVec.extractLsb'_append_eq_of_le (by decide)]
    exact BitVec.extractLsb'_append_eq_right

/-- Where the seed places the key and its complement (R104). -/
theorem ksSeed_places (key : BitVec 16) :
    (ksSeed key).extractLsb' 42 16 = key ∧ (ksSeed key).extractLsb' 26 16 = ~~~key ∧ (ksSeed key).extractLsb' 10 16 = key ∧
      (ksSeed key).extractLsb' 0 10 = (~~~key).extractLsb' 6 10 :=
  extractLsb'_four_parts ..

/-- No key gives the zero state: the seed holds the key and its complement. -/
theorem ksSeed_ne_zero (key : BitVec 16) : ksSeed key ≠ 0 := by
  intro h
  obtain ⟨hkey, hcompl, -, -⟩ := ksSeed_places key
  rw [h] at hkey hcompl
  have hbit : key.getLsbD 0 = (~~~key).getLsbD 0 := congrArg (BitVec.getLsbD · 0) (hkey.symm.trans hcompl)
  simp at hbit

/-- Settles O57: a step by its two facts, the words by the steps before each of their bits, and the seed by its four parts. -/
theorem keystreamGenerator : Obligations.KeystreamGenerator := by
  unfold Obligations.KeystreamGenerator
  exact ⟨fun s => ⟨ksStep_output s, fun i h => ksStep_shifts s h⟩, fun seed n k h => ksWords_output seed h, ksSeed_places,
    fun i h => by rw [seedW, BitVec.getLsbD_allOnes, decide_eq_true h], ksSeed_ne_zero, by decide⟩

end Sys2Proof
end

section
/-!
PROOFS. Where the commands of folios and alignment complete, and with what (O4).
-/
namespace Sys2Proof

open Sys2Proof.Machine

section Folio

variable {p : PortId} {n : LaneId} {s : State}

/-! ### Folios -/

/-- FOLIO_RECEIVE of a folio that does not decode, on a lane whose partner's count is not projected yet: its headers are counted, and it is
an uncorrectable folio (R102, R106, R109). -/
theorem execFolioReceive_undecodable {f : RxFolio} (ht : (s.port p).takesFolio n = true) (hr : (s.port p).recv n = none)
    (hd : decodeFolio (bitOf ((s.port p).act .fecCtrl) 15) (bits ((s.port p).act .fecCtrl) 3 0)
      (bits ((s.port p).act .fecCtrl) 14 8) f = none) :
    execFolioReceive p n f s =
      .next (folioBad p n (missAlign p n ((s.modLane p n fun l => { l with code := l.code.headers f.invalid }).modPort p
        fun q => { q with code := { q.code with winRecv := q.code.winRecv + 1 } }))) := by
  simp [execFolioReceive, ht, hr, hd]

/-- NAK_REPEAT_DUE of a place whose NAK was sent once makes the second send due, where more than one is asked for (R200). -/
theorem execNakRepeatDue_once {slot : Nat}
    (hn : (s.port p).lre.naks = [{ lane := n.val, slot := slot, sends := 1, due := false, busy := false, waited := true }])
    (hs : 1 < bits ((s.port p).act .lreCtrl) 5 4) :
    ∃ t, execNakRepeatDue p n slot s = .next t ∧
      (t.port p).lre.naks = [{ lane := n.val, slot := slot, sends := 1, due := true, busy := false, waited := true }] ∧
      t.fw = s.fw ∧ t.flt = s.flt := by
  refine ⟨_, rfl, ?_, modPort_fw .., modPort_flt ..⟩
  simp [hn, hs]

/-! ### Block lock -/

/-- BLOCK_LOCK_ACQUIRE with a hypothesis of the round that locks: block lock stands at it (R108). -/
theorem execBlockLockAcquire_locks {headers : List (List Bool)} {i : Nat} (hh : (s.lane p n).code.hunting = true)
    (hr : (huntRound headers).1 = some i) :
    execBlockLockAcquire p n headers s = .next (s.modLane p n fun l =>
      { l with code := { l.code with
          lock := true, hyp := (l.code.hyp + i) % 3440, invalidAt := [], lockDue := false, consecUnc := 0,
          state := if l.code.state = .hunt then .locked else l.code.state } }) := by
  simp [execBlockLockAcquire, hh, hr]

/-- BLOCK_LOCK_ACQUIRE with every hypothesis rejected: the next round begins 172 hypotheses on (R108). -/
theorem execBlockLockAcquire_rejects {headers : List (List Bool)} (hh : (s.lane p n).code.hunting = true)
    (hr : huntRound headers = (none, true)) :
    execBlockLockAcquire p n headers s = .next (s.modLane p n fun l =>
      { l with code := { l.code with hyp := (l.code.hyp + 172) % 3440 } }) := by
  simp [execBlockLockAcquire, hh, hr]

/-- BLOCK_LOCK_LOSS of a lane in LOCKED: it hunts from the next hypothesis, is not aligned, and own trigger 1 is evaluated (R109). -/
theorem execBlockLockLoss_locked (hl : (s.lane p n).code.lock = true) (hd : (s.lane p n).code.lockDue = true)
    (hs : (s.lane p n).code.state = .locked) :
    ∃ u, execBlockLockLoss p n s = .next (ownTrigger p n 1 u) ∧
      (u.lane p n).code = { (s.lane p n).code with
        lock := false, lockDue := false, invalidAt := [], consecUnc := 0, lockLoss := satAdd 8 (s.lane p n).code.lockLoss 1,
        hyp := ((s.lane p n).code.hyp + 1) % 3440, alignedF := false, deskewed := false, lastSlot := none, state := .hunt } := by
  refine ⟨_, by simp only [execBlockLockLoss, hl, hd]; rfl, ?_⟩
  rw [modLane_lane]
  simp [hs]

/-! ### Alignment and CDR lock -/

/-- ALIGNMENT_LOSS of an aligned lane that missed two alignment folios (R112). -/
theorem execAlignmentLoss_missed (ha : (s.lane p n).code.alignedF = true) (hm : 2 ≤ (s.lane p n).code.alignMiss) :
    execAlignmentLoss p n s = .next (framingFails p n (ownTrigger p n 3 (s.modLane p n fun l =>
      { l with code := { l.code with
          alignedF := false, deskewed := false, lastSlot := none, alignMiss := 0, alignLoss := satAdd 8 l.code.alignLoss 1,
          state := if l.code.state = .aligned then .locked else l.code.state } }))) := by
  simp [execAlignmentLoss, ha, Nat.not_lt.mpr hm]

/-- CDR_LOCK_LOST where the lane had CDR lock, its receiver is not in HOLD, and no sub-port in UP uses it: own trigger 2 is evaluated
(R73, R121). -/
theorem execCdrLockLost_noSub {u : State} (hl : (s.lane p n).rx.cdrLock = true) (hh : (s.lane p n).rx.phase ≠ .hold)
    (hu : u = s.modLane p n (fun l => { l with rx := { l.rx with cdrLock := false } }))
    (hsub : (u.port p).subOf n = none) :
    execCdrLockLost p n s = .next (framingFails p n (ownTrigger p n 2 u)) := by
  subst hu
  simp [execCdrLockLost, hl, hh, hsub, -modLane_port]

/-- CDR_LOCK_LOST where the lane had CDR lock, its receiver is not in HOLD, and a sub-port in UP uses it: the sub-port goes down
(R73, R182). -/
theorem execCdrLockLost_sub {u : State} {i : SubId} (hl : (s.lane p n).rx.cdrLock = true)
    (hh : (s.lane p n).rx.phase ≠ .hold)
    (hu : u = s.modLane p n (fun l => { l with rx := { l.rx with cdrLock := false } }))
    (hsub : (u.port p).subOf n = some i) :
    execCdrLockLost p n s = .next (subDown p i 3 true u) := by
  subst hu
  simp [execCdrLockLost, hl, hh, hsub, -modLane_port]

/-! ### The follower's count, and the end of ALIGN -/

/-- FOLLOWER_COUNT_LOAD on an aligned lane of a follower in ALIGN that has not loaded: its count is the projected one (R111). -/
theorem execFollowerCountLoad_loads {r : Nat} (hr : (s.port p).recv n = some r) (hf : (s.port p).snd.leader = false)
    (hn : (s.port p).code.loaded = false) (ha : (s.port p).link.state = .align) (hl : (s.lane p n).code.alignedF = true) :
    ∃ t, execFollowerCountLoad p n s = .next t ∧ (t.port p).code = { (s.port p).code with slotCnt := r, loaded := true } ∧
      (t.port p).link = (s.port p).link := by
  have hlane : (s.port p).lanes[n.val].code.alignedF = true := hl
  refine ⟨_, by
    simp only [execFollowerCountLoad, hr, hf, hn, ha, hlane, ne_eq, not_true_eq_false, decide_false, Bool.not_true, Bool.or_self,
      Bool.false_eq_true, if_false]
    rfl, ?_⟩
  rw [modPort_port]
  exact ⟨rfl, rfl⟩

/-- ALIGN_TIMEOUT acts after 16 alignment periods in ALIGN with no change pending: the lanes ready at both sides become the map where they are
at least MIN_LANES, and otherwise cause 3 of DOWN waits (R120). -/
theorem execAlignTimeout_expired (ha : (s.port p).link.state = .align) (hp : 16 ≤ (s.port p).code.alignPeriods)
    (hc : (s.port p).code.chg = none) :
    execAlignTimeout p s = .next (
      if (s.port p).bothReady ≠ 0 && decide ((s.port p).minLanes ≤ popcount8 (s.port p).bothReady) then
        s.modPort p fun q =>
          { q with code := { q.code with chg := some .linkUp, nextMap := q.bothReady, chgEpoch := q.epochAfter 16 } }
      else downDue p 3 s) := by
  simp [execAlignTimeout, ha, Nat.not_lt.mpr hp, hc]

end Folio

/-- Settles O4: each command's own condition holds, and its result is the named change of the port or of the lane. -/
theorem folioCommandsComplete : Obligations.FolioCommandsComplete := by
  unfold Obligations.FolioCommandsComplete
  refine ⟨fun p n f s ht hr hd => execFolioReceive_undecodable ht hr hd, fun p n slot s hn hs => execNakRepeatDue_once hn hs,
    fun p n headers i s hh hr => ?_, fun p n headers s hh hr => ?_, fun p n s hl hd hs => ?_,
    fun p n s ha hm => execAlignmentLoss_missed ha hm, fun p n s u hl hh hu =>
      ⟨fun hsub => execCdrLockLost_noSub hl hh hu hsub, fun i hsub => execCdrLockLost_sub hl hh hu hsub⟩,
    fun p n r s hr hf hn ha hl => ?_, fun p s ha hp hc hb hm => ?_, fun p s ha hp hc hm => ?_⟩
  · refine ⟨_, execBlockLockAcquire_locks hh hr, ?_⟩
    rw [modLane_lane]
    exact ⟨rfl, rfl, rfl, rfl⟩
  · refine ⟨_, execBlockLockAcquire_rejects hh hr, ?_⟩
    rw [modLane_lane]
    exact ⟨rfl, rfl⟩
  · obtain ⟨u, hnext, hcode⟩ := execBlockLockLoss_locked hl hd hs
    refine ⟨u, hnext, ?_⟩
    rw [hcode]
    exact ⟨rfl, rfl, rfl, rfl, rfl⟩
  · obtain ⟨t, hnext, hcode, hlink⟩ := execFollowerCountLoad_loads hr hf hn ha hl
    refine ⟨t, hnext, ?_, ?_, hlink⟩
    · rw [hcode]
    · rw [hcode]
  · refine ⟨_, (execAlignTimeout_expired ha hp hc).trans (congrArg _ (if_pos (by simp [hb, hm]))), ?_⟩
    rw [modPort_port]
    exact ⟨rfl, rfl, rfl⟩
  · exact (execAlignTimeout_expired ha hp hc).trans (congrArg _ (if_neg (by simp [Nat.not_le.mpr hm])))

end Sys2Proof
end

section
/-!
PROOFS. Where the commands of lanes leaving and joining the map complete, and with what (O5).
-/
namespace Sys2Proof

open Sys2Proof.Machine

section LaneChange

variable {p : PortId} {n : LaneId} {s : State}

/-- An update of a port puts there what it makes of the port that stands. -/
theorem modPort_eq_const (s : State) (p : PortId) (f : Port → Port) : s.modPort p f = s.modPort p fun _ => f (s.port p) := rfl

/-! ### The change epoch and quarantine -/

/-- CHANGE_EPOCH at the epoch of a pending change that is no planned shed: the change takes effect, and what waits is judged (R117). -/
theorem execChangeEpoch_reached {k : ChgKind} (hc : (s.port p).code.chg = some k)
    (he : epochReached ((s.port p).nextSlot / 64) (s.port p).code.chgEpoch = true) (hk : k ≠ .planned) :
    execChangeEpoch p s = .next (judgeWaiting p (applyChange p k s)) := by
  simp [execChangeEpoch, hc, he, hk]

/-- LANE_QUARANTINE of a lane in ACTIVE with an own trigger: it is quarantined, and the partner hears of it (R122). -/
theorem execLaneQuarantine_own {c ep : Nat} (ht : (s.lane p n).code.trig = some (c, ep)) (hc : c ≠ 6)
    (ha : (s.lane p n).code.state = .active) :
    execLaneQuarantine p n s = .next (sendLaneNotice p 1 (quarantine p n c ep s)) := by
  simp [execLaneQuarantine, ht, hc, ha]

/-- PARTNER_QUARANTINE of a lane in ACTIVE that the partner has shed: it is quarantined, and no notice goes out (R123). -/
theorem execPartnerQuarantine_partner {ep : Nat} (ht : (s.lane p n).code.trig = some (6, ep))
    (ha : (s.lane p n).code.state = .active) :
    execPartnerQuarantine p n s = .next (quarantine p n 6 ep s) := by
  simp [execPartnerQuarantine, ht, ha]

/-! ### Requests, deadlines and attempts -/

/-- LANE_REQ_SHED is the write of the register, where it reaches it (R126). -/
theorem execLaneReqShed_reaches {who : Initiator} {v : Word} (h : WriteReaches who s (portBase p + 0x1020)) :
    execLaneReqShed who p v s = .next (writeLaneReq who p v s) := by
  rw [execLaneReqShed, regWrite_reaches h]

/-- LANE_REQ_ADD is the write of the register, where it reaches it (R128). -/
theorem execLaneReqAdd_reaches {who : Initiator} {v : Word} (h : WriteReaches who s (portBase p + 0x1020)) :
    execLaneReqAdd who p v s = .next (writeLaneReq who p v s) := by
  rw [execLaneReqAdd, regWrite_reaches h]

/-- PLANNED_SHED_DEADLINE of a proposal without its acknowledgement 16 epochs before the change epoch: the proposal is dropped, with cause 0xA
for the lowest of its lanes (R126). -/
theorem execPlannedShedDeadline_unanswered (hp : (s.port p).code.plan = .proposed)
    (he : epochReached ((s.port p).nextSlot / 64) ((s.port p).code.chgEpoch + epochMod - 16) = true) :
    execPlannedShedDeadline p s = .next (judgeWaiting p (shedRecord p 0xA
      (lowLane ((s.port p).code.map &&& (0xFF ^^^ (s.port p).code.nextMap))) (s.modPort p Port.dropPlan))) := by
  simp [execPlannedShedDeadline, hp, he]

/-- READD_HOLDOFF_EXPIRE in DEGRADED, with no limit on the attempts: a shed lane that may be added again gets its ADD_NOTICE
(R128, R129). -/
theorem execReaddHoldoffExpire_degraded (hs : (s.lane p n).code.state = .shed) (ha : (s.lane p n).code.autoAdd = true)
    (hc : (s.lane p n).code.shedCap = false) (he : bitOf ((s.port p).act .codeCtrl) 6 = true)
    (hm : bits (s.port p).code.readdCtrl 31 24 = 0) (hn : (s.port p).code.addSent.testBit n.val = false)
    (hd : (s.port p).link.state = .degraded) (hl : (s.lane p n).test.loop.isFar = false) :
    execReaddHoldoffExpire p n s = .next (sendAddNotice p n s) := by
  unfold State.lane at hs ha hc hl
  simp [execReaddHoldoffExpire, hs, ha, hc, he, hm, hn, hd, hl]

/-- ADD_ATTEMPT_TIMEOUT of a lane in ADDING: the attempt has failed, and what waits is judged (R129). -/
theorem execAddAttemptTimeout_adding (h : (s.lane p n).code.state = .adding) :
    execAddAttemptTimeout p n s = .next (judgeWaiting p (failAdd p n s)) := by
  simp [execAddAttemptTimeout, h]

/-! ### Notices -/

/-- LANE_NOTICE_RECEIVE of the planned shed to which the port is the responder already: it is acknowledged again, with the change epoch that
stands (R126, R556). -/
theorem execLaneNoticeReceive_repeated {id quar nextMap epoch : Nat} {u : State} (hok : (s.port p).noticesOk = true)
    (hu : u = wakeTrigger p (s.modPort p fun q => { q with code := { q.code with noticeSeen := id % 256 } }))
    (hp : (u.port p).code.plan = .responder) (hm : (u.port p).code.nextMap = nextMap) :
    execLaneNoticeReceive p id 2 quar nextMap epoch s =
      .next (sendAck p id 0x10 nextMap (u.port p).code.chgEpoch u) := by
  simp [execLaneNoticeReceive, hok, ← hu, hp, hm]

/-- ADD_NOTICE_RECEIVE while a change is pending is declined with reason 1 (R557). -/
theorem execAddNoticeReceive_pending {id : Nat} {k : ChgKind} (hok : (s.port p).noticesOk = true)
    (hc : ((wakeTrigger p s).port p).code.chg = some k) :
    execAddNoticeReceive p id n s =
      .next (sendDecline p id 0x11 n.val 1 ((wakeTrigger p s).port p).code.chgEpoch (wakeTrigger p s)) := by
  simp [execAddNoticeReceive, hok, hc]

/-- The port's own ADD_NOTICEs for a lane no longer wait, to be sent or to be answered (R128, R557). -/
def Machine.Port.dropAddNotices (q : Port) (n : LaneId) : Port :=
  { q with snd := { q.snd with
      await := q.snd.await.filter fun f => !(f.typ == 0x11 && f.payload[1]? == some (BitVec.ofNat 8 n.val)),
      queue := q.snd.queue.filter fun f => !(f.typ == 0x11 && f.payload[1]? == some (BitVec.ofNat 8 n.val)) } }

/-- ADD_NOTICE_RECEIVE of a shed lane in no loopback, with no change pending: it is acknowledged, and the attempt begins (R128). -/
theorem execAddNoticeReceive_shed {id : Nat} (hok : (s.port p).noticesOk = true)
    (hc : ((wakeTrigger p s).port p).code.chg = none) (hl : ((wakeTrigger p s).lane p n).test.loop = .none)
    (hs : ((wakeTrigger p s).lane p n).code.state = .shed) :
    execAddNoticeReceive p id n s =
      .next (beginAdd p n (sendAck p id 0x11 n.val 0 ((wakeTrigger p s).modPort p fun q => q.dropAddNotices n))) := by
  unfold State.lane at hl hs
  simp [execAddNoticeReceive, hok, hc, hl, hs, LoopKind.isFar, Port.dropAddNotices]

/-- NOTICE_ACK_RECEIVE of the lane notice of an own proposal, naming the map that it proposes: the proposal is acknowledged (R126). -/
theorem execNoticeAckReceive_plan {id epoch : Nat} (hok : (s.port p).noticesOk = true)
    (ht : ((s.port p).takeNotice id 0x10).1 = true) (hp : ((s.port p).takeNotice id 0x10).2.code.plan = .proposed) :
    execNoticeAckReceive p id 0x10 ((s.port p).takeNotice id 0x10).2.code.nextMap epoch s =
      .next ((s.modPort p fun _ => ((s.port p).takeNotice id 0x10).2).modPort p fun q =>
        { q with code := { q.code with plan := .acked } }) := by
  simp [execNoticeAckReceive, hok, ht, hp]

/-- NOTICE_DECLINE_RECEIVE with reason 1 of an add notice that was sent: the request waits for the epoch that the DECLINE names (R557). -/
theorem execNoticeDeclineReceive_waits {id lane epoch : Nat} (hok : (s.port p).noticesOk = true)
    (ht : ((s.port p).takeNotice id 0x11).1 = true) (hl : lane < 8)
    (hn : ((s.port p).takeNotice id 0x11).2.code.addSent.testBit lane = true) :
    execNoticeDeclineReceive p id 0x11 lane 1 epoch s =
      .next ((s.modPort p fun _ => ((s.port p).takeNotice id 0x11).2).modPort p fun q =>
        { q with code := { q.code with
            addSent := q.code.addSent &&& (0xFF ^^^ 2 ^ lane),
            addWait := some (((q.code.addWait.map fun w => w.1).getD 0) ||| 2 ^ lane, epoch) } }) := by
  simp [execNoticeDeclineReceive, hok, ht, hl, hn]

/-- NOTICE_DECLINE_RECEIVE with another reason of an add notice that was sent: the attempt has failed, and what waits is judged
(R129, R557). -/
theorem execNoticeDeclineReceive_fails {id reason epoch : Nat} (hok : (s.port p).noticesOk = true)
    (ht : ((s.port p).takeNotice id 0x11).1 = true)
    (hn : ((s.port p).takeNotice id 0x11).2.code.addSent.testBit n.val = true) (hr : reason ≠ 1) :
    execNoticeDeclineReceive p id 0x11 n.val reason epoch s =
      .next (judgeWaiting p (failAdd p n (s.modPort p fun q => (q.takeNotice id 0x11).2))) := by
  rw [modPort_eq_const]
  simp [execNoticeDeclineReceive, hok, ht, hn, hr]

end LaneChange

/-- Settles O5: each command's own condition holds, and its result is the named operation of the port. -/
theorem laneChangeCommandsComplete : Obligations.LaneChangeCommandsComplete := by
  unfold Obligations.LaneChangeCommandsComplete
  refine ⟨fun p k s hc he hk => execChangeEpoch_reached hc he hk, fun p n c ep s ht hc ha => execLaneQuarantine_own ht hc ha,
    fun p n ep s ht ha => execPartnerQuarantine_partner ht ha,
    fun who p v s hw => ⟨execLaneReqShed_reaches hw, execLaneReqAdd_reaches hw⟩,
    fun p s hp he => execPlannedShedDeadline_unanswered hp he,
    fun p n s hs ha hc he hm hn hd hl => execReaddHoldoffExpire_degraded hs ha hc he hm hn hd hl,
    fun p n s h => execAddAttemptTimeout_adding h,
    fun p id quar nextMap epoch s u hok hu hp hm => execLaneNoticeReceive_repeated hok hu hp hm,
    fun p id n s k hok hc => execAddNoticeReceive_pending hok hc, fun p id n s hok hc hl hs => ?_,
    fun p id what epoch s hok ht hp hm => ?_, fun p id lane epoch s hok ht hl hn => ?_,
    fun p id n reason epoch s hok ht hn hr => execNoticeDeclineReceive_fails hok ht hn hr⟩
  · refine ⟨_, execAddNoticeReceive_shed hok hc hl hs, ?_⟩
    rw [modPort_port]
    exact ⟨rfl, rfl⟩
  · subst hm
    refine ⟨_, execNoticeAckReceive_plan hok ht hp, ?_⟩
    rw [modPort_port, modPort_port]
    exact ⟨rfl, rfl⟩
  · refine ⟨_, execNoticeDeclineReceive_waits hok ht hl hn, ?_⟩
    rw [modPort_port, modPort_port]
    exact ⟨rfl, rfl⟩

end Sys2Proof
end


section
/-!
PROOFS. Where SND_FRAME_RECEIVE completes, and why the counter it does not advance refutes O6.
-/
namespace Sys2Proof

open Sys2Proof.Machine

/-- SND_FRAME_RECEIVE of a payload that its CRC does not confirm: the reception ends as a CRC error, and the count of good frames
stays as it stands (R137). -/
theorem execSndFrameReceive_bad {p : PortId} {cm : Bool} {raw : List Byte} {typ len psf : Nat} {s : State}
    (hx : ((s.port p).snd.inst cm).rx = .payload) (hh : ((s.port p).snd.inst cm).hdr = some (typ, len, psf))
    (hc : payloadOk typ len psf raw = false) :
    execSndFrameReceive p cm raw s = .next (modInst p cm (fun x => { x.idle with crcErr := satAdd 8 x.crcErr 1 }) s) := by
  simp [execSndFrameReceive, hx, hh, hc]

/-- A payload without the 4 bytes of its CRC is not confirmed. -/
theorem payloadOk_short {typ len psf : Nat} {raw : List Byte} (h : raw.length ≠ len + 4) : payloadOk typ len psf raw = false := by
  simp [payloadOk, h]

/-- A receiver in the payload of a CALL whose count of good frames is past the register's 8 bits. -/
def Machine.SndInst.pastCount (x : SndInst) : SndInst := { x with rx := .payload, hdr := some (0x01, 0, 6), rxOk := 256 }

/-- Refutes O6: no field bounds the counters of a sounding receiver, and SND_FRAME_RECEIVE of a payload with a bad CRC leaves a count of
256 good frames at 256; the clause for it says satAdd 8 256 0, which is 255. -/
theorem not_soundingCommandsComplete : ¬ Obligations.SoundingCommandsComplete := by
  unfold Obligations.SoundingCommandsComplete
  rintro ⟨-, -, -, -, -, hframe, -⟩
  have hinst : ((modInst 0 false SndInst.pastCount State.reset).port 0).snd.inst false =
      ((State.reset.port 0).snd.inst false).pastCount := modInst_inst ..
  have hrx : (((modInst 0 false SndInst.pastCount State.reset).port 0).snd.inst false).rx = .payload := by rw [hinst]; rfl
  have hhdr : (((modInst 0 false SndInst.pastCount State.reset).port 0).snd.inst false).hdr = some (0x01, 0, 6) := by
    rw [hinst]; rfl
  obtain ⟨t, hnext, -, hgood, -⟩ := hframe 0 false [] 0x01 0 6 _ hrx hhdr
  have hbad := execSndFrameReceive_bad (raw := []) hrx hhdr (payloadOk_short (by decide))
  cases hbad.symm.trans hnext
  rw [modInst_inst, hinst, payloadOk_short (by decide)] at hgood
  exact absurd hgood (by decide : (256 : Nat) ≠ satAdd 8 256 (b2n false))

end Sys2Proof
end


section
/-!
PROOFS. Where the commands of negotiation complete, and with what (O7).
-/
namespace Sys2Proof

open Sys2Proof.Machine

section Negotiation

variable {p : PortId} {f : SndFrame} {o : Offer} {s : State}

/-! ### Turns and resends -/

/-- TURN_REPLY of a due REFUSE, with nothing else on the differential pair: it starts, and is the frame last sent (R148, R162). -/
theorem execTurnReply_refuse {sf : Nat} {b : Bool} (hd : (s.port p).snd.diffDue = some (f, sf, b)) (hf : f.typ = 0x06)
    (hr : (s.group p).relocking = false) (hc : (s.port p).snd.diffCur = none) (ht : (s.port p).snd.train = none)
    (hb : b = true ∨ (s.port p).snd.diff.rx = .none) :
    execTurnReply p s = .next (s.modPort p fun q =>
      { q.diffStart (sampleKhz (s.group p).freq) sf f with
        snd := { (q.diffStart (sampleKhz (s.group p).freq) sf f).snd with diffLast := some f } }) := by
  have hbusy : (!b && decide ((s.port p).snd.diff.rx ≠ .none)) = false := by
    rcases hb with rfl | hb <;> simp [*]
  simp only [execTurnReply, hd, hbusy]
  cases (s.port p).snd.partner <;> simp [State.relocking, hf, hr, hc, ht]

/-- PARLEY_RESEND of a leader's OFFER with fewer than 3 resends: it falls due again, as no reply (R163). -/
theorem execParleyResend_offer (hl : (s.port p).snd.diffLast = some f) (hf : f.typ = 0x04)
    (hp : (s.port p).inParley = true) (hlead : (s.port p).snd.leader = true) (hg : (s.port p).snd.goDone = false)
    (hd : (s.port p).snd.diffDue = none) (hn : (s.port p).snd.diffResends < 3) (hr : (s.group p).relocking = false) :
    execParleyResend p s = .next (s.modPort p fun q =>
      { q.dueAgain false with snd := { (q.dueAgain false).snd with diffResends := (q.dueAgain false).snd.diffResends + 1 } }) := by
  simp [execParleyResend, State.relocking, hl, hf, hp, hlead, hg, hd, hn, hr]

/-- A frame last sent that is no diagnostic request falls due again at the session SF (R163). -/
theorem dueAgain_last {q : Port} (reply : Bool) (hl : q.snd.diffLast = some f) (hf : f.typ ≠ 0x40) :
    q.dueAgain reply = { q with snd := { q.snd with diffDue := some (f, q.snd.sessionSf, reply) } } := by
  simp [Port.dueAgain, hl, hf]

/-! ### CALL and RETURN -/

/-- CALL_RECEIVE of an accepted CALL, heard in SOUND before any partner: the RETURN falls due (R154). -/
theorem execCallReceive_sound {c : CallInfo} {sf : Nat} {snr : Int} (hc : callOk p c s = true)
    (hh : (s.port p).hears sf = true) (hs : (s.port p).link.state = .sound) (hp : (s.port p).snd.partner = none) :
    execCallReceive p c sf snr s = .next (answerCall p c sf (s.port p).snd.diff.pair snr s) := by
  simp [execCallReceive, hc, hh, hs, hp]

/-- RETURN_RECEIVE of an accepted RETURN to the port's own CALL: the port enters PARLEY, and a leader's first PROBE falls due
(R154, R157, R159). -/
theorem execReturnReceive_sound {c : CallInfo} {pairTx : Bool} {sf : Nat} (hs : (s.port p).link.state = .sound)
    (hc : callOk p c s = true) :
    execReturnReceive p c (s.port p).snd.rand Config.uid.toNat p.val pairTx sf s =
      .next ((enterParley p c sf pairTx (s.modPort p fun q => q.loadPartner c)).modPort p fun q =>
        if q.snd.leader then ({ q with snd := { q.snd with diffDue := none } } : Port).firstProbe
        else { q with snd := { q.snd with diffDue := none } }) := by
  simp [execReturnReceive, hs, hc]

/-! ### PROBE and OFFER -/

/-- PROBE_RECEIVE of a leader whose last frame is its PROBE: the estimates are kept, and the first OFFER follows (R160, R161). -/
theorem execProbeReceive_leader {session mask rtt : Nat} {est measured : List LaneEst}
    (hs : (s.port p).sessionIs session = true) (hg : (s.port p).snd.goDone = false) (hl : (s.port p).snd.leader = true)
    (hd : (s.port p).snd.diffLast = some f) (hf : f.typ = 0x03) :
    execProbeReceive p session mask est measured rtt s = .next (sendOffer p 1 (s.modPort p fun q =>
      { q with snd := { q.snd with estRx := measured, estTx := est, rtt0 := rtt } })) := by
  simp [execProbeReceive, hs, hg, hl, hd, hf]

/-- A change of a port that leaves whether it uses its lane PLL leaves which groups are retunable. -/
theorem retunable_modPort {g : Port → Port} (h : ∀ a, (g a).usesPll = a.usesPll) (k : PodId) (x : GroupId) :
    retunable (s.modPort p g) k x = retunable s k x := by
  have huses (r : PortId) : ((s.modPort p g).port r).usesPll = (s.port r).usesPll := by
    by_cases hr : p = r
    · subst hr
      rw [modPort_port, h]
    · rw [modPort_port_other s p r g hr]
  simp only [retunable, huses]

/-- Nor does it change what a group can provide. -/
theorem canProvide_modPort {g : Port → Port} (h : ∀ a, (g a).usesPll = a.usesPll) (q : PortId) (x : PllFreq) :
    (s.modPort p g).canProvide q x = s.canProvide q x := by
  simp only [State.canProvide, retunable_modPort h]
  rfl

/-- OFFER_RECEIVE of the first OFFER, at a rate that the follower's group cannot provide: it is refused with the rates that the group
can provide (R20, R162). -/
theorem execOfferReceive_refuses {session : Nat} (hs : (s.port p).sessionIs session = true)
    (hg : (s.port p).snd.goDone = false) (hl : (s.port p).snd.leader = false) (hx : (s.port p).snd.offer = none)
    (hm : o.mode ≠ 0) (hp : s.canProvide p (rateFreq o.rate) = false) :
    ∃ u : State, execOfferReceive p session o s =
        .next (u.modPort p fun q => q.answerOffer 0x06 o.no (beBytes 1 (u.ratesByte p))) ∧
      u.port p = { s.port p with snd := { (s.port p).snd with offer := some o, closing := none } } := by
  refine ⟨s.modPort p fun q => { q with snd := { q.snd with offer := some o, closing := none } }, ?_, modPort_port ..⟩
  simp [execOfferReceive, hs, hg, hl, hx, hm, canProvide_modPort, Port.usesPll, hp]

/-! ### The answers to an OFFER -/

/-- ACCEPT_RECEIVE of the OFFER last sent, at a rate that the leader's group can provide: the group is asked for it, and GO falls due
(R20, R162). -/
theorem execAcceptReceive_provided {session : Nat} (hs : (s.port p).sessionIs session = true)
    (hl : (s.port p).snd.leader = true) (hg : (s.port p).snd.goDone = false) (hx : (s.port p).snd.offer = some o)
    (hd : (s.port p).snd.diffLast = some f) (hf : f.typ = 0x04) (hc : (s.port p).snd.closing = none)
    (hp : s.canProvide p (rateFreq o.rate) = true) :
    execAcceptReceive p session o.no s = .next ((needFreq p (rateFreq o.rate) s).modPort p fun q =>
      q.due 0x07 (beBytes 2 q.snd.session)) := by
  simp [execAcceptReceive, hs, hl, hg, hx, hd, hf, hc, hp]

/-- REFUSE_RECEIVE of the OFFER that stands: the next OFFER is made of the follower's rates (R162). -/
theorem execRefuseReceive_open {session rates : Nat} (hs : (s.port p).sessionIs session = true)
    (hl : (s.port p).snd.leader = true) (hg : (s.port p).snd.goDone = false) (hx : (s.port p).snd.offer = some o)
    (hc : (s.port p).snd.closing = none) :
    execRefuseReceive p session o.no rates s = .next (sendOffer p (o.no + 1) (s.modPort p fun q =>
      { q with snd := { q.snd with partner := q.snd.partner.map fun c => { c with rates := rates } } })) := by
  simp [execRefuseReceive, hs, hl, hg, hx, hc]

/-- GO_RECEIVE of a follower that accepted an OFFER with a mode: the agreed parameters come into force (R162). -/
theorem execGoReceive_accepted {session : Nat} (hs : (s.port p).sessionIs session = true)
    (hl : (s.port p).snd.leader = false) (hg : (s.port p).snd.goDone = false) (hx : (s.port p).snd.offer = some o)
    (hd : (s.port p).snd.diffLast = some f) (hf : f.typ = 0x05) (hm : o.mode ≠ 0) :
    execGoReceive p session s = .next (applyGo p s) := by
  simp [execGoReceive, hs, hl, hg, hx, hd, hf, hm]

/-! ### Failures -/

/-- PARLEY_TIMEOUT before GO: the PARLEY fails, with the closing OFFER's code where a leader's resends are exhausted and otherwise
with 4 (R152, R164). -/
theorem execParleyTimeout_parley {exhausted : Bool} (hp : (s.port p).inParley = true)
    (hg : (s.port p).snd.goDone = false) (hd : (s.port p).link.downDue = none) (hr : (s.group p).relocking = false)
    (hx : exhausted = true → (s.port p).snd.leader = true ∧ 3 ≤ (s.port p).snd.diffResends) :
    execParleyTimeout p exhausted s =
      .next (failParley p (if exhausted then (s.port p).snd.closing.getD 4 else 4) s) := by
  have hout : (exhausted && !((s.port p).snd.leader && decide (3 ≤ (s.port p).snd.diffResends))) = false := by
    cases exhausted with
    | false => rfl
    | true => simp [hx rfl]
  simp only [execParleyTimeout, hout]
  simp [State.relocking, hp, hg, hd, hr]

/-- NEG_RETRY_EXPIRE of a port's hold-off: it ends, and the port starts again (R164). -/
theorem execNegRetryExpire_port (hh : (s.port p).link.retryHold = true) (hr : (s.group p).relocking = false) :
    execNegRetryExpire p none s =
      .next (startLink p (s.modPort p fun q => { q with link := { q.link with retryHold := false } })) := by
  simp [execNegRetryExpire, State.relocking, hh, hr]

end Negotiation

/-- Settles O7: each command's own condition holds, and its result is the named step of the exchange. -/
theorem negotiationCommandsComplete : Obligations.NegotiationCommandsComplete := by
  unfold Obligations.NegotiationCommandsComplete
  refine ⟨fun p f sf b s hd hf hr hc ht hb => ⟨_, execTurnReply_refuse hd hf hr hc ht hb, ?_⟩,
    fun p c sf snr s hc hh hs hp => execCallReceive_sound hc hh hs hp,
    fun p c pairTx sf s hs hc => execReturnReceive_sound hs hc,
    fun p session mask est measured rtt f s hs hg hl hd hf => execProbeReceive_leader hs hg hl hd hf,
    fun p session o s hs hg hl hx hm hp => ?_,
    fun p session o f s hs hl hg hx hd hf hc hp => execAcceptReceive_provided hs hl hg hx hd hf hc hp,
    fun p session o rates s hs hl hg hx hc => execRefuseReceive_open hs hl hg hx hc,
    fun p session o f s hs hl hg hx hd hf hm => execGoReceive_accepted hs hl hg hx hd hf hm,
    fun p f s hl hf hp hlead hg hd hn hr => ⟨_, execParleyResend_offer hl hf hp hlead hg hd hn hr, ?_⟩,
    fun p s hp hg hd hr => execParleyTimeout_parley hp hg hd hr nofun,
    fun p code s hp hg hd hr hl hn hc => ?_,
    fun p s hh hr => execNegRetryExpire_port hh hr⟩
  · rw [modPort_port]
    exact ⟨rfl, rfl, rfl, rfl⟩
  · obtain ⟨u, hnext, hport⟩ := execOfferReceive_refuses hs hg hl hx hm hp
    refine ⟨u, hnext, ?_⟩
    rw [hport]
    exact ⟨rfl, rfl⟩
  · rw [modPort_port, dueAgain_last false hl (by rw [hf]; decide)]
    exact ⟨rfl, rfl⟩
  · have hfail := execParleyTimeout_parley (exhausted := true) hp hg hd hr fun _ => ⟨hl, hn⟩
    rwa [hc] at hfail

end Sys2Proof
end


section
/-!
PROOFS. Where the commands of training and of the entry into DOWN complete, and with what (O8).
-/
namespace Sys2Proof

open Sys2Proof.Machine

section Training

variable {p : PortId} {s : State}

/-! ### TRAIN_START and TRAIN_STAT -/

/-- TRAIN_START of a port that agreed, whose group provides the agreed rate and whose ranges are in force: TRAIN begins with the committed
common-mode settings and nothing queued (R166). -/
theorem execTrainStart_ready (hp : (s.port p).inParley = true) (hg : (s.port p).snd.goDone = true)
    (hd : (s.port p).link.downDue = none) (hr : (s.group p).relocking = false)
    (hf : s.provides p (rateFreq (s.port p).modeRate.2) = true) (hw : (s.port p).rangesWait = false) :
    ∃ u, execTrainStart p s = .next (setLink p .train u) ∧
      (u.port p).snd.cmCtrl = (s.port p).act .sndCmCtrl ∧ (u.port p).snd.tsDue = false ∧ (u.port p).snd.queue = [] := by
  refine ⟨_, by
    simp only [execTrainStart, State.relocking, hp, hg, hd, hr, hf, hw, Bool.not_true, Option.isSome_none, Bool.or_self,
      Bool.false_eq_true, if_false]
    rfl, ?_⟩
  rw [modPort_port]
  exact ⟨rfl, rfl, rfl⟩

/-- TRAIN_STAT_SEND in native TRAIN: a TRAIN_STAT waits to be sent, with the tap requests of firmware (R167). -/
theorem execTrainStatSend_train {req : List (BitVec 16)} (hs : (s.port p).link.state = .train)
    (hn : (s.port p).snd.path = .native) :
    execTrainStatSend p req s = .next (queueTs p (s.modPort p fun q =>
      { q with snd := { q.snd with tapReq := (List.range 8).map fun i => (req.getD i 0).setWidth 32 } })) := by
  simp [execTrainStatSend, hs, hn]

/-- TRAIN_STAT_RECEIVE of a leader in ALIGN, of a STEP past its own: SEQ and STEP are kept, those of its frames that it answers are
done, and no tap moves (R149, R167). -/
theorem execTrainStatReceive_align {step seq conv cdr ack set : Nat} {req : List (BitVec 16)}
    (hn : (s.port p).snd.path = .native) (ha : (s.port p).link.state = .align) (hl : (s.port p).snd.leader = true)
    (hs : (s.port p).snd.step < step) :
    execTrainStatReceive p (s.port p).snd.session step seq conv cdr req ack set s = .next (s.modPort p fun q =>
      ({ q with snd := { q.snd with tsAck := seq, partnerStep := step } } : Port).tsAnswered step ack) := by
  simp [execTrainStatReceive, Port.tsAnswered, hn, ha, hl, Nat.not_lt.mpr hs.le, hs.ne']

/-! ### Steps -/

/-- TRAIN_STEP_SWITCH in TRAIN: step 4 is ALIGN, and any step before it begins (R167, R169). -/
theorem execTrainStepSwitch_train {k : Nat} (hk : (s.port p).snd.switchTo = some k) (hs : (s.port p).link.state = .train) :
    execTrainStepSwitch p s = .next (if 4 ≤ k then toAlign p s else s.modPort p fun q => q.trainStep k) := by
  simp [execTrainStepSwitch, hk, hs]

/-- TRAIN_STEP_TIMEOUT of a leader with enough lanes that have met the end condition: the others leave the training set (R168). -/
theorem execTrainStepTimeout_keeps (hs : (s.port p).link.state = .train) (hn : (s.port p).snd.path = .native)
    (hl : (s.port p).snd.leader = true) (hk : (s.port p).snd.switchTo = none)
    (hm : (s.port p).minLanes ≤ popcount8 (s.port p).stepMet) :
    execTrainStepTimeout p s = .next (queueTs p (s.modPort p fun q => q.adoptSet (s.port p).stepMet)) := by
  simp [execTrainStepTimeout, hs, hn, hl, hk, Nat.not_lt.mpr hm]

/-- TRAIN_PARTNER_TIMEOUT in native TRAIN: training fails with 0xA (R168). -/
theorem execTrainPartnerTimeout_train (hs : (s.port p).link.state = .train) (hn : (s.port p).snd.path = .native) :
    execTrainPartnerTimeout p s = .next (failTrain p 0xA s) := by
  simp [execTrainPartnerTimeout, hs, hn]

/-- TRAIN_TIMEOUT in native TRAIN: training fails with 9 (R168). -/
theorem execTrainTimeout_train (hs : (s.port p).link.state = .train) (hn : (s.port p).snd.path = .native) :
    execTrainTimeout p s = .next (failTrain p 9 s) := by
  simp [execTrainTimeout, hs, hn]

/-! ### DOWN -/

/-- PORT_DOWN_ENTER with a cause other than 2 and no diagnostic: the port enters DOWN, waits for no group, and starts again; a restart
lifts the hold-off, and no new one begins (R264; the lifting is the model's reading, log entries 32 and 145). -/
theorem execPortDownEnter_other {c : Nat} (hd : (s.port p).link.downDue = some c) (hr : (s.port p).diag.running = none)
    (hc : c ≠ 2) :
    execPortDownEnter p s = .next (startLink p ((setWaiting p false (enterDown p c s)).modPort p fun q =>
      { q with link := { q.link with restart := false, retryHold := q.link.retryHold && !(s.port p).link.restart } })) := by
  simp [execPortDownEnter, hd, hr, hc]

end Training

/-- Settles O8: each command's own condition holds, and its result is the named step of the training or the entry into DOWN. -/
theorem trainingCommandsComplete : Obligations.TrainingCommandsComplete := by
  unfold Obligations.TrainingCommandsComplete
  refine ⟨fun p s hp hg hd hr hf hw => execTrainStart_ready hp hg hd hr hf hw,
    fun p req s hs hn => execTrainStatSend_train hs hn,
    fun p step seq conv cdr req ack set s hn ha hl hs => ⟨_, execTrainStatReceive_align hn ha hl hs, ?_⟩,
    fun p k s hk hs hlt => (execTrainStepSwitch_train hk hs).trans (congrArg _ (if_neg (Nat.not_le.mpr hlt))),
    fun p s hk hs => execTrainStepSwitch_train hk hs,
    fun p s hs hn hl hk hm => execTrainStepTimeout_keeps hs hn hl hk hm,
    fun p s hs hn => ⟨execTrainPartnerTimeout_train hs hn, execTrainTimeout_train hs hn⟩,
    fun p c s hd hr hc => execPortDownEnter_other hd hr hc⟩
  rw [modPort_port]
  exact ⟨rfl, rfl, rfl, rfl⟩

end Sys2Proof
end


section
/-!
PROOFS. Where the commands of the IEEE modes complete, and with what (O9).
-/
namespace Sys2Proof

open Sys2Proof.Machine

section Ieee

variable {p : PortId} {i : SubId} {s : State}

/-! ### Clause 73 -/

/-- CLAUSE73_PAGE_RECEIVE of a sub-port in PARLEY: the base page is kept, with the PHYs that it offers (R155). -/
theorem execClause73PageReceive_parley {page : BitVec 48} {able : BitVec 8} (hs : (s.port p).link.state ≠ .sound)
    (hp : (s.port p).subRuns i .parley = true) (hr : (s.group p).relocking = false) :
    execClause73PageReceive p i page able s =
      .next (modSub p i (fun b => { b with page := some page, able := able.toNat }) s) := by
  simp [execClause73PageReceive, State.relocking, hs, hp, hr]

/-- CLAUSE73_RESOLVE with a PHY in common: the group is asked for 53.125 GHz, and the sub-port trains or waits for it (R18, R176). -/
theorem execClause73Resolve_common {phy : Nat} {page : BitVec 48} (hp : (s.port p).subRuns i .parley = true)
    (hb : (s.port p).ieee[i.val].page = some page) (h0 : phy ≠ 0)
    (hphy : phy = phyResolved ((s.port p).advertised i &&& (s.port p).ieee[i.val].able)) :
    execClause73Resolve p i s =
      .next (if (needFreq p .f53125 (modSub p i (fun b => { b with phy := phy }) s)).provides p .f53125
        then subTrain p i (needFreq p .f53125 (modSub p i (fun b => { b with phy := phy }) s))
        else modSub p i (fun b => { b with waitGroup := true }) (needFreq p .f53125 (modSub p i (fun b => { b with phy := phy }) s))) := by
  simp [execClause73Resolve, hp, hb, ← hphy, h0]

/-- AN_ATTEMPT_TIMEOUT without a base page, where sounding does not come first and no group is waited for: the attempt begins anew
(R156, R177). -/
theorem execAnAttemptTimeout_noPage (hp : (s.port p).subRuns i .parley = true)
    (hb : (s.port p).ieee[i.val].page = none) (hs : (s.port p).soundsFirst = false)
    (hw : (s.port p).ieee[i.val].waitGroup = false) (hr : (s.group p).relocking = false) :
    execAnAttemptTimeout p i s =
      .next (waitingDone p (modSub p i IeeeSub.startAn (modSub p i (fun b => { b with lastDown := 6 }) s))) := by
  simp [execAnAttemptTimeout, State.relocking, hp, hb, hs, hw, hr]

/-! ### Training and failure -/

/-- A change of a port's lanes leaves its sub-ports. -/
theorem mapLanes_ieee (s : State) (p : PortId) (f : LaneId → Lane → Lane) :
    ((s.mapLanes p f).port p).ieee = (s.port p).ieee := by
  simp [State.mapLanes, Port.mapLanes]

/-- IEEE_TRAIN_DONE of a sub-port in TRAIN: it is UP, with the precoding that each side asked for (R83, R181). -/
theorem execIeeeTrainDone_train {asks wants : Bool} {reqs : List (LaneId × List CoefReq)}
    (hs : (s.port p).subRuns i .train = true) :
    ∃ u, execIeeeTrainDone p i asks wants reqs s = .next (setLink p (u.port p).subState u) ∧
      (u.port p).ieee[i.val].state = .up ∧ (u.port p).ieee[i.val].precodeTx = asks ∧
      (u.port p).ieee[i.val].precodeRx = (wants && bitOf ((s.port p).act .ieeeCfg) 4) := by
  refine ⟨_, by
    simp only [execIeeeTrainDone, hs, Bool.not_true, Bool.false_eq_true, if_false]
    rfl, ?_⟩
  simp only [mapLanes_ieee, modSub_sub, and_self]

/-- IEEE_TRAIN_TIMEOUT of a sub-port in TRAIN: it goes to DOWN with cause 1 (R181). -/
theorem execIeeeTrainTimeout_train (hs : (s.port p).subRuns i .train = true) :
    execIeeeTrainTimeout p i s = .next (subDown p i 1 true s) := by
  simp [execIeeeTrainTimeout, hs]

/-- IEEE_SUBPORT_FAIL of a sub-port in UP: it goes to DOWN with the cause's code (R182). -/
theorem execIeeeSubportFail_up {why : SubFail} (hs : (s.port p).subRuns i .up = true) :
    execIeeeSubportFail p i why s = .next (subDown p i why.code true s) := by
  simp [execIeeeSubportFail, hs]

/-! ### Codewords -/

/-- A sub-port after a corrected codeword from the line: how many symbols were corrected, the PCS lanes, and what the compensation buffer
made of the blocks (R178 to R180). -/
def Machine.IeeeSub.corrected (b : IeeeSub) (order : List Nat) (errs : Nat) (x : RcAcc) : IeeeSub :=
  { b with corrCw := wrapAdd 48 b.corrCw 1, uncCw := wrapAdd 48 b.uncCw 0, sym := wrapAdd 48 b.sym errs, pcsOrder := order,
           comp := x.depth, drop := x.drop, toHost := x.out, rcIns := satAdd 16 b.rcIns x.ins,
           rcDel := satAdd 16 b.rcDel x.del }

/-- A change of a port that changes nothing leaves the state. -/
theorem modPort_id (s : State) (p : PortId) : (s.modPort p fun q => q) = s := by
  simp [State.modPort, updAt]

/-- IEEE_CODEWORD_RECEIVE from the line, with 1 to 15 symbols in error and no overflow of the buffer (R178 to R180). -/
theorem execIeeeCodewordReceive_corrected {order : List Nat} {blocks : List PcsBlock} {errs : Nat} {drift : Int}
    {r : RcAcc × Bool} (hs : (s.port p).subRuns i .up = true)
    (ho : amOk (phyLanes (s.port p).ieee[i.val].phy) order = true) (h0 : 0 < errs) (h15 : errs ≤ 15)
    (hr : r = rateComp (s.port p).ieee[i.val].comp (s.port p).ieee[i.val].drop drift (codewordBlocks true blocks))
    (hv : r.2 = false) :
    execIeeeCodewordReceive p i false order blocks errs drift s =
      .next (modSub p i (fun b => b.corrected order errs r.1) s) := by
  subst hr
  simp [execIeeeCodewordReceive, IeeeSub.corrected, hs, ho, Nat.pos_iff_ne_zero.mp h0, h15, hv, modPort_id, b2n]

/-! ### Clause 45 -/

/-- A Clause 45 write after CONFIG_DONE, to the device's own port address, is that of the selected sub-port (R187). -/
theorem mdioWrite_selected {ad : BitVec 5} {f : PortId → SubId → State → State} (hc : s.boot.configDone = true)
    (ha : ad.toNat = s.boot.prtad) (hm : s.mdioSub = some (p, i)) : mdioWrite ad s f = f p i s := by
  simp [mdioWrite, hc, ha, hm]

/-- MDIO_PAGE_WRITE after CONFIG_DONE, to the device's own port address: the page is kept (R187). -/
theorem execMdioPageWrite_own {ad : BitVec 5} {v : BitVec 16} (hc : s.boot.configDone = true)
    (ha : ad.toNat = s.boot.prtad) :
    execMdioPageWrite ad v s = .next { s with reg := { s.reg with mdioPage := v &&& 0xFE07 } } := by
  simp [execMdioPageWrite, hc, ha]

/-- MDIO_PMA_RESET of a sub-port in DOWN: it starts again (R188). -/
theorem execMdioPmaReset_down {ad : BitVec 5} (hc : s.boot.configDone = true) (ha : ad.toNat = s.boot.prtad)
    (hm : s.mdioSub = some (p, i)) (hd : (s.port p).ieee[i.val].state = .down) :
    execMdioPmaReset ad s = .next (subRestart p i s) := by
  rw [execMdioPmaReset, mdioWrite_selected hc ha hm, if_pos hd]

/-- MDIO_PMA_RESET of a sub-port outside DOWN, on a port with another one outside DOWN: it goes to DOWN and starts again (R188). -/
theorem execMdioPmaReset_running {ad : BitVec 5} (hc : s.boot.configDone = true) (ha : ad.toNat = s.boot.prtad)
    (hm : s.mdioSub = some (p, i)) (hd : (s.port p).ieee[i.val].state ≠ .down)
    (ho : ((subDown p i 5 false s).port p).subState ≠ .down) :
    execMdioPmaReset ad s = .next (subRestart p i (subDown p i 5 false s)) := by
  simp only [execMdioPmaReset, mdioWrite_selected hc ha hm, if_neg hd, if_neg ho]

/-- MDIO_AN_RESTART of a sub-port of a port in IEEE mode, outside DOWN: its lanes rest, and Clause 73 starts again (R189). -/
theorem execMdioAnRestart_running {ad : BitVec 5} {u : State} (hc : s.boot.configDone = true)
    (ha : ad.toNat = s.boot.prtad) (hm : s.mdioSub = some (p, i)) (hi : (s.port p).ieeeMode = true)
    (hd : (s.port p).ieee[i.val].state ≠ .down)
    (hu : u = waitingDone p (modSub p i IeeeSub.startAn (s.modPort p fun q => q.subIdle i))) :
    execMdioAnRestart ad s = .next (setLink p (u.port p).subState u) := by
  subst hu
  rw [execMdioAnRestart, mdioWrite_selected hc ha hm, if_neg (by simp [hi, hd])]

/-- MDIO_ADV_MASK_WRITE: the PHYs that the register covers are taken from it, to take effect at the next start of Clause 73 (R189). -/
theorem execMdioAdvMaskWrite_selected {ad : BitVec 5} {covers sets : BitVec 8} (hc : s.boot.configDone = true)
    (ha : ad.toNat = s.boot.prtad) (hm : s.mdioSub = some (p, i)) :
    execMdioAdvMaskWrite ad covers sets s = .next (modSub p i (fun b =>
      { b with advNext := (b.advNext &&& (0xFF ^^^ covers.toNat)) ||| (sets.toNat &&& covers.toNat) }) s) := by
  rw [execMdioAdvMaskWrite, mdioWrite_selected hc ha hm]

end Ieee

/-- Settles O9: each command's own condition holds, and its result is the named change of the sub-port. -/
theorem ieeeCommandsComplete : Obligations.IeeeCommandsComplete := by
  unfold Obligations.IeeeCommandsComplete
  refine ⟨fun p i page able s hs hp hr => ⟨_, execClause73PageReceive_parley hs hp hr, ?_⟩,
    fun p i phy page s hp hb h0 hphy => execClause73Resolve_common hp hb h0 hphy,
    fun p i s hp hb hs hw hr => execAnAttemptTimeout_noPage hp hb hs hw hr,
    fun p i asks wants reqs s hs => execIeeeTrainDone_train hs, fun p i s hs => execIeeeTrainTimeout_train hs,
    fun p i why s hs => execIeeeSubportFail_up hs,
    fun p i order blocks errs drift s r hs ho h0 h15 hr hv =>
      ⟨_, execIeeeCodewordReceive_corrected hs ho h0 h15 hr hv, ?_⟩,
    fun ad v s hc ha => execMdioPageWrite_own hc ha,
    fun ad p i s hc ha hm => ⟨fun hd => execMdioPmaReset_down hc ha hm hd,
      fun hd ho => execMdioPmaReset_running hc ha hm hd ho⟩,
    fun ad p i s hc ha hm hi hu => ⟨_, execMdioAnRestart_running hc ha hm hi (by rw [hu]; decide) rfl, rfl⟩,
    fun ad p i covers sets s hc ha hm => ⟨_, execMdioAdvMaskWrite_selected hc ha hm, ?_⟩⟩
  · rw [modSub_sub, modSub_link]
    exact ⟨rfl, rfl, rfl, rfl⟩
  · rw [modSub_sub]
    exact ⟨rfl, rfl, rfl, rfl, rfl, rfl, rfl⟩
  · rw [modSub_sub]
    exact ⟨rfl, rfl⟩

end Sys2Proof
end


section
/-!
PROOFS. Where the commands of link control, QUIET and waking complete, and with what (O13).
-/
namespace Sys2Proof

open Sys2Proof.Machine

section Link

variable {p : PortId} {s : State}

/-! ### Requests and the quality snapshot -/

/-- LINK_REQ_WAKE is the write of LINK_REQ, where it reaches it (R278). -/
theorem execLinkReqWake_reaches {who : Initiator} {v : Word} (h : WriteReaches who s (portBase p + 0x80C)) :
    execLinkReqWake who p v s = .next (writeLinkReq who p v s) := by
  rw [execLinkReqWake, regWrite_reaches h]

/-- LINK_REQ_RESTART is the write of LINK_REQ, where it reaches it (R264). -/
theorem execLinkReqRestart_reaches {who : Initiator} {v : Word} (h : WriteReaches who s (portBase p + 0x80C)) :
    execLinkReqRestart who p v s = .next (writeLinkReq who p v s) := by
  rw [execLinkReqRestart, regWrite_reaches h]

/-- LINK_SNAP_REQUEST is the write of LINK_SNAP, where it reaches it (R269). -/
theorem execLinkSnapRequest_reaches {who : Initiator} {v : Word} (h : WriteReaches who s (portBase p + 0x818)) :
    execLinkSnapRequest who p v s = .next (writeLinkSnap who p v s) := by
  rw [execLinkSnapRequest, regWrite_reaches h]

/-- LINK_SNAP_TAKE of a requested snapshot: every lane's quality word is kept, and the slot it was taken in (R269). -/
theorem execLinkSnapTake_requested (h : (s.port p).link.snapDone = false) :
    execLinkSnapTake p s = .next (s.modPort p fun q =>
      { q with lanes := mapIdx q.lanes fun _ l => { l with qual := { l.qual with snap := l.qual.word } },
               link := { q.link with snapDone := true, snapSlot := q.nextSlot % 65536 } }) := by
  simp [execLinkSnapTake, Port.mapLanes, Port.nextSlot, h]

/-! ### Agreeing on QUIET -/

/-- QUIET_REQUEST of a port that may enter QUIET and has not asked: a QUIET_REQ is queued for the epoch 256 on (R271, R273). -/
theorem execQuietRequest_idle (ho : (s.port p).quietOk = true) (hf : (s.port p).farLoop = false)
    (hp : (s.port p).link.quietPend = false) (hr : (s.port p).link.quietReq = none) :
    execQuietRequest p s = .next (queueCm p 0x20 (linkMsg 1 ((s.port p).epochAfter 256)) (s.modPort p fun q =>
      { q with link := { q.link with quietReq := some ((s.port p).epochAfter 256) } })) := by
  simp [execQuietRequest, ho, hf, hp, hr]

/-- QUIET_REQ_RECEIVE at a port that may enter QUIET and has not asked: it acknowledges, and the epoch is agreed (R272, R273). -/
theorem execQuietReqReceive_agrees {e : Nat} (hn : (s.port p).noticesOk = true) (hr : (s.port p).link.quietReq = none)
    (hp : (s.port p).link.quietPend = false) (ho : (s.port p).quietOk = true) (he : e < epochMod) :
    execQuietReqReceive p e s = .next (queueCm p 0x20 (linkMsg 2 e) (s.modPort p fun q => q.quietAt e)) := by
  simp [execQuietReqReceive, hn, hr, hp, ho, Nat.not_le.mpr he]

/-- QUIET_ACK_RECEIVE of the port's own request: its epoch is agreed (R273). -/
theorem execQuietAckReceive_own {e : Nat} (hn : (s.port p).noticesOk = true) (hr : (s.port p).link.quietReq = some e) :
    execQuietAckReceive p e s = .next (s.modPort p fun q => q.quietAt e) := by
  simp [execQuietAckReceive, hn, hr]

/-- QUIET_DECLINE_RECEIVE of the port's own request: it is withdrawn, and no entry pends (R273). -/
theorem execQuietDeclineReceive_own {e : Nat} (hn : (s.port p).noticesOk = true)
    (hr : (s.port p).link.quietReq = some e) :
    execQuietDeclineReceive p e s = .next (s.modPort p fun q =>
      { q.quietAt e with link := { (q.quietAt e).link with quietPend := false } }) := by
  simp [execQuietDeclineReceive, hn, hr]

/-! ### QUIET and its refresh windows -/

/-- The port that enters QUIET: its transmitters of the map are IDLE, the QUIET epoch counts in slots, and window 1 is the next
(R273, R274). -/
def Machine.Port.enterQuiet (q : Port) : Port :=
  { q.txMap false with link := { q.link with quietPend := false, quietQ := q.link.quietEpoch * 64 % slotMod, refreshK := 1,
                                              inWindow := false, winSlot := 0, quietHold := true } }

/-- QUIET_ENTER in UP at the agreed epoch (R273). -/
theorem execQuietEnter_up (hp : (s.port p).link.quietPend = true) (hs : (s.port p).link.state = .up)
    (he : epochReached ((s.port p).nextSlot / 64) (s.port p).link.quietEpoch = true) :
    execQuietEnter p s =
      .next (reHold p (holdFall p (guarJudge p (setLink p .quiet (s.modPort p Port.enterQuiet))))) := by
  simp only [execQuietEnter, hp, hs, he]
  rfl

/-- The port at the start of a refresh window: its transmitters of the map send, and their receivers track (R274, R275). -/
def Machine.Port.openWindow (q : Port) : Port :=
  { (q.txMap true).mapLanesIn (fun l => l.enterPhase .track) with link := { q.link with inWindow := true, winSlot := 0 } }

/-- REFRESH_WINDOW_START at the first slot of the window that comes: it opens, and triggers that stand are evaluated (R274, R275). -/
theorem execRefreshWindowStart_due (hs : (s.port p).link.state = .quiet) (hw : (s.port p).link.inWindow = false)
    (hk : (s.port p).inWindowK (s.port p).link.refreshK (s.port p).nextSlot = true) :
    execRefreshWindowStart p s = .next (standingTriggers p (s.modPort p Port.openWindow)) := by
  simp only [execRefreshWindowStart, hs, hw, hk]
  rfl

/-- The port at the end of a refresh window that begins no wake (R275). -/
def Machine.Port.closeWindow (q : Port) : Port :=
  { (q.txMap false).rxHold with link := { q.link with inWindow := false, winSlot := 0 } }

/-- The next refresh window is the one to come (R274). -/
def Machine.Port.nextWindow (q : Port) : Port := { q with link := { q.link with refreshK := q.link.refreshK + 1 } }

/-- REFRESH_WINDOW_END after the window's last slot, with no lane in the map and nothing unsettled: the window closes (R275). -/
theorem execRefreshWindowEnd_settled (hs : (s.port p).link.state = .quiet) (hw : (s.port p).link.inWindow = true)
    (hm : (s.port p).code.map = 0)
    (hk : (s.port p).inWindowK (s.port p).link.refreshK (s.port p).nextSlot = false)
    (hu : ((s.modPort p Port.nextWindow).port p).unsettled = false) :
    execRefreshWindowEnd p s = .next ((s.modPort p Port.nextWindow).modPort p Port.closeWindow) := by
  have hdrift : allLanes.foldl (fun s n => if (0 : Nat).testBit n.val then windowDrift p n s else s) s = s :=
    List.foldl_fixed' (fun n => by simp) _
  simp only [execRefreshWindowEnd, hs, hw, hk, hm, hdrift]
  exact congrArg Host.Outcome.next (if_neg (Bool.eq_false_iff.mp hu))

/-! ### Waking -/

/-- WAKE_TRIGGER of a host block wakes a port of class 1 to 3 alone (R276). -/
theorem execWakeTrigger_hostBlock :
    execWakeTrigger p .hostBlock s = .next (if (s.port p).cls = 0 then s else wakeTrigger p s) := rfl

/-- WAKE_TX_DATA of an initiator: its lanes send data, and the burst ends where it was answered (R279). -/
theorem execWakeTxData_initiator (hs : (s.port p).link.state = .wake) (hr : (s.port p).link.wakeRole = .initiator)
    (hd : (s.port p).link.wakeData = false) :
    execWakeTxData p s = .next (wakeComplete p (s.modPort p fun q =>
      ({ q.txMap true with link := { q.link with wakeData := true } } : Port).burstAnswered)) := by
  simp [execWakeTxData, hs, hr, hd, Port.txMap, Port.mapLanesIn, Port.mapLanes]

/-- WAKE_RESPOND of a responder: its lanes send data, and their receivers track (R279). -/
theorem execWakeRespond_responder (hs : (s.port p).link.state = .wake) (hr : (s.port p).link.wakeRole = .responder)
    (hd : (s.port p).link.wakeData = false) :
    execWakeRespond p s = .next (wakeComplete p (s.modPort p fun q =>
      { (q.txMap true).rxTrack with link := { q.link with wakeData := true } })) := by
  simp [execWakeRespond, hs, hr, hd]

/-- WAKE_BURST_TIMEOUT of the first burst, without an answer: it is sent once more (R151, R279). -/
theorem execWakeBurstTimeout_again (hb : (s.port p).link.burst = true) (hh : (s.port p).link.wakeHeads < 2)
    (hn : (s.port p).link.bursts < 2) :
    execWakeBurstTimeout p s = .next (s.modPort p fun q =>
      ({ q with link := { q.link with bursts := q.link.bursts + 1 } } : Port).burstChirps (sampleKhz (s.group p).freq)) := by
  simp [execWakeBurstTimeout, hb, Nat.not_le.mpr hh, hn]

/-- WAKE_TIMEOUT in WAKE: it is counted, and cause 7 of DOWN waits (R279). -/
theorem execWakeTimeout_wake (hs : (s.port p).link.state = .wake) :
    execWakeTimeout p s = .next (downDue p 7 (s.modPort p fun q =>
      { q with link := { q.link with wakeFail := satAdd 8 q.link.wakeFail 1 } })) := by
  simp [execWakeTimeout, hs]

/-- The port that a wake burst of its partner wakes (R279). -/
def Machine.Port.respondWake (q : Port) : Port :=
  { q with link := { q.link with wakeRole := .responder, burst := false, bursts := 0, wakeData := false, wakeHeads := 0,
                                 inWindow := false, winSlot := 0, quietHold := false } }

/-- WAKE_BURST_DETECT in QUIET, at a port of class 1 to 3: it is the responder of a wake (R278, R279). -/
theorem execWakeBurstDetect_quiet (hs : (s.port p).link.state = .quiet) (hc : ((setLink p .wake s).port p).cls ≠ 0) :
    execWakeBurstDetect p s = .next (reHold p ((setLink p .wake s).modPort p Port.respondWake)) := by
  have hcls : (((setLink p .wake s).modPort p Port.respondWake).port p).cls ≠ 0 := by
    rwa [modPort_port]
  simp only [execWakeBurstDetect, hs]
  exact congrArg (fun t => Host.Outcome.next (reHold p t)) (if_neg hcls)

/-! ### Resends -/

/-- SND_FRAME_RESEND of a waiting frame with fewer than 4 resends: it joins the queue again (R149). -/
theorem execSndFrameResend_again {k : Nat} {f : SndFrame} (hf : (s.port p).snd.await[k]? = some f) (hr : f.resends < 4) :
    execSndFrameResend p k s = .next ((s.modPort p fun q =>
        { q with snd := { q.snd with await := q.snd.await.eraseIdx k } }).modPort p fun q =>
      { q with snd := { q.snd with queue := q.snd.queue ++ [{ f with resends := f.resends + 1 }] } }) := by
  simp [execSndFrameResend, hf, hr]

end Link

/-- Settles O13: each command's own condition holds, and its result is the named change of the link. -/
theorem linkCommandsComplete : Obligations.LinkCommandsComplete := by
  unfold Obligations.LinkCommandsComplete
  refine ⟨fun who p v s hw => ⟨execLinkReqWake_reaches hw, execLinkReqRestart_reaches hw⟩,
    fun who p v s hw => execLinkSnapRequest_reaches hw,
    fun p n s h => ⟨_, execLinkSnapTake_requested h, ?_⟩,
    fun p s ho hf hp hr => execQuietRequest_idle ho hf hp hr,
    fun p e s hn hr hp ho he => execQuietReqReceive_agrees hn hr hp ho he,
    fun p e s hn hr => execQuietAckReceive_own hn hr,
    fun p e s hn hr => ⟨_, execQuietDeclineReceive_own hn hr, ?_⟩,
    fun p s hp hs he => ⟨_, execQuietEnter_up hp hs he, ?_⟩,
    fun p s hs hw hk => ⟨_, execRefreshWindowStart_due hs hw hk, ?_⟩,
    fun p s hs hw hm hk hu => ⟨_, execRefreshWindowEnd_settled hs hw hm hk hu, ?_⟩,
    fun p s => ⟨rfl, fun hc => execWakeTrigger_hostBlock.trans (congrArg _ (if_neg hc)),
      fun hc => execWakeTrigger_hostBlock.trans (congrArg _ (if_pos hc))⟩,
    fun p s hs hr hd => execWakeTxData_initiator hs hr hd,
    fun p s hs hr hd => execWakeRespond_responder hs hr hd,
    fun p s hb hh hn => ⟨_, execWakeBurstTimeout_again hb hh hn, ?_⟩,
    fun p s hs => execWakeTimeout_wake hs,
    fun p s hs _ hc => ⟨_, execWakeBurstDetect_quiet hs hc, ?_⟩,
    fun p k f s hf hr => ⟨_, execSndFrameResend_again hf hr, ?_⟩⟩
  · simp [State.lane]
  · rw [modPort_port]
    exact ⟨rfl, rfl⟩
  · rw [modPort_port]
    exact ⟨rfl, rfl, rfl, rfl⟩
  · rw [modPort_port]
    exact ⟨rfl, rfl⟩
  · rw [modPort_port, modPort_port]
    exact ⟨rfl, rfl, rfl⟩
  · rw [modPort_port]
    exact ⟨rfl, rfl⟩
  · rw [modPort_port]
    exact ⟨rfl, rfl, rfl⟩
  · rw [modPort_port, modPort_port]
    exact ⟨rfl, rfl⟩

end Sys2Proof
end

section
/-!
PROOFS. What the operations of the spill store leave of it, and where the commands of chapter 8 and the events of the CXL links and of
the parcels complete, and with what (O10, O11).
-/
namespace Sys2Proof

open Sys2Proof.Machine

section Spill

variable {s : State}

/-! ### What leaves the spill store -/

/-- An operation that stays clear of the hub leaves the spill store. -/
theorem CalmBut.store {ck lt : Bool} {t : State} (h : CalmBut ck lt s t) : t.store = s.store := by
  obtain ⟨-, hstore, -⟩ := h
  exact hstore

/-- A cause leaves the spill store. -/
@[simp] theorem raise_store (c : Cause) (i : Inst) (d : Nat) (s : State) : (raise c i d s).store = s.store :=
  (raise_calm (.refl (ck := false) (lt := false) s) c i d).store

/-- The holds judged again leave the spill store. -/
@[simp] theorem reHoldAll_store (s : State) : (reHoldAll s).store = s.store :=
  (reHoldAll_calm (.refl (ck := false) (lt := false) s)).store

/-- The losses of a link's parcels leave the spill store's hub side. -/
@[simp] theorem loseOnLink_store (m : CxlId) (s : State) : (loseOnLink m s).store = s.store :=
  (loseOnLink_calm (.refl (ck := false) (lt := false) s) m).store

/-- The loss of the ledger reserve leaves the spill store. -/
@[simp] theorem reserveLost_store (s : State) : (reserveLost s).store = s.store :=
  (reserveLost_calm (.refl (ck := false) (lt := false) s)).store

/-- The loss of captured segments leaves the spill store. -/
@[simp] theorem loseSegments_store (m : CxlId) (s : State) : (loseSegments m s).store = s.store := rfl

/-! ### The CXL links -/

/-- The link that modMx changes. -/
@[simp] theorem modMx_mx (m : CxlId) (f : CxlLink → CxlLink) (s : State) :
    (modMx m f s).store.mx[m.val] = f s.store.mx[m.val] := updAt_self ..

/-- The links that modMx leaves. -/
theorem modMx_mx_other {m n : CxlId} (f : CxlLink → CxlLink) (s : State) (h : n ≠ m) :
    (modMx m f s).store.mx[n.val] = s.store.mx[n.val] := updAt_other _ _ _ _ h.symm

/-! ### The minimums in force -/

variable {x : SpillStore} {e : Nat × Nat × Nat × Bool}

/-- The minimums in force leave the links. -/
@[simp] theorem setEffs_mx : (x.setEffs e).mx = x.mx := rfl

/-- The minimums in force leave NOW_D. -/
@[simp] theorem setEffs_nowD : (x.setEffs e).nowD = x.nowD := rfl

/-- The minimums in force leave CFG_D. -/
@[simp] theorem setEffs_cfgD : (x.setEffs e).cfgD = x.cfgD := rfl

/-- What the links deliver does not depend on the minimums in force. -/
@[simp] theorem setEffs_deliverable : (x.setEffs e).deliverable = x.deliverable := rfl

/-- The minimums in force are all that changes of a class (R227). -/
theorem exists_setEffs_par {c : Nat} (h1 : 1 ≤ c) (h3 : c ≤ 3) :
    ∃ m, (x.setEffs e).par c = { x.par c with minEff := m } := by
  obtain rfl | rfl | rfl : c = 1 ∨ c = 2 ∨ c = 3 := by omega
  · exact ⟨e.1, rfl⟩
  · exact ⟨e.2.1, rfl⟩
  · exact ⟨e.2.2.1, rfl⟩

/-- The reduction of minimums changes the spill store in the minimums in force alone (R227). -/
@[simp] theorem reduceEffs_store (s : State) :
    (reduceEffs s).store = s.store.setEffs (minEffs s.store s.store.nowD) := by
  unfold reduceEffs
  dsimp only
  split <;> split <;> simp

/-- NOW_D computed again changes NOW_D and, where the minimums no longer fit, the minimums in force (R221, R227). -/
theorem recomputeNowD_store (s : State) :
    (recomputeNowD s).store = { s.store with nowD := s.store.deliverable } ∨
      ∃ e, (recomputeNowD s).store = SpillStore.setEffs { s.store with nowD := s.store.deliverable } e := by
  unfold recomputeNowD
  dsimp only
  split
  · exact .inl rfl
  · exact .inr ⟨_, reduceEffs_store _⟩

/-- NOW_D computed again leaves the links. -/
@[simp] theorem recomputeNowD_mx (s : State) : (recomputeNowD s).store.mx = s.store.mx := by
  obtain h | ⟨e, h⟩ := recomputeNowD_store s
  · rw [h]
  · rw [h, setEffs_mx]

/-- NOW_D computed again is what the links deliver (R221). -/
theorem recomputeNowD_nowD (s : State) : (recomputeNowD s).store.nowD = (recomputeNowD s).store.deliverable := by
  obtain h | ⟨e, h⟩ := recomputeNowD_store s
  · rw [h]
    rfl
  · rw [h, setEffs_nowD, setEffs_deliverable]
    rfl

/-! ### The parameters of the classes -/

/-- An element of a bank after an update at its number. -/
theorem getNat_updNat_self {α : Type} {n i : Nat} (v : Vector α n) (f : α → α) (d : α) (h : i < n) :
    getNat (updNat v i f) i d = f v[i] := by
  simp [getNat, updNat, updAt, h]

/-- An element of a bank after an update at another number. -/
theorem getNat_updNat_other {α : Type} {n i j : Nat} (v : Vector α n) (f : α → α) (d : α) (h : i ≠ j) :
    getNat (updNat v i f) j d = getNat v j d := by
  unfold getNat updNat updAt
  by_cases hi : i < n <;> simp [hi, h]

/-- The parameters of a class put in place. -/
def setPar (x : SpillStore) (c : Nat) (q : ClassPar) : SpillStore :=
  { x with cls := updNat x.cls (c - 1) fun _ => q }

/-- The class whose parameters were put in place has them. -/
theorem setPar_par {c : Nat} (q : ClassPar) (h3 : c ≤ 3) : (setPar x c q).par c = q :=
  getNat_updNat_self _ _ _ (by omega)

/-- The classes beside it keep theirs. -/
theorem setPar_par_other {c d : Nat} (q : ClassPar) (hc : 1 ≤ c) (hd : 1 ≤ d) (h : d ≠ c) :
    (setPar x c q).par d = x.par d :=
  getNat_updNat_other _ _ _ (by omega)

/-- The minimums in force follow the parameters that stand: set where they fit NOW_D, reduced where they do not (R227). -/
def followEffs (s : State) : State :=
  if s.store.effsFit then { s with store := s.store.setEffs (minEffs s.store s.store.nowD) } else reduceEffs s

/-- Either way the minimums in force are those that NOW_D allows. -/
theorem followEffs_store (s : State) : (followEffs s).store = s.store.setEffs (minEffs s.store s.store.nowD) := by
  unfold followEffs
  split
  · rfl
  · exact reduceEffs_store s

/-! ### SPILL_INIT and SPILL_MEASURE -/

variable {via : Origin}

/-- The capacities that SPILL_INIT maps of the trained links, with none of a link that takes no part (Table 8.1). -/
def initCaps (ideReq : Bool) (links : List CxlTrain) : List Nat :=
  mapCaps 2048 (links.map fun t => if t.usable ideReq then t else { t with capGib := 0 })

/-- The store that SPILL_INIT starts: the layout, the trained links, the measured bandwidths and the next GEN, in RUN (R215, R217,
R220). -/
def initStore (ideReq : Bool) (capture sh1 sh2 sh3 : Nat) (links : List CxlTrain) (w r : Nat) (pods : List (Nat × Nat)) (s : State) :
    SpillStore :=
  { s.store.layout ((initCaps ideReq links).take 8).sum s.boot.ledgerGib capture sh1 sh2 sh3 with
    mx := Vector.ofFn fun m =>
      match links[m.val]? with
      | some t => t.link ideReq ((initCaps ideReq links).getD m.val 0) s.store.mx[m.val].dM
      | none => { CxlLink.reset with dM := s.store.mx[m.val].dM }
    cfgD := Nat.min w r - 10, nowD := Nat.min w r - 10, gen := (s.store.gen + 1) % 65536, state := 2,
    podBw := podBwOf s pods, rot := Vector.replicate 8 0 }

/-- The state after SPILL_INIT, before the causes of reduced minimums, the record and the holds: the store with its minimums in force,
and a ledger reserve that stands. -/
def spillInited (ideReq : Bool) (capture sh1 sh2 sh3 : Nat) (links : List CxlTrain) (w r : Nat) (pods : List (Nat × Nat)) (s : State) :
    State :=
  let x := initStore ideReq capture sh1 sh2 sh3 links w r pods s
  { s with store := x.setEffs (minEffs x (Nat.min w r - 10)), ledger := { s.ledger with reserveOk := true } }

/-- SPILL_INIT of a layout that fits, with no parcel held, no capture and no repair or BIST of the spill index: done, with minimums
reduced where the bandwidth does not carry them (R215, R217, R220). -/
theorem execSpillInit_fits {ideReq : Bool} {capture sh1 sh2 sh3 : Nat} {links : List CxlTrain} {w r : Nat} {pods : List (Nat × Nat)}
    {u : State} (hu : u = spillInited ideReq capture sh1 sh2 sh3 links w r pods s) (h : Serves via 0x0401 s)
    (hsize : sizesOk capture sh1 sh2 sh3 = true) (hp : anyParcel s = false) (hc : captureRuns s = false) (hr : s.test.unrep = [])
    (hb : s.test.bist = none)
    (hfit : layoutFits ((initCaps ideReq links).take 8).sum s.boot.ledgerGib capture sh1 sh2 sh3 = true) :
    execSpillInit via ideReq capture sh1 sh2 sh3 links w r pods s =
      .next (reply via 0x0401 (if u.store.reduced then 0x08 else 0x00) []
        (reHoldAll (classRecord 0x0401 (beBytes 1 (b2n ideReq) ++ beBytes 2 capture ++ beBytes 2 sh1 ++ beBytes 2 sh2
          ++ beBytes 2 sh3) (if u.store.reduced then reduceEffs u else u)))) := by
  subst hu
  rw [execSpillInit, command_serves h]
  rw [initCaps] at hfit
  simp only [hsize, hp, hc, hr, hb, hfit, List.any_nil, Bool.or_self, Bool.not_true, Bool.false_eq_true, if_false]
  rfl

/-- The state with the bandwidths as SPILL_MEASURE found them (R220). -/
def spillMeasured (d : List Nat) (w r : Nat) (pods : List (Nat × Nat)) (s : State) : State :=
  { s with store := { s.store with
    mx := mapIdx s.store.mx fun m l => if l.takes then { l with dM := d.getD m.val 0 } else l
    cfgD := Nat.min w r - 10, podBw := podBwOf s pods } }

/-- SPILL_MEASURE of a running store with no parcel held: the measurements stand where the classes are admitted under them, and are
dropped where they are not (R220, R226). -/
theorem execSpillMeasure_run {d : List Nat} {w r : Nat} {pods : List (Nat × Nat)} (h : Serves via 0x0402 s) (hs : s.store.state = 2)
    (hp : anyParcel s = false) :
    execSpillMeasure via d w r pods s = .next (if admitted (spillMeasured d w r pods s)
      then reply via 0x0402 0x00 [] (recomputeNowD (spillMeasured d w r pods s)) else reply via 0x0402 0x0B [] s) := by
  rw [execSpillMeasure, command_serves h]
  exact congrArg _ (if_neg (by simp [hs, hp]))

/-- Admission does not depend on the links (R226). -/
theorem admitted_spillMeasured {d : List Nat} {w r : Nat} {pods : List (Nat × Nat)} :
    admitted (spillMeasured d w r pods s) =
      admitted { s with store := { s.store with cfgD := Nat.min w r - 10, podBw := podBwOf s pods } } := rfl

/-- The bandwidth of a link after SPILL_MEASURE: measured where it takes parcels, its last one elsewhere (R220). -/
theorem spillMeasured_dM {d : List Nat} {w r : Nat} {pods : List (Nat × Nat)} (m : CxlId) :
    (spillMeasured d w r pods s).store.mx[m.val].dM =
      if s.store.mx[m.val].takes then d.getD m.val 0 else s.store.mx[m.val].dM := by
  simp only [spillMeasured, mapIdx_get]
  split <;> rfl

/-! ### CLASS_SET and PORT_CLASS -/

/-- CLASS_SET of parameters in range: they stand, with the minimums in force that follow, where they are admitted, and are refused
where they are not (R226, R227). -/
theorem execClassSet_inRange {cls min floor weight ceil portCap : Nat} {t : State}
    (ht : t = { s with store := setPar s.store cls ⟨min, floor, weight, ceil, portCap, min⟩ })
    (h : Serves via 0x0403 s) (h1 : 1 ≤ cls) (h3 : cls ≤ 3) (hpar : classParOk min floor weight ceil portCap = true) :
    execClassSet via cls min floor weight ceil portCap s = .next (if admitted t
      then reply via 0x0403 0x00 [] (reHoldAll (classRecord 0x0403 (beBytes 1 cls ++ beBytes 2 min ++ beBytes 2 floor
        ++ beBytes 1 weight ++ beBytes 2 ceil ++ beBytes 2 portCap) (followEffs t)))
      else reply via 0x0403 0x0B [] s) := by
  subst ht
  have hcls : (decide (cls < 1) || decide (3 < cls)) = false := by
    rw [Bool.or_eq_false_iff, decide_eq_false_iff_not, decide_eq_false_iff_not]
    omega
  rw [execClassSet, command_serves h]
  simp only [hcls, hpar, Bool.not_true, Bool.or_self, Bool.false_eq_true, if_false, Bool.not_eq_true']
  split
  case isTrue hn => exact congrArg _ (if_neg (ne_true_of_eq_false hn)).symm
  case isFalse hn => exact congrArg _ (if_pos (eq_true_of_ne_false hn)).symm

/-- PORT_CLASS of class 0 does nothing where there is no store (R8). -/
theorem execPortClass_noStore {mask : BitVec 96} (h : Serves via 0x0404 s) (hs : s.part.hasStore = false)
    (hm : ((maskPorts mask).any fun p => !s.part.hasPort p) = false) :
    execPortClass via mask 0 s = .next (reply via 0x0404 0x00 [] s) := by
  rw [execPortClass, command_serves h]
  simp only [hs, hm]
  rfl

/-- PORT_CLASS of one port, to class 2: the guarantee fails for the class, and the holds are judged under it (R222, R236). -/
theorem execPortClass_one {p : PortId} {mask : BitVec 96} (h : Serves via 0x0404 s) (hs : s.part.hasStore = true)
    (hp : s.part.hasPort p = true) (hm : maskPorts mask = [p]) (hh : (s.port p).spill.h2l.inStore = false)
    (hl : (s.port p).spill.l2h.inStore = false)
    (ha : admitted (s.mapPorts fun q x => if [p].contains q then { x with cls := 2 } else x) = true) :
    execPortClass via mask 2 s = .next (reply via 0x0404 0x00 [] (classRecord 0x0404 (beBytes 12 mask.toNat ++ beBytes 1 2)
      (guarRise p (reHold p ((guarFail p 0x40 s).mapPorts fun q x => if [p].contains q then x.setClass 2 else x))))) := by
  rw [execPortClass, command_serves h]
  simp only [hm, hs, ha, hp, hh, hl, List.any_cons, List.any_nil, List.foldl_cons, List.foldl_nil, Bool.not_true, Bool.or_self,
    Bool.false_and, Bool.false_eq_true, Nat.reduceLT, OfNat.ofNat_ne_zero, decide_false, if_false]

/-! ### SHELF_SET and LINK_UNFENCE -/

/-- SHELF_SET of a layout that fits, with no parcel held and no capture: the layout stands (R217). -/
theorem execShelfSet_fits {capture sh1 sh2 sh3 : Nat} (h : Serves via 0x0405 s) (hsize : sizesOk capture sh1 sh2 sh3 = true)
    (hfit : layoutFits (s.store.mx.toList.map CxlLink.capGib).sum s.store.ledgerGib capture sh1 sh2 sh3 = true)
    (hp : anyParcel s = false) (hc : captureRuns s = false) :
    execShelfSet via capture sh1 sh2 sh3 s = .next (reply via 0x0405 0x00 [] (reHoldAll (classRecord 0x0405
      (beBytes 2 capture ++ beBytes 2 sh1 ++ beBytes 2 sh2 ++ beBytes 2 sh3)
      { s with store := s.store.layout (s.store.mx.toList.map CxlLink.capGib).sum s.store.ledgerGib capture sh1 sh2 sh3 }))) := by
  rw [execShelfSet, command_serves h]
  simp only [hsize, hfit, hp, hc]
  rfl

/-- LINK_UNFENCE of a link in use: it takes parcels again (R216). -/
theorem execLinkUnfence_used {m : CxlId} (h : Serves via 0x0406 s) (hm : s.store.mx[m.val].state = 2) :
    execLinkUnfence via m s =
      .next (reply via 0x0406 0x00 [] (reHoldAll (recomputeNowD (modMx m (fun l => { l with fenced := false }) s)))) := by
  rw [execLinkUnfence, command_serves h]
  exact congrArg _ (if_neg (not_not_intro hm))

/-- LINK_UNFENCE of a link not in use is refused (R216). -/
theorem execLinkUnfence_unused {m : CxlId} (h : Serves via 0x0406 s) (hm : s.store.mx[m.val].state ≠ 2) :
    execLinkUnfence via m s = .next (reply via 0x0406 0x07 [] s) := by
  rw [execLinkUnfence, command_serves h]
  exact congrArg _ (if_pos hm)

end Spill

/-- Settles O10: each command's own checks hold, and its result is the named change of the spill store. -/
theorem spillCommandsComplete : Obligations.SpillCommandsComplete := by
  unfold Obligations.SpillCommandsComplete
  refine ⟨fun via ideReq capture sh1 sh2 sh3 links w r pods s h hsize hp hc hr hb hfit =>
      ⟨_, execSpillInit_fits rfl h hsize hp hc hr hb hfit, rfl, rfl, rfl, rfl, rfl, rfl, rfl, rfl, rfl⟩,
    fun via d w r pods s h hs hp ha => ⟨spillMeasured d w r pods s,
      (execSpillMeasure_run h hs hp).trans (congrArg _ (if_pos (admitted_spillMeasured.trans ha))), rfl, rfl, rfl, spillMeasured_dM,
      rfl, rfl⟩,
    fun via d w r pods s h hs hp ha => (execSpillMeasure_run h hs hp).trans
      (congrArg _ (if_neg (ne_true_of_eq_false (admitted_spillMeasured.trans ha)))),
    fun via cls min floor weight ceil portCap s h h1 h3 hpar ha =>
      ⟨_, (execClassSet_inRange (s := s) rfl h h1 h3 hpar).trans (congrArg _ (if_pos ha)), ?_⟩,
    fun via cls min floor weight ceil portCap s h h1 h3 hpar ha =>
      (execClassSet_inRange (s := s) rfl h h1 h3 hpar).trans (congrArg _ (if_neg (ne_true_of_eq_false ha))),
    fun via mask s h hs hm => execPortClass_noStore h hs hm,
    fun via p s h hs hp hm hh hl ha => ⟨_, execPortClass_one h hs hp hm hh hl ha, ?_⟩,
    fun via capture sh1 sh2 sh3 s h hsize hfit hp hc => ⟨_, execShelfSet_fits h hsize hfit hp hc, rfl⟩,
    fun via m s h hm => ⟨_, execLinkUnfence_used h hm, ?_⟩,
    fun via m s h hm => execLinkUnfence_unused h hm⟩
  · rw [followEffs_store, setEffs_nowD, setEffs_cfgD]
    refine ⟨rfl, rfl, ?_, fun d hd1 hd3 hne => ?_⟩
    · obtain ⟨e, he⟩ := exists_setEffs_par h1 h3
      exact ⟨e, by rw [he, setPar_par _ h3]⟩
    · obtain ⟨e, he⟩ := exists_setEffs_par hd1 hd3
      exact ⟨e, by rw [he, setPar_par_other _ h1 hd1 hne]⟩
  · simp [Port.setClass]
  · exact ⟨by simp, fun n hn => by simp [modMx_mx_other _ _ hn], recomputeNowD_nowD _⟩

section SpillEvents

variable {p : PortId} {m : CxlId} {l2h : Bool} {s : State}

/-! ### The events of the CXL links -/

/-- A link in use that goes down is down at the end of all that its loss brings (R216). -/
theorem cxlDrop_mx (hm : s.store.mx[m.val].state = 2) :
    (cxlDrop m s).store.mx[m.val] = { s.store.mx[m.val] with state := 3, qual := false, ide := false } := by
  simp [cxlDrop, hm]

/-- A link not in use has nothing more to lose. -/
theorem cxlDrop_unused (hm : s.store.mx[m.val].state ≠ 2) : cxlDrop m s = s := if_pos hm

/-- CXL_LINK_DOWNTRAIN of a link in use to a width and rate still used: NOW_D follows it (R216, R221). -/
theorem execCxlLinkDowntrain_used {width rate : Nat} (hm : s.store.mx[m.val].state = 2) (hw : width ≤ 2) (hr : rate ≤ 1) :
    execCxlLinkDowntrain m width rate s = .next (recomputeNowD (raise .cxlLink .dev (m.val + 0x10)
      (modMx m (fun l => { l with width := width, rate := rate }) s))) := by
  simp [execCxlLinkDowntrain, hm, Nat.not_lt.mpr hw, Nat.not_lt.mpr hr]

/-- CXL_LINK_FENCE of a link in use that is not fenced: no new writes, and the captured segments on it are lost (R216, R321). -/
theorem execCxlLinkFence_used (hm : s.store.mx[m.val].state = 2) (hf : s.store.mx[m.val].fenced = false) :
    execCxlLinkFence m s = .next (reHoldAll (recomputeNowD (raise .cxlLink .dev (m.val + 0x20)
      (loseSegments m (modMx m (fun l => { l with fenced := true }) s))))) := by
  simp [execCxlLinkFence, hm, hf]

/-- CXL_LINK_RETURN of a link in use: its 100 ms are over, or its full width and rate are back (R216). -/
theorem execCxlLinkReturn_used (hm : s.store.mx[m.val].state = 2) :
    execCxlLinkReturn m s = .next (reHoldAll (recomputeNowD (modMx m
      (fun l => if l.qual then { l with qual := false } else { l with width := 0, rate := 0 }) s))) :=
  if_neg (not_not_intro hm)

/-- CXL_RETRAIN_DONE of a dropped link that SPILL_INIT did not leave out, at a width and rate used: its 100 ms start (R214, R216). -/
theorem execCxlRetrainDone_dropped {width rate : Nat} (hm : s.store.mx[m.val].state = 3) (he : s.store.mx[m.val].excluded = false)
    (hw : width ≤ 2) (hr : rate ≤ 1) :
    execCxlRetrainDone m width rate s = .next (modMx m (fun l =>
      { l with state := 2, qual := true, width := width, rate := rate, ide := l.hasIde }) s) := by
  simp [execCxlRetrainDone, hm, he, Nat.not_lt.mpr hw, Nat.not_lt.mpr hr]

/-! ### Grants and reads of parcels -/

/-- The queue that modQ changes. -/
@[simp] theorem modQ_q (q : Port) (l2h : Bool) (f : SpillQ → SpillQ) : (q.modQ l2h f).spill.q l2h = f (q.spill.q l2h) := by
  cases l2h <;> rfl

/-- A counted grant leaves the port's queues. -/
@[simp] theorem countGrant_q (read : Bool) (p : PortId) (l2h : Bool) (s : State) :
    ((countGrant read p s).port p).spill.q l2h = (s.port p).spill.q l2h := by
  have hport : (countGrant read p s).port p = (s.modPort p fun q => { q with spill :=
      if read then { q.spill with gR := q.spill.gR + 1 } else { q.spill with gW := q.spill.gW + 1 } }).port p := rfl
  rw [hport, modPort_port]
  cases read <;> rfl

/-- A counted grant leaves the rotation. -/
@[simp] theorem countGrant_rot (read : Bool) (p : PortId) (s : State) : (countGrant read p s).store.rot = s.store.rot := by
  cases read <;> rfl

/-- PARCEL_WRITE_GRANT of a read that the port may have and whose parcel the head would take: one read more is granted (R223, R229). -/
theorem execParcelWriteGrant_read (hs : (grantInterval s).store.state = 2) (ha : grantAllowed (grantInterval s) true p = true)
    (hr : (((grantInterval s).port p).spill.q l2h).readable ((grantInterval s).port p).headRoom = true) :
    execParcelWriteGrant p l2h true s = .next (countGrant true p ((grantInterval s).modPort p fun q =>
      q.modQ l2h fun x => { x with reading := x.reading + 1 })) := by
  simp [execParcelWriteGrant, hs, ha, hr]

/-- A parcel that has a place is written there: the rotation moves on, and the first waiting parcel of the queue takes the slot (R218,
R219). -/
theorem writeParcel_placed {r : Nat} {v : Vector Int 8} (hp : placeNext s p = some (m, r, v)) :
    ∃ u, writeParcel p l2h s = reHold p u ∧ u.store.rot = v ∧
      (u.port p).spill.q l2h = ((s.port p).spill.q l2h).writeFirst m r s.store.gen (freeStoreSlot s m.val r) := by
  refine ⟨_, by rw [writeParcel, hp], countGrant_rot .., (countGrant_q ..).trans ?_⟩
  exact (congrArg (fun q : Port => q.spill.q l2h) (modPort_port ..)).trans (modQ_q ..)

/-- PARCEL_WRITE_GRANT of a write that the port may have, of a closed parcel: it is written (R218, R223). -/
theorem execParcelWriteGrant_write (hs : (grantInterval s).store.state = 2) (ha : grantAllowed (grantInterval s) false p = true)
    (hw : (((grantInterval s).port p).spill.q l2h).wantsWrite = true) :
    execParcelWriteGrant p l2h false s = .next (writeParcel p l2h (grantInterval s)) := by
  simp [execParcelWriteGrant, hs, ha, hw]

/-- PARCEL_READ_DONE of the parcel expected, whole as read: its blocks are back, and what may move to the head moves (R219, R229). -/
theorem execParcelReadDone_expected {slot : BitVec 32768} {i g k rg : Nat} {c : Parcel} {lk : CxlId} {h : ParcelHeader}
    {blocks : List Block} (hi : ((s.port p).spill.q l2h).first = some i) (hc : ((s.port p).spill.q l2h).parcels[i]? = some c)
    (hk : c.place = .stored lk rg g k) (hn : ((s.port p).spill.q l2h).reading ≠ 0) (hr : readSlot slot = some (h, blocks, false))
    (he : h.expected p l2h g c.pseq = true) :
    execParcelReadDone p l2h (some slot) s = .next (reHoldAll (s.modPort p fun q =>
      (q.modQ l2h fun x => x.back q.headRoom i blocks).pull l2h)) := by
  simp [execParcelReadDone, hi, hc, hk, hn, hr, he]

/-- PARCEL_READ_DONE of a read that failed: the parcel is lost (R234). -/
theorem execParcelReadDone_failed {i g k rg : Nat} {c : Parcel} {lk : CxlId} (hi : ((s.port p).spill.q l2h).first = some i)
    (hc : ((s.port p).spill.q l2h).parcels[i]? = some c) (hk : c.place = .stored lk rg g k)
    (hn : ((s.port p).spill.q l2h).reading ≠ 0) :
    execParcelReadDone p l2h none s = .next (parcelLoss p l2h i s) := by
  simp [execParcelReadDone, hi, hc, hk, hn]

/-! ### The guarantee's window -/

/-- GUAR_WINDOW_END of a native port whose window failed in nothing: LINK_WIN_STAT is loaded and a new window begins (R236, R270). -/
theorem execGuarWindowEnd_clean (hn : (s.port p).snd.path = .native) (hw : (s.port p).guarWindow = 0) :
    ∃ t, execGuarWindowEnd p s = .next t ∧ (t.port p).link.winUnc = Nat.min 0xFFFF (s.port p).code.winUnc ∧
      (t.port p).code.winDecoded = 0 ∧ (t.port p).code.winCorr = 0 ∧ (t.port p).code.winUnc = 0 ∧
      (t.port p).code.winRecv = 0 ∧ (t.port p).spill.winViol = false := by
  refine ⟨_, if_neg (not_not_intro hn), ?_⟩
  simp [hw]

end SpillEvents

/-- Settles O11: each event's own condition holds, and its result is the named change of the link, the queue or the window. -/
theorem spillEventsComplete : Obligations.SpillEventsComplete := by
  unfold Obligations.SpillEventsComplete
  refine ⟨fun m s hm => ⟨rfl, by rw [cxlDrop_mx hm], by rw [cxlDrop_mx hm]⟩,
    fun m s hm => congrArg _ (cxlDrop_unused hm),
    fun m width rate s hm hw hr => execCxlLinkDowntrain_used hm hw hr,
    fun m s hm hf => execCxlLinkFence_used hm hf,
    fun m s hm _ => execCxlLinkReturn_used hm,
    fun m width rate s hm he hw hr => ⟨_, execCxlRetrainDone_dropped hm he hw hr, ?_⟩,
    fun s => rfl,
    fun p l2h s => rfl,
    fun p l2h s hs ha hr => execParcelWriteGrant_read hs ha hr,
    fun p l2h m r v s hs ha hw hp => (writeParcel_placed hp).imp fun u ⟨hu, hrot, hq⟩ =>
      ⟨(execParcelWriteGrant_write hs ha hw).trans (congrArg _ hu), hrot, hq⟩,
    fun p l2h slot i c lk rg g k h blocks s hi hc hk hn hr he => execParcelReadDone_expected hi hc hk hn hr he,
    fun p l2h i c lk rg g k s hi hc hk hn => execParcelReadDone_failed hi hc hk hn,
    fun p s hn hw _ => execGuarWindowEnd_clean hn hw⟩
  rw [modMx_mx]
  exact ⟨rfl, rfl, rfl, rfl, rfl, rfl⟩

end Sys2Proof
end

section
/-!
PROOFS. Where the commands of the host interface and of the fast status bus complete, and with what (O12).
-/
namespace Sys2Proof

open Sys2Proof.Machine

section HostIf

variable {p : PortId} {h : HostLaneId} {s : State}

/-! ### Markers -/

/-- The port that hears what was expected as a marker of a lane: its marker lock, what a valid marker says, and the moves of the transmit
lanes newly failed (R246, R249, R250). -/
def Machine.Port.hearMarker (h : HostLaneId) (m : Option HostMarker) (q : Port) : Port :=
  let x := q.host.markLock h.val m
  match m with
  | none => { q with host := x }
  | some k =>
    let y := x.markTake k
    let q := { q with host := y }
    (q.byLogical (y.txFail &&& (0xFFF ^^^ x.txFail))).foldl Port.txMove q

/-- HOST_MARKER_RECEIVE while host framing runs: the port hears the marker, and a lane that lost its marker lock by it fails
(R246, R248). -/
theorem execHostMarkerReceive_framing {d : Option (BitVec 256)} (ht : (s.port p).host.tx = .framing) :
    execHostMarkerReceive p h d s = .next (
      if (s.port p).host.rxLock.testBit h.val &&
          !((s.port p).host.markLock h.val (d.bind (readMarker h.val))).rxLock.testBit h.val
      then failHostLane p h (s.modPort p (Port.hearMarker h (d.bind (readMarker h.val))))
      else s.modPort p (Port.hearMarker h (d.bind (readMarker h.val)))) :=
  congrArg Host.Outcome.next (if_neg (not_not_intro ht))

/-- HOST_MARKER_RECEIVE of a lane without marker lock: there is none to lose. -/
theorem execHostMarkerReceive_unlocked {d : Option (BitVec 256)} (ht : (s.port p).host.tx = .framing)
    (hr : (s.port p).host.rxLock.testBit h.val = false) :
    execHostMarkerReceive p h d s = .next (s.modPort p (Port.hearMarker h (d.bind (readMarker h.val)))) := by
  rw [execHostMarkerReceive_framing ht, hr]
  rfl

/-- HOST_MARKER_RECEIVE of a missing marker that takes the lane's lock: the lane fails (R246, R248). -/
theorem execHostMarkerReceive_loses (ht : (s.port p).host.tx = .framing) (hr : (s.port p).host.rxLock.testBit h.val = true)
    (hl : ((s.port p).host.markLock h.val none).rxLock.testBit h.val = false) :
    execHostMarkerReceive p h none s =
      .next (failHostLane p h (s.modPort p fun q => { q with host := q.host.markLock h.val none })) := by
  rw [execHostMarkerReceive_framing ht, Option.bind_none, hr, hl]
  rfl

/-- No lane of an empty mask carries a logical lane. -/
theorem byLogical_zero (q : Port) : q.byLogical 0 = [] := by
  simp [Port.byLogical]

/-- A marker whose FAIL mask brings no new failure moves no transmit lane (R249). -/
theorem hearMarker_noFail {q : Port} {k : HostMarker}
    (hf : ((q.host.markLock h.val (some k)).markTake k).txFail &&& (0xFFF ^^^ (q.host.markLock h.val (some k)).txFail) = 0) :
    q.hearMarker h (some k) = { q with host := (q.host.markLock h.val (some k)).markTake k } := by
  simp only [Port.hearMarker, hf, byLogical_zero, List.foldl_nil]

/-! ### Frames -/

/-- The host interface as a frame of the device's transmit side begins: the map announced is in force, and the one decided is announced
(R245, R249). -/
def Machine.HostSt.startTx (x : HostSt) : HostSt :=
  { x with frame := wrapAdd 32 x.frame 1, txAnn := x.txNext, txNext := none,
           txMap := (match x.txAnn with | some m => mapOfList m | none => x.txMap) }

/-- The transmit map announced is the one in force in the frame that begins (R249). -/
theorem startTx_txMap {x : HostSt} {m : List Nat} (hm : x.txAnn = some m) : x.startTx.txMap = mapOfList m := by
  simp only [HostSt.startTx, hm]

/-- HOST_FRAME_START of the device's transmit side: then what waited on host egress is judged afresh (R230, R247,
R249). -/
theorem execHostFrameStart_tx (ht : (s.port p).host.tx = .framing) :
    execHostFrameStart p true s =
      .next (capacityAdds p (judgeWaiting p (s.modPort p fun q => { q with host := q.host.startTx }))) :=
  congrArg Host.Outcome.next (if_neg (not_not_intro ht))

/-- The host interface as a frame of the host begins whose map two markers announced: it is in force, and only lanes that carry a logical
lane stay failed (R245, R248). -/
def Machine.HostSt.startRx (m : List Nat) (x : HostSt) : HostSt :=
  { x with rxNext := none, rxFrame := wrapAdd 32 x.rxFrame 1, rxMap := mapOfList m, rxFail := x.rxFail &&& usedLanes (mapOfList m) }

/-- HOST_FRAME_START of the host's side with a lane locked and a map that two markers announced: the map takes effect (R245). -/
theorem execHostFrameStart_rx {m : List Nat} {n : Nat} (ht : (s.port p).host.tx = .framing) (hl : (s.port p).host.rxLock ≠ 0)
    (hm : (s.port p).host.rxNext = some (m, n)) (hn : 2 ≤ n) :
    ∃ t, execHostFrameStart p false s = .next t ∧ (t.port p).host = (s.port p).host.startRx m := by
  refine ⟨_, congrArg Host.Outcome.next ((if_neg (not_not_intro ht)).trans ((if_neg Bool.false_ne_true).trans (if_neg hl))), ?_⟩
  simp only [modPort_port, hm, if_pos hn]
  rfl

/-! ### Failed lanes -/

/-- The port whose receive lane fails (R248). -/
def Machine.Port.failRx (h : HostLaneId) (q : Port) : Port :=
  { q with host := { q.host with rxFail := q.host.rxFail ||| 2 ^ h.val, rxFails := satAdd 8 q.host.rxFails 1,
                                 rxLock := q.host.rxLock &&& (0xFFF ^^^ 2 ^ h.val),
                                 rxMark := updAt q.host.rxMark h fun _ => none },
           ctr := { q.ctr with hostFails := q.ctr.hostFails + 1 } }

/-- A lane fails that carries a logical lane and has not failed yet: the cause rises on its port (R248). -/
theorem failHostLane_carries (ht : (s.port p).host.tx = .framing) (hc : carries (s.port p).host.rxMap h.val = true)
    (hf : (s.port p).host.rxFail.testBit h.val = false) :
    failHostLane p h s = raise .hostLaneFail (.port p) h.val (s.modPort p (Port.failRx h)) :=
  if_neg (by simp [ht, hc, hf])

/-! ### Codewords -/

/-- The port that gets an uncorrectable codeword of a lane: it is counted, and noted for the lane's failure (R243, R248). -/
def Machine.Port.missCodeword (h : HostLaneId) (now : Nat) (q : Port) : Port :=
  { q with host := { q.host with uncCw := wrapAdd 48 q.host.uncCw 1,
                                 uncAt := updAt q.host.uncAt h fun l => (l.filter fun t => decide (now < t + 1024)) ++ [now] },
           code := { q.code with hostBad := satAdd 16 q.code.hostBad 1 } }

/-- What an uncorrectable codeword brings after its cause: the lane fails at the fourth noted, and an ERRORED block enters the path
(R229, R248). -/
def afterMiss (p : PortId) (h : HostLaneId) (s : State) : State :=
  reHold p ((if 4 ≤ ((s.port p).host.uncAt[h.val]).length then failHostLane p h s else s).modPort p fun q =>
    q.hostBlock Block.errored)

/-- The blocks of a codeword's units as received (R242, R244). -/
def codewordBlocks (units : List (BitVec 257)) (key : BitVec 16) : List (Block × Bool) :=
  (List.zipWith (fun a b => unitBlock (a ^^^ b)) units (hostKs 20 (ksRun 64 (ksSeed key)))).filterMap id

/-- The port that gets a codeword of no symbol in error: its line-owned units count as bad (R98). -/
def Machine.Port.takeCodeword (blocks : List (Block × Bool)) (q : Port) : Port :=
  { q with host := { q.host with corrCw := wrapAdd 48 q.host.corrCw 0 },
           code := { q.code with hostBad := satAdd 16 q.code.hostBad (blocks.countP fun b => b.2) } }

section Codeword

variable {period : Nat} {units : List (BitVec 257)} {late : Bool}
  (ht : (s.port p).host.tx = .framing) (hc : carries (s.port p).host.rxMap h.val = true) (hp : period ≠ 16 * h.val)
  (hf : (s.port p).host.rxFail.testBit h.val = false) (hl : (s.port p).host.rxLock.testBit h.val = true)
include ht hc hp hf hl

/-- A data codeword is due on a lane that carries a logical lane, is locked and has not failed, out of its marker's period (R245). -/
theorem codeword_due :
    (decide ((s.port p).host.tx ≠ .framing) || !carries (s.port p).host.rxMap h.val || decide (period = 16 * h.val)
      || !((s.port p).host.rxFail.testBit h.val || (s.port p).host.rxLock.testBit h.val)) = false := by
  simp [ht, hc, hp, hf, hl]

/-- HOST_CODEWORD_RECEIVE of a missing codeword: it counts as uncorrectable, and the cause rises (R243; that a missing
codeword raises it as an uncorrectable one does is the model's choice, log 54). -/
theorem execHostCodewordReceive_missing :
    execHostCodewordReceive p h period none units late s = .next (afterMiss p h (raise .hostFecUnc (.port p) h.val
      (s.modPort p (Port.missCodeword h ((s.port p).host.rxFrame * 256 + period))))) := by
  unfold execHostCodewordReceive
  dsimp only
  rw [if_neg (ne_true_of_eq_false (codeword_due ht hc hp hf hl)), if_pos (Bool.or_true _)]
  simp only [decide_eq_true_eq]
  rfl

/-- HOST_CODEWORD_RECEIVE of a codeword without a symbol in error, at a port of class 0: its blocks arrive in order (R242, R244). -/
theorem execHostCodewordReceive_clean (hcls : (s.port p).cls = 0) :
    execHostCodewordReceive p h period (some 0) units late s =
      .next ((codewordBlocks units (hostKey h.val (s.port p).host.rxFrame period)).foldl (fun s b => hostArrive p late b.1 s)
        (s.modPort p (Port.takeCodeword (codewordBlocks units (hostKey h.val (s.port p).host.rxFrame period))))) := by
  have hgood : ((s.port p).host.rxFail.testBit h.val || decide (15 < 0)) ≠ true := by simp [hf]
  unfold execHostCodewordReceive codewordBlocks Port.takeCodeword
  dsimp only
  rw [if_neg (ne_true_of_eq_false (codeword_due ht hc hp hf hl)), if_neg hgood, if_neg (by simp [hcls])]
  simp [b2n]

end Codeword

/-! ### Registers and the bus -/

/-- HOST_REQ_TX_MOVE is the write of HOST_REQ, where it reaches it (R249). -/
theorem execHostReqTxMove_reaches {who : Initiator} {v : Word} (h : WriteReaches who s (portBase p + 0x4010)) :
    execHostReqTxMove who p v s = .next (writeHostReq who p v s) := by
  rw [execHostReqTxMove, regWrite_reaches h]

/-- FSI_CTRL_WRITE is the write of FSI_CTRL, where it reaches it (R252, R259). -/
theorem execFsiCtrlWrite_reaches {who : Initiator} {v : Word} (h : WriteReaches who s 0x400) :
    execFsiCtrlWrite who v s = .next (writeFsiCtrl v s) := by
  rw [execFsiCtrlWrite, regWrite_reaches h]

/-- FSI_CLK_LOSS of a clock that ran: the condition rises (R258). -/
theorem execFsiClkLoss_runs (hk : s.fsi.clkOk = true) :
    execFsiClkLoss s = .next (raise .fsiClkLoss .dev 0 { s with fsi := { s.fsi with clkOk := false } }) :=
  congrArg _ (if_pos hk)

/-- FSI_CLK_RESTORE of a clock that was lost: the shadow holds as the ports do, and the condition ends (R258). -/
theorem execFsiClkRestore_lost (hk : s.fsi.clkOk = false) :
    execFsiClkRestore s = .next (endCond .fsiClkLoss .dev
      { s with fsi := { s.fsi with clkOk := true, holds := Vector.ofFn fun p => s.busHeld p } }) :=
  congrArg _ (if_neg (ne_true_of_eq_false hk))

/-- FSI_SEL_CHANGE in select mode drives the word of the port named in the same cycle (R254). -/
theorem execFsiSelChange_select {sel : BitVec 7} (hm : s.fsi.mode = 2) :
    execFsiSelChange sel s = .next (driveFsi { s with fsi := { s.fsi with sel := sel.toNat } }) :=
  congrArg _ (if_pos hm)

end HostIf

/-- Settles O12: each command's own condition holds, and its result is the named change of the host interface or of the bus. -/
theorem hostCommandsComplete : Obligations.HostCommandsComplete := by
  unfold Obligations.HostCommandsComplete
  refine ⟨fun p h s ht hr => ⟨_, execHostMarkerReceive_unlocked ht hr, ?_⟩,
    fun p h d k s ht hd hr hf => ⟨_, execHostMarkerReceive_unlocked ht hr, ?_⟩,
    fun p h s ht hr hl => execHostMarkerReceive_loses ht hr hl,
    fun p s ht => ⟨_, execHostFrameStart_tx ht, ?_⟩,
    fun p m n s ht hl hm hn => ?_,
    fun p h s ht hc hf => ⟨_, congrArg _ (failHostLane_carries ht hc hf), ?_⟩,
    fun who p v s h => execHostReqTxMove_reaches h,
    fun p h period units late s ht hc hp hf hl => ⟨_, execHostCodewordReceive_missing ht hc hp hf hl, ?_⟩,
    fun p h period units late s ht hc hp hf hl hcls => ⟨_, _, execHostCodewordReceive_clean ht hc hp hf hl hcls, rfl, ?_⟩,
    fun who v s h => execFsiCtrlWrite_reaches h,
    fun s hk => execFsiClkLoss_runs hk,
    fun s hk => execFsiClkRestore_lost hk,
    fun p s => ⟨_, rfl, ?_, rfl, fun q hq => modPort_port_other s p q _ hq.symm⟩,
    fun sel s => rfl,
    fun sel s hm => execFsiSelChange_select hm⟩
  · rw [modPort_port]
    exact ⟨rfl, rfl⟩
  · rw [modPort_port, Option.bind_some, hd, hearMarker_noFail hf]
    exact ⟨rfl, rfl⟩
  · rw [modPort_port]
    exact ⟨rfl, rfl, rfl, fun m hm => startTx_txMap hm⟩
  · obtain ⟨t, hnext, hhost⟩ := execHostFrameStart_rx ht hl hm hn
    refine ⟨t, hnext, ?_⟩
    rw [hhost]
    exact ⟨rfl, rfl, rfl⟩
  · rw [modPort_port]
    exact ⟨rfl, rfl⟩
  · rw [modPort_port]
    exact ⟨rfl, rfl⟩
  · rw [modPort_port]
    rfl
  · rw [modPort_port]

end Sys2Proof
end

section
/-!
PROOFS. Where the commands of calibration and the end of a flash operation complete, and with what (O14).
-/
namespace Sys2Proof

open Sys2Proof.Machine

section Calibration

variable {via : Origin} {p : PortId} {n : LaneId} {s : State}

/-! ### Foreground runs -/

/-- The state whose CAL_RUN has ended (R297). -/
def endCalRun (s : State) : State := { s with cal := { s.cal with run := none } }

/-- The run of SK_DESKEW alone, on the stack ports of a mask (Table 11.1). -/
def deskewRun (via : Origin) (stk : BitVec 4) : CalRunning :=
  { origin := via, ports := [], laneMask := 0, stkMask := stk.toNat, items := 0x0200 }

/-- CAL_RUN of SK_DESKEW alone, with no other run: it starts, and nothing else changes (R297). -/
theorem execCalRun_deskew {stk : BitVec 4} (h : Serves via 0x0201 s) (hk : stk ≠ 0) (hr : s.cal.run = none) :
    execCalRun via 0 0 stk 0x0200 s = .next { s with cal := { s.cal with run := some (deskewRun via stk) } } := by
  have hports : maskPortList 0 = [] := by simp [maskPortList]
  have hitems : calPortItems 0x0200 = [] := by decide
  have hmask : stk ≠ 0#4 := hk
  rw [execCalRun, command_serves h]
  simp [hports, hitems, hmask, hr, deskewRun]

section Done

variable {r : CalRunning} {us : Nat} (hr : s.cal.run = some r)
include hr

/-- CAL_RUN_DONE with an active input: the lane's last result is 4, no measured value changes, and the reply is NOT_QUIET (R295). -/
theorem execCalRunDone_active {i : Nat} {x : Listen} (hn : r.names (.listen p n i x) = true)
    (ha : x.active s.boot.limits.quiet = true) :
    execCalRunDone [.listen p n i x] us s =
      .next (reply r.origin 0x0201 0x0A [] ((endCalRun s).modLane p n fun l => l.calResult i 4)) := by
  simp [execCalRunDone, endCalRun, sortBy, insertBy, hr, hn, ha]

/-- CAL_RUN_DONE without a measurement and without a skipped stack port: every count is 0, and the reply is OK (R297). -/
theorem execCalRunDone_empty (hs : skippedStk r (endCalRun s) = 0) :
    execCalRunDone [] us s = .next (reply r.origin 0x0201 0x00
      (beBytes 2 0 ++ beBytes 2 0 ++ beBytes 2 0 ++ beBytes 2 0 ++ beBytes 4 us) (endCalRun s)) := by
  simp only [endCalRun] at hs ⊢
  simp [execCalRunDone, sortBy, hr, hs]

end Done

/-- The lane that an accepted CTLE_TRIM leaves: its trim is in force, measured, and its last result is accepted (R284, R291). -/
def Machine.Lane.acceptTrim (v : Int) (l : Lane) : Lane :=
  { l.calResult 6 1 with cal := { (l.calResult 6 1).cal with ctleTrim := v, trimMeas := true } }

/-- A CTLE_TRIM within its limit is accepted (R284, R291). -/
theorem applyMeas_ctleTrim {v : Int} (hv : v.natAbs ≤ s.boot.limits.ctleTrim) :
    applyMeas (.ctleTrim p n v) s = (s.modLane p n (Lane.acceptTrim v), [1]) := by
  simp only [applyMeas, if_pos hv, if_true]
  rfl

/-- CAL_RUN_DONE with one CTLE_TRIM within its limit, and no skipped stack port: it is applied, and counts as accepted (R291, R297). -/
theorem execCalRunDone_ctleTrim {r : CalRunning} {v : Int} {us : Nat} (hr : s.cal.run = some r)
    (hn : r.names (.ctleTrim p n v) = true) (hv : v.natAbs ≤ s.boot.limits.ctleTrim) (hs : skippedStk r (endCalRun s) = 0) :
    execCalRunDone [.ctleTrim p n v] us s = .next (reply r.origin 0x0201 0x00
      (beBytes 2 1 ++ beBytes 2 0 ++ beBytes 2 0 ++ beBytes 2 0 ++ beBytes 4 us)
      ((endCalRun s).modLane p n (Lane.acceptTrim v))) := by
  have happly := applyMeas_ctleTrim (p := p) (n := n) (s := endCalRun s) hv
  simp only [endCalRun] at hs happly ⊢
  simp [execCalRunDone, sortBy, insertBy, hr, hn, hs, happly, CalTally.add]

/-! ### DAC cells -/

/-- The lane whose DAC measurement keeps the selection that is in force (R288). -/
def Machine.Lane.keepCells (e : List Int) (w : Nat) (l : Lane) : Lane :=
  { l.calResult 3 1 with cal := { (l.calResult 3 1).cal with dacErr := e, dacWorst := w } }

/-- DAC_MEASURE_DONE of a lane in DATA that is measured and exchanges no cell, judged to keep its selection (R287, R288). -/
theorem execDacMeasureDone_keeps {e : List Int} {w : Nat} (ht : (s.lane p n).tx.state = .data)
    (hq : (s.port p).link.state ≠ .quiet) (hb : bitOf ((s.lane p n).act .calLaneCtrl) 0 = true)
    (hf : 16 ≤ (s.lane p n).cal.dacFolios) (hc : (s.lane p n).tx.cellNext = none) (hd : (s.lane p n).cal.dacNext = none)
    (hj : dacJudge s.boot.limits s.boot.limits.dacHyst ((s.lane p n).tx.retireA, (s.lane p n).tx.retireB) e = .kept w) :
    execDacMeasureDone p n e s =
      .next ((s.modLane p n fun l => { l with cal := { l.cal with dacFolios := 0 } }).modLane p n (Lane.keepCells e w)) := by
  simp only [execDacMeasureDone, ht, hq, hb, Nat.not_lt.mpr hf, hc, hd, modLane_boot, hj]
  rfl

/-! ### Steps of the CTLE -/

/-- The lane whose decided CTLE step takes effect (R90, R289). -/
def Machine.Lane.stepCtle (d : Int) (l : Lane) : Lane :=
  { l with rx := { l.rx with peak := stepPeak l.rx.peak d, held := true, revDue := false, sinceChange := 0 },
           cal := { l.cal with ctleDue := none, cntCtle := satAdd 8 l.cal.cntCtle 1 } }

/-- CTLE_STEP_APPLY of a decided step in TRACK, where a live change is allowed and no slice swap is due (R92, R289). -/
theorem execCtleStepApply_allowed {d : Int} {k : Bool} (hd : (s.lane p n).cal.ctleDue = some (d, k))
    (ht : (s.lane p n).rx.phase = .track) (ha : liveAllowed s p n = true) (hw : swapDue (s.lane p n) = false) :
    execCtleStepApply p n s = .next (s.modLane p n (Lane.stepCtle d)) := by
  simp only [execCtleStepApply, hd, ht, ha, hw]
  rfl

/-- CTLE_CHECK_TIMEOUT of a step not yet checked, in TRACK with no other step due: it is reverted (R290). -/
theorem execCtleCheckTimeout_unchecked {k : Nat} {d : Int} (hc : (s.lane p n).cal.ctleCheck = some (k, d))
    (hd : (s.lane p n).cal.ctleDue = none) (ht : (s.lane p n).rx.phase = .track) :
    execCtleCheckTimeout p n s = .next (s.modLane p n fun l => l.ctleRevert d) := by
  simp [execCtleCheckTimeout, hc, hd, ht]

/-! ### The stored set -/

/-- CAL_STORE while nothing holds the flash: the snapshot is on its way to the other sector (R303). -/
theorem execCalStore_free (h : Serves via 0x0202 s) (hj : s.boot.job = none) :
    execCalStore via s = .next (startStore .calStore via 0x0202 (calSnapshot s) s) := by
  rw [execCalStore, command_serves h, hj]
  rfl

/-- CAL_EXPORT of a chunk of the set in force, with no store or import at work (R305). -/
theorem execCalExport_inForce {chunk : Nat} {c : CalSet} (h : Serves via 0x0203 s) (hc : chunk ≤ 127)
    (hf : s.cal.inForce ≠ 0) (hset : (s.cal.sector s.cal.inForce).set = some c) (hb : s.storeBusy = false) :
    execCalExport via chunk s = .next (reply via 0x0203 0x00 ((c.bytes.drop (chunk * 2048)).take 2048) s) := by
  rw [execCalExport, command_serves h]
  simp only [if_neg (Nat.not_lt.mpr hc), if_neg hf, hset, hb]
  rfl

/-- CAL_IMPORT of a whole chunk that is not the last, while nothing holds the flash: it is staged (R305). -/
theorem execCalImport_staged {chunk : Nat} {data : List Byte} (h : Serves via 0x0204 s) (hc : chunk ≤ 127)
    (hd : data.length = 2048) (hj : s.boot.job = none) :
    execCalImport via chunk data false s = .next (reply via 0x0204 0x00 []
      { s with cal := { s.cal with staged := stageChunk s.cal.staged chunk data } }) := by
  rw [execCalImport, command_serves h]
  simp [Nat.not_lt.mpr hc, hd, hj]

/-! ### Reading -/

/-- CAL_COEF_READ of stage 0xA reads the deskew of a stack port, with 0 as the slot (R299). -/
theorem execCalCoefRead_deskew {q : StackPortId} {first count : Nat} (h : Serves via 0x0205 s)
    (hl : first + count ≤ (s.stk q).deskew.length) (hc : count ≤ 1024) :
    execCalCoefRead via q.val n 0xA first count false s = .next (reply via 0x0205 0x00
      (beBytes 2 0 ++ (((s.stk q).deskew.drop first).take count).flatMap fun v => beBytes 2 (unsigned 16 v)) s) := by
  rw [execCalCoefRead, command_serves h]
  simp [q.isLt, Nat.not_lt.mpr hl, Nat.not_lt.mpr hc]

/-- CAL_LIMITS_READ answers the record in force (R285). -/
theorem execCalLimitsRead_served (h : Serves via 0x0206 s) :
    execCalLimitsRead via s = .next (reply via 0x0206 0x00 s.boot.limits.bytes s) := by
  rw [execCalLimitsRead, command_serves h]

/-! ### The flash -/

/-- FLASH_OPERATION_DONE of an image write that went well: the flash is free, and the reply is OK (R390). -/
theorem execFlashOperationDone_imgWrite {j : FlashJob} (hj : s.boot.job = some j) (ho : j.op = .imgWrite) :
    execFlashOperationDone true s =
      .next (reply j.origin j.opcode 0x00 [] { s with boot := { s.boot with job := none } }) := by
  simp only [execFlashOperationDone, hj, ho, if_true]

/-- FLASH_OPERATION_DONE of a store takes the store's next step (R303). -/
theorem execFlashOperationDone_calStore {j : FlashJob} {ok : Bool} (hj : s.boot.job = some j) (ho : j.op = .calStore) :
    execFlashOperationDone ok s = .next (storeStep j ok s) := by
  simp only [execFlashOperationDone, hj, ho]

end Calibration

/-- Settles O14: each command's own condition holds, and its result is the named change of the lane, of the run or of the flash. -/
theorem calibrationCommandsComplete : Obligations.CalibrationCommandsComplete := by
  unfold Obligations.CalibrationCommandsComplete
  refine ⟨fun via stk s h hk hr => ⟨_, execCalRun_deskew h hk hr, rfl, rfl, rfl⟩,
    fun r p n i x us s hr hn ha => execCalRunDone_active hr hn ha,
    fun r us s hr hs => execCalRunDone_empty hr hs,
    fun r p n v us s hr hn hv hs => ⟨_, execCalRunDone_ctleTrim hr hn hv hs, rfl, ?_⟩,
    fun p n e w s ht hq hb hf hc hd hj => ⟨_, execDacMeasureDone_keeps ht hq hb hf hc hd hj, ?_⟩,
    fun p n d k s hd ht ha hw => ⟨_, execCtleStepApply_allowed hd ht ha hw, ?_⟩,
    fun p n k d s hc hd ht => execCtleCheckTimeout_unchecked hc hd ht,
    fun p n s => ⟨_, rfl, ?_⟩,
    fun via s h hj => execCalStore_free h hj,
    fun via chunk c s h hc hf hset hb => execCalExport_inForce h hc hf hset hb,
    fun via chunk data s h hc hd hj => execCalImport_staged h hc hd hj,
    fun via q n first count s h hl hc => execCalCoefRead_deskew h hl hc,
    fun via s h => execCalLimitsRead_served h,
    fun j s hj ho => execFlashOperationDone_imgWrite hj ho,
    fun j ok s hj ho => execFlashOperationDone_calStore hj ho⟩
  · rw [modLane_lane]
    exact ⟨rfl, rfl, rfl, rfl⟩
  · rw [modLane_lane, modLane_lane]
    exact ⟨rfl, rfl, rfl⟩
  · rw [modLane_lane]
    exact ⟨rfl, rfl, rfl, rfl, rfl⟩
  · rw [modLane_lane]
    exact ⟨rfl, rfl, rfl⟩

end Sys2Proof
end

section
/-!
PROOFS. Where the commands of cable diagnostics and of waveform capture complete, and with what (O15, O16).
-/
namespace Sys2Proof

open Sys2Proof.Machine

section Diagnostics

variable {via : Origin} {p : PortId} {s : State}

/-! ### What the shared operations set and leave -/

@[simp] theorem sendDiff_diffDue (t sf : Nat) (b : Bool) (payload : List Byte) :
    ((sendDiff p t sf b payload s).port p).snd.diffDue = some ({ typ := t, payload := payload, resends := 0 }, sf, b) := by
  rw [sendDiff, modPort_port]

/-- A DIAG frame (Table 12.4). -/
def diagFrame (payload : List Byte) : SndFrame := { typ := 0x40, payload := payload, resends := 0 }

@[simp] theorem sendDiff_diag (t sf : Nat) (b : Bool) (payload : List Byte) :
    ((sendDiff p t sf b payload s).port p).diag = (s.port p).diag := by
  rw [sendDiff, modPort_port]

@[simp] theorem sendDiff_link (t sf : Nat) (b : Bool) (payload : List Byte) :
    ((sendDiff p t sf b payload s).port p).link = (s.port p).link := by
  rw [sendDiff, modPort_port]

@[simp] theorem diagTake_running (k : DiagKind) (uses sends : Nat) (tone : Word) :
    ((diagTake p k uses sends tone s).port p).diag.running = some k := by
  rw [diagTake, modPort_port]

@[simp] theorem diagTake_link (k : DiagKind) (uses sends : Nat) (tone : Word) :
    ((diagTake p k uses sends tone s).port p).link = (s.port p).link := by
  rw [diagTake, modPort_port]
  rfl

/-- What a released port no longer holds (R309, R315). -/
theorem diagRelease_diag : ((diagRelease p s).port p).diag =
    { (s.port p).diag with running := none, il := .none, toneSaved := [], rangeSaved := [], ilResends := 0 } := by
  simp only [diagRelease, State.mapLanes, modPort_port]
  rfl

@[simp] theorem diagRelease_cap : (diagRelease p s).cap = s.cap := rfl

/-! ### Starting a run -/

/-- A diagnostic command that is served on an open port with good parameters, admitted and with no run there, is its own effect
(R308). -/
theorem diagStart_admitted {opcode : Nat} {il bad : Bool} {body : State → State} (h : Serves via opcode s)
    (hp : s.portOpen p = true) (hb : bad = false) (ha : diagAdmits p il s = true) (hr : (s.port p).diag.running = none) :
    diagStart via opcode p il bad s body = body s := by
  rw [diagStart, portCommand_serves h hp]
  simp [hb, ha, hr]

/-- The port whose TDR run has the velocity factor, the threshold and the pairs of its command (R311, R313). -/
def Machine.Port.setTdr (vf th mask : Nat) (q : Port) : Port :=
  { q with diag := { q.diag with vf := vf, threshold := th, mask := mask } }

/-- The port whose run names the pairs of its command (R311). -/
def Machine.Port.setMask (mask : Nat) (q : Port) : Port := { q with diag := { q.diag with mask := mask } }

/-- DIAG_TDR admitted takes the lanes of its pairs, which send the chirp (R308, R309, R313). -/
theorem execDiagTdr_admitted {pairs : BitVec 16} {vf th : Nat} (h : Serves via 0x0301 s) (hp : s.portOpen p = true)
    (ha : diagAdmits p false s = true) (hr : (s.port p).diag.running = none) (hlo : 100 ≤ vf) (hhi : vf ≤ 190) :
    execDiagTdr via p pairs vf th s = .next ((diagTake p .tdr (pairLanes pairs.toNat) (pairLanes pairs.toNat)
      (diagTone 2 s.freeNat.1) s.freeNat.2).modPort p (Port.setTdr vf th pairs.toNat)) := by
  have hvf : (decide (vf < 100) || decide (190 < vf)) = false := by
    simp [Nat.not_lt.mpr hlo, Nat.not_lt.mpr hhi]
  exact congrArg _ (diagStart_admitted h hp hvf ha hr)

/-- DIAG_RL admitted takes the lanes of its pairs, which send the tone (R308, R309, R314). -/
theorem execDiagRl_admitted {pairs : BitVec 16} (h : Serves via 0x0302 s) (hp : s.portOpen p = true)
    (ha : diagAdmits p false s = true) (hr : (s.port p).diag.running = none) :
    execDiagRl via p pairs s = .next ((diagTake p .rl (pairLanes pairs.toNat) (pairLanes pairs.toNat) (diagTone 1 127) s).modPort p
      (Port.setMask pairs.toNat)) :=
  congrArg _ (diagStart_admitted h hp rfl ha hr)

/-- DIAG_NEXT admitted takes every lane, of which those of its mask send the tone (R308, R309, R314). -/
theorem execDiagNext_admitted {mask : BitVec 8} (h : Serves via 0x0303 s) (hp : s.portOpen p = true)
    (ha : diagAdmits p false s = true) (hr : (s.port p).diag.running = none) :
    execDiagNext via p mask s = .next ((diagTake p .next 0xFF mask.toNat (diagTone 1 127) s).modPort p
      (Port.setMask mask.toNat)) :=
  congrArg _ (diagStart_admitted h hp rfl ha hr)

/-- The initiator's port whose IL_REQ is out (R315). -/
def Machine.Port.requestIl (p : PortId) (mask range fs cable sf : Nat) (q : Port) : Port :=
  { q with diag := { q.diag with il := .requested, ilUid := Config.uid.toNat, ilPort := p.val, ilMask := mask, ilRange := range,
                                 ilFs := fs, ilCable := cable, ilSf := sf, ilResends := 0 },
           snd := { q.snd with diffResends := 0 } }

/-- DIAG_IL admitted off the sounding-only path takes every lane as a receiver, and its IL_REQ falls due at the SF named (R165, R308,
R315). -/
theorem execDiagIl_admitted {mask : BitVec 8} {cable : Bool} {range sf : Nat} (h : Serves via 0x0304 s)
    (hp : s.portOpen p = true) (ha : diagAdmits p true s = true) (hr : (s.port p).diag.running = none) (hlo : 6 ≤ sf)
    (hhi : sf ≤ 12) (hrange : range ≤ 2) (hpath : (s.port p).snd.path ≠ .soundingOnly) :
    ∃ payload, execDiagIl via p mask cable range sf s = .next (sendDiff p 0x40 sf false payload
      ((diagTake p .il 0xFF 0 0 s).modPort p (Port.requestIl p mask.toNat range (s.group p).freq.code (b2n cable) sf))) := by
  have hpar : (decide (sf < 6) || decide (12 < sf) || decide (2 < range)) = false := by
    simp [Nat.not_lt.mpr hlo, Nat.not_lt.mpr hhi, Nat.not_lt.mpr hrange]
  rw [execDiagIl, diagStart_admitted h hp hpar ha hr]
  simp only [if_neg hpath]
  exact ⟨_, rfl⟩

/-! ### Reading -/

/-- DIAG_READ of a pair with a kept result answers its table, with RESULT 4 where the pair has recorded NOT_QUIET since (R312,
R317). -/
theorem execDiagRead_result {kind index : Nat} {r : DiagResult} (h : Serves via 0x0305 s)
    (hp : s.portOpen (via.portFor p) = true) (h1 : 1 ≤ kind) (h4 : kind ≤ 4) (hi : index < 8)
    (hk : ((s.port (via.portFor p)).diag.kept.find? fun r => r.kind == kind && r.index == index) = some r) :
    execDiagRead via p kind index s = .next (reply via 0x0305 0x00
      (if (s.port (via.portFor p)).diag.notQuiet.contains (kind, index) then { r with result := 4 } else r).bytes s) := by
  simp only [execDiagRead, portCommand_serves h hp, hk]
  simp [Nat.ne_of_gt h1, Nat.not_lt.mpr h4, hi]

/-- DIAG_READ of an RX pair of a kind that measures it, with no result kept and no NOT_QUIET recorded, answers RESULT 0 and no table
(R317). -/
theorem execDiagRead_rxNotRun {kind index : Nat} (h : Serves via 0x0305 s) (hp : s.portOpen (via.portFor p) = true)
    (h1 : 1 ≤ kind) (h2 : kind ≤ 2) (hlo : 0x10 ≤ index) (hhi : index < 0x18)
    (hk : ((s.port (via.portFor p)).diag.kept.find? fun r => r.kind == kind && r.index == index) = none)
    (hq : (s.port (via.portFor p)).diag.notQuiet.contains (kind, index) = false) :
    execDiagRead via p kind index s =
      .next (reply via 0x0305 0x00 (beBytes 1 kind ++ beBytes 1 index ++ List.replicate 6 0) s) := by
  have hkind : kind ≤ 4 := by omega
  have hzero : beBytes 1 0 = [0#8] := by decide
  simp only [execDiagRead, portCommand_serves h hp, hk, hq]
  simp [Nat.ne_of_gt h1, Nat.not_lt.mpr hkind, h2, hlo, hhi, hzero]

/-- DIAG_LIVE of a native port that carries data answers its estimates and changes nothing else (R318). -/
theorem execDiagLive_data {vf : Nat} (h : Serves via 0x0306 s) (hp : s.portOpen p = true) (hlo : 100 ≤ vf) (hhi : vf ≤ 190)
    (hn : (s.port p).snd.path = .native) (hl : (s.port p).link.state = .up ∨ (s.port p).link.state = .degraded) :
    ∃ payload, execDiagLive via p vf s = .next (reply via 0x0306 0x00 payload s) := by
  have hdata : (decide ((s.port p).snd.path = .native) &&
      (decide ((s.port p).link.state = .up) || decide ((s.port p).link.state = .degraded))) = true := by
    simp [hn, hl]
  rw [execDiagLive, portCommand_serves h hp]
  simp only [hdata, Nat.not_lt.mpr hlo, Nat.not_lt.mpr hhi]
  exact ⟨_, rfl⟩

/-! ### The end of a run -/

/-- DIAG_RUN_DONE of a TDR run that heard nothing: its results are kept, and the reply is OK (R312, R313, R317). -/
theorem execDiagRunDone_tdr {meas : List DiagMeas} (hr : (s.port p).diag.running = some .tdr) :
    execDiagRunDone p [] meas s = .next (diagFinish p .tdr 0x00
      (keepResults p .tdr (planPoints (s.group p).freq.code) (pairIds (s.port p).diag.mask) meas s)) := by
  simp [execDiagRunDone, hr]

/-- DIAG_RUN_DONE of a return-loss run that found a pair active: the pair records NOT_QUIET, and so does the reply (R312, R322). -/
theorem execDiagRunDone_rlActive {i : Nat} {x : Listen} {meas : List DiagMeas} (hr : (s.port p).diag.running = some .rl)
    (hx : x.active s.boot.limits.quiet = true) :
    execDiagRunDone p [(i, x)] meas s = .next (diagEnd p 0x0A (s.modPort p fun q =>
      { q with diag := { q.diag with notQuiet := q.diag.notQuiet ++ [(2, i)] } })) := by
  simp [execDiagRunDone, hr, hx, DiagKind.kind]

/-- DIAG_RUN_DONE of a port that drives a partner's schedule: the schedule ends, and IL_DONE falls due (R315). -/
theorem execDiagRunDone_driving {listens : List (Nat × Listen)} {meas : List DiagMeas}
    (hr : (s.port p).diag.running = some .serving) (hi : (s.port p).diag.il = .driving) :
    ∃ payload, execDiagRunDone p listens meas s =
      .next (sendDiff p 0x40 (s.port p).diag.ilSf true payload (diagRelease p s)) := by
  simp only [execDiagRunDone, hr, if_pos hi]
  exact ⟨_, rfl⟩

/-! ### The partner of an insertion-loss exchange -/

/-- The partner's port that has granted a request (R315). -/
def Machine.Port.grantIl (uid port mask range fs sf : Nat) (q : Port) : Port :=
  { q with diag := { q.diag with il := .granted, ilUid := uid, ilPort := port, ilMask := mask, ilRange := range,
                                 ilFs := fs, ilSf := sf } }

section Request

variable {session port mask range fs : Nat} {uid : BitVec 64} (hd : (s.port p).diagState true = true)
  (hs : (s.port p).diagSession session = true) (hu : uid ≠ Config.uid) (hc : bitOf (s.port p).diag.ctrl 0 = true)
  (hg : (s.port p).diag.il ≠ .granted)
include hd hs hu hc hg

/-- IL_REQ_RECEIVE of another device's request, with ACCEPT and no run, where R308 admits the exchange: it is granted, and IL_ACK
falls due (R315). -/
theorem execIlReqReceive_grants (hr : (s.port p).diag.running = none) (ha : diagAdmits p true s = true) :
    ∃ sf payload, execIlReqReceive p session uid port mask range fs s = .next (sendDiff p 0x40 sf true payload
      ((diagTake p .serving mask 0 0 s).modPort p (Port.grantIl uid.toNat port mask range fs sf))) := by
  have huid : uid.toNat ≠ Config.uid.toNat := fun e => hu (BitVec.eq_of_toNat_eq e)
  simp only [execIlReqReceive, hd, hs, hc, hr, ha, huid, hg, Bool.not_true, Bool.and_false]
  exact ⟨_, _, rfl⟩

/-- IL_REQ_RECEIVE of another device's request while a run holds the port: IL_DECLINE falls due, and the run goes on (R315). -/
theorem execIlReqReceive_declines {k : DiagKind} (hr : (s.port p).diag.running = some k) :
    ∃ sf payload, execIlReqReceive p session uid port mask range fs s = .next (sendDiff p 0x40 sf true payload s) := by
  have huid : uid.toNat ≠ Config.uid.toNat := fun e => hu (BitVec.eq_of_toNat_eq e)
  simp only [execIlReqReceive, hd, hs, hc, hr, huid, hg, Bool.not_true, Bool.and_false]
  exact ⟨_, _, rfl⟩

end Request

/-- IL_REQ_RECEIVE of a request that names this device and port is discarded (R138). -/
theorem execIlReqReceive_own {session mask range fs : Nat} :
    execIlReqReceive p session Config.uid p.val mask range fs s = .next s := by
  simp [execIlReqReceive]

/-- IL_SCHEDULE_START of the exchange granted: the partner drives its lanes, and its run and its link stay (R315). -/
theorem execIlScheduleStart_granted (hg : (s.port p).diag.il = .granted) :
    ∃ f, execIlScheduleStart p s = .next (s.modPort p f) ∧ (f (s.port p)).diag.il = .driving ∧
      (f (s.port p)).diag.running = (s.port p).diag.running ∧ (f (s.port p)).link = (s.port p).link := by
  rw [execIlScheduleStart, if_neg (not_not_intro hg)]
  exact ⟨_, rfl, rfl, rfl, rfl⟩

/-! ### The initiator of an insertion-loss exchange -/

section Answer

variable {session : Nat} (hs : (s.port p).diagSession session = true)
include hs

/-- IL_ACK_RECEIVE of the request that is out: the initiator measures (R315). -/
theorem execIlAckReceive_requested {fs : Nat} (hi : (s.port p).diag.il = .requested) :
    execIlAckReceive p session fs s =
      .next (s.modPort p fun q => { q with diag := { q.diag with il := .measuring, ilFs := fs } }) := by
  simp [execIlAckReceive, hi, hs]

/-- IL_DECLINE_RECEIVE of the request that is out: DIAG_IL returns DENIED (R316). -/
theorem execIlDeclineReceive_requested {why : Nat} (hi : (s.port p).diag.il = .requested) :
    execIlDeclineReceive p session why s = .next (diagEnd p 0x05 s) := by
  simp [execIlDeclineReceive, hi, hs]

/-- IL_DONE_RECEIVE while the initiator measures: its tables are kept, and DIAG_IL returns OK (R315). -/
theorem execIlDoneReceive_measuring {meas : List DiagMeas} (hi : (s.port p).diag.il = .measuring) :
    execIlDoneReceive p session meas s = .next (ilFinish p 0x00 meas s) := by
  simp [execIlDoneReceive, hi, hs]

end Answer

/-- IL_DONE_TIMEOUT while the initiator measures: its tables are kept, and DIAG_IL returns PARTIAL (R316). -/
theorem execIlDoneTimeout_measuring {meas : List DiagMeas} (hi : (s.port p).diag.il = .measuring) :
    execIlDoneTimeout p meas s = .next (ilFinish p 0x08 meas s) := by
  simp [execIlDoneTimeout, hi]

end Diagnostics

/-- Settles O15: each command's own condition holds, and its result is the named change of the port's run or of its exchange. -/
theorem diagnosticCommandsComplete : Obligations.DiagnosticCommandsComplete := by
  unfold Obligations.DiagnosticCommandsComplete
  refine ⟨fun via p pairs vf th s h hp ha hr hlo hhi => ⟨_, execDiagTdr_admitted h hp ha hr hlo hhi, ?_⟩,
    fun via p pairs s h hp ha hr => ⟨_, execDiagRl_admitted h hp ha hr, ?_⟩,
    fun via p mask s h hp ha hr => ⟨_, execDiagNext_admitted h hp ha hr, ?_⟩,
    fun via p mask cable range sf s h hp ha hr hlo hhi hrange hpath => ?_,
    fun via p q kind index r s hq h hp h1 h4 hi hk => ?_,
    fun via p q kind index s hq h hp h1 h2 hlo hhi hk hn => ?_,
    fun via p vf s h hp hlo hhi hn hl => ?_,
    fun p meas s hr => execDiagRunDone_tdr hr,
    fun p i x meas s hr hx => execDiagRunDone_rlActive hr hx,
    fun p listens meas s hr hi => ?_,
    fun p session uid port mask range fs s hd hs hu hc hr hg ha => ?_,
    fun p session uid port mask range fs k s hd hs hu hc hr hg => ?_,
    fun p session port mask range fs s hport => hport ▸ execIlReqReceive_own,
    fun p session fs s hi hs => ⟨_, execIlAckReceive_requested hs hi, ?_⟩,
    fun p session why s hi hs => execIlDeclineReceive_requested (why := why) hs hi,
    fun p s hg => ?_,
    fun p session meas s hi hs => execIlDoneReceive_measuring hs hi,
    fun p meas s hi => execIlDoneTimeout_measuring hi⟩
  · rw [modPort_port]
    exact ⟨diagTake_running .., rfl, rfl, rfl, diagTake_link .., rfl⟩
  · rw [modPort_port]
    exact ⟨diagTake_running .., rfl, diagTake_link .., rfl⟩
  · rw [modPort_port]
    exact ⟨diagTake_running .., rfl, diagTake_link .., rfl⟩
  · obtain ⟨payload, hnext⟩ := execDiagIl_admitted (mask := mask) (cable := cable) h hp ha hr hlo hhi hrange hpath
    refine ⟨_, diagFrame payload, hnext, ?_⟩
    rw [sendDiff_diag, sendDiff_link, sendDiff_diffDue, modPort_port]
    exact ⟨diagTake_running .., rfl, rfl, rfl, rfl, rfl, rfl, diagTake_link ..⟩
  · subst hq
    exact execDiagRead_result h hp h1 h4 hi hk
  · subst hq
    exact execDiagRead_rxNotRun h hp h1 h2 hlo hhi hk hn
  · obtain ⟨payload, hnext⟩ := execDiagLive_data h hp hlo hhi hn hl
    exact ⟨payload, s, hnext, rfl, rfl⟩
  · obtain ⟨payload, hnext⟩ := execDiagRunDone_driving (listens := listens) (meas := meas) hr hi
    refine ⟨_, diagFrame payload, hnext, ?_⟩
    rw [sendDiff_diag, sendDiff_diffDue, diagRelease_diag]
    exact ⟨rfl, rfl, rfl, rfl⟩
  · obtain ⟨sf, payload, hnext⟩ :=
      execIlReqReceive_grants (port := port) (mask := mask) (range := range) (fs := fs) hd hs hu hc hg hr ha
    refine ⟨_, diagFrame payload, (sf, true), hnext, ?_⟩
    rw [sendDiff_diag, sendDiff_diffDue, modPort_port]
    exact ⟨diagTake_running .., rfl, rfl, rfl, rfl, rfl, rfl⟩
  · obtain ⟨sf, payload, hnext⟩ :=
      execIlReqReceive_declines (port := port) (mask := mask) (range := range) (fs := fs) hd hs hu hc hg hr
    exact ⟨_, diagFrame payload, (sf, true), hnext, sendDiff_diag .., sendDiff_diffDue .., rfl⟩
  · rw [modPort_port]
    exact ⟨rfl, rfl, rfl⟩
  · obtain ⟨f, hnext, hil, hrun, hlink⟩ := execIlScheduleStart_granted hg
    refine ⟨_, hnext, ?_⟩
    rw [modPort_port]
    exact ⟨hil, hrun, hlink⟩

section Capture

variable {via : Origin} {p : PortId} {s : State}

/-! ### What the capture's operations leave -/

@[simp] theorem grantInterval_cap : (grantInterval s).cap = s.cap := by
  unfold grantInterval
  split
  · rfl
  · rw [mapPorts_cap]

@[simp] theorem grantInterval_mx : (grantInterval s).store.mx = s.store.mx := by
  unfold grantInterval
  split
  · rfl
  · rw [mapPorts_store]

@[simp] theorem grantInterval_captureGib : (grantInterval s).store.captureGib = s.store.captureGib := by
  unfold grantInterval
  split
  · rfl
  · rw [mapPorts_store]

/-- The capture unit after a running capture has ended (R320). -/
theorem captureEnd_cap (o : CapOutcome) (h : s.cap.outcome = .running) :
    (captureEnd o s).cap = { s.cap with outcome := o, staging := [] } := by
  rw [captureEnd, if_neg (not_not_intro h)]
  dsimp only
  split
  · exact diagRelease_cap
  · rfl

/-! ### Starting, triggering and storing -/

/-- The capture unit armed at a slot count (R319, R320). -/
def armedCapture (p : PortId) (m : Nat) (txg : Bool) (vga peak n count : Nat) (trig : CapTrigger) (slotCnt : Nat) : CaptureSt :=
  { outcome := .running, port := some p, laneMask := m, txGroup := txg, vga := vga, peak := peak, s := n, count := count,
    trigger := trig, taken := 0, missed := 0, staging := [], stored := [], mark := slotCnt }

/-- The port that a capture holds, its named lanes at the capture's gain and peaking (R308, R319). -/
def Machine.Port.armCapture (m vga peak : Nat) (q : Port) : Port :=
  let q := q.mapLanes fun k l => if m.testBit k.val then { l with rx := { l.rx with vga := vga, peak := peak } } else l
  { q with diag := { q.diag with running := some .capture } }

/-- CAPTURE_START of a capture within its limits, admitted, with a reserve and no run: the capture is armed, and the reply is OK
(R308, R319). -/
theorem execCaptureStart_admitted {lanes : BitVec 8} {txg : Bool} {vga peak n count : Nat} {trig : CapTrigger}
    (h : Serves via 0x0310 s) (hp : s.portOpen p = true) (hl : lanes.toNat ≠ 0) (hv : vga ≤ 96) (hk : peak ≤ 31) (hn : n ≠ 0)
    (hal : n % 4096 = 0) (hshare : n ≤ capShare (popcount8 lanes.toNat)) (hc : count ≠ 0)
    (hlim : count * n ≤ capLimit (s.group p).freq.code) (ht : trig.ok lanes.toNat = true) (ha : diagAdmits p false s = true)
    (hs : s.store.state = 2) (hg : s.store.captureGib ≠ 0) (hr : (s.port p).diag.running = none)
    (ho : s.cap.outcome ≠ .running) :
    execCaptureStart via p lanes txg vga peak n count trig s = .next (diagReply via 0x0310 p 0x00 []
      ({ s with cap := armedCapture p lanes.toNat txg vga peak n count trig (s.port p).code.slotCnt }.modPort p
        (Port.armCapture lanes.toNat vga peak))) := by
  rw [execCaptureStart, portCommand_serves h hp]
  refine congrArg _ ((if_neg ?_).trans ((if_neg ?_).trans ((if_neg ?_).trans rfl)))
  · simp [Nat.not_lt.mpr hv, Nat.not_lt.mpr hk, Nat.not_lt.mpr hshare, Nat.not_lt.mpr hlim, hl, hn, hal, hc, ht]
  · simp [ha, hs, hg]
  · simp [hr, ho]

/-- The segment that a trigger starts (R320, R321). -/
def triggeredSegment (samples : List Byte) (p : PortId) (s : State) : CapSegment :=
  { port := p, laneMask := s.cap.laneMask, txGroup := s.cap.txGroup, number := s.cap.taken, s := s.cap.s,
    fs := (s.group p).freq.code, vga := s.cap.vga, peak := s.cap.peak, slot := (s.port p).code.slotCnt,
    sec := if s.time.run then s.time.ctr / 2 ^ 40 / 1000000000 else 0,
    ns := if s.time.run then s.time.ctr / 2 ^ 40 % 1000000000 else 0, link := 0, samples := samples, lost := false }

section Trigger

variable {samples : List Byte} (ho : s.cap.outcome = .running) (hp : s.cap.port = some p) (ht : s.cap.taken < s.cap.count)
  (hd : s.cap.due (s.port p) = true)
include ho hp ht hd

/-- CAPTURE_TRIGGER with room in staging: a segment starts (R320). -/
theorem execCaptureTrigger_room (hroom : (s.cap.staging.length + 1) * s.cap.s ≤ capShare (popcount8 s.cap.laneMask)) :
    execCaptureTrigger samples s = .next { s with cap := { s.cap with
      taken := s.cap.taken + 1, staging := s.cap.staging ++ [triggeredSegment samples p s],
      mark := (s.port p).code.slotCnt } } := by
  simp only [execCaptureTrigger, hp]
  refine congrArg _ ((if_neg ?_).trans ((if_neg (Nat.not_lt.mpr hroom)).trans rfl))
  simp [ho, Nat.not_le.mpr ht, hd]

/-- CAPTURE_TRIGGER without room in staging: an immediate one waits for it, and any other is missed (R320). -/
theorem execCaptureTrigger_noRoom (hroom : capShare (popcount8 s.cap.laneMask) < (s.cap.staging.length + 1) * s.cap.s) :
    execCaptureTrigger samples s = .next (if s.cap.trigger = .immediate then s
      else { s with cap := { s.cap with missed := s.cap.missed + 1, mark := (s.port p).code.slotCnt } }) := by
  simp only [execCaptureTrigger, hp]
  refine congrArg _ ((if_neg ?_).trans (if_pos hroom))
  simp [ho, Nat.not_le.mpr ht, hd]

end Trigger

/-- The state whose oldest staged segment has reached the reserve over a link (R321). -/
def storeSegment (link : CxlId) (g : CapSegment) (rest : List CapSegment) (s : State) : State :=
  { s with cap := { s.cap with staging := rest, stored := s.cap.stored ++ [{ g with link := link.val }] },
           store := { s.store with gC := s.store.gC + s.cap.segSlots } }

/-- CAPTURE_SEGMENT_STORED over a usable link and unused bandwidth, of a segment that is not the last and with room for another: it is
stored, and the capture goes on (R224, R320, R321). -/
theorem execCaptureSegmentStored_goesOn {link : CxlId} {g : CapSegment} {rest : List CapSegment}
    (hg : s.cap.staging = g :: rest) (ho : s.cap.outcome = .running)
    (hk : (getNat s.store.mx link.val CxlLink.reset).takes = true) (hroom : captureRoom (grantInterval s) = true)
    (hn : s.cap.stored.length + 1 < s.cap.count)
    (hfit : (s.cap.stored.length + 2) * s.cap.segSlots ≤ s.store.captureGib * 2 ^ 18) :
    execCaptureSegmentStored link s = .next (storeSegment link g rest (grantInterval s)) := by
  simp only [execCaptureSegmentStored, grantInterval_cap, hg]
  refine congrArg _ ((if_neg ?_).trans ((if_neg ?_).trans ((if_neg ?_).trans ?_)))
  · simp [ho, hk, hroom]
  · simpa using hn
  · simpa [CaptureSt.segSlots] using hfit
  · rw [storeSegment, grantInterval_cap]
    rfl

/-! ### Ending and reading -/

/-- CAPTURE_STOP ends the capture as stopped (R320). -/
theorem execCaptureStop_served (h : Serves via 0x0313 s) :
    execCaptureStop via s = .next (reply via 0x0313 0x00 [] (captureEnd .stopped s)) :=
  congrArg _ (command_serves h)

/-- CAPTURE_STATUS answers the outcome and the counts of segments stored, lost and missed (R321). -/
theorem execCaptureStatus_served (h : Serves via 0x0311 s) :
    execCaptureStatus via s = .next (reply via 0x0311 0x00
      (beBytes 1 s.cap.outcome.code ++ beBytes 4 s.cap.stored.length ++ beBytes 4 (s.cap.stored.countP fun g => g.lost)
        ++ beBytes 4 s.cap.missed) s) :=
  congrArg _ (command_serves h)

/-- The 2,048 bytes of a segment from an offset on, with free values beyond its samples (R321). -/
def segmentBytes (g : CapSegment) (ofs fresh : Nat) : List Byte :=
  (List.range 2048).map fun i => ((g.header ++ g.samples)[ofs + i]?).getD (Config.freeByte (fresh + i))

theorem segmentBytes_length (g : CapSegment) (ofs fresh : Nat) : (segmentBytes g ofs fresh).length = 2048 := by
  rw [segmentBytes, List.length_map, List.length_range]

/-- Where the segment has a byte, the bytes read hold it. -/
theorem segmentBytes_get {g : CapSegment} {ofs fresh i : Nat} {b : Byte} (hi : i < 2048)
    (hb : (g.header ++ g.samples)[ofs + i]? = some b) : (segmentBytes g ofs fresh)[i]? = some b := by
  rw [segmentBytes, List.getElem?_map, List.getElem?_range hi, Option.map_some, hb, Option.getD_some]

/-- CAPTURE_READ within a stored segment that is not lost answers its bytes (R321). -/
theorem execCaptureRead_stored {k ofs : Nat} {g : CapSegment} (h : Serves via 0x0312 s) (hg : s.cap.stored[k]? = some g)
    (hofs : ofs + 2048 ≤ s.cap.segSlots * 4096) (hlost : g.lost = false) :
    execCaptureRead via k ofs s =
      .next (reply via 0x0312 0x00 (segmentBytes g ofs s.fresh) { s with fresh := s.fresh + 2048 }) := by
  rw [execCaptureRead, command_serves h]
  simp only [hg]
  exact congrArg _ ((if_neg (Nat.not_lt.mpr hofs)).trans (if_neg (by simp [hlost])))

end Capture

/-- Settles O16: each command's own condition holds, and its result is the named change of the capture unit. -/
theorem captureCommandsComplete : Obligations.CaptureCommandsComplete := by
  unfold Obligations.CaptureCommandsComplete
  refine ⟨fun via p lanes txg vga peak n count trig s h hp hl hv hk hn hal hshare hc hlim ht ha hs hg hr ho =>
      ⟨_, execCaptureStart_admitted h hp hl hv hk hn hal hshare hc hlim ht ha hs hg hr ho,
        rfl, rfl, rfl, rfl, rfl, rfl, rfl, rfl, ?_⟩,
    fun samples p s ho hp ht hd hroom =>
      ⟨_, triggeredSegment samples p s, execCaptureTrigger_room ho hp ht hd hroom, rfl, rfl, rfl, rfl, rfl, rfl, rfl, rfl, rfl⟩,
    fun samples p s ho hp ht hd hroom => execCaptureTrigger_noRoom ho hp ht hd hroom,
    fun link g rest s hg ho hk hroom hn hfit =>
      ⟨_, execCaptureSegmentStored_goesOn hg ho hk hroom hn hfit, rfl, ?_, ?_, ?_, rfl⟩,
    fun s ho => ⟨_, rfl, ?_⟩,
    fun via s h => execCaptureStop_served h,
    fun via s h => execCaptureStatus_served h,
    fun via k ofs g s h hg hofs hlost => ⟨_, _, execCaptureRead_stored h hg hofs hlost, segmentBytes_length ..,
      fun i b hi hb => segmentBytes_get hi hb, rfl, rfl⟩⟩
  · rw [modPort_port]
    rfl
  · rw [storeSegment, grantInterval_cap]
  · rw [storeSegment, grantInterval_cap]
    exact ho
  · rw [storeSegment, grantInterval_cap]
  · rw [captureEnd_cap .timeout ho]
    exact ⟨rfl, rfl, rfl⟩

end Sys2Proof
end

section
/-!
PROOFS. Where the commands of the references and of the root complete, and with what (O17).
-/
namespace Sys2Proof

open Sys2Proof.Machine

section Clocks

variable {s : State}

/-! ### The references and the start of the RPLL -/

/-- REF_JUDGED_GOOD of a reference whose counts are good and which may be used: it trims the FRO and may start the RPLL (R326). -/
theorem execRefJudgedGood_good {r : RefSel} {counts : List Nat} (hc : countsGood r counts = true)
    (hr : r = .refclk ∨ s.clk.xaDelay = true) :
    execRefJudgedGood r counts s = .next (rpllTryStart (retrim { s with clk := s.clk.setGood r true })) := by
  rw [execRefJudgedGood, if_pos]
  simpa [hc] using hr

/-! ### The trims of the FRO and of the SRO -/

/-- Without XB and without a trimmed FRO the SRO is not trimmed (R329). -/
theorem sroTrim_idle (hx : s.clk.xb = false) (ht : s.clk.trimmed = false) : sroTrim s = s := by
  rw [sroTrim, if_neg (by simp [hx, ht])]

/-- With XB or a trimmed FRO the SRO's code is a free value (R329). -/
theorem sroTrim_runs (h : s.clk.xb = true ∨ s.clk.trimmed = true) :
    sroTrim s = { s with fresh := s.fresh + 1, clk := { s.clk with sroCode := Config.freeNat s.fresh % 1024 } } := by
  rw [sroTrim, if_pos (by simpa using h)]
  rfl

/-- Whether or not it trims, the SRO's trim leaves everything but the SRO's code and the draw counter. -/
theorem sroTrim_eq (s : State) : ∃ fresh code, sroTrim s = { s with fresh := fresh, clk := { s.clk with sroCode := code } } := by
  by_cases h : s.clk.xb = true ∨ s.clk.trimmed = true
  · exact ⟨_, _, sroTrim_runs h⟩
  · rw [not_or, Bool.not_eq_true, Bool.not_eq_true] at h
    exact ⟨_, _, sroTrim_idle h.1 h.2⟩

@[simp] theorem sroTrim_froCode : (sroTrim s).clk.froCode = s.clk.froCode := by
  obtain ⟨fresh, code, h⟩ := sroTrim_eq s
  rw [h]

@[simp] theorem sroTrim_trimmed : (sroTrim s).clk.trimmed = s.clk.trimmed := by
  obtain ⟨fresh, code, h⟩ := sroTrim_eq s
  rw [h]

@[simp] theorem sroTrim_ports : (sroTrim s).ports = s.ports := by
  obtain ⟨fresh, code, h⟩ := sroTrim_eq s
  rw [h]

/-- The clocks after an FRO trim update that chooses a code and finds an error (R327). -/
def froTrimmed (code err : Nat) (c : ClkSt) : ClkSt :=
  { c with froCode := code, trimmed := decide (err * 2000 ≤ trimNominal c.trimSrc) }

/-- FRO_TRIM_UPDATE of a fast FRO: the code falls by one step (R327; the step and its sign are the model's choice, log 73). -/
theorem execFroTrimUpdate_fast {n : Nat} (hs : s.clk.trimSrc ≠ 0) (hn : trimNominal s.clk.trimSrc < 10 * n) :
    execFroTrimUpdate n s = .next (sroTrim
      { s with clk := froTrimmed (s.clk.froCode - 1) (10 * n - trimNominal s.clk.trimSrc) s.clk }) := by
  rw [execFroTrimUpdate, if_neg hs]
  dsimp only
  rw [if_pos hn, absDiff, if_neg (Nat.lt_asymm hn), froTrimmed]

/-- FRO_TRIM_UPDATE of a slow FRO: the code rises by one step, up to its greatest (R327; the step and its sign are the model's
choice, log 73). -/
theorem execFroTrimUpdate_slow {n : Nat} (hs : s.clk.trimSrc ≠ 0) (hn : 10 * n < trimNominal s.clk.trimSrc) :
    execFroTrimUpdate n s = .next (sroTrim
      { s with clk := froTrimmed (min 0x3FF (s.clk.froCode + 1)) (trimNominal s.clk.trimSrc - 10 * n) s.clk }) := by
  rw [execFroTrimUpdate, if_neg hs]
  dsimp only
  rw [if_neg (Nat.lt_asymm hn), if_pos hn, absDiff, if_pos hn, froTrimmed]

/-- FLASH_ACCESS_TIMEOUT while the FRO is not trimmed ends the access (R328). -/
theorem execFlashAccessTimeout_untrimmed (ht : s.clk.trimmed = false) :
    execFlashAccessTimeout s = .next (flashTimeout s) := by
  rw [execFlashAccessTimeout, if_neg (by simp [ht])]

/-- XB_DETECT: XB trims the SRO, and CLK_SLOW moves to XB unless SLOW_REF names the SRO (R329). -/
theorem execXbDetect_trims :
    execXbDetect s = .next { s with
      fresh := s.fresh + 1
      clk := { s.clk with xb := true, slowXb := decide (bits s.clk.cfg 3 2 = 0), sroCode := Config.freeNat s.fresh % 1024 } } := by
  rw [execXbDetect, sroTrim_runs (.inl rfl)]

/-- XB_LOSS without a trimmed FRO leaves the SRO untrimmed (R329). -/
theorem execXbLoss_untrimmed (ht : s.clk.trimmed = false) :
    execXbLoss s = .next { s with clk := { s.clk with xb := false, slowXb := false } } := by
  rw [execXbLoss, sroTrim_idle]
  · rfl
  · exact ht

/-- XB_LOSS with a trimmed FRO, which then trims the SRO (R329). -/
theorem execXbLoss_trimmed (ht : s.clk.trimmed = true) :
    execXbLoss s = .next { s with
      fresh := s.fresh + 1
      clk := { s.clk with xb := false, slowXb := false, sroCode := Config.freeNat s.fresh % 1024 } } := by
  rw [execXbLoss, sroTrim_runs]
  exact .inr ht

/-- FRO_CHECK of a count within the limits ends the FRO's failure (R341). -/
theorem execFroCheck_within {n : Nat} (hlo : 10000 ≤ n) (hhi : n ≤ 15000) :
    execFroCheck (some n) s = .next (endCond .froFail .dev { s with clk := { s.clk with froOk := true } }) := by
  rw [execFroCheck]
  exact if_pos (by simp [hlo, hhi])

/-! ### The RPLL -/

/-- Settling the stack PLL changes its reference and its lock alone (R333). -/
theorem stackPllSettle_eq (s : State) :
    ∃ src lock, stackPllSettle s = { s with clk := { s.clk with stkSrc := src, stkLock := lock } } := by
  rw [stackPllSettle]
  split
  · exact ⟨_, _, rfl⟩
  · exact ⟨_, _, rfl⟩

/-- The root locked: CLK_DSP starts, the running domains begin to move to the root, and a recovery or a holdover ends
(R330, R335, R343). -/
def lockRoot (s : State) : State :=
  { s with
    clk := moveDomains false { s.clk with rpllLock := true, holdover := false, refMove := false, altWait := false, dspRun := true }
    boot := { s.boot with noRoot := false } }

/-- Once the root has locked and the stack PLL has settled, the RPLL is locked, CLK_DSP runs and no holdover stands; ports and pods
are as they were. -/
theorem stackPllSettle_lockRoot (s : State) :
    (stackPllSettle (lockRoot s)).clk.rpllLock = true ∧ (stackPllSettle (lockRoot s)).clk.dspRun = true ∧
    (stackPllSettle (lockRoot s)).clk.holdover = false ∧ (stackPllSettle (lockRoot s)).ports = s.ports ∧
    (stackPllSettle (lockRoot s)).pods = s.pods := by
  obtain ⟨src, lock, h⟩ := stackPllSettle_eq (lockRoot s)
  rw [h]
  exact ⟨rfl, rfl, rfl, rfl, rfl⟩

/-- RPLL_LOCK on a good reference, with no trip: the root runs and the loop's failure ends (R330, R335). -/
theorem execRpllLock_starts {pass : List BankPass} {r : RefSel} (hr : s.clk.rpllSrc = some r) (hl : s.clk.rpllLock = false)
    (ht : s.pwr.trip = false) (hg : (s.clk.judge r).good = true) :
    execRpllLock pass s = .next (dspPass pass (endCond .rpllUnlock .dev (stackPllSettle (lockRoot s)))) := by
  unfold execRpllLock
  rw [hr]
  exact if_neg (by simp [hl, ht, hg])

/-- RPLL_UNLOCK of a locked loop: the failure counts, the root is lost, and the cause is of class F (R342). -/
theorem execRpllUnlock_locked (hl : s.clk.rpllLock = true) :
    execRpllUnlock s = .next (raiseWith .rpllUnlock .dev 0 .f { React.none with devSafe := true }
      (rootLost { s with clk := { s.clk with cntUnlock := satAdd 8 s.clk.cntUnlock 1 } })) := by
  rw [execRpllUnlock, if_neg (by simp [hl])]

/-- RPLL_ALT_RESTART of a waiting recovery whose domains are all on the FRO: the RPLL takes the other reference (R343). -/
theorem execRpllAltRestart_waits {r : RefSel} (hr : s.clk.rpllSrc = some r) (hw : s.clk.altWait = true)
    (hf : s.clk.allFro = true) (hb : (s.clk.judge r).good = false) (ho : (s.clk.judge r.other).good = true) :
    execRpllAltRestart s = .next { s with clk := { s.clk with rpllSrc := some r.other, holdover := false } } := by
  simp only [execRpllAltRestart, hr]
  exact if_pos (by simp [hw, hf, hb, ho])

/-! ### Switches of the hub domains -/

/-- A domain one divider step further on; the step from 8 is the switch (R336). -/
def Machine.DomainClk.rampStep (x : DomainClk) : DomainClk :=
  { x with ramp := x.ramp - 1, fro := if x.ramp = 8 then x.toFro else x.fro }

/-- A domain whose switch is forced: on its new source, at the start of the ramp down (R337). -/
def Machine.DomainClk.force (x : DomainClk) : DomainClk := { x with fro := x.toFro, ramp := 7 }

/-- DOMAIN_RAMP_STEP of a ramping domain: it goes one step on (R336). -/
theorem execDomainRampStep_ramps {d : Fin 4} (h : s.clk.dom[d.val].ramp ≠ 0) :
    execDomainRampStep d s = .next (refMoveStep { s with clk := { s.clk with
      dom := updAt s.clk.dom d fun _ => s.clk.dom[d.val].rampStep } }) := by
  rw [execDomainRampStep]
  exact if_neg h

/-- FORCED_SWITCH before the switch: the domain moves at once, a bank under test is cut short, and the switch counts (R337). -/
theorem execForcedSwitch_early {d : Fin 4} (h : 8 ≤ s.clk.dom[d.val].ramp) :
    execForcedSwitch d s = .next (refMoveStep (truncateOn d { s with clk := { s.clk with
      dom := updAt s.clk.dom d DomainClk.force, cntForced := satAdd 8 s.clk.cntForced 1 } })) := by
  rw [execForcedSwitch]
  exact if_neg (Nat.not_lt.mpr h)

/-! ### The clock monitor -/

/-- The clocks with the deviation of a reference's last completed window (R340). -/
def Machine.ClkSt.setDev (r : RefSel) (dev : Int) (c : ClkSt) : ClkSt :=
  match r with
  | .refclk => { c with refDev := dev }
  | .xa => { c with xaDev := dev }

section Window

variable {r : RefSel} {count : Nat} (hg : (s.clk.judge r).good = true) (hf : s.clk.froOk = true)
include hg hf

/-- CLOCK_MONITOR_WINDOW at the end of a window of a monitored reference: the deviation is kept, and a reference out of its limit,
1 % or 4 % as the FRO is trimmed or not, has failed (R340). -/
theorem execClockMonitorWindow_ends :
    execClockMonitorWindow r count false s = .next (
      if nominalCount10 r * (if s.clk.trimmed then 1 else 4) < absDiff (10 * count) (nominalCount10 r) * 100
      then refFailed r { s with clk := s.clk.setDev r (clockDev r count) }
      else { s with clk := s.clk.setDev r (clockDev r count) }) := by
  unfold execClockMonitorWindow
  rw [if_neg (by simp [hg, hf])]
  cases r <;> simp [ClkSt.setDev]

/-- A window within 1 % fails no reference, trimmed or not (R340). -/
theorem execClockMonitorWindow_within (h : absDiff (10 * count) (nominalCount10 r) * 100 ≤ nominalCount10 r) :
    execClockMonitorWindow r count false s = .next { s with clk := s.clk.setDev r (clockDev r count) } := by
  rw [execClockMonitorWindow_ends hg hf, if_neg]
  split <;> omega

/-- A window out of 4 % fails its reference, trimmed or not (R340). -/
theorem execClockMonitorWindow_out (h : nominalCount10 r * 4 < absDiff (10 * count) (nominalCount10 r) * 100) :
    execClockMonitorWindow r count false s =
      .next (refFailed r { s with clk := s.clk.setDev r (clockDev r count) }) := by
  rw [execClockMonitorWindow_ends hg hf, if_pos]
  split <;> omega

end Window

/-! ### The PLLs and the registers -/

/-- A pod whose lane PLL of a group has lost lock: it is to relock at the frequency it had (R332). -/
def Machine.Pod.loseLanePll (g : GroupId) (q : Pod) : Pod :=
  { q with pllLost := q.pllLost ||| 1 <<< g.val,
           groups := updAt q.groups g fun x => { x with lock := false, target := some x.freq, freq := .none } }

/-- PLL_UNLOCK of a locked lane PLL: its loss of lock is an occurrence of the pod (R332). -/
theorem execPllUnlock_lane {k : PodId} {g : GroupId} (h : (s.pod k).groups[g.val].lock = true) :
    execPllUnlock (.lane k g) s = .next (raiseAgain .pllUnlock (.pod k) g.val (s.modPod k (Pod.loseLanePll g))) := by
  simp only [execPllUnlock]
  exact if_neg (by simp [h])

/-- PLL_UNLOCK of the locked stack PLL: its loss of lock is an occurrence of the device (R332). -/
theorem execPllUnlock_stack (h : s.clk.stkLock = true) :
    execPllUnlock .stack s = .next (raiseAgain .hubPllUnlock .dev 0
      { s with clk := { s.clk with stkLock := false, pllLost := s.clk.pllLost ||| 1 } }) := by
  simp only [execPllUnlock]
  exact if_neg (by simp [h])

/-- PLL_LOCK_REGAINED of an unlocked lane PLL of the part, where the root runs and no trip stands: the group locks (R332). -/
theorem execPllLockRegained_lane {k : PodId} {g : GroupId} (ht : s.pwr.trip = false) (hr : s.clk.rpllLock = true)
    (hk : s.part.hasPod k = true) (hl : (s.pod k).groups[g.val].lock = false) :
    execPllLockRegained (.lane k g) s = .next (groupLocked k g s) := by
  simp [execPllLockRegained, ht, hr, hk, hl]

/-- CLK_CFG_WRITE is the write of the register, where it reaches it (R349). -/
theorem execClkCfgWrite_reaches {who : Initiator} {v : Word} (h : WriteReaches who s 0x300) :
    execClkCfgWrite who v s = .next (writeClkCfg who v s) :=
  congrArg _ (regWrite_reaches h)

/-- CLK_GATE_WRITE is the write of the register, where it reaches it (R348). -/
theorem execClkGateWrite_reaches {who : Initiator} {v : Word} (h : WriteReaches who s 0x308) :
    execClkGateWrite who v s = .next (writeClkGate who v s) :=
  congrArg _ (regWrite_reaches h)

end Clocks

/-- Settles O17: each command's own condition holds, and its result is the named change of the clocks. -/
theorem clockCommandsComplete : Obligations.ClockCommandsComplete := by
  unfold Obligations.ClockCommandsComplete
  refine ⟨fun s => rfl,
    fun s => rfl,
    fun counts s hc => execRefJudgedGood_good hc (.inl rfl),
    fun counts s hc hd => execRefJudgedGood_good hc (.inr hd),
    fun n s hs hn => ⟨_, execFroTrimUpdate_fast hs hn, sroTrim_froCode, sroTrim_trimmed, sroTrim_ports⟩,
    fun n s hs hn => ⟨_, execFroTrimUpdate_slow hs hn, sroTrim_froCode, sroTrim_trimmed, sroTrim_ports⟩,
    fun s ht => execFlashAccessTimeout_untrimmed ht,
    fun n s hlo hhi => execFroCheck_within hlo hhi,
    fun s => rfl,
    fun s => ⟨_, execXbDetect_trims, rfl, rfl, Nat.mod_lt _ (by decide), rfl⟩,
    fun s ht => execXbLoss_untrimmed ht,
    fun s ht => ⟨_, execXbLoss_trimmed ht, rfl, rfl, Nat.mod_lt _ (by decide), rfl⟩,
    fun pass r s hr hl ht hg => ⟨_, execRpllLock_starts hr hl ht hg, stackPllSettle_lockRoot s⟩,
    fun s hl => execRpllUnlock_locked hl,
    fun s hl => if_pos hl,
    fun r s hr hw hf hb ho => execRpllAltRestart_waits hr hw hf hb ho,
    fun d s h => ⟨_, execDomainRampStep_ramps h, ?_⟩,
    fun d s h => ⟨_, execForcedSwitch_early h, ?_⟩,
    fun count s hg hf h => execClockMonitorWindow_within hg hf h,
    fun count s hg hf h => execClockMonitorWindow_out hg hf h,
    fun k g s h => ⟨_, execPllUnlock_lane h, ?_⟩,
    fun s h => execPllUnlock_stack h,
    fun k g s ht hr hk hl => execPllLockRegained_lane ht hr hk hl,
    fun who v s h => execClkCfgWrite_reaches h,
    fun who v s h => execClkGateWrite_reaches h⟩
  · rw [updAt_self]
    exact ⟨rfl, rfl, rfl⟩
  · rw [updAt_self]
    exact ⟨rfl, rfl, rfl, rfl⟩
  · rw [modPod_pod, Pod.loseLanePll, updAt_self]
    exact ⟨rfl, rfl, rfl, rfl, rfl⟩

end Sys2Proof
end

section
/-!
PROOFS. What every step does and keeps, the state after reset, and numbers in packets (O31 to O37, O41, O58).
-/
namespace Sys2Proof

open Sys2Proof.Machine

/-! ### The step -/

/-- Settles O31: a step looks at the front of the queue alone. -/
theorem stepTakesTheFront : Obligations.StepTakesTheFront := by
  unfold Obligations.StepTakesTheFront
  intro c rest s h
  rw [step, h]

/-- The step on an empty queue is one cycle. -/
theorem step_idle {s : State} (h : s.pending = []) : step s = .next (tick s) := by
  rw [step, h]

/-- A cycle does nothing to a device held in reset. -/
theorem tick_inReset {s : State} (h : s.boot.inReset = true) : tick s = s := by
  rw [tick, if_pos h]

/-- A cycle while the time counter stands: the uptime advances (R421). -/
theorem tick_stopped {s : State} (h : s.boot.inReset = false) (hr : (s.time.run && bitOf s.clk.gate 10) = false) :
    tick s = { s with uptime := s.uptime + if s.ctrlOnFro then 185 else 100 } := by
  rw [tick, if_neg (by simp [h])]
  exact if_neg (by simp [hr])

/-- A cycle while the time counter runs: the uptime and the counter advance (R421, R464). -/
theorem tick_runs {s : State} (h : s.boot.inReset = false) (hr : (s.time.run && bitOf s.clk.gate 10) = true) :
    tick s = { s with
      uptime := s.uptime + (if s.ctrlOnFro then 185 else 100),
      time := { s.time with
        ctr := (((s.time.ctr : Int) + cycleAdvance s.ctrlOnFro s.time.adj) % (timeModulus : Int)).toNat } } := by
  rw [tick, if_neg (by simp [h])]
  exact if_pos hr

/-- Settles O32: the cycle by its three cases. -/
theorem idleStepIsOneCycle : Obligations.IdleStepIsOneCycle := by
  unfold Obligations.IdleStepIsOneCycle
  exact ⟨fun s hp h => (step_idle hp).trans (congrArg _ (tick_inReset h)),
    fun s hp h hr => (step_idle hp).trans (congrArg _ (tick_stopped h hr)),
    fun s hp h hr => (step_idle hp).trans (congrArg _ (tick_runs h hr))⟩

/-- Settles O33: the decoder knows no word, so placing one places nothing. -/
theorem noWordSpellsACommand : Obligations.NoWordSpellsACommand := by
  unfold Obligations.NoWordSpellsACommand
  exact fun nbits w => ⟨rfl, fun s => rfl⟩

/-! ### What every step keeps -/

/-- Settles O35: slot memory is empty after reset. -/
theorem resetMeetsTheInvariant : Obligations.ResetMeetsTheInvariant := reset_memWf

/-- Settles O36: no step undoes the canonical form of slot memory (Kept). -/
theorem everyStepKeepsSlotMemory : Obligations.EveryStepKeepsSlotMemory := by
  unfold Obligations.EveryStepKeepsSlotMemory
  exact fun s t hs h => (step_kept h).mem hs

/-- Settles O37: no step undoes what fuses hold (Kept). -/
theorem fusesOnlyGrow : Obligations.FusesOnlyGrow := by
  unfold Obligations.FusesOnlyGrow
  exact fun s t h => ⟨(step_kept h).ctr, (step_kept h).svn, (step_kept h).keys⟩

/-! ### Every command answers -/

/-- A meaning goes on to a next state. -/
structure Answers (o : Host.Outcome State Fault Refusal) : Prop where
  exists_next : ∃ t, o = .next t

theorem Answers.next {t : State} : Answers (.next t) := ⟨t, rfl⟩

theorem Answers.ite {c : Prop} [Decidable c] {a b : Host.Outcome State Fault Refusal} (ha : Answers a) (hb : Answers b) :
    Answers (if c then a else b) := by
  split
  · exact ha
  · exact hb

theorem Answers.dite {c : Prop} [Decidable c] {a : c → Host.Outcome State Fault Refusal}
    {b : ¬c → Host.Outcome State Fault Refusal} (ha : ∀ h, Answers (a h)) (hb : ∀ h, Answers (b h)) :
    Answers (if h : c then a h else b h) := by
  split
  · exact ha _
  · exact hb _

theorem execParcelReadDone_answers (p l2h slot s) : Answers (execParcelReadDone p l2h slot s) := by
  unfold execParcelReadDone
  dsimp only
  split
  · exact .next
  · split
    · exact .next
    · split
      · refine .ite .next ?_
        split
        · exact .next
        · exact .ite .next .next
      · exact .next

theorem execRpllLock_answers (pass s) : Answers (execRpllLock pass s) := by
  unfold execRpllLock
  split
  · exact .next
  · exact .ite .next .next

theorem execRpllAltRestart_answers (s) : Answers (execRpllAltRestart s) := by
  unfold execRpllAltRestart
  split
  · exact .next
  · exact .ite .next .next

theorem execPllUnlock_answers (pll s) : Answers (execPllUnlock pll s) := by
  cases pll with
  | lane | host | stack | cxl => exact .ite .next .next

theorem execPllLockRegained_answers (pll s) : Answers (execPllLockRegained pll s) := by
  cases pll with
  | lane | host | stack | cxl => exact .ite .next <| .ite .next .next

theorem execRegionSample_answers (pair x s) : Answers (execRegionSample pair x s) := by
  cases pair with
  | some k =>
    refine .ite .next ?_
    cases podDeviation s k x with
    | some | none => exact .next
  | none =>
    cases x with
    | _ => exact .next

theorem execRegionFaultClear_answers (pair s) : Answers (execRegionFaultClear pair s) := by
  cases pair with
  | some | none => exact .ite .next .next

theorem execSupplyLoss_answers (r mv ns s) : Answers (execSupplyLoss r mv ns s) := by
  cases r with
  | pod => exact .ite .next <| .ite .next .next
  | _ => exact .ite .next .next

theorem execImgEraseBlockDone_answers (s) : Answers (execImgEraseBlockDone s) := by
  unfold execImgEraseBlockDone
  split
  · exact .ite .next .next
  · exact .next

theorem execStackLaneLockLoss_answers (p d missed errored s) : Answers (execStackLaneLockLoss p d missed errored s) := by
  refine .ite .next ?_
  split
  all_goals exact .next

theorem execHelloSend_answers (p s) : Answers (execHelloSend p s) := by
  unfold execHelloSend
  split
  all_goals exact .next

theorem execHelloReceive_answers (p h s) : Answers (execHelloReceive p h s) := by
  unfold execHelloReceive
  split
  all_goals exact .next

theorem execStackMsgReceive_answers (p quads s) : Answers (execStackMsgReceive p quads s) := by
  refine .ite .next ?_
  dsimp only
  split
  · exact .next
  · exact .ite .next <| .ite .next .next

theorem execParentChoose_answers (s) : Answers (execParentChoose s) := by
  refine .ite .next ?_
  split
  all_goals exact .next

theorem execFaultWindowClose_answers (s) : Answers (execFaultWindowClose s) := by
  unfold execFaultWindowClose
  split
  · exact .next
  · exact .ite .next <| .ite .next .next

theorem execMgmtReqReceive_answers (src tag frag last data s) : Answers (execMgmtReqReceive src tag frag last data s) := by
  unfold execMgmtReqReceive
  dsimp only
  split
  all_goals exact .next

theorem execMgmtRespReceive_answers (src tag frag last data s) : Answers (execMgmtRespReceive src tag frag last data s) := by
  unfold execMgmtRespReceive
  split
  · exact .next
  · dsimp only
    split
    all_goals exact .next

theorem execTunnelTimeout_answers (tag s) : Answers (execTunnelTimeout tag s) := by
  unfold execTunnelTimeout
  split
  all_goals exact .next

theorem execTimeFrameSend_answers (p s) : Answers (execTimeFrameSend p s) := by
  refine .ite .next ?_
  split
  all_goals exact .next

theorem execTimeFrameReceive_answers (p slotTx t1 slotRx t2 s) : Answers (execTimeFrameReceive p slotTx t1 slotRx t2 s) := by
  unfold execTimeFrameReceive
  dsimp only
  split
  · exact .ite .next <| .ite .next .next
  · exact .next

theorem execTimeSyncSend_answers (s) : Answers (execTimeSyncSend s) := by
  unfold execTimeSyncSend
  split
  · exact .next
  · exact .ite .next .next

theorem execTimeSyncReceive_answers (frame t r s) : Answers (execTimeSyncReceive frame t r s) := by
  unfold execTimeSyncReceive
  split
  · exact .next
  · exact .ite .next .next

/-- Every command answers: most meanings are one next state; the others choose between next states. -/
theorem exec_answers (c : Instr) (s : State) : Answers (exec c s) := by
  cases c with
  | parcelReadDone => exact execParcelReadDone_answers ..
  | rpllLock => exact execRpllLock_answers ..
  | rpllAltRestart => exact execRpllAltRestart_answers ..
  | pllUnlock => exact execPllUnlock_answers ..
  | pllLockRegained => exact execPllLockRegained_answers ..
  | regionSample => exact execRegionSample_answers ..
  | regionFaultClear => exact execRegionFaultClear_answers ..
  | supplyLoss => exact execSupplyLoss_answers ..
  | sensorConversion => exact .dite (fun _ => .ite .next .next) fun _ => .next
  | imgEraseBlockDone => exact execImgEraseBlockDone_answers ..
  | stackLaneLockLoss => exact execStackLaneLockLoss_answers ..
  | helloSend => exact execHelloSend_answers ..
  | helloReceive => exact execHelloReceive_answers ..
  | stackMsgReceive => exact execStackMsgReceive_answers ..
  | discoverReceive => exact .ite .next <| .ite .next <| .ite .next <| .ite (.ite .next .next) .next
  | parentChoose => exact execParentChoose_answers ..
  | faultWindowClose => exact execFaultWindowClose_answers ..
  | mgmtReqReceive => exact execMgmtReqReceive_answers ..
  | mgmtRespReceive => exact execMgmtRespReceive_answers ..
  | tunnelTimeout => exact execTunnelTimeout_answers ..
  | timeFrameSend => exact execTimeFrameSend_answers ..
  | timeFrameReceive => exact execTimeFrameReceive_answers ..
  | timeSyncSend => exact execTimeSyncSend_answers ..
  | timeSyncReceive => exact execTimeSyncReceive_answers ..
  | cxlLinkFence | cxlLinkReturn | cxlRetrainDone | guarWindowEnd | refJudgedGood | froTrimUpdate | flashAccessTimeout |
    domainRampStep | forcedSwitch | clockMonitorWindow | rpllHoldover | rpllUnlock | froCheck | avsExamine | avsStatusPoll |
    bootTrimTimeout | bootRpllTimeout | faultMessage | stackClockDetect | stackLaneLock | stackPortAlign | stackAlignTimeout |
    stackSofSend | linkAckReceive | linkAckSend | orphanNoticeReceive | reportReceive | assignReceive | topoChangeReceive |
    faultReportReceive | ledgerAnchorReceive | timeHoldoverTimeout | ppsOutPulse => exact .ite .next .next
  | cxlLinkDowntrain | enumRunStart => exact .ite .next (.ite .next .next)
  | stackSofReceive => exact .ite .next (.ite .next (.ite .next .next))
  | avsWriteRetry | ppsInEdge => exact .ite .next <| .ite .next <| .ite .next <| .ite .next .next
  | parcelWriteGrant => exact .ite .next (.ite (.ite .next .next) (.ite .next .next))
  | _ => exact .next

/-- Settles O34: a step is a command's answer, or the state one cycle later. -/
theorem everyStepAnswers : Obligations.EveryStepAnswers := by
  unfold Obligations.EveryStepAnswers
  refine ⟨fun c s => (exec_answers c s).exists_next, fun s => ?_⟩
  unfold step
  split
  · exact ⟨_, rfl⟩
  · exact (exec_answers _ _).exists_next

/-! ### The state after reset -/

/-- After reset every port is as reset leaves it. -/
theorem reset_port (p : PortId) : State.reset.port p = Port.reset := Vector.getElem_replicate ..

/-- After reset every pod is as reset leaves it. -/
theorem reset_pod (k : PodId) : State.reset.pod k = Pod.reset := Vector.getElem_replicate ..

/-- After reset every lane is as reset leaves it. -/
theorem reset_lane (p : PortId) (n : LaneId) : State.reset.lane p n = Lane.reset := by
  rw [State.lane, reset_port]
  exact Vector.getElem_replicate ..

/-- A bank of defaults reads the default everywhere, outside it too. -/
theorem getNat_replicate {α : Type} (n i : Nat) (d : α) : getNat (Vector.replicate n d) i d = d := by
  unfold getNat
  split
  · exact Vector.getElem_replicate ..
  · rfl

/-- After reset no cause of any instance is live or sticky. -/
theorem reset_fltGet (c : Cause) (i : Inst) : fltGet c i State.reset = FltInst.zero := by
  cases i with
  | lane p n => rw [fltGet, reset_lane]; exact getNat_replicate ..
  | port p => rw [fltGet, reset_port]; exact getNat_replicate ..
  | pod k => rw [fltGet, reset_pod]; exact getNat_replicate ..
  | dev => exact getNat_replicate ..

/-- Settles O41: the hub's fields are those of the reset state, and every port, pod and cause is as reset leaves it. -/
theorem resetState : Obligations.ResetState := by
  unfold Obligations.ResetState
  refine ⟨rfl, rfl, rfl, rfl, rfl, rfl, rfl, rfl, rfl, rfl, rfl, rfl, rfl, rfl, rfl, rfl, rfl, fun p => ?_, fun k => ?_, reset_fltGet⟩
  · rw [reset_port]
    exact ⟨rfl, rfl, rfl⟩
  · rw [reset_pod]
    rfl

/-! ### Numbers in packets -/

/-- A number of k bytes has k bytes. -/
theorem beBytes_length (k v : Nat) : (beBytes k v).length = k := by
  rw [beBytes, List.length_map, List.length_range]

/-- Byte i of a number of k bytes, counted from the most significant. -/
theorem beBytes_get {k i : Nat} (v : Nat) (h : i < k) : (beBytes k v)[i]? = some (BitVec.ofNat 8 (v / 256 ^ (k - 1 - i))) := by
  have hp : (2 : Nat) ^ (8 * (k - 1 - i)) = 256 ^ (k - 1 - i) := by rw [Nat.pow_mul]
  simp [beBytes, h, Nat.shiftRight_eq_div_pow, hp]

/-- One byte more stands in front and is the most significant. -/
theorem beBytes_succ (k v : Nat) : beBytes (k + 1) v = BitVec.ofNat 8 (v / 256 ^ k) :: beBytes k v := by
  have hp : (2 : Nat) ^ (8 * k) = 256 ^ k := by rw [Nat.pow_mul]
  rw [beBytes, List.range_succ_eq_map]
  simp [beBytes, Nat.shiftRight_eq_div_pow, hp, Nat.sub_sub, Nat.add_comm, Function.comp_def]

/-- The bytes read so far weigh 256 for each byte that follows. -/
theorem beNat_foldl (l : List Byte) (a : Nat) :
    l.foldl (fun a b => a * 256 + b.toNat) a = a * 256 ^ l.length + beNat l := by
  induction l generalizing a with
  | nil => simp [beNat]
  | cons b l ih =>
    rw [beNat, List.foldl_cons, List.foldl_cons, ih, ih (0 * 256 + b.toNat), List.length_cons, Nat.pow_succ]
    ring

/-- The first byte weighs 256 for each byte that follows. -/
theorem beNat_cons (b : Byte) (l : List Byte) : beNat (b :: l) = b.toNat * 256 ^ l.length + beNat l := by
  rw [beNat, List.foldl_cons, beNat_foldl]
  simp

/-- A number written as k bytes reads back modulo 256 to the k. -/
theorem beNat_beBytes (k v : Nat) : beNat (beBytes k v) = v % 256 ^ k := by
  induction k with
  | zero => simp [beBytes, beNat, Nat.mod_one]
  | succ k ih =>
    rw [beBytes_succ, beNat_cons, beBytes_length, ih, BitVec.toNat_ofNat, Nat.pow_succ (m := k), Nat.mod_mul (x := v), Nat.add_comm,
      Nat.mul_comm]

/-- Settles O58: length, value and bytes of a number in a packet, by induction on the number of bytes. -/
theorem packetNumbersReadBack : Obligations.PacketNumbersReadBack := by
  unfold Obligations.PacketNumbersReadBack
  exact fun k v => ⟨beBytes_length k v, beNat_beBytes k v, fun i h => beBytes_get v h⟩

end Sys2Proof
end

section
/-!
PROOFS. Places, fields, and what a read of a register answers.
-/
namespace Sys2Proof

open Sys2Proof.Machine

/-! ### Fields -/

/-- A bit of a field. -/
theorem getLsbD_fld (v lo w i : Nat) :
    (fld v lo w).getLsbD i = (decide (i < 32) && decide (lo ≤ i) && decide (i < lo + w) && v.testBit (i - lo)) := by
  rw [fld, BitVec.getLsbD_ofNat, Nat.testBit_shiftLeft, Nat.testBit_mod_two_pow]
  by_cases h : lo ≤ i
  · have : (i - lo < w) = (i < lo + w) := propext (by omega)
    simp only [this, h, decide_true, Bool.true_and, Bool.and_true, Bool.and_assoc]
  · simp [h]

/-- A bit of a flag. -/
theorem getLsbD_flg (b : Bool) (k i : Nat) : (flg b k).getLsbD i = (decide (i < 32) && decide (i = k) && b) := by
  rw [flg, getLsbD_fld]
  by_cases h : i = k
  · subst h
    cases b <;> simp [b2n]
  · have : (decide (k ≤ i) && decide (i < k + 1)) = false := by
      rw [Bool.and_eq_false_iff, decide_eq_false_iff_not, decide_eq_false_iff_not]
      omega
    rw [Bool.and_assoc (decide (i < 32)), this]
    simp [h]

/-- The bits of words laid over each other. -/
theorem bits_or (a b : Word) (hi lo : Nat) : bits (a ||| b) hi lo = bits a hi lo ||| bits b hi lo := by
  refine Nat.eq_of_testBit_eq fun i => ?_
  rw [Nat.testBit_or, testBit_bits, testBit_bits, testBit_bits, BitVec.getLsbD_or, Bool.and_or_distrib_left]

/-- A bit of words laid over each other one after another. -/
theorem getLsbD_foldl_or {α : Type} (l : List α) (f : α → Word) (w : Word) (i : Nat) :
    (l.foldl (fun w x => w ||| f x) w).getLsbD i = (w.getLsbD i || l.any fun x => (f x).getLsbD i) := by
  induction l generalizing w with
  | nil => simp
  | cons x l ih => rw [List.foldl_cons, ih, BitVec.getLsbD_or, List.any_cons, Bool.or_assoc]

/-- A field reads back, where its value fits it. -/
theorem bits_fld_same {v lo w : Nat} (h : lo + w ≤ 32) (hw : 0 < w) (hv : v < 2 ^ w) : bits (fld v lo w) (lo + w - 1) lo = v := by
  refine Nat.eq_of_testBit_eq fun i => ?_
  rw [testBit_bits, getLsbD_fld, Nat.add_sub_cancel_left]
  by_cases hi : i < w
  · have h1 : i < lo + w - 1 + 1 - lo := by omega
    have h2 : lo + i < 32 := by omega
    have h3 : lo + i < lo + w := by omega
    simp [h1, h2, h3]
  · have h3 : ¬ lo + i < lo + w := by omega
    simp [h3, Nat.testBit_lt_two_pow (hv.trans_le (Nat.pow_le_pow_right (by decide) (Nat.not_lt.mp hi)))]

/-- A field does not reach other bits. -/
theorem bits_fld_apart {v lo w hi lo' : Nat} (h : hi < lo ∨ lo + w ≤ lo') : bits (fld v lo w) hi lo' = 0 := by
  refine Nat.eq_of_testBit_eq fun i => ?_
  rw [testBit_bits, getLsbD_fld, Nat.zero_testBit]
  by_cases hi : i < hi + 1 - lo'
  · have : ¬ (lo ≤ lo' + i ∧ lo' + i < lo + w) := by omega
    by_cases h1 : lo ≤ lo' + i
    · have h2 : ¬ lo' + i < lo + w := by omega
      simp [h2]
    · simp [h1]
  · simp [hi]

/-! ### Addresses -/

/-- An aligned address is the address of its word. -/
theorem wordAddr_ofNat {a : Nat} (h : a < 2 ^ 32) (h4 : a % 4 = 0) : wordAddr (BitVec.ofNat 32 a) = a := by
  rw [wordAddr, BitVec.toNat_ofNat, Nat.mod_eq_of_lt h]
  omega

/-- The place of a global address. -/
theorem ofAddr_glob {o : Nat} (h : o < 0x10000) : Place.ofAddr o = .glob o := by
  simp only [Place.ofAddr, h, if_true, Nat.mod_eq_of_lt h]

/-- The place of an address of the fault region. -/
theorem ofAddr_fault {o : Nat} (h : o < 0x10000) : Place.ofAddr (0x10000 + o) = .fault o := by
  have hm : (0x10000 + o) % 0x10000 = o := by omega
  rw [Place.ofAddr, if_neg (by omega), if_pos (by omega), hm]

/-- The place of an address of the mailbox region. -/
theorem ofAddr_mailbox {o : Nat} (h : o < 0x10000) : Place.ofAddr (0x50000 + o) = .mailbox o := by
  have hm : (0x50000 + o) % 0x10000 = o := by omega
  rw [Place.ofAddr, if_neg (by omega), if_neg (by omega), if_neg (by omega), if_neg (by omega), if_neg (by omega),
    if_pos (by omega), hm]

/-- The place of an address of a pod window. -/
theorem ofAddr_pod (k : PodId) {o : Nat} (h : o < 0x10000) : Place.ofAddr (podBase k + o) = .pod k o := by
  have hk := k.isLt
  have hm : (0x80000 + k.val * 0x10000 + o) % 0x10000 = o := by omega
  have hd : (0x80000 + k.val * 0x10000 + o - 0x80000) / 0x10000 = k.val := by omega
  unfold podBase
  rw [Place.ofAddr, if_neg (by omega), if_neg (by omega), if_neg (by omega), if_neg (by omega), if_neg (by omega),
    if_neg (by omega), if_neg (by omega), if_pos (by omega)]
  simp only [hd, hk, dif_pos, Fin.eta, hm]

/-- The place of an address of a port window, its lane windows apart. -/
theorem ofAddr_port (p : PortId) {o : Nat} (h : o < 0x10000) (hl : o < 0x8000 ∨ 0xC000 ≤ o) :
    Place.ofAddr (portBase p + o) = .port p o := by
  have hp := p.isLt
  have hm : (0x1000000 + p.val * 0x10000 + o) % 0x10000 = o := by omega
  have hd : (0x1000000 + p.val * 0x10000 + o - 0x1000000) / 0x10000 = p.val := by omega
  unfold portBase
  rw [Place.ofAddr, if_neg (by omega), if_neg (by omega), if_neg (by omega), if_neg (by omega), if_neg (by omega),
    if_neg (by omega), if_neg (by omega), if_neg (by omega), if_neg (by omega)]
  simp only [hd, hp, dif_pos, Fin.eta, hm]
  exact if_neg (by omega)

/-- The place of an address of a lane window. -/
theorem ofAddr_lane (p : PortId) (n : LaneId) {o : Nat} (h : o < 0x800) : Place.ofAddr (laneBase p n + o) = .lane p n o := by
  have hp := p.isLt
  have hn := n.isLt
  have hm : (0x1000000 + p.val * 0x10000 + 0x8000 + n.val * 0x800 + o) % 0x10000 = 0x8000 + n.val * 0x800 + o := by omega
  have hd : (0x1000000 + p.val * 0x10000 + 0x8000 + n.val * 0x800 + o - 0x1000000) / 0x10000 = p.val := by omega
  have hl : (0x8000 + n.val * 0x800 + o - 0x8000) / 0x800 % 8 = n.val := by omega
  have ho : (0x8000 + n.val * 0x800 + o) % 0x800 = o := by omega
  unfold laneBase portBase
  rw [Place.ofAddr, if_neg (by omega), if_neg (by omega), if_neg (by omega), if_neg (by omega), if_neg (by omega),
    if_neg (by omega), if_neg (by omega), if_neg (by omega), if_neg (by omega)]
  simp only [hd, hp, dif_pos, Fin.eta, hm, hl, ho]
  exact if_pos (by omega)

/-! ### Reads -/

/-- No read changes the clock domains. -/
@[simp] theorem rcClear_dom (x : Place) (s : State) : (rcClear x s).clk.dom = s.clk.dom := by
  unfold rcClear
  split
  · rfl
  · split
    · rfl
    · rfl
  · split
    · rfl
    · rfl
  · split
    · rfl
    · rfl
  all_goals rfl

/-- A latch leaves everything but the latches. -/
@[simp] theorem setLatch_clk (who : Initiator) (a v : Nat) (s : State) : (setLatch who a v s).clk = s.clk := rfl

/-- What a read of TS_ENTRY0 leaves. -/
@[simp] theorem readTsEntry_clk (p : PortId) (s : State) : (readTsEntry p s).clk = s.clk := by
  unfold readTsEntry
  split
  · rfl
  · rfl

/-- No read changes the clock domains. -/
@[simp] theorem readReg_dom (who : Initiator) (a : Nat) (s : State) : (readReg who a s).clk.dom = s.clk.dom := by
  unfold readReg
  split
  · rfl
  · split
    · rfl
    · split
      · rw [readTsEntry_clk]
      · rw [readValue_clk]
        split
        · rfl
        · exact rcClear_dom _ s

/-- No read changes whether the hub is slow. -/
@[simp] theorem readReg_hubSlow (who : Initiator) (a : Nat) (s : State) : (readReg who a s).hubSlow = s.hubSlow := by
  rw [State.hubSlow, readReg_dom, State.hubSlow]

/-- RC_READ of a word in reach, ready in time, is the read of its word (R516, R519). -/
theorem execRcRead_ready {who : Initiator} {addr : BitVec 32} {s : State} (ha : accessible s (wordAddr addr) = true)
    (hr : who ≠ .spi ∨ s.hubSlow = false) : execRcRead who addr s = .next (readReg who (wordAddr addr) s) := by
  rw [execRcRead, regRead_reaches ha, spiData_ready]
  rwa [readReg_hubSlow]

/-- RC_READ of an aligned address in reach, ready in time. -/
theorem execRcRead_aligned {who : Initiator} {a : Nat} {s : State} (hlt : a < 2 ^ 32) (h4 : a % 4 = 0)
    (ha : accessible s a = true) (hr : who ≠ .spi ∨ s.hubSlow = false) :
    execRcRead who (BitVec.ofNat 32 a) s = .next (readReg who a s) := by
  have h := execRcRead_ready (addr := BitVec.ofNat 32 a) (s := s) (who := who)
  rw [wordAddr_ofNat hlt h4] at h
  exact h ha hr

/-- The places whose reads do more than answer a word and clear or latch: the time counter, PPSIN and the timestamps. -/
def plainPlace : Place → Bool
  | .time _ => false
  | .port _ 0xE10 => false
  | _ => true

/-- The place of a word that does not lie in the time window is not the place of TIME_NOW or of PPSIN. -/
theorem plainPlace_ne_time {a : Nat} (h : plainPlace (Place.ofAddr a) = true) : a ≠ 0x20010 ∧ a ≠ 0x20024 := by
  refine ⟨?_, ?_⟩
  · rintro rfl
    exact absurd h (by decide)
  · rintro rfl
    exact absurd h (by decide)

/-- A read of a plain place: the word as it shows, and what the read then clears or latches (R521, R525). -/
theorem readReg_plain {who : Initiator} {a : Nat} {s : State} (h : plainPlace (Place.ofAddr a) = true) :
    readReg who a s = readValue (s.peek who a) (match s.wide (Place.ofAddr a) with
      | some v => setLatch who a (v / 2 ^ 32) s
      | none => rcClear (Place.ofAddr a) s) := by
  obtain ⟨h1, h2⟩ := plainPlace_ne_time h
  rw [readReg, if_neg h1, if_neg h2]
  split
  next p hp =>
    rw [hp] at h
    exact absurd h (by simp [plainPlace])
  next => rfl

/-- A read of a word that is not wide answers the word at its place. -/
theorem peek_word {who : Initiator} {a : Nat} {s : State} {w : Word} (hw : s.wide (Place.ofAddr a) = none)
    (hlo : s.wide (Place.ofAddr (a - 4)) = none) (h : s.wordAt who (Place.ofAddr a) = some w) : s.peek who a = w := by
  rw [State.peek, hw, hlo, h]
  simp

/-- RC_READ of a plain word in reach that is no part of a wide register answers the word at its place. -/
theorem rcRead_word {who : Initiator} {a : Nat} {s : State} {w : Word} (hlt : a < 2 ^ 32) (h4 : a % 4 = 0)
    (ha : accessible s a = true) (hr : who ≠ .spi ∨ s.hubSlow = false) (hp : plainPlace (Place.ofAddr a) = true)
    (hw : s.wide (Place.ofAddr a) = none) (hlo : s.wide (Place.ofAddr (a - 4)) = none)
    (h : s.wordAt who (Place.ofAddr a) = some w) :
    exec (.rcRead who (BitVec.ofNat 32 a)) s = .next (readValue w (rcClear (Place.ofAddr a) s)) := by
  refine (execRcRead_aligned hlt h4 ha hr).trans ?_
  rw [readReg_plain hp, hw, peek_word hw hlo h]
end Sys2Proof
end

section
/-!
PROOFS. Ignored writes, wide registers and slot memory (O43, O44, O47, O48).
-/
namespace Sys2Proof

open Sys2Proof.Machine

/-! ### Writes that are ignored -/

/-- An address lies at a place: at the place's offset within its window, which in a port window is outside the lane windows. -/
def Machine.Place.Holds (a : Nat) : Place → Prop
  | .glob o => a = o ∧ o < 0x10000
  | .fault o => a = 0x10000 + o ∧ o < 0x10000
  | .time o => a = 0x20000 + o ∧ o < 0x10000
  | .stack o => a = 0x30000 + o ∧ o < 0x10000
  | .spill o => a = 0x40000 + o ∧ o < 0x10000
  | .mailbox o => a = 0x50000 + o ∧ o < 0x10000
  | .pod k o => a = podBase k + o ∧ o < 0x10000
  | .port p o => a = portBase p + o ∧ (o < 0x8000 ∨ 0xC000 ≤ o ∧ o < 0x10000)
  | .lane p n o => a = laneBase p n + o ∧ o < 0x800
  | .outside => True

/-- Every address lies at its place. -/
theorem holds_of_ofAddr {a : Nat} {x : Place} (h : Place.ofAddr a = x) : x.Holds a := by
  unfold Place.ofAddr at h
  dsimp only at h
  by_cases h1 : a < 0x10000
  · rw [if_pos h1, Nat.mod_eq_of_lt h1] at h
    subst h
    exact ⟨rfl, h1⟩
  · rw [if_neg h1] at h
    repeat' split at h
    all_goals
      subst h
      simp only [Place.Holds, podBase, laneBase, portBase]
    all_goals omega

/-- REGISTER_WRITE that reaches its register is the write of the register (R517). -/
theorem execRegisterWrite_reaches {who : Initiator} {addr : BitVec 32} {v : Word} {be : BitVec 4} {s : State}
    (h : WriteReaches who s (wordAddr addr)) :
    execRegisterWrite who addr v be s = .next (writeReg who (wordAddr addr) v be s) :=
  congrArg _ (regWrite_reaches h)

/-- REGISTER_WRITE of an aligned address that reaches its register. -/
theorem execRegisterWrite_aligned {who : Initiator} {a : Nat} {v : Word} {be : BitVec 4} {s : State} (hlt : a < 2 ^ 32)
    (h4 : a % 4 = 0) (h : WriteReaches who s a) :
    execRegisterWrite who (BitVec.ofNat 32 a) v be s = .next (writeReg who a v be s) := by
  have hw := execRegisterWrite_reaches (addr := BitVec.ofNat 32 a) (v := v) (be := be) (s := s) (who := who)
  rw [wordAddr_ofNat hlt h4] at hw
  exact hw h

/-- Before CONFIG_DONE a write from outside is ignored outside the mailbox region (R377). -/
theorem regWrite_early {who : Initiator} {a : Nat} {s : State} {f : State → State}
    (hw : who = .pcie ∨ who = .spi ∨ who = .mdio) (hc : s.boot.configDone = false) (ha : accessible s a = true)
    (hm : a < 0x50000 ∨ 0x60000 ≤ a) : regWrite who a s f = ignored who a s := by
  have hm : (decide (0x50000 ≤ a) && decide (a < 0x60000)) = false := by
    rw [Bool.and_eq_false_iff, decide_eq_false_iff_not, decide_eq_false_iff_not]
    omega
  have hw : (decide (who = .pcie) || decide (who = .spi) || decide (who = .mdio)) = true := by
    rcases hw with rfl | rfl | rfl <;> rfl
  simp [regWrite, ha, hc, hm, hw]

/-- Outside slot memory a write of part of a word is ignored (R517). -/
theorem writeReg_partial {who : Initiator} {a : Nat} {v : Word} {be : BitVec 4} {s : State} (hbe : be ≠ 0xF)
    (hm : a < 0x50000 ∨ 0x58000 ≤ a) : writeReg who a v be s = ignored who a s := by
  unfold writeReg
  split
  next o ho =>
    obtain ⟨rfl, hf⟩ := holds_of_ofAddr ho
    rw [if_neg (by omega), if_neg hbe]
  next => exact if_neg hbe

/-- Settles O43: the checks that stand before every register's own effect. -/
theorem earlyAndPartialWritesAreIgnored : Obligations.EarlyAndPartialWritesAreIgnored := by
  unfold Obligations.EarlyAndPartialWritesAreIgnored
  exact ⟨fun who addr v be s hw hc ha hm => congrArg _ (regWrite_early hw hc ha hm),
    fun who addr v be s h hbe hm => (execRegisterWrite_reaches h).trans (congrArg _ (writeReg_partial hbe hm))⟩

/-! ### GLB_WR_STAT and GLB_WR_ADDR -/

/-- An ignored write sets its initiator's bit and leaves the others (R523). -/
theorem ignored_wrStat_getLsbD (who other : Initiator) (a : Nat) (s : State) :
    (ignored who a s).reg.wrStat.getLsbD other.bit = (s.reg.wrStat.getLsbD other.bit || decide (other = who)) := by
  have hbit : ((1 <<< who.bit : Nat) : BitVec 5).getLsbD other.bit = decide (other = who) := by
    cases who <;> cases other <;> rfl
  exact (BitVec.getLsbD_or ..).trans (by rw [hbit])

/-- GLB_WR_STAT_CLEAR is the write of GLB_WR_STAT, where it reaches it (R531). -/
theorem execGlbWrStatClear_reaches {who : Initiator} {v : Word} {s : State} (h : WriteReaches who s 0x10) :
    execGlbWrStatClear who v s = .next (writeWrStat v s) :=
  congrArg _ (regWrite_reaches h)

/-- A 1 in bit 31 clears both registers (Table 21.13). -/
theorem writeWrStat_all {v : Word} (s : State) (h : bitOf v 31 = true) :
    (writeWrStat v s).reg.wrStat = 0 ∧ (writeWrStat v s).reg.wrAddr = 0 := by
  simp [writeWrStat, written, h]

/-- Without bit 31 a 1 clears its own bit alone (Table 21.13). -/
theorem writeWrStat_bits {v : Word} (s : State) (h : bitOf v 31 = false) (other : Initiator) :
    (writeWrStat v s).reg.wrStat.getLsbD other.bit = (s.reg.wrStat.getLsbD other.bit && !bitOf v other.bit) := by
  have hb : other.bit < 5 := by cases other <;> decide
  have hw : (writeWrStat v s).reg.wrStat = s.reg.wrStat &&& ~~~(v.setWidth 5) := by simp [writeWrStat, written, h]
  rw [hw]
  simp [bitOf, hb]

/-- Settles O44: what an ignored write leaves, how the two registers read, and what a write of GLB_WR_STAT clears. -/
theorem ignoredWritesAreRecorded : Obligations.IgnoredWritesAreRecorded := by
  unfold Obligations.IgnoredWritesAreRecorded
  refine ⟨fun who a s => ⟨?_, fun other h => ?_, rfl, nofun, rfl⟩,
    fun who s hr => ⟨_, _, rcRead_word (a := 0x10) (by decide) rfl rfl hr rfl rfl rfl rfl, rfl, rfl,
      rcRead_word (a := 0x14) (by decide) rfl rfl hr rfl rfl rfl rfl, rfl, rfl⟩,
    fun who v s h hv => ⟨_, execGlbWrStatClear_reaches h, writeWrStat_all s hv⟩,
    fun who v s h hv => ⟨_, execGlbWrStatClear_reaches h, ?_, writeWrStat_bits s hv⟩⟩
  · rw [ignored_wrStat_getLsbD, decide_eq_true rfl, Bool.or_true]
  · rw [ignored_wrStat_getLsbD, decide_eq_false h, Bool.or_false]
  · simp [writeWrStat, written, hv]

/-! ### Wide registers -/

/-- What setLatch latched. -/
@[simp] theorem getLatch_setLatch_same (who : Initiator) (a v : Nat) (s : State) : getLatch who a (setLatch who a v s) = v := by
  simp [getLatch, setLatch]

/-- The latches that setLatch leaves: those of another initiator or of another address. -/
theorem getLatch_setLatch_other {who who' : Initiator} {a a' : Nat} (v : Nat) (s : State) (h : who' ≠ who ∨ a' ≠ a) :
    getLatch who' a' (setLatch who a v s) = getLatch who' a' s := by
  have hne : (decide (who = who') && a == a') = false := by
    rw [Bool.and_eq_false_iff, decide_eq_false_iff_not, beq_eq_false_iff_ne]
    exact h.imp Ne.symm Ne.symm
  have hfind : (s.reg.latches.filter fun l => !(decide (l.who = who) && l.addr == a)).find?
      (fun l => decide (l.who = who') && l.addr == a') = s.reg.latches.find? fun l => decide (l.who = who') && l.addr == a' := by
    rw [List.find?_filter]
    congr 1
    funext l
    by_cases hl : l.who = who' ∧ l.addr = a'
    · obtain ⟨rfl, rfl⟩ := hl
      simp [h]
    · have hq : (decide (l.who = who') && l.addr == a') = false := by simpa using hl
      simp [hq]
  simp only [getLatch, setLatch, List.find?_cons, hne, hfind]

/-- The words of the time window and TS_ENTRY0 are not wide. -/
theorem plainPlace_of_wide {s : State} {x : Place} (h : (s.wide x).isSome = true) : plainPlace x = true := by
  by_contra hn
  rw [Bool.not_eq_true] at hn
  unfold plainPlace at hn
  split at hn
  · cases h
  · cases h
  · cases hn

/-- A place of a port window below TS_ENTRY0 is plain. -/
theorem plainPlace_port (p : PortId) {o : Nat} (h : o ≠ 0xE10) : plainPlace (.port p o) = true := by
  unfold plainPlace
  split
  next h' => cases h'
  next h' => exact absurd (Place.port.inj h').2 h
  next => rfl

/-- A _LO word of a sub-port's counters is the first word of a pair, and the second word is none. -/
theorem widePort_counters_next {q : Port} {m : Nat} (hm : m < 0x100) (h : (widePort q (0xC40 + m)).isSome = true) :
    m + 4 < 0x100 ∧ widePort q (0xC40 + (m + 4)) = none := by
  unfold widePort at h
  rw [if_pos (by omega), Nat.add_sub_cancel_left] at h
  have he : m % 8 = 0 := by
    dsimp only at h
    split at h
    case h_4 => cases h
    all_goals omega
  have hlt : m + 4 < 0x100 := by omega
  refine ⟨hlt, ?_⟩
  unfold widePort
  rw [if_pos (by omega), Nat.add_sub_cancel_left]
  dsimp only
  split
  case h_4 => rfl
  all_goals omega

/-- Behind the _LO word of a wide register of a port there is none. -/
theorem widePort_next {q : Port} {o : Nat} (h : (widePort q o).isSome = true) :
    o < 0x7000 ∧ o + 4 ≠ 0xE10 ∧ widePort q (o + 4) = none := by
  by_cases ho : 0xC40 ≤ o ∧ o < 0xD40
  · obtain ⟨m, rfl⟩ := Nat.exists_eq_add_of_le ho.1
    obtain ⟨hlt, hn⟩ := widePort_counters_next (by omega) h
    exact ⟨by omega, by omega, Nat.add_assoc .. ▸ hn⟩
  · unfold widePort at h
    rw [if_neg ho] at h
    split at h
    case h_10 => cases h
    all_goals exact ⟨by decide, by decide, rfl⟩

/-- Behind the _LO word of a wide register of a lane there is none. -/
theorem wideLane_next {l : Lane} {o : Nat} (h : (wideLane l o).isSome = true) : o + 4 < 0x800 ∧ wideLane l (o + 4) = none := by
  unfold wideLane at h
  split at h
  · exact ⟨by decide, rfl⟩
  · exact ⟨by decide, rfl⟩
  · cases h

/-- A wide register's _HI word is itself no _LO word, and its read is plain. -/
theorem wide_next {s : State} {a : Nat} (h : (s.wide (Place.ofAddr a)).isSome = true) :
    a + 4 < 2 ^ 32 ∧ s.wide (Place.ofAddr (a + 4)) = none ∧ plainPlace (Place.ofAddr (a + 4)) = true := by
  cases hp : Place.ofAddr a with
  | time | stack | spill | pod | outside => rw [hp] at h; cases h
  | glob o =>
    obtain ⟨rfl, hf⟩ := holds_of_ofAddr hp
    rw [hp, State.wide, wideGlob] at h
    split at h
    next ho => subst ho; exact ⟨by decide, rfl, rfl⟩
    next => cases h
  | fault o =>
    obtain ⟨rfl, hf⟩ := holds_of_ofAddr hp
    rw [hp, State.wide] at h
    unfold wideFault at h
    split at h
    case h_4 => cases h
    all_goals exact ⟨by decide, rfl, rfl⟩
  | mailbox o =>
    obtain ⟨rfl, hf⟩ := holds_of_ofAddr hp
    rw [hp, State.wide] at h
    split at h
    next ho => subst ho; exact ⟨by decide, rfl, rfl⟩
    next => cases h
  | port p o =>
    obtain ⟨rfl, hf⟩ := holds_of_ofAddr hp
    rw [hp, State.wide] at h
    obtain ⟨hlt, hne, hn⟩ := widePort_next h
    have hp' := p.isLt
    rw [Nat.add_assoc, ofAddr_port p (by omega) (by omega)]
    exact ⟨by unfold portBase; omega, hn, plainPlace_port p hne⟩
  | lane p n o =>
    obtain ⟨rfl, hf⟩ := holds_of_ofAddr hp
    rw [hp, State.wide] at h
    obtain ⟨hlt, hn⟩ := wideLane_next h
    have hp' := p.isLt
    have hn' := n.isLt
    rw [Nat.add_assoc, ofAddr_lane p n hlt]
    exact ⟨by unfold laneBase portBase; omega, hn, rfl⟩

/-- A read of a _LO word answers its low word and latches the rest (R525). -/
theorem readReg_wide {who : Initiator} {a v : Nat} {s : State} (h : s.wide (Place.ofAddr a) = some v) :
    readReg who a s = readValue (BitVec.ofNat 32 v) (setLatch who a (v / 2 ^ 32) s) := by
  rw [readReg_plain (plainPlace_of_wide (by rw [h]; rfl)), h, State.peek, h]

/-- A read of a _HI word answers the initiator's latch (R525). -/
theorem readReg_high_reply {who : Initiator} {a : Nat} {s : State} (h : (s.wide (Place.ofAddr a)).isSome = true) :
    (readReg who (a + 4) s).reg.reply = .value (BitVec.ofNat 32 (getLatch who a s)) := by
  obtain ⟨_, hn, hp⟩ := wide_next h
  rw [readReg_plain hp, readValue_reply, State.peek, hn, Nat.add_sub_cancel, h]
  simp

/-- Where no latch of an initiator stands at an address, it reads 0. -/
theorem getLatch_none {who : Initiator} {a : Nat} {s : State}
    (h : (s.reg.latches.all fun l => !(decide (l.who = who) && l.addr == a)) = true) : getLatch who a s = 0 := by
  have hn : s.reg.latches.find? (fun l => decide (l.who = who) && l.addr == a) = none := by
    rw [List.find?_eq_none]
    intro l hl
    simpa only [Bool.not_eq_true', Bool.not_eq_true] using List.all_eq_true.mp h l hl
  rw [getLatch, hn]

/-- Settles O47: a _LO word latches for its initiator at its address, and the _HI word behind it answers that latch. -/
theorem wideRegistersLatch : Obligations.WideRegistersLatch := by
  unfold Obligations.WideRegistersLatch
  refine ⟨fun who addr s v ha hv hr => ⟨_, execRcRead_ready ha hr, execRcRead_ready ha hr, ?_, ?_, fun who' a h => ?_⟩,
    fun who addr s ha hv hr => ⟨_, execRcRead_aligned (wide_next hv).1 ?_ ha hr, readReg_high_reply hv, fun hl => ?_⟩⟩
  · rw [readReg_wide hv, readValue_reply]
  · rw [readReg_wide hv]
    exact getLatch_setLatch_same ..
  · rw [readReg_wide hv]
    exact getLatch_setLatch_other _ s h
  · unfold wordAddr
    omega
  · rw [readReg_high_reply hv, getLatch_none hl]
    rfl

/-! ### Slot memory -/

/-- The mailbox region is always in reach. -/
theorem accessible_mailbox {s : State} {o : Nat} (h : o < 0x10000) : accessible s (0x50000 + o) = true := by
  rw [accessible, if_neg (by omega), if_neg (by omega), if_neg (by omega), if_neg (by omega), if_pos (by omega)]

/-- A write of the mailbox region always reaches it, CONFIG_DONE or not (R377). -/
theorem writeReaches_mailbox {who : Initiator} {s : State} {o : Nat} (h : o < 0x10000) : WriteReaches who s (0x50000 + o) :=
  ⟨accessible_mailbox h, .inr (.inr (.inr ⟨Nat.le_add_right .., by omega⟩))⟩

/-- A register write of slot memory is the write of slot memory. -/
theorem registerWrite_slotMem {who : Initiator} {o : Nat} {v : Word} {be : BitVec 4} {s : State} (h : o < 0x8000)
    (h4 : o % 4 = 0) : exec (.registerWrite who (BitVec.ofNat 32 (0x50000 + o)) v be) s = .next (writeSlotMem who o v be s) := by
  refine (execRegisterWrite_aligned (by omega) (by omega) (writeReaches_mailbox (by omega))).trans ?_
  rw [writeReg, ofAddr_mailbox (by omega)]
  exact congrArg _ (if_pos h)

/-- A write of slot memory while the slot is POSTED or RUNNING is ignored (R494). -/
theorem writeSlotMem_busy {who : Initiator} {o : Nat} {v : Word} {be : BitVec 4} {s : State}
    (h : s.fw.slots[(slotAt o).val].state = .posted ∨ s.fw.slots[(slotAt o).val].state = .running) :
    writeSlotMem who o v be s = ignored who (0x50000 + o) s := by
  rw [writeSlotMem]
  exact if_pos (by simpa using h)

/-- The bytes that a write of a word under byte enables leaves in slot memory. -/
def wordWritten (m : List (Nat × Byte)) (o : Nat) (v : Word) (be : BitVec 4) (k : Nat) : List (Nat × Byte) :=
  (List.range k).foldl (fun m i => if be.getLsbD i then memWrite m (o + i) (BitVec.ofNat 8 (bits v (8 * i + 7) (8 * i))) else m) m

/-- A byte more of a word as a write leaves it. -/
theorem wordWritten_succ (m : List (Nat × Byte)) (o : Nat) (v : Word) (be : BitVec 4) (k : Nat) :
    wordWritten m o v be (k + 1) = if be.getLsbD k
      then memWrite (wordWritten m o v be k) (o + k) (BitVec.ofNat 8 (bits v (8 * k + 7) (8 * k)))
      else wordWritten m o v be k := by
  rw [wordWritten, List.range_succ, List.foldl_append]
  rfl

/-- Writing a word keeps the canonical form. -/
theorem wordWritten_wf {m : List (Nat × Byte)} {o : Nat} {v : Word} {be : BitVec 4} (h : memWf m = true) (k : Nat) :
    memWf (wordWritten m o v be k) = true := by
  induction k with
  | zero => exact h
  | succ k ih =>
    rw [wordWritten_succ]
    split
    · exact memWrite_wf _ _ ih
    · exact ih

/-- Writing a word leaves the addresses outside it. -/
theorem memRead_wordWritten_other {m : List (Nat × Byte)} {o a : Nat} {v : Word} {be : BitVec 4} {k : Nat}
    (h : a < o ∨ o + k ≤ a) : memRead (wordWritten m o v be k) a = memRead m a := by
  induction k with
  | zero => rfl
  | succ k ih =>
    rw [wordWritten_succ]
    split
    · rw [memRead_memWrite_other _ (by omega), ih (by omega)]
    · exact ih (by omega)

/-- Each byte of the word reads what was written where its enable is set, and as before where it is not. -/
theorem memRead_wordWritten {m : List (Nat × Byte)} {o i k : Nat} {v : Word} {be : BitVec 4} (hm : memWf m = true) (h : i < k) :
    memRead (wordWritten m o v be k) (o + i) =
      if be.getLsbD i then BitVec.ofNat 8 (bits v (8 * i + 7) (8 * i)) else memRead m (o + i) := by
  induction k with
  | zero => omega
  | succ k ih =>
    rw [wordWritten_succ]
    by_cases hi : i = k
    · subst hi
      split
      · exact memRead_memWrite_same _ _ (wordWritten_wf hm i)
      · exact memRead_wordWritten_other (.inr (Nat.le_refl _))
    · split
      · rw [memRead_memWrite_other _ (by omega), ih (by omega)]
      · exact ih (by omega)

/-- A write of slot memory while the slot is neither POSTED nor RUNNING (R493, R517). -/
theorem writeSlotMem_idle {who : Initiator} {o : Nat} {v : Word} {be : BitVec 4} {s : State}
    (hp : s.fw.slots[(slotAt o).val].state ≠ .posted) (hr : s.fw.slots[(slotAt o).val].state ≠ .running) :
    writeSlotMem who o v be s = written { s with fw := { s.fw with mem := wordWritten s.fw.mem o v be 4 } } := by
  rw [writeSlotMem]
  exact if_neg (by simp [hp, hr])

/-- A word of slot memory whose bytes are those of a word is that word. -/
theorem memWord_of_bytes {m : List (Nat × Byte)} {o : Nat} {v : Word}
    (h : ∀ i, i < 4 → memRead m (o + i) = BitVec.ofNat 8 (bits v (8 * i + 7) (8 * i))) : memWord m o = v := by
  have hbit (k i : Nat) (hk : k < 4) : (fld (memRead m (o + k)).toNat (8 * k) 8).getLsbD i = (decide (i / 8 = k) && v.getLsbD i) := by
    rw [h k hk, getLsbD_fld, BitVec.testBit_toNat, BitVec.getLsbD_ofNat, testBit_bits]
    by_cases hi : i / 8 = k
    · have h1 : i < 32 := by omega
      have h2 : 8 * k ≤ i := by omega
      have h3 : i < 8 * k + 8 := by omega
      have h4 : i - 8 * k < 8 := by omega
      have h5 : i - 8 * k < 8 * k + 7 + 1 - 8 * k := by omega
      simp [hi, h1, h2, h3, h4, h5]
    · have h1 : (decide (8 * k ≤ i) && decide (i < 8 * k + 8)) = false := by
        rw [Bool.and_eq_false_iff, decide_eq_false_iff_not, decide_eq_false_iff_not]
        omega
      rw [Bool.and_assoc (decide (i < 32)), h1]
      simp [hi]
  refine BitVec.eq_of_getLsbD_eq fun i hi => ?_
  have h0 : (0 : Word).getLsbD i = false := BitVec.getLsbD_zero
  rw [memWord, getLsbD_foldl_or, h0, Bool.false_or, Bool.eq_iff_iff, List.any_eq_true]
  refine ⟨fun ⟨k, hk, hb⟩ => ?_, fun hv => ⟨i / 8, List.mem_range.mpr (by omega), ?_⟩⟩
  · rw [hbit k i (List.mem_range.mp hk)] at hb
    exact (Bool.and_eq_true_iff.mp hb).2
  · rw [hbit _ i (by omega), hv, decide_eq_true rfl]
    rfl

/-- RC_READ of slot memory answers its word. -/
theorem rcRead_slotMem {who : Initiator} {o : Nat} {s : State} (h : o < 0x8000) (h4 : o % 4 = 0)
    (hr : who ≠ .spi ∨ s.hubSlow = false) :
    ∃ u, exec (.rcRead who (BitVec.ofNat 32 (0x50000 + o))) s = .next u ∧ u.reg.reply = .value (memWord s.fw.mem o) := by
  have hlo : s.wide (Place.ofAddr (0x50000 + o - 4)) = none := by
    by_cases h0 : o = 0
    · subst h0
      rfl
    · have ho : 0x50000 + o - 4 = 0x50000 + (o - 4) := by omega
      rw [ho, ofAddr_mailbox (by omega), State.wide, if_neg (by omega)]
  refine ⟨_, rcRead_word (by omega) (by omega) (accessible_mailbox (by omega)) hr ?_ ?_ hlo ?_, readValue_reply ..⟩
  · rw [ofAddr_mailbox (by omega)]
    rfl
  · rw [ofAddr_mailbox (by omega), State.wide, if_neg (by omega)]
  · rw [ofAddr_mailbox (by omega), State.wordAt]
    unfold readMailbox
    exact if_pos h

/-- Settles O48: a write leaves each enabled byte and keeps the others, a whole word reads back, and a busy slot ignores it. -/
theorem slotMemoryReadsBack : Obligations.SlotMemoryReadsBack := by
  unfold Obligations.SlotMemoryReadsBack
  refine ⟨fun who o v be s hm h h4 hp hr => ⟨_, (registerWrite_slotMem h h4).trans (congrArg _ (writeSlotMem_idle hp hr)),
      wordWritten_wf hm 4, rfl, fun i hi => memRead_wordWritten hm hi, fun a ha => memRead_wordWritten_other ha,
      fun hbe hq => ?_⟩,
    fun who o v be s h h4 hb => (registerWrite_slotMem h h4).trans (congrArg _ (writeSlotMem_busy hb))⟩
  obtain ⟨u, hu, hv⟩ := rcRead_slotMem (s := written { s with fw := { s.fw with mem := wordWritten s.fw.mem o v be 4 } }) h h4 hq
  refine ⟨u, hu, hv.trans (congrArg _ (memWord_of_bytes fun i hi => ?_))⟩
  have hi' : be.getLsbD i = true := by
    have hall : ∀ k : Fin 4, (0xF#4).getLsbD k.val = true := by decide
    rw [hbe]
    exact hall ⟨i, hi⟩
  exact (memRead_wordWritten hm hi).trans (if_pos hi')

end Sys2Proof
end

section
/-!
PROOFS. Staged registers and commits (O45, O46).
-/
namespace Sys2Proof

open Sys2Proof.Machine

/-! ### Staged registers -/

/-- Offsets of a port's staged registers are aligned and lie below the lane windows. -/
theorem portSt_ofs_bounds (r : PortSt) : r.ofs < 0x8000 ∧ r.ofs % 4 = 0 := by
  cases r <;> decide

/-- Offsets of a lane's staged registers are aligned and lie in the lane window. -/
theorem laneSt_ofs_bounds (r : LaneSt) : r.ofs < 0x800 ∧ r.ofs % 4 = 0 := by
  cases r <;> decide

/-- An offset names its staged register in a port window. -/
theorem portSt_find_ofs (r : PortSt) : PortSt.all.find? (fun x => x.ofs == r.ofs) = some r := by
  cases r <;> rfl

/-- An offset names its staged register in a lane window. -/
theorem laneSt_find_ofs (r : LaneSt) : LaneSt.all.find? (fun x => x.ofs == r.ofs) = some r := by
  cases r <;> rfl

/-- A write of a port's staged register changes its staged value (R526). -/
theorem writeReg_portSt {who : Initiator} {p : PortId} {r : PortSt} {v : Word} {s : State} :
    writeReg who (portBase p + r.ofs) v 0xF s =
      written (s.modPort p fun q => q.setReg r fun x => { x with staged := v &&& stMask s.part r }) := by
  obtain ⟨hlt, _⟩ := portSt_ofs_bounds r
  rw [writeReg, ofAddr_port p (by omega) (.inl hlt)]
  dsimp only
  rw [if_pos rfl, writePlace]
  unfold writePortReg
  rw [portSt_find_ofs]

/-- A write of a lane's staged register changes its staged value (R526). -/
theorem writeReg_laneSt {who : Initiator} {p : PortId} {n : LaneId} {r : LaneSt} {v : Word} {s : State} :
    writeReg who (laneBase p n + r.ofs) v 0xF s =
      written (s.modLane p n fun l => l.setReg r fun x => { x with staged := v &&& r.mask }) := by
  obtain ⟨hlt, _⟩ := laneSt_ofs_bounds r
  rw [writeReg, ofAddr_lane p n hlt]
  dsimp only
  rw [if_pos rfl, writePlace]
  unfold writeLaneReg
  rw [laneSt_find_ofs]

/-- A port's staged registers after every one of its scope changed. -/
@[simp] theorem mapStaged_reg (q : Port) (f : StReg → StReg) (r : PortSt) : (q.mapStaged f).reg r = f (q.reg r) := by
  simp [Port.mapStaged, Port.reg]

/-- The lanes' staged registers after every one of the port's scope changed. -/
@[simp] theorem mapStaged_lane_reg (q : Port) (f : StReg → StReg) (n : LaneId) (r : LaneSt) :
    ((q.mapStaged f).lanes[n.val]).reg r = f ((q.lanes[n.val]).reg r) := by
  simp [Port.mapStaged, Lane.reg]

/-- A lane's staged registers after every one of its scope changed. -/
@[simp] theorem mapStagedLane_lane (q : Port) (n : LaneId) (f : StReg → StReg) :
    (q.mapStagedLane n f).lanes[n.val] = { q.lanes[n.val] with st := q.lanes[n.val].st.map f } := by
  simp [Port.mapStagedLane]

/-- PORT_COMMIT and PORT_REVERT are the write of the register, where it reaches it (R527, R528). -/
theorem execPortCommit_reaches {who : Initiator} {p : PortId} {v : Word} {s : State} (h : WriteReaches who s (portBase p)) :
    execPortCommit who p v s = .next (writePortCommit who p v s) :=
  congrArg _ (regWrite_reaches h)

/-- LANE_COMMIT and LANE_REVERT are the write of the register, where it reaches it (R527, R528). -/
theorem execLaneCommit_reaches {who : Initiator} {p : PortId} {n : LaneId} {v : Word} {s : State}
    (h : WriteReaches who s (laneBase p n + 0x7F0)) : execLaneCommit who p n v s = .next (writeLaneCommit who p n v s) := by
  rw [execLaneCommit, regWrite_reaches h]

/-- A port commit becomes pending where none is (R527). -/
theorem writePortCommit_commit {who : Initiator} {p : PortId} {s : State} (h : (s.port p).commitPending = false) :
    writePortCommit who p 1 s = written (s.modPort p fun q => q.startCommit false) := by
  rw [writePortCommit, if_neg (by decide), h, if_neg (by decide), if_pos (by decide)]

/-- A port revert copies the accepted values where no commit is pending (R528). -/
theorem writePortCommit_revert {who : Initiator} {p : PortId} {s : State} (h : (s.port p).commitPending = false) :
    writePortCommit who p 2 s = written (s.modPort p fun q => q.mapStaged StReg.revert) := by
  rw [writePortCommit, if_neg (by decide), h, if_neg (by decide), if_neg (by decide)]

/-- A port commit is ignored while one is pending, and where both bits are set (R529). -/
theorem writePortCommit_ignored {who : Initiator} {p : PortId} {v : Word} {s : State} (hv : bits v 1 0 ≠ 0)
    (h : (s.port p).commitPending = true ∨ bits v 1 0 = 3) : writePortCommit who p v s = ignored who (portBase p) s := by
  rw [writePortCommit, if_neg hv, if_pos (by simpa [or_comm] using h)]

/-- The lane of a lane commit: its staged registers are taken and its commit is pending (R527). -/
def Machine.Lane.startCommit (l : Lane) : Lane := { l with st := l.st.map StReg.take, commit := { l.commit with pend := true } }

/-- A lane commit becomes pending where none is (R527). -/
theorem writeLaneCommit_commit {who : Initiator} {p : PortId} {n : LaneId} {s : State} (h : (s.port p).commitPending = false) :
    writeLaneCommit who p n 1 s = written (s.modLane p n Lane.startCommit) := by
  rw [writeLaneCommit, if_neg (by decide), h, if_neg (by decide), if_pos (by decide)]
  simp [State.modLane, Port.mapStagedLane, Port.modLane, updAt, Lane.startCommit]

/-- A lane commit is ignored while one is pending, and where both bits are set (R529). -/
theorem writeLaneCommit_ignored {who : Initiator} {p : PortId} {n : LaneId} {v : Word} {s : State} (hv : bits v 1 0 ≠ 0)
    (h : (s.port p).commitPending = true ∨ bits v 1 0 = 3) :
    writeLaneCommit who p n v s = ignored who (laneBase p n + 0x7F0) s := by
  rw [writeLaneCommit, if_neg hv, if_pos (by simpa [or_comm] using h)]

/-- Settles O45: a staged write sets the staged value, a port commit takes the port's scope, a lane commit its lane's. -/
theorem stagedRegisters : Obligations.StagedRegisters := by
  unfold Obligations.StagedRegisters
  refine ⟨fun who p r v s h => ?_, fun who p n r v s h => ?_,
    fun who p s h hc => ⟨_, (execPortCommit_reaches h).trans (congrArg _ (writePortCommit_commit hc)), ?_, fun r => ?_, fun n r => ?_⟩,
    fun who p n s h hc => ⟨_, (execLaneCommit_reaches h).trans (congrArg _ (writeLaneCommit_commit hc)), ?_, fun r => ?_,
      fun m hm => ?_, fun r => ?_⟩⟩
  · obtain ⟨hlt, h4⟩ := portSt_ofs_bounds r
    have hp := p.isLt
    exact (execRegisterWrite_aligned (by unfold portBase; omega) (by unfold portBase; omega) h).trans (congrArg _ writeReg_portSt)
  · obtain ⟨hlt, h4⟩ := laneSt_ofs_bounds r
    have hp := p.isLt
    have hn := n.isLt
    exact (execRegisterWrite_aligned (by unfold laneBase portBase; omega) (by unfold laneBase portBase; omega) h).trans
      (congrArg _ writeReg_laneSt)
  · rw [written_port, modPort_port]
    rfl
  · rw [written_port, modPort_port]
    have h : ((s.port p).startCommit false).reg r = ((s.port p).reg r).take := mapStaged_reg ..
    rw [h]
    exact ⟨rfl, rfl, rfl⟩
  · rw [written_lane, State.lane, modPort_port]
    have h : ((s.port p).startCommit false).lanes[n.val].reg r = ((s.port p).lanes[n.val].reg r).take := mapStaged_lane_reg ..
    rw [h]
    exact ⟨rfl, rfl, rfl⟩
  · rw [written_lane, modLane_lane]
    rfl
  · rw [written_lane, modLane_lane]
    simp [Lane.startCommit, Lane.reg, StReg.take]
  · rw [written_lane, modLane_lane_other _ _ _ _ _ hm.symm]
  · rw [written_port, modLane_port]
    rfl

/-! ### Commits -/

/-- Staged registers of a port have places of their own. -/
theorem portSt_ix_inj {r r' : PortSt} (h : r.ix = r'.ix) : r = r' := by
  cases r <;> cases r' <;> first | rfl | exact absurd h (by decide)

/-- The staged registers of a port after one of them changed. -/
theorem port_setReg_reg_eq (q : Port) (r r' : PortSt) (f : StReg → StReg) :
    (q.setReg r f).reg r' = if r' = r then f (q.reg r') else q.reg r' := by
  by_cases h : r' = r
  · subst h
    rw [port_setReg_reg, if_pos rfl]
  · rw [if_neg h]
    exact updAt_other _ _ _ _ fun e => h (portSt_ix_inj e).symm

/-- The entry of a port's accepted values leaves the lanes. -/
@[simp] theorem enterPort_lanes (q : Port) : q.enterPort.lanes = q.lanes := by
  unfold Port.enterPort
  dsimp only
  split <;> rfl

/-- The entry of a port's accepted values leaves the staged and the accepted ones; two registers enter in part alone. -/
theorem enterPort_reg (q : Port) (r : PortSt) :
    (q.enterPort.reg r).accepted = (q.reg r).accepted ∧ (q.enterPort.reg r).staged = (q.reg r).staged ∧
      (r ≠ .codeCtrl → r ≠ .lreCtrl → (q.enterPort.reg r).inForce = (q.reg r).accepted) := by
  have hi (m : Bool) (q : Port) (i) (r) : (if m then { q with ieee := i } else q).reg r = q.reg r := by split <;> rfl
  unfold Port.enterPort
  generalize decide ((q.reg .ieeeCfg).inForce ≠ (q.reg .ieeeCfg).accepted) = m
  cases r <;> simp [hi, port_setReg_reg_eq, StReg.enter]

/-- A commit of a port that is judged good, before its lanes enter (R527). -/
def Machine.Port.accepted (q : Port) : Port :=
  { (q.mapStaged StReg.accept).enterPort with commit := { pend := false, result := 0, ofs := 0, config := false } }

/-- The registers of a port whose commit is accepted. -/
theorem accepted_reg (q : Port) (r : PortSt) :
    (q.accepted.reg r).accepted = (q.reg r).snap ∧ (q.accepted.reg r).staged = (q.reg r).staged ∧
      (r ≠ .codeCtrl → r ≠ .lreCtrl → (q.accepted.reg r).inForce = (q.reg r).snap) := by
  have h := enterPort_reg (q.mapStaged StReg.accept) r
  rw [mapStaged_reg] at h
  exact h

/-- The registers of a lane whose port's commit is accepted. -/
theorem accepted_lane_reg (q : Port) (n : LaneId) (r : LaneSt) :
    ((q.accepted.lanes[n.val]).reg r).accepted = ((q.lanes[n.val]).reg r).snap := by
  have h : q.accepted.lanes = (q.mapStaged StReg.accept).lanes := by rw [Port.accepted, enterPort_lanes]
  rw [h, mapStaged_lane_reg]
  rfl

/-! ### The judge of a commit -/

/-- A port's own commit that a check refuses (R527, R530). -/
theorem execCommitJudge_refused {p : PortId} {s : State} {o : Nat} (hr : (s.group p).relocking = false)
    (hp : (s.port p).commit.pend = true) (hc : (s.port p).commit.config = false) (ho : firstRefused (portChecks s p) = some o) :
    exec (.commitJudge p) s =
      .next (s.modPort p fun q => { q with commit := { pend := false, result := 7, ofs := o, config := false } }) := by
  have hr' : s.relocking p = false := hr
  change Host.Outcome.next (commitJudge p s) = _
  simp [commitJudge, hr', hp, ho, hc]

/-- A port's commit that every check passes comes into force as a whole (R527). -/
theorem execCommitJudge_accepted {p : PortId} {s : State} (hr : (s.group p).relocking = false)
    (hp : (s.port p).commit.pend = true) (ho : firstRefused (portChecks s p) = none) :
    exec (.commitJudge p) s = .next (startLink p (linkCtrlEntered p (lane0On ((s.port p).laneOff 0) p
      (lane0Off ((s.port p).laneOff 0) p (allLanes.foldl (fun s n => enterLane p n s) (s.modPort p Port.accepted)))))) := by
  have hr' : s.relocking p = false := hr
  refine congrArg Host.Outcome.next (?_ : commitJudge p s = _)
  rw [commitJudge, if_neg (by simp [hr']), if_pos hp, ho]
  rfl

/-- Settles O46: what blocks a commit, what the judge does, and what a REVERT restores. -/
theorem commitsAreJudged : Obligations.CommitsAreJudged := by
  refine ⟨fun who p v s h h0 hb => ?_, fun who p n v s h h0 hb => ?_, fun p s h => congrArg _ (if_pos h),
    fun p s o hr hp hc ho => execCommitJudge_refused hr hp hc ho,
    fun p s hr hp ho => ⟨s.modPort p Port.accepted, execCommitJudge_accepted hr hp ho, ?_⟩, fun who p s h hp => ?_⟩
  · exact (execPortCommit_reaches h).trans (congrArg _ (writePortCommit_ignored h0 hb))
  · exact (execLaneCommit_reaches h).trans (congrArg _ (writeLaneCommit_ignored h0 hb))
  · refine ⟨?_, ?_, ?_, fun r => ?_, fun n r => ?_, fun r h h' => ?_, fun q hq => modPort_port_other _ _ _ _ hq.symm⟩
    · rw [modPort_port]; rfl
    · rw [modPort_port]; rfl
    · rw [modPort_port]; rfl
    · rw [modPort_port]
      exact ⟨(accepted_reg _ r).1, (accepted_reg _ r).2.1⟩
    · rw [State.lane, modPort_port]
      exact accepted_lane_reg ..
    · rw [modPort_port]
      exact (accepted_reg _ r).2.2 h h'
  · refine ⟨_, (execPortCommit_reaches h).trans (congrArg _ (writePortCommit_revert hp)), fun r => ?_, fun n r => ?_⟩
    · rw [written_port, modPort_port, mapStaged_reg]
      rfl
    · rw [written_lane, State.lane, modPort_port, mapStaged_lane_reg]
      rfl

end Sys2Proof
end

section
/-!
PROOFS. Commands of the register map (O30).
-/
namespace Sys2Proof

open Sys2Proof.Machine

/-! ### Commands of the register map -/

/-- What a read over the SPI is on the hub's slow side: its answer, or late (R519). -/
theorem spiData_slow {s : State} (h : s.hubSlow = true) :
    ((spiData .spi s).reg.reply = s.reg.reply ∧ (spiData .spi s).reg.spiLate = s.reg.spiLate) ∨
      ((spiData .spi s).reg.reply = .value 0xFFFFFFFF ∧ (spiData .spi s).reg.spiLate = true) := by
  rw [spiData, if_pos (by simp [h])]
  dsimp only
  split
  · exact .inr ⟨rfl, rfl⟩
  · exact .inl ⟨rfl, rfl⟩

/-- A read of the capture reserve where it may be read: four bytes of it (R518). -/
theorem execBar2Read_reserve {ofs : Nat} {s : State} (hs : s.part.hasStore = true)
    (ha : s.reg.capWin * 2 ^ 30 + ofs / 4 * 4 < s.store.captureGib * 2 ^ 30) (ho : ofs < 2 ^ 30) (ht : s.store.state = 2)
    (hr : s.cap.outcome ≠ .running) : ∃ w, execBar2Read ofs s = .next (readValue w { s with fresh := s.fresh + 4 }) := by
  refine ⟨_, congrArg Host.Outcome.next (if_neg ?_)⟩
  simp only [Bool.or_eq_true, decide_eq_true_eq, Bool.not_eq_true', not_or]
  exact ⟨⟨⟨⟨by simp [hs], by omega⟩, by omega⟩, by simpa using ht⟩, hr⟩

/-- Settles O30: a write that reaches its register does what the register does, and so does a read. -/
theorem registerMapCommandsComplete : Obligations.RegisterMapCommandsComplete := by
  refine ⟨fun who p v s h => ⟨execPortCommit_reaches h, execPortCommit_reaches h⟩,
    fun who p n v s h => ⟨execLaneCommit_reaches h, execLaneCommit_reaches h⟩, fun p s => rfl,
    fun who addr v be s h => execRegisterWrite_reaches h, fun who addr s h => ?_,
    fun who s h => spiData_ready h, fun s h => spiData_slow h, fun who v s h => execGlbWrStatClear_reaches h, fun s => rfl,
    fun ofs s hs ha ho ht hr => execBar2Read_reserve hs ha ho ht hr, fun s => rfl⟩
  have hr := regRead_reaches (who := who) (f := readReg who (wordAddr addr)) h
  exact ⟨congrArg _ hr, congrArg _ hr⟩

end Sys2Proof
end

section
/-!
PROOFS. The mailbox slots (O49).
-/
namespace Sys2Proof

open Sys2Proof.Machine

/-! ### The state of a slot -/

/-- Two-bit fields laid side by side read back. -/
theorem bits_foldl_pairs {f : Nat → Nat} {k n : Nat} (hk : k ≤ 16) (hn : n < k) (hf : f n < 4) :
    bits ((List.range k).foldl (fun w i => w ||| fld (f i) (2 * i) 2) 0) (2 * n + 1) (2 * n) = f n := by
  refine Nat.eq_of_testBit_eq fun i => ?_
  have h0 : (0 : Word).getLsbD (2 * n + i) = false := BitVec.getLsbD_zero
  rw [testBit_bits, getLsbD_foldl_or, h0, Bool.false_or]
  by_cases hi : i < 2
  · rw [decide_eq_true (by omega : i < 2 * n + 1 + 1 - 2 * n), Bool.true_and, Bool.eq_iff_iff, List.any_eq_true]
    refine ⟨fun ⟨x, _, hx⟩ => ?_, fun h => ⟨n, List.mem_range.2 hn, ?_⟩⟩
    · rw [getLsbD_fld] at hx
      simp only [Bool.and_eq_true, decide_eq_true_eq] at hx
      obtain ⟨⟨⟨_, hlo⟩, hhi⟩, hb⟩ := hx
      obtain rfl : x = n := by omega
      rwa [Nat.add_sub_cancel_left] at hb
    · rw [getLsbD_fld, Nat.add_sub_cancel_left, h]
      simp only [Bool.and_true, Bool.and_eq_true, decide_eq_true_eq]
      omega
  · rw [decide_eq_false (by omega : ¬ i < 2 * n + 1 + 1 - 2 * n), Bool.false_and]
    exact (Nat.testBit_lt_two_pow (hf.trans_le (Nat.pow_le_pow_right (n := 2) (by decide) (by omega : 2 ≤ i)))).symm

/-- The code of a slot's state fits two bits. -/
theorem slotState_code_lt (x : SlotState) : x.code < 4 := by cases x <;> decide

/-- MBX_STAT shows the state of each slot (Table 20.14). -/
theorem rcRead_mbxStat {who : Initiator} {s : State} (n : SlotId) (hr : who ≠ .spi ∨ s.hubSlow = false) :
    ∃ t w, exec (.rcRead who 0x58008) s = .next t ∧ t.reg.reply = .value w ∧
      bits w (2 * n.val + 1) (2 * n.val) = s.fw.slots[n.val].state.code := by
  have ha : accessible s 0x58008 = true := accessible_mailbox (o := 0x8008) (by decide)
  have hn := n.isLt
  refine ⟨_, _, rcRead_word (a := 0x58008) (by decide) (by decide) ha hr rfl rfl rfl rfl, rfl, ?_⟩
  rw [bits_or, bits_fld_apart (.inl (by omega)), Nat.zero_or,
    bits_foldl_pairs (f := fun i => (getNat s.fw.slots i Slot.free).state.code) (by decide) hn (slotState_code_lt _)]
  simp [getNat]

/-! ### The doorbell and the release -/

/-- The word of one bit names one slot. -/
theorem slotsOf_pow (n : SlotId) : slotsOf (BitVec.ofNat 32 (2 ^ n.val)) = [n] := by
  revert n
  decide

/-- A mailbox write of one slot that it takes (R494). -/
theorem mailboxWrite_taken {who : Initiator} {a : Nat} {n : SlotId} {one : SlotId → State → Option State} {s t : State}
    (h : one n s = some t) : mailboxWrite who a (BitVec.ofNat 32 (2 ^ n.val)) one s = written t := by
  rw [mailboxWrite, slotsOf_pow]
  simp [h]

/-- A mailbox write of one slot that it does not take (R494, R523). -/
theorem mailboxWrite_ignored {who : Initiator} {a : Nat} {n : SlotId} {one : SlotId → State → Option State} {s : State}
    (h : one n s = none) : mailboxWrite who a (BitVec.ofNat 32 (2 ^ n.val)) one s = ignored who a s := by
  rw [mailboxWrite, slotsOf_pow]
  simp [h]

/-- A doorbell always reaches its register. -/
theorem execMbxDoorbell_reaches (who : Initiator) (v : Word) (s : State) :
    execMbxDoorbell who v s = .next (writeDoorbell who v s) :=
  congrArg _ (regWrite_reaches (writeReaches_mailbox (o := 0x8000) (by decide)))

/-- A release always reaches its register. -/
theorem execMbxRelease_reaches (who : Initiator) (v : Word) (s : State) :
    execMbxRelease who v s = .next (writeRelease who v s) :=
  congrArg _ (regWrite_reaches (writeReaches_mailbox (o := 0x8004) (by decide)))

/-- A doorbell of a slot that is not FREE (R494). -/
theorem postSlot_busy {who : Initiator} {n : SlotId} {s : State} (h : s.fw.slots[n.val].state ≠ .free) : postSlot who n s = none := by
  rw [postSlot]
  exact if_pos h

/-- A doorbell of a LONG packet at an odd slot, or before a slot that is not FREE (R494). -/
theorem postSlot_long_ignored {who : Initiator} {n : SlotId} {s : State}
    (hl : bitOf ((memRead s.fw.mem (slotBase n + 3)).setWidth 32) 0 = true)
    (h : n.val % 2 = 1 ∨ ∃ m, slotAfter n = some m ∧ s.fw.slots[m.val].state ≠ .free) : postSlot who n s = none := by
  rw [postSlot]
  dsimp only
  rw [hl]
  split
  · rfl
  rw [if_neg (by decide)]
  split
  · rfl
  next h2 =>
    obtain ⟨m, hm, hb⟩ := h.resolve_left h2
    rw [hm]
    exact if_pos hb

/-- The follower of a slot is another slot. -/
theorem slotAfter_ne {n m : SlotId} (h : slotAfter n = some m) : n ≠ m := by
  rintro rfl
  unfold slotAfter at h
  split at h
  · simpa using congrArg Fin.val (Option.some.inj h)
  · cases h

/-- What setSlot sets: the slot, and its follower where the packet is LONG. -/
theorem setSlot_slots (n : SlotId) (st : SlotState) (s : State) :
    (setSlot n st s).fw.slots[n.val].state = st ∧
    (∀ m, slotAfter n = some m → s.fw.slots[n.val].long = true → (setSlot n st s).fw.slots[m.val].state = st) := by
  unfold setSlot
  dsimp only
  split
  next m hm =>
    have hne := (slotAfter_ne hm).symm
    split
    next hl => exact ⟨by simp [State.modSlot, updAt_other _ _ _ _ hne], fun m' h _ => by cases hm.symm.trans h; simp [State.modSlot]⟩
    next hl => exact ⟨by simp [State.modSlot], fun _ _ h => absurd h hl⟩
  next hm => exact ⟨by simp [State.modSlot], fun _ h => by rw [hm] at h; cases h⟩

/-- What setSlot leaves: everything beside the slots. -/
theorem setSlot_eq (n : SlotId) (st : SlotState) (s : State) : ∃ v, setSlot n st s = { s with fw := { s.fw with slots := v } } := by
  unfold setSlot
  dsimp only
  split
  · split
    · exact ⟨_, rfl⟩
    · exact ⟨_, rfl⟩
  · exact ⟨_, rfl⟩

/-- A doorbell of a slot that is FREE and holds no LONG packet posts it (R494). -/
theorem postSlot_free {who : Initiator} {n : SlotId} {s : State} (h : s.fw.slots[n.val].state = .free)
    (hl : bitOf ((memRead s.fw.mem (slotBase n + 3)).setWidth 32) 0 = false) :
    ∃ t, postSlot who n s = some t ∧ t.reg = s.reg ∧ t.fw.mem = s.fw.mem ∧
      t.fw.slots = updAt s.fw.slots n fun _ => Slot.mk .posted (decide (who = .spi)) false s.fw.nextOrder := by
  rw [postSlot]
  dsimp only
  rw [if_neg (by simp [h]), hl, if_pos (by decide)]
  exact ⟨_, rfl, rfl, rfl, rfl⟩

/-- A doorbell of a LONG packet at an even slot with the next one FREE too posts both (R494). -/
theorem postSlot_long {who : Initiator} {n m : SlotId} {s : State} (h2 : n.val % 2 = 0) (hm : slotAfter n = some m)
    (h : s.fw.slots[n.val].state = .free) (h' : s.fw.slots[m.val].state = .free)
    (hl : bitOf ((memRead s.fw.mem (slotBase n + 3)).setWidth 32) 0 = true) :
    ∃ t, postSlot who n s = some t ∧ t.reg = s.reg ∧
      t.fw.slots = updAt (updAt s.fw.slots n fun _ => Slot.mk .posted (decide (who = .spi)) true s.fw.nextOrder) m
        fun _ => Slot.mk .posted (decide (who = .spi)) false s.fw.nextOrder := by
  rw [postSlot]
  dsimp only
  rw [if_neg (by simp [h]), hl, if_neg (by decide), if_neg (by omega), hm]
  dsimp only
  rw [if_neg (by simp [h'])]
  exact ⟨_, rfl, rfl, rfl⟩

/-- A release of a slot that is DONE frees it, and its follower where the packet is LONG (R494). -/
theorem freeSlot_done {n : SlotId} {s : State} (h : s.fw.slots[n.val].state = .done) (h2 : secondOfLong s n = false) :
    ∃ t, freeSlot n s = some t ∧ t.reg = s.reg ∧ t.fw.slots[n.val].state = .free ∧ t.fw.slots[n.val].long = false ∧
      ∀ m, slotAfter n = some m → s.fw.slots[n.val].long = true → t.fw.slots[m.val].state = .free := by
  obtain ⟨hn, hm⟩ := setSlot_slots n .free s
  refine ⟨_, if_neg (by simp [h, h2]), by obtain ⟨v, hv⟩ := setSlot_eq n .free s; rw [hv]; rfl,
    by simpa [State.modSlot] using hn, by simp [State.modSlot], fun m hs hl => ?_⟩
  exact (congrArg Slot.state (updAt_other _ _ _ _ (slotAfter_ne hs))).trans (hm m hs hl)

/-- What a reply by a slot leaves in the mailbox (R494). -/
theorem reply_slot (n : SlotId) (op status : Nat) (payload : List Byte) (s : State) :
    ∃ t : State, reply (.slot n) op status payload s = setSlot n .done t ∧ t.fw.slots = s.fw.slots ∧
      t.fw.mem = memWriteList s.fw.mem (slotBase n)
        (beBytes 2 op ++ [memRead s.fw.mem (slotBase n + 2)] ++ [memRead s.fw.mem (slotBase n + 3) ||| 0x80] ++
          beBytes 2 payload.length ++ beBytes 1 status ++ [0] ++ payload) ∧
      t.fw.msi = if bitOf s.fw.mbxCtrl 0 then s.fw.msi + 1 else s.fw.msi :=
  ⟨_, rfl, rfl, rfl, rfl⟩

/-- Settles O49: the four states of a slot and what moves it between them. -/
theorem mailboxSlots : Obligations.MailboxSlots := by
  refine ⟨fun who n s hr => rcRead_mbxStat n hr, fun who n s h hl => ?_, fun who n m s h2 hm h h' hl => ?_,
    fun who n s h => ?_, fun who n s hl h => ?_, fun n op status payload s => ?_, fun who n s h h2 => ?_, fun who n s h => ?_,
    fun who o v be s h h4 hb => (registerWrite_slotMem h h4).trans (congrArg _ (writeSlotMem_busy hb))⟩
  · obtain ⟨t, ht, hreg, hmem, hslots⟩ := postSlot_free h hl (who := who)
    exact ⟨_, (execMbxDoorbell_reaches ..).trans (congrArg _ (mailboxWrite_taken ht)), by rw [written, written, hreg], hslots, hmem⟩
  · obtain ⟨t, ht, hreg, hslots⟩ := postSlot_long h2 hm h h' hl (who := who)
    exact ⟨_, (execMbxDoorbell_reaches ..).trans (congrArg _ (mailboxWrite_taken ht)), by rw [written, written, hreg], hslots⟩
  · exact (execMbxDoorbell_reaches ..).trans (congrArg _ (mailboxWrite_ignored (postSlot_busy h)))
  · exact (execMbxDoorbell_reaches ..).trans (congrArg _ (mailboxWrite_ignored (postSlot_long_ignored hl h)))
  · obtain ⟨t, ht, hslots, hmem, hmsi⟩ := reply_slot n op status payload s
    obtain ⟨hn, hm⟩ := setSlot_slots n .done t
    obtain ⟨v, hv⟩ := setSlot_eq n .done t
    rw [ht]
    exact ⟨hn, fun m hs hl => hm m hs (by rwa [hslots]), by rw [hv]; exact hmem, by rw [hv]; exact hmsi⟩
  · obtain ⟨t, ht, hreg, hst⟩ := freeSlot_done h h2
    exact ⟨_, (execMbxRelease_reaches ..).trans (congrArg _ (mailboxWrite_taken ht)), by rw [written, written, hreg], hst⟩
  · exact (execMbxRelease_reaches ..).trans (congrArg _ (mailboxWrite_ignored (if_pos (by simp [h]))))

end Sys2Proof
end

section
/-!
PROOFS. What the making of a ledger record, and of the fault it may raise, leaves.
-/
namespace Sys2Proof

open Sys2Proof.Machine

/-! ### What a record of the ledger can change -/

/-- An instance keeps its sticky bit and stays live. -/
def Machine.FltInst.Rises (x y : FltInst) : Prop := (x.sticky = true → y.sticky = true) ∧ (x.live = true → y.live = true)

/-- What the making of a ledger record can change beside the ledger, through LEDGER_FAULT (R509): the hub's fault state, where no flag
falls and the class F copy stays, the reports towards the master, and the transmitters that a safe state takes. -/
structure LedgerFrame (s t : State) : Prop where
  /-- everything else stays -/
  rest : t = { s with ledger := t.ledger, flt := t.flt, ports := t.ports, stack := { s.stack with entries := t.stack.entries } }
  /-- of a port the transmitters change alone -/
  port : ∀ p, t.port p = { s.port p with lanes := (t.port p).lanes, host := { (s.port p).host with tx := (t.port p).host.tx } }
  /-- of a lane the transmitter changes alone -/
  lane : ∀ p n, t.lane p n = { s.lane p n with tx := (t.lane p n).tx }
  /-- the class F copy stays -/
  lastF : t.flt.lastF0 = s.flt.lastF0 ∧ t.flt.lastF1 = s.flt.lastF1
  /-- no flag of the device falls -/
  dev : ∀ k, (getNat s.flt.dev k FltInst.zero).Rises (getNat t.flt.dev k FltInst.zero)

/-- Nothing changes. -/
theorem LedgerFrame.refl (s : State) : LedgerFrame s s :=
  ⟨rfl, fun _ => rfl, fun _ _ => rfl, ⟨rfl, rfl⟩, fun _ => ⟨id, id⟩⟩

/-- One after another. -/
theorem LedgerFrame.trans {s t u : State} (h : LedgerFrame s t) (h' : LedgerFrame t u) : LedgerFrame s u where
  rest := h'.rest.trans (by rw [h.rest])
  port p := (h'.port p).trans (by rw [h.port p])
  lane p n := (h'.lane p n).trans (by rw [h.lane p n])
  lastF := ⟨h'.lastF.1.trans h.lastF.1, h'.lastF.2.trans h.lastF.2⟩
  dev k := ⟨fun hs => (h'.dev k).1 ((h.dev k).1 hs), fun hl => (h'.dev k).2 ((h.dev k).2 hl)⟩

/-- The ledger changes. -/
theorem LedgerFrame.ledger (s : State) (l : LedgerSt) : LedgerFrame s { s with ledger := l } :=
  ⟨rfl, fun _ => rfl, fun _ _ => rfl, ⟨rfl, rfl⟩, fun _ => ⟨id, id⟩⟩

/-- The hub's fault state changes, its device instances and the class F copy apart. -/
theorem LedgerFrame.flt (s : State) (f : HubFlt) (h0 : f.lastF0 = s.flt.lastF0) (h1 : f.lastF1 = s.flt.lastF1)
    (hd : f.dev = s.flt.dev) : LedgerFrame s { s with flt := f } :=
  ⟨rfl, fun _ => rfl, fun _ _ => rfl, ⟨h0, h1⟩, fun k => by rw [hd]; exact ⟨id, id⟩⟩

/-- The reports towards the master change. -/
theorem LedgerFrame.entries (s : State) (e : List AggEntry) : LedgerFrame s { s with stack := { s.stack with entries := e } } :=
  ⟨rfl, fun _ => rfl, fun _ _ => rfl, ⟨rfl, rfl⟩, fun _ => ⟨id, id⟩⟩

/-- A choice of two. -/
theorem LedgerFrame.ite {s t u : State} {c : Prop} [Decidable c] (h : LedgerFrame s t) (h' : LedgerFrame s u) :
    LedgerFrame s (if c then t else u) := by
  split
  · exact h
  · exact h'

/-- A choice of two. -/
theorem LedgerFrame.cond {s t u : State} {b : Bool} (h : LedgerFrame s t) (h' : LedgerFrame s u) :
    LedgerFrame s (if b then t else u) := .ite h h'

/-- A device instance changes, where no flag of it falls. -/
theorem fltMod_frame {c : Cause} {i : Inst} {f : FltInst → FltInst} {s₀ s : State} (h : LedgerFrame s₀ s) (hi : i = .dev)
    (hf : ∀ x : FltInst, x.Rises (f x)) : LedgerFrame s₀ (fltMod c i f s) := by
  subst hi
  refine h.trans ⟨rfl, fun _ => rfl, fun _ _ => rfl, ⟨rfl, rfl⟩, fun k => ?_⟩
  by_cases hk : c.code - 0x24 = k
  · subst hk
    by_cases hl : c.code - 0x24 < 27
    · rw [fltMod, getNat_updNat_self _ _ _ hl, getNat, dif_pos hl]
      exact hf _
    · rw [fltMod, updNat, dif_neg hl]
      exact ⟨id, id⟩
  · rw [fltMod, getNat_updNat_other _ _ _ hk]
    exact ⟨id, id⟩

/-- A port's transmitters in the safe state. -/
theorem toSafe_frame (p : PortId) (s : State) : LedgerFrame s (hostToSafe p (txToSafe p s)) := by
  refine ⟨rfl, fun q => ?_, fun q n => ?_, ⟨rfl, rfl⟩, fun k => ⟨id, id⟩⟩
  · by_cases h : p = q
    · subst h
      rw [hostToSafe, modPort_port, txToSafe, State.mapLanes, modPort_port]
      rfl
    · rw [hostToSafe, modPort_port_other _ _ _ _ h, txToSafe, State.mapLanes, modPort_port_other _ _ _ _ h]
  · by_cases h : p = q
    · subst h
      rw [State.lane, State.lane, hostToSafe, modPort_port, txToSafe, State.mapLanes, modPort_port]
      simp [Port.mapLanes]
    · rw [State.lane, State.lane, hostToSafe, modPort_port_other _ _ _ _ h, txToSafe, State.mapLanes,
        modPort_port_other _ _ _ _ h]

/-- The safe state that an occurrence takes. -/
theorem takeSafe_frame {s₀ s : State} (h₀ : LedgerFrame s₀ s) (c : Cause) (i : Inst) (d : Nat) (r : React) :
    LedgerFrame s₀ (takeSafe c i d r s) := by
  unfold takeSafe
  refine List.foldlRecOn (motive := LedgerFrame s₀) _ _ (h₀.trans (.flt _ _ rfl rfl rfl)) fun t h p _ => ?_
  exact .cond (h.trans (toSafe_frame p t)) h

/-- The record that an occurrence makes. -/
theorem recMerge_frame {s₀ s : State} (h₀ : LedgerFrame s₀ s) (o : Occ) : LedgerFrame s₀ (recMerge o s) :=
  h₀.trans (.flt _ _ rfl rfl rfl)

/-- The report of an occurrence. -/
theorem stackReport_frame {s₀ s : State} (h₀ : LedgerFrame s₀ s) (o : Occ) : LedgerFrame s₀ (stackReport o s) :=
  h₀.trans (.entries _ _)

/-- What the hub does with an occurrence of a device cause that is not of class F. -/
theorem hubCore_frame {s₀ s : State} (h₀ : LedgerFrame s₀ s) {o : Occ} (hi : o.inst = .dev) (hc : o.cls ≠ .f) :
    LedgerFrame s₀ (hubCore o s) := by
  have hr {t : State} (h : LedgerFrame s₀ t) : LedgerFrame s₀ (if o.react.record || o.safe then recMerge o t else t) :=
    .cond (recMerge_frame h o) h
  have hs {t : State} (h : LedgerFrame s₀ t) : LedgerFrame s₀ (if o.react.stack then stackReport o t else t) :=
    .cond (stackReport_frame h o) h
  unfold hubCore
  dsimp only
  refine hs (hr (.trans (fltMod_frame h₀ hi ?_) (.flt _ _ ?_ ?_ ?_)))
  · exact fun x => ⟨id, id⟩
  · exact if_neg hc
  · exact if_neg hc
  · rfl

/-- An occurrence of a device cause that is not of class F. -/
theorem occurWith_dev_frame {s₀ s : State} (h₀ : LedgerFrame s₀ s) {led : Occ → State → State} {c : Cause} {d : Nat}
    {cls : FltClass} {extra : React} {inj : Bool} (hc : cls ≠ .f)
    (hl : ∀ o t, LedgerFrame s₀ t → LedgerFrame s₀ (led o t)) : LedgerFrame s₀ (occurWith led c .dev d cls extra inj s) := by
  unfold occurWith
  dsimp only
  refine hl _ _ (hubCore_frame (.cond (takeSafe_frame ?_ ..) ?_) rfl hc)
  all_goals
    refine fltMod_frame h₀ rfl fun x => ?_
    split
    · exact ⟨fun _ => rfl, fun _ => by simp [FltInst.live]⟩
    · exact ⟨fun _ => rfl, fun _ => by simp [FltInst.live]⟩

/-- A record made. -/
theorem ledgerPut_frame {s₀ s : State} (h₀ : LedgerFrame s₀ s) (t code flags : Nat) (body : List Byte) :
    LedgerFrame s₀ (ledgerPut t code flags body s) := h₀.trans (.ledger _ _)

/-- A record counted. -/
theorem ledgerCoalesce_frame {s₀ s : State} (h₀ : LedgerFrame s₀ s) (t code : Nat) :
    LedgerFrame s₀ (ledgerCoalesce t code s) := h₀.trans (.ledger _ _)

/-- A record within the allowance. -/
theorem ledgerTake_frame {s₀ s : State} (h₀ : LedgerFrame s₀ s) (t code flags : Nat) (body : List Byte) :
    LedgerFrame s₀ (ledgerTake t code flags body s) := by
  unfold ledgerTake
  exact .cond (ledgerCoalesce_frame h₀ ..) (ledgerPut_frame (.cond h₀ (h₀.trans (.ledger _ _))) ..)

/-- LEDGER_FAULT raised by the ledger itself. -/
theorem ledgerFault_frame {s₀ s : State} (h₀ : LedgerFrame s₀ s) (d : Nat) : LedgerFrame s₀ (ledgerFault d s) :=
  occurWith_dev_frame h₀ (by decide) fun _ _ h => .cond h (.cond (ledgerCoalesce_frame h ..) (ledgerTake_frame h ..))

/-- The signature of the open records. -/
theorem ledgerSign_frame {s₀ s : State} (h₀ : LedgerFrame s₀ s) : LedgerFrame s₀ (ledgerSign s) := by
  unfold ledgerSign
  dsimp only
  split
  · exact h₀
  · exact (ledgerPut_frame h₀ ..).trans (.ledger _ _)

/-- The programming of the sealed records. -/
theorem ledgerProgram_frame {s₀ s : State} (h₀ : LedgerFrame s₀ s) (ok : Bool) : LedgerFrame s₀ (ledgerProgram ok s) :=
  .cond h₀ (.cond (h₀.trans (.ledger _ _)) (.cond (h₀.trans (.ledger _ _)) (ledgerFault_frame (h₀.trans (.ledger _ _)) 4)))

/-- A SEAL made and programmed. -/
theorem ledgerMakeSeal_frame {s₀ s : State} (h₀ : LedgerFrame s₀ s) (ok : Bool) : LedgerFrame s₀ (ledgerMakeSeal ok s) :=
  ledgerProgram_frame (ledgerSign_frame h₀) ok

/-- The start of a block. -/
theorem ledgerBlock_frame {s₀ s : State} (h₀ : LedgerFrame s₀ s) (reason prev : Nat) (chain : BitVec 384)
    (discarded flags failed : Nat) : LedgerFrame s₀ (ledgerBlock reason prev chain discarded flags failed s) := by
  unfold ledgerBlock
  dsimp only
  split
  · exact ledgerFault_frame (ledgerPut_frame (h₀.trans (.ledger _ _)) ..) _
  · exact ledgerPut_frame (h₀.trans (.ledger _ _)) ..

/-- A rollover. -/
theorem ledgerRollover_frame {s₀ s : State} (h₀ : LedgerFrame s₀ s) : LedgerFrame s₀ (ledgerRollover s) :=
  ledgerBlock_frame (ledgerMakeSeal_frame h₀ true) ..

/-- A record made under the allowance. -/
theorem ledgerAppend_frame {s₀ s : State} (h₀ : LedgerFrame s₀ s) (t code flags : Nat) (body : List Byte) :
    LedgerFrame s₀ (ledgerAppend t code flags body s) :=
  have h₁ := ledgerTake_frame (.cond (ledgerRollover_frame h₀) h₀) t code flags body
  .cond h₀ (.cond (ledgerFault_frame h₁ 6) h₁)

/-- The FAULT record of an occurrence. -/
theorem ledgerFaultRecord_frame {s₀ s : State} (h₀ : LedgerFrame s₀ s) (o : Occ) : LedgerFrame s₀ (ledgerFaultRecord o s) :=
  .cond (ledgerAppend_frame h₀ ..) h₀

/-- An IMAGE record. -/
theorem imageRecord_frame {s₀ s : State} (h₀ : LedgerFrame s₀ s) (code slot : Nat) (h : SlotHdr) :
    LedgerFrame s₀ (imageRecord code slot h s) := ledgerAppend_frame h₀ ..

end Sys2Proof
end

section
/-!
PROOFS. The class F copy and the fault records (O54, O55).
-/
namespace Sys2Proof

open Sys2Proof.Machine

/-! ### The class F copy -/

/-- An instance's state leaves the hub's class F copy. -/
theorem fltMod_lastF (c : Cause) (i : Inst) (f : FltInst → FltInst) (s : State) :
    (fltMod c i f s).flt.lastF0 = s.flt.lastF0 ∧ (fltMod c i f s).flt.lastF1 = s.flt.lastF1 := by
  cases i <;> exact ⟨rfl, rfl⟩

/-- The class F copy after the hub's part of an occurrence (R435). -/
theorem hubCore_lastF (o : Occ) (s : State) :
    (hubCore o s).flt.lastF0 = (if o.cls = .f then
        flg true 31 ||| flg o.inj 30 ||| fld o.inst.num 16 10 ||| fld o.cause.code 0 6 else s.flt.lastF0) ∧
      (hubCore o s).flt.lastF1 = (if o.cls = .f then BitVec.ofNat 32 (o.time / 1000000000) else s.flt.lastF1) := by
  have hr (t : State) : (if o.react.record || o.safe then recMerge o t else t).flt.lastF0 = t.flt.lastF0 ∧
      (if o.react.record || o.safe then recMerge o t else t).flt.lastF1 = t.flt.lastF1 := by
    split <;> exact ⟨rfl, rfl⟩
  have hs (t : State) : (if o.react.stack then stackReport o t else t).flt.lastF0 = t.flt.lastF0 ∧
      (if o.react.stack then stackReport o t else t).flt.lastF1 = t.flt.lastF1 := by
    split <;> exact ⟨rfl, rfl⟩
  unfold hubCore
  dsimp only
  rw [(hs _).1, (hs _).2, (hr _).1, (hr _).2]
  dsimp only
  rw [(fltMod_lastF ..).1, (fltMod_lastF ..).2]
  exact ⟨rfl, rfl⟩

/-- Settles O54: the copy of a class F occurrence, and what clears it. -/
theorem classFIsCopied : Obligations.ClassFIsCopied := by
  refine ⟨fun o s h => ?_, fun o s h => ?_, fun o s => (ledgerFaultRecord_frame (.refl _) o).lastF, fun s => ⟨_, rfl, rfl, rfl⟩,
    fun porst s => ⟨rfl, rfl⟩, fun straps pass s h => ?_, fun s => ⟨_, rfl, rfl, rfl⟩⟩
  · have hf := hubCore_lastF o s
    rwa [if_pos h, if_pos h] at hf
  · have hf := hubCore_lastF o s
    rwa [if_neg h, if_neg h] at hf
  · have hd : ¬ s.boot.devReset.isNone = true := by
      rw [Option.isNone_iff_eq_none, ← Option.not_isSome_iff_eq_none]
      exact fun hn => hn h
    exact ⟨_, congrArg Host.Outcome.next (if_neg hd), rfl, rfl⟩

/-! ### The fault records -/

/-- The record of an instance is one of the 105. -/
theorem recOf_lt (i : Inst) : recOf i < 105 := by
  cases i with
  | dev => decide
  | pod k => have := k.isLt; simp only [recOf]; omega
  | port p => have := p.isLt; simp only [recOf]; omega
  | lane p n => have := p.isLt; simp only [recOf]; omega

/-- The instances' state leaves the records. -/
@[simp] theorem fltMod_recs (c : Cause) (i : Inst) (f : FltInst → FltInst) (s : State) :
    (fltMod c i f s).flt.recs = s.flt.recs := by
  cases i <;> rfl

/-- The records after the hub's part of an occurrence. -/
theorem hubCore_recs (o : Occ) (s : State) :
    (hubCore o s).flt.recs = if o.react.record || o.safe then (recMerge o s).flt.recs else s.flt.recs := by
  have hs (t : State) : (if o.react.stack then stackReport o t else t).flt.recs = t.flt.recs := by split <;> rfl
  unfold hubCore
  dsimp only
  rw [hs]
  split
  · unfold recMerge
    dsimp only
    rw [fltMod_recs]
  · exact fltMod_recs ..

/-- A record that an occurrence merged into or made is pending. -/
theorem recMerge_pend (o : Occ) (s : State) : (getNat (recMerge o s).flt.recs (recOf o.inst) FltRec.free).pend = true := by
  unfold recMerge
  dsimp only
  rw [getNat_updNat_self _ _ _ (recOf_lt _)]
  split
  next h => exact h
  next => rfl

/-- The end of safe-state holds leaves the records. -/
@[simp] theorem settleSafe_recs (s : State) : (settleSafe s).flt.recs = s.flt.recs := by
  unfold settleSafe
  dsimp only
  split
  · rfl
  · rfl

/-- The records after one was acknowledged. -/
theorem ackRecord_recs (r : Nat) (s : State) : (ackRecord r s).flt.recs = updNat s.flt.recs r fun _ => FltRec.free :=
  settleSafe_recs _

/-- REC_ACK is the write of its register, where it reaches it. -/
theorem execRecAck_reaches {who : Initiator} {r : BitVec 7} {s : State} (h : WriteReaches who s 0x10318) :
    execRecAck who r s = .next (writeRecAck who (r.setWidth 32) s) :=
  congrArg _ (regWrite_reaches h)

/-- A write of REC_ACK with the number of a record. -/
theorem writeRecAck_index (who : Initiator) (r : BitVec 7) (s : State) :
    writeRecAck who (r.setWidth 32) s = if (getNat s.flt.recs r.toNat FltRec.free).pend then written (ackRecord r.toNat s)
      else ignored who 0x10318 s := by
  have h31 : bitOf (r.setWidth 32 : Word) 31 = false := by
    simp [bitOf]
  have hr : bits (r.setWidth 32 : Word) 6 0 = r.toNat := by
    have := r.isLt
    simp [bits]
    omega
  rw [writeRecAck, h31, hr]
  rfl

/-- Settles O55: whose record an occurrence uses, how one is made, merged and freed. -/
theorem faultRecords : Obligations.FaultRecords := by
  refine ⟨⟨rfl, fun _ => rfl, fun _ => rfl, fun _ _ => rfl⟩, fun o s h => ?_, fun o s r k hr hp hk => ?_,
    fun o s i h => getNat_updNat_other _ _ _ h.symm, fun o s h => ?_, fun o s h h' => ?_, fun who r s h hp => ?_,
    fun who r s h hp => ?_⟩
  · unfold recMerge
    dsimp only
    rw [getNat_updNat_self _ _ _ (recOf_lt _)]
    rw [getNat, dif_pos (recOf_lt _)] at h
    rw [if_neg (by simp [h])]
  · unfold recMerge
    dsimp only
    rw [getNat, dif_pos (recOf_lt _)] at hr
    rw [getNat_updNat_self _ _ _ (recOf_lt _), hr, if_pos hp, hk]
    rfl
  · rw [hubCore_recs, if_pos (by simpa using h)]
    exact recMerge_pend o s
  · rw [hubCore_recs, if_neg (by simp [h, h'])]
  · refine ⟨_, (execRecAck_reaches h).trans (congrArg _ ((writeRecAck_index ..).trans (if_pos hp))), ?_, fun j hj => ?_⟩
    · rw [written_flt, ackRecord_recs]
      by_cases hl : r.toNat < 105
      · rw [getNat_updNat_self _ _ _ hl]
        rfl
      · rw [getNat, dif_neg hl]
        rfl
    · rw [written_flt, ackRecord_recs, getNat_updNat_other _ _ _ hj.symm]
  · exact (execRecAck_reaches h).trans (congrArg _ ((writeRecAck_index ..).trans (if_neg (by simp [hp]))))

end Sys2Proof
end

section
/-!
PROOFS. Live and sticky bits (O53).
-/
namespace Sys2Proof

open Sys2Proof.Machine

/-! ### Causes and instances -/

/-- A cause is found by its code (Table 17.1). -/
theorem ofCode_code (c : Cause) : Cause.ofCode c.code = some c := by
  cases c <;> rfl

/-- Causes have codes of their own. -/
theorem code_inj {c c' : Cause} (h : c.code = c'.code) : c = c' := by
  have h' := ofCode_code c
  rw [h, ofCode_code] at h'
  exact (Option.some.inj h').symm

/-- Every cause is in the table. -/
theorem mem_all (c : Cause) : c ∈ Cause.all := by
  cases c <;> decide

/-- The code of a scope's first cause (Table 17.1). -/
def Machine.FltScope.first : FltScope → Nat
  | .lane => 1 | .port => 0x08 | .pod => 0x18 | .dev => 0x24

/-- How many causes a scope has (Table 17.1). -/
def Machine.FltScope.size : FltScope → Nat
  | .lane => 7 | .port => 11 | .pod => 10 | .dev => 27

/-- The place of a cause in the state of the instances of its scope. -/
def Machine.Inst.index (i : Inst) (c : Cause) : Nat := c.code - i.scope.first

/-- The codes of a scope's causes. -/
theorem scope_bounds (c : Cause) : c.scope.first ≤ c.code ∧ c.code < c.scope.first + c.scope.size := by
  cases c <;> decide

/-- Different causes of a scope have places of their own. -/
theorem index_inj {i : Inst} {c c' : Cause} (h : c.scope = i.scope) (h' : c'.scope = i.scope) (hi : i.index c = i.index c') :
    c = c' := by
  have hb := scope_bounds c
  have hb' := scope_bounds c'
  rw [h] at hb
  rw [h'] at hb'
  refine code_inj ?_
  cases i <;> simp only [Inst.scope, Inst.index, FltScope.first, FltScope.size] at hb hb' hi <;> omega

/-- An instance's state after it was changed. -/
theorem fltGet_fltMod {c : Cause} {i : Inst} (h : c.scope = i.scope) (f : FltInst → FltInst) (s : State) :
    fltGet c i (fltMod c i f s) = f (fltGet c i s) := by
  have hb := scope_bounds c
  rw [h] at hb
  cases i with
  | lane p n =>
    have hl : c.code - 1 < 7 := by simp only [Inst.scope, FltScope.first, FltScope.size] at hb; omega
    rw [fltGet, fltMod, modLane_lane, getNat_updNat_self _ _ _ hl, fltGet, getNat, dif_pos hl]
  | port p =>
    have hl : c.code - 8 < 11 := by simp only [Inst.scope, FltScope.first, FltScope.size] at hb; omega
    rw [fltGet, fltMod, modPort_port, getNat_updNat_self _ _ _ hl, fltGet, getNat, dif_pos hl]
  | pod k =>
    have hl : c.code - 0x18 < 10 := by simp only [Inst.scope, FltScope.first, FltScope.size] at hb; omega
    rw [fltGet, fltMod, modPod_pod, getNat_updNat_self _ _ _ hl, fltGet, getNat, dif_pos hl]
  | dev =>
    have hl : c.code - 0x24 < 27 := by simp only [Inst.scope, FltScope.first, FltScope.size] at hb; omega
    rw [fltGet, fltMod, getNat_updNat_self _ _ _ hl, fltGet, getNat, dif_pos hl]

/-- An instance of another cause of the scope keeps its state. -/
theorem fltGet_fltMod_other {c c' : Cause} {i : Inst} (h : i.index c ≠ i.index c') (f : FltInst → FltInst) (s : State) :
    fltGet c' i (fltMod c i f s) = fltGet c' i s := by
  cases i with
  | lane p n =>
    rw [fltGet, fltMod, modLane_lane]
    exact getNat_updNat_other _ _ _ h
  | port p =>
    rw [fltGet, fltMod, modPort_port]
    exact getNat_updNat_other _ _ _ h
  | pod k =>
    rw [fltGet, fltMod, modPod_pod]
    exact getNat_updNat_other _ _ _ h
  | dev => exact getNat_updNat_other _ _ _ h

/-- A bit of a live or sticky word is the flag of the cause that has the bit (Table 17.5). -/
theorem getLsbD_causeWord {c : Cause} {i : Inst} (h : c.scope = i.scope) (f : FltInst → Bool) (s : State) :
    (causeWord i f s).getLsbD (c.code - i.scope.base) = f (fltGet c i s) := by
  have hb := scope_bounds c
  rw [h] at hb
  have hlt : c.code - i.scope.base < 32 := by
    cases i <;> simp only [Inst.scope, FltScope.base, FltScope.first, FltScope.size] at hb ⊢ <;> omega
  have h0 : (0 : Word).getLsbD (c.code - i.scope.base) = false := BitVec.getLsbD_zero
  rw [causeWord, getLsbD_foldl_or, h0, Bool.false_or, Bool.eq_iff_iff, List.any_eq_true]
  refine ⟨fun ⟨x, hx, hf⟩ => ?_, fun hf => ⟨c, List.mem_filter.2 ⟨mem_all c, by simpa using h⟩, ?_⟩⟩
  · have hx' : x.scope = i.scope := by simpa using (List.mem_filter.1 hx).2
    rw [getLsbD_flg] at hf
    simp only [Bool.and_eq_true, decide_eq_true_eq] at hf
    obtain ⟨⟨_, he⟩, hf⟩ := hf
    have hbx := scope_bounds x
    rw [hx'] at hbx
    have hcx : c = x := code_inj (by cases i <;> simp only [Inst.scope, FltScope.base, FltScope.first, FltScope.size] at hb hbx he <;> omega)
    rwa [hcx]
  · simp [getLsbD_flg, hlt, hf]

/-! ### The flags of every instance -/

/-- No flag of an instance falls. -/
def FltRises (s t : State) : Prop := ∀ c i, (fltGet c i s).Rises (fltGet c i t)

/-- A ledger record lets no flag fall. -/
theorem LedgerFrame.rises {s t : State} (h : LedgerFrame s t) : FltRises s t := fun c i => by
  cases i with
  | lane p n => rw [fltGet, fltGet, h.lane]; exact ⟨id, id⟩
  | port p => rw [fltGet, fltGet, h.port]; exact ⟨id, id⟩
  | pod k => rw [fltGet, fltGet, h.rest]; exact ⟨id, id⟩
  | dev => exact h.dev _

/-- An instance's own state after the hub's part of an occurrence of it: its flags stay. -/
theorem hubCore_flags {o : Occ} (h : o.cause.scope = o.inst.scope) (s : State) :
    (fltGet o.cause o.inst (hubCore o s)).sticky = (fltGet o.cause o.inst s).sticky ∧
      (fltGet o.cause o.inst (hubCore o s)).live = (fltGet o.cause o.inst s).live := by
  have hs (b : Bool) (t : State) : fltGet o.cause o.inst (if b then stackReport o t else t) = fltGet o.cause o.inst t := by
    cases o.inst <;> cases b <;> rfl
  have hr (b : Bool) (t : State) : fltGet o.cause o.inst (if b then recMerge o t else t) = fltGet o.cause o.inst t := by
    unfold recMerge
    cases o.inst <;> cases b <;> rfl
  have hf (t : State) (l : HubFlt) (hd : l.dev = t.flt.dev) :
      fltGet o.cause o.inst { t with flt := l } = fltGet o.cause o.inst t := by
    cases o.inst <;> simp only [fltGet, hd] <;> rfl
  unfold hubCore
  dsimp only
  rw [hs, hr]
  generalize hu : fltMod o.cause o.inst _ s = u
  rw [hf u, ← hu, fltGet_fltMod h]
  · exact ⟨rfl, rfl⟩
  · rfl

/-- An occurrence sets the sticky bit of its instance, which is live (R420). -/
theorem occur_flags {c : Cause} {i : Inst} (h : c.scope = i.scope) (d : Nat) (cls : FltClass) (extra : React) (inj : Bool) (s : State) :
    (fltGet c i (occur c i d cls extra inj s)).sticky = true ∧ (fltGet c i (occur c i d cls extra inj s)).live = true := by
  have hset (x : FltInst) : (if inj then { x with sticky := true, injLive := true, injPend := true }
        else { x with sticky := true, real := true }).sticky = true ∧
      (if inj then { x with sticky := true, injLive := true, injPend := true }
        else { x with sticky := true, real := true }).live = true := by
    cases inj <;> simp [FltInst.live]
  unfold occur occurWith
  dsimp only
  generalize hu : fltMod c i _ s = u
  have h0 : (fltGet c i u).sticky = true ∧ (fltGet c i u).live = true := by
    rw [← hu, fltGet_fltMod h]
    exact hset _
  have h1 (r : React) : FltRises u (if r.anySafe then takeSafe c i d r u else u) :=
    (LedgerFrame.cond (takeSafe_frame (.refl _) c i d r) (.refl _)).rises
  generalize reactInForce c extra inj s = r
  have h1 := h1 r c i
  generalize (if r.anySafe then takeSafe c i d r u else u) = v at h1 ⊢
  have h2 : (fltGet c i v).sticky = true ∧ (fltGet c i v).live = true := ⟨h1.1 h0.1, h1.2 h0.2⟩
  have hub (o : Occ) (hc : o.cause = c) (hi : o.inst = i) :
      (fltGet c i (ledgerFaultRecord o (hubCore o v))).sticky = true ∧
        (fltGet c i (ledgerFaultRecord o (hubCore o v))).live = true := by
    subst hc hi
    have hr := (ledgerFaultRecord_frame (.refl (hubCore o v)) o).rises o.cause o.inst
    obtain ⟨hs, hl⟩ := hubCore_flags h v
    exact ⟨hr.1 (hs.trans h2.1), hr.2 (hl.trans h2.2)⟩
  cases i with
  | dev => exact hub _ rfl rfl
  | pod k =>
    dsimp only
    split
    · exact hub _ rfl rfl
    · rw [fltGet, modPod_pod]
      exact h2
  | port p => exact h2
  | lane p n => exact h2

/-! ### The registers of an instance -/

/-- The place of a word of an instance's registers, counted from the word before the first (Table 17.4). -/
def Machine.Inst.fltPlace (i : Inst) (o : Nat) : Place :=
  match i with
  | .lane p n => .lane p n (0x5FC + o)
  | .port p => .port p (0xFC + o)
  | .pod k => .fault (0x3C + k.val * 0x10 + o)
  | .dev => .fault (0x1C + o)

/-- The address of a word of an instance's registers. -/
theorem ofAddr_flt (i : Inst) {o : Nat} (h : o ≤ 0x10) : Place.ofAddr (fltBase i + o - 4) = i.fltPlace o := by
  cases i with
  | lane p n =>
    have he : fltBase (.lane p n) + o - 4 = laneBase p n + (0x5FC + o) := by rw [fltBase]; omega
    rw [he, ofAddr_lane p n (by omega), Inst.fltPlace]
  | port p =>
    have he : fltBase (.port p) + o - 4 = portBase p + (0xFC + o) := by rw [fltBase]; omega
    rw [he, ofAddr_port p (by omega) (.inl (by omega)), Inst.fltPlace]
  | pod k =>
    have hk := k.isLt
    have he : fltBase (.pod k) + o - 4 = 0x10000 + (0x3C + k.val * 0x10 + o) := by rw [fltBase]; omega
    rw [he, ofAddr_fault (by omega), Inst.fltPlace]
  | dev =>
    have he : fltBase .dev + o - 4 = 0x10000 + (0x1C + o) := by rw [fltBase]; omega
    rw [he, ofAddr_fault (by omega), Inst.fltPlace]

/-- No word of an instance's registers is wide. -/
theorem wide_flt (i : Inst) {o : Nat} (h : o ≤ 0x10) (s : State) : s.wide (i.fltPlace o) = none := by
  cases i with
  | lane p n =>
    rw [Inst.fltPlace, State.wide]
    unfold wideLane
    split <;> first | omega | rfl
  | port p =>
    rw [Inst.fltPlace, State.wide]
    unfold widePort
    rw [if_neg (by omega)]
    split <;> first | omega | rfl
  | pod k =>
    have := k.isLt
    rw [Inst.fltPlace, State.wide]
    unfold wideFault
    dsimp only
    split <;> first | omega | rfl
  | dev =>
    rw [Inst.fltPlace, State.wide]
    unfold wideFault
    dsimp only
    split <;> first | omega | rfl

/-- An instance's registers lie in one region, or in its port's window. -/
theorem accessible_flt (i : Inst) {o : Nat} (h : o < 0x10) (s : State) : accessible s (fltBase i + o) = accessible s (fltBase i) := by
  cases i with
  | lane p n =>
    have hn := n.isLt
    have he (m : Nat) : laneBase p n + 0x600 + m = portBase p + (0x8000 + n.val * 0x800 + 0x600 + m) := by
      rw [laneBase, portBase]; omega
    rw [fltBase, he, accessible_port p (by omega), ← Nat.add_zero (laneBase p n + 0x600), he, accessible_port p (by omega)]
  | port p => rw [fltBase, Nat.add_assoc, accessible_port p (by omega), accessible_port p (by omega)]
  | pod k =>
    have hk := k.isLt
    rw [accessible, if_pos (by rw [fltBase]; omega), accessible, if_pos (by rw [fltBase]; omega)]
  | dev => rw [accessible, if_pos (by rw [fltBase]; omega), accessible, if_pos (by rw [fltBase]; omega)]

/-- The live, the sticky and the enable word of an instance (Table 17.4). -/
def fltWord (s : State) (i : Inst) (o : Nat) : Word :=
  if o = 0 then causeWord i FltInst.live s
  else if o = 4 then causeWord i (fun x => x.sticky) s
  else match i with
    | .lane p n => (s.lane p n).fltEn
    | .port p => (s.port p).fltEn
    | .pod k => (s.pod k).fltEn
    | .dev => s.flt.devEn

/-- The words of an instance that the part has. -/
theorem wordAt_flt {i : Inst} {o : Nat} (ho : o = 0 ∨ o = 4 ∨ o = 8) (who : Initiator) {s : State} (h : i.present s.part = true) :
    s.wordAt who (i.fltPlace (o + 4)) = some (fltWord s i o) := by
  cases i with
  | lane p n => rcases ho with rfl | rfl | rfl <;> rfl
  | port p => rcases ho with rfl | rfl | rfl <;> rfl
  | pod k =>
    have hk := k.isLt
    have hd : (0x3C + k.val * 0x10 + (o + 4) - 0x40) / 0x10 = k.val := by omega
    have hm : (0x3C + k.val * 0x10 + (o + 4) - 0x40) % 0x10 = o := by omega
    have hp : s.part.hasPod k = true := h
    rw [Inst.fltPlace, State.wordAt]
    unfold readFault
    dsimp only
    rw [if_pos (by omega), dif_pos (by omega)]
    simp only [hd, hm, hp]
    rcases ho with rfl | rfl | rfl <;> rfl
  | dev => rcases ho with rfl | rfl | rfl <;> rfl

/-- RC_READ of the live, the sticky or the enable word of an instance that the part has. -/
theorem rcRead_flt {who : Initiator} {i : Inst} {o : Nat} {s : State} (ho : o = 0 ∨ o = 4 ∨ o = 8) (h : i.present s.part = true)
    (ha : accessible s (fltBase i) = true) (hr : who ≠ .spi ∨ s.hubSlow = false) :
    ∃ t, exec (.rcRead who (BitVec.ofNat 32 (fltBase i + o))) s = .next t ∧ t.reg.reply = .value (fltWord s i o) := by
  have hlt : fltBase i + o < 2 ^ 32 ∧ (fltBase i + o) % 4 = 0 := by
    cases i with
    | lane p n =>
      have hp := p.isLt
      have hn := n.isLt
      rw [fltBase, laneBase, portBase]
      omega
    | port p =>
      have hp := p.isLt
      rw [fltBase, portBase]
      omega
    | pod k =>
      have hk := k.isLt
      rw [fltBase]
      omega
    | dev =>
      rw [fltBase]
      omega
  have hat : Place.ofAddr (fltBase i + o) = i.fltPlace (o + 4) := ofAddr_flt i (by omega : o + 4 ≤ 0x10)
  have hplain : plainPlace (i.fltPlace (o + 4)) = true := by
    cases i <;> rcases ho with rfl | rfl | rfl <;> rfl
  exact ⟨_, rcRead_word hlt.1 hlt.2 ((accessible_flt i (by omega) s).trans ha) hr (by rw [hat]; exact hplain)
    (by rw [hat]; exact wide_flt i (by omega) s) (by rw [ofAddr_flt i (by omega)]; exact wide_flt i (by omega) s)
    (by rw [hat]; exact wordAt_flt ho who h), rfl⟩

/-! ### The sticky bits -/

/-- What a write of a sticky register does to an instance, where the bit is written as 1 (R420, R433). -/
def Machine.FltInst.cleared (x : FltInst) : FltInst := { x with sticky := x.sticky && x.live, injPend := false }

/-- An instance after the sticky bits of several causes of its scope were cleared. -/
theorem foldl_cleared {c : Cause} {i : Inst} (h : c.scope = i.scope) (l : List Cause) (hl : ∀ x ∈ l, x.scope = i.scope) (s : State) :
    (fltGet c i (l.foldl (fun s c => fltMod c i FltInst.cleared s) s)).live = (fltGet c i s).live ∧
      (fltGet c i (l.foldl (fun s c => fltMod c i FltInst.cleared s) s)).sticky =
        if c ∈ l then (fltGet c i s).sticky && (fltGet c i s).live else (fltGet c i s).sticky := by
  induction l generalizing s with
  | nil => exact ⟨rfl, rfl⟩
  | cons x l ih =>
    obtain ⟨hlive, hsticky⟩ := ih (fun y hy => hl y (List.mem_cons_of_mem _ hy)) (fltMod x i FltInst.cleared s)
    rw [List.foldl_cons, hlive, hsticky]
    by_cases hx : c = x
    · subst hx
      rw [fltGet_fltMod h]
      simp [FltInst.cleared, FltInst.live]
    · rw [fltGet_fltMod_other fun he => hx (index_inj h (hl x (List.mem_cons_self ..)) he.symm)]
      simp [hx]

/-- The causes that a word names are of the instance's scope. -/
theorem scope_of_mem {c : Cause} {i : Inst} {v : Word} (h : c ∈ scopeCauses i v) : c.scope = i.scope := by
  have hc := (List.mem_filter.1 h).2
  simp only [Bool.and_eq_true, decide_eq_true_eq] at hc
  exact hc.1

/-- Settles O53: the flags of an instance in its registers, when a cause occurs, and what clears a sticky bit. -/
theorem stickyBits : Obligations.StickyBits := by
  refine ⟨fun who c i s h hp ha hr => ⟨?_, ?_, ?_⟩, fun c i d s hc hl => ?_, fun c i d s h => ?_,
    fun c i d cls extra inj s h => occur_flags h d cls extra inj s, fun who c i v s h hw => ?_⟩
  · obtain ⟨t, ht, hv⟩ := rcRead_flt (.inl rfl) hp ha hr
    exact ⟨t, _, ht, hv, getLsbD_causeWord h FltInst.live s⟩
  · obtain ⟨t, ht, hv⟩ := rcRead_flt (.inr (.inl rfl)) hp ha hr
    exact ⟨t, _, ht, hv, getLsbD_causeWord h (fun x => x.sticky) s⟩
  · obtain ⟨t, ht, hv⟩ := rcRead_flt (.inr (.inr rfl)) hp ha hr
    exact ⟨t, _, ht, hv, rfl⟩
  · rw [raise, if_pos (by simp [hc, hl])]
  · rw [raise, if_neg (by rcases h with h | h <;> simp [h])]
  · obtain ⟨hlive, hsticky⟩ := foldl_cleared h (scopeCauses i v) (fun x hx => scope_of_mem hx) s
    refine ⟨_, congrArg Host.Outcome.next (regWrite_reaches hw), ?_, ?_⟩
    · exact hlive
    · refine hsticky.trans (if_congr ?_ rfl rfl)
      simp [scopeCauses, mem_all, h]

end Sys2Proof
end

section
/-!
PROOFS. The fault reactions (O56).
-/
namespace Sys2Proof

open Sys2Proof.Machine

/-! ### The fault reactions -/

/-- The codes of the causes (Table 17.1). -/
theorem code_bounds (c : Cause) : 1 ≤ c.code ∧ c.code < 0x3F := by
  cases c <;> decide

/-- The word of FLT_REACTc (Table 17.7). -/
theorem readFault_react (c : Cause) (s : State) :
    readFault s (0x100 + 4 * c.code) = some (getNat s.flt.react c.code 0 ||| fld (classField c s) 12 2) := by
  obtain ⟨h1, h2⟩ := code_bounds c
  have hd : (0x100 + 4 * c.code - 0x100) / 4 = c.code := by omega
  unfold readFault
  dsimp only
  rw [if_neg (by omega), if_pos (by omega), hd, ofCode_code]

/-- RC_READ of FLT_REACTc. -/
theorem rcRead_react {who : Initiator} (c : Cause) {s : State} (hr : who ≠ .spi ∨ s.hubSlow = false) :
    ∃ t, exec (.rcRead who (BitVec.ofNat 32 (0x10100 + 4 * c.code))) s = .next t ∧
      t.reg.reply = .value (getNat s.flt.react c.code 0 ||| fld (classField c s) 12 2) := by
  obtain ⟨h1, h2⟩ := code_bounds c
  have hat : Place.ofAddr (0x10100 + 4 * c.code) = .fault (0x100 + 4 * c.code) := by
    rw [← ofAddr_fault (by omega), ← Nat.add_assoc]
  have hat' : Place.ofAddr (0x10100 + 4 * c.code - 4) = .fault (0xFC + 4 * c.code) := by
    rw [← ofAddr_fault (by omega)]
    exact congrArg _ (by omega)
  have hw (o : Nat) (h : 0x100 ≤ o) (h' : o < 0x200) : s.wide (.fault o) = none := by
    rw [State.wide]
    unfold wideFault
    dsimp only
    split <;> first | omega | rfl
  refine ⟨_, rcRead_word (by omega) (by omega) (if_pos (by omega)) hr (by rw [hat]; rfl) (by rw [hat]; exact hw _ (by omega) (by omega))
    (by rw [hat']; exact hw _ (by omega) (by omega)) (by rw [hat]; exact readFault_react c s), rfl⟩

/-- What FLT_REACTc holds after a write keeps the fixed actions (R424). -/
theorem reactWord_fixed (c : Cause) (v x : Word) :
    (reactWord c v ||| x) &&& BitVec.ofNat 32 c.fixedReact = BitVec.ofNat 32 c.fixedReact := by
  unfold reactWord
  ext i hi
  simp only [BitVec.getElem_and, BitVec.getElem_or]
  cases (BitVec.ofNat 32 c.fixedReact : Word)[i] <;> simp

/-- The actions that FLT_REACTc holds after a write (R424). -/
theorem reactWord_bits (c : Cause) (v : Word) {k i : Nat} (h1 : 1 ≤ i) (h6 : i ≤ 6) :
    (reactWord c v ||| fld k 12 2).getLsbD i = (v.getLsbD i || (BitVec.ofNat 32 c.fixedReact : Word).getLsbD i) := by
  obtain ⟨h7, h17⟩ : (0x7E : Word).getLsbD i = true ∧ (0x17E : Word).getLsbD i = true := by
    interval_cases i <;> decide
  have hk : (fld k 12 2).getLsbD i = false := by
    rw [getLsbD_fld]
    simp
    omega
  unfold reactWord
  rw [BitVec.getLsbD_or, hk, Bool.or_false, BitVec.getLsbD_or]
  split
  · rw [BitVec.getLsbD_and, h7, Bool.and_true]
  · rw [BitVec.getLsbD_and, h17, Bool.and_true]

/-- A write of FLT_REACTc, where it reaches it. -/
theorem execFltReactWrite_reaches {who : Initiator} {c : Cause} {v : Word} {s : State} (h : WriteReaches who s (0x10100 + 4 * c.code)) :
    execFltReactWrite who c v s = .next (writeFltReact c v s) := by
  rw [execFltReactWrite, regWrite_reaches h]

/-- Settles O56: fixed actions stay, and what an injected occurrence may not do. -/
theorem fixedActionsStay : Obligations.FixedActionsStay := by
  refine ⟨fun who c v s h hr => ?_, fun c extra s h => ?_, fun c extra s h => ?_, fun c extra s h => ?_⟩
  · obtain ⟨u, hu, hw⟩ := rcRead_react c (s := writeFltReact c v s) hr
    have hreact : getNat (writeFltReact c v s).flt.react c.code 0 = reactWord c v :=
      getNat_updNat_self _ _ _ ((code_bounds c).2.trans (by decide))
    rw [hreact] at hw
    exact ⟨_, u, _, execFltReactWrite_reaches h, hu, hw, reactWord_fixed .., fun i h1 h6 => reactWord_bits c v h1 h6⟩
  · simp [reactInForce, React.or, h]
  · simp [reactInForce, React.or, h]
  · have hc : (true && (!bitOf (getNat s.flt.react c.code 0) 8 || c.reportOnly)) = true := by
      rcases h with h | h
      · rw [h]
        rfl
      · rw [h, Bool.or_true]
        rfl
    exact congrArg React.anySafe (if_pos hc)

end Sys2Proof
end

section
/-!
PROOFS. Commands of the faults (O23).
-/
namespace Sys2Proof

open Sys2Proof.Machine

/-! ### Commands of the faults -/

/-- FI_ARM of one occurrence, where it may be armed (R432). -/
theorem execFiArm_once {via : Origin} {code inst delay hold : Nat} {c : Cause} {i : Inst} {s : State} (hs : Serves via 0x0901 s)
    (hen : s.flt.fiEn = true) (hn : namedInst s.part code inst = some (c, i)) (hd : delay ≤ 1000000) (hh : 1 ≤ hold)
    (hh' : hold ≤ 1000000) (ha : (s.flt.armed.any fun a => a.is c i) = false) (hl : s.flt.armed.length < 16) :
    execFiArm via code inst delay false 0 0 hold s = .next (reply via 0x0901 0x00 []
      (ledgerAppend 0x24 code 0 (fiBytes code inst delay false 0 0 hold) { s with flt := { s.flt with
        armed := s.flt.armed ++ [{ cause := c, inst := i, delay := delay, repeatMode := false, period := 0, left := 1,
                                   hold := hold }] } })) := by
  rw [execFiArm, command_serves hs, if_neg (by simp [hen]), hn]
  dsimp only
  rw [if_neg (by simp; omega), if_neg (by simp [ha]; omega)]
  rfl

/-- FI_STOP of every armed injection, where one is (Table 17.2). -/
theorem execFiStop_all {via : Origin} {s : State} (hs : Serves via 0x0902 s) (hen : s.flt.fiEn = true) (ha : s.flt.armed ≠ []) :
    execFiStop via none s = .next (reply via 0x0902 0x00 [] { s with flt := { s.flt with armed := [] } }) := by
  obtain ⟨a, ha⟩ := List.exists_mem_of_ne_nil _ ha
  rw [execFiStop, command_serves hs, if_neg (by simp [hen])]
  dsimp only
  rw [if_pos (List.any_eq_true.2 ⟨a, ha, rfl⟩)]
  simp

/-- INJECTION_DELIVER of an armed injection (R432). -/
theorem execInjectionDeliver_armed {c : Cause} {i : Inst} {a : Armed} {s : State} (ha : s.flt.armed = [a]) (hi : a.is c i = true) :
    execInjectionDeliver c i s = .next (raiseInjected c i i.detail { s with flt := { s.flt with
      armed := if a.left ≤ 1 then [] else [{ a with left := a.left - 1 }] } }) := by
  rw [execInjectionDeliver, ha, if_pos (by simpa using hi)]
  by_cases h : a.left ≤ 1
  · simp [hi, h]
  · simp [hi, h]

/-- The two writes of FLT_SEL, where they reach it (R421, R433). -/
theorem execFltSel_reaches {who : Initiator} {v : Word} {s : State} (h : WriteReaches who s 0x10200) :
    execFltSelWrite who v s = .next (writeFltSel (v &&& 0xBFFFFFFF) s) ∧
      execFltSelClear who v s = .next (writeFltSel (v ||| 0x40000000) s) := by
  rw [execFltSelWrite, execFltSelClear, regWrite_reaches h, regWrite_reaches h]
  exact ⟨rfl, rfl⟩

/-- REC_ACK_ALL, where it reaches its register (R429). -/
theorem execRecAckAll_reaches {who : Initiator} {s : State} (h : WriteReaches who s 0x10318) :
    execRecAckAll who s = .next (writeRecAck who 0x80000000 s) := by
  rw [execRecAckAll, regWrite_reaches h]

/-- Settles O23: where the commands of the faults complete, and with what. -/
theorem faultCommandsComplete : Obligations.FaultCommandsComplete := by
  refine ⟨fun k s h => ⟨?_, ?_⟩, fun c i s h => ?_, fun who i v s h => congrArg _ (regWrite_reaches h),
    fun who k s h => ⟨execRecAck_reaches h, execRecAckAll_reaches h⟩,
    fun who v s h => execFltSel_reaches h,
    fun who c v s h => execFltReactWrite_reaches h,
    fun via code inst delay hold c i s hs hen hn hd hh hh' ha hl => ⟨_, execFiArm_once hs hen hn hd hh hh' ha hl, rfl, rfl⟩,
    fun via code inst delay rep period count hold s hs hen => ?_,
    fun via a rest s hs hen ha => execFiStop_all hs hen (by simp [ha]), fun via s hs hen => ?_,
    fun c i a s ha hi hl => ?_, fun c i a s ha hi hl => ?_, fun c i s => rfl⟩
  · exact if_neg (by simp [h])
  · rw [messageLeaves, modPod_pod]
  · exact congrArg _ (if_neg (by simp [h]))
  · refine congrArg _ ((command_serves hs).trans ?_)
    exact if_pos (by simp [hen])
  · refine congrArg _ ((command_serves hs).trans ?_)
    exact if_neg (by simp [hen])
  · exact (execInjectionDeliver_armed ha hi).trans (by rw [if_pos (by omega)])
  · exact (execInjectionDeliver_armed ha hi).trans (by rw [if_neg (by omega)])

end Sys2Proof
end

section
/-!
PROOFS. The chain of the ledger (O59).
-/
namespace Sys2Proof

open Sys2Proof.Machine

/-! ### The bytes of a record -/

/-- Bytes 0 to 143 of a record are 144 (Table 20.9). -/
theorem head_length (r : LedgerRec) : r.head.length = 144 := by
  simp [LedgerRec.head, beBytes_length]

/-- A record takes 192 bytes (Table 20.9). -/
theorem bytes_length (r : LedgerRec) : r.bytes.length = 192 := by
  simp [LedgerRec.bytes, head_length, beBytes_length]

/-- A byte of a record's body. -/
theorem head_body (r : LedgerRec) {i : Nat} (h : i < r.body.length) (hi : i < 112) : r.head[32 + i]? = r.body[i]? := by
  have hp : (beBytes 8 r.accession ++ beBytes 1 r.type ++ beBytes 1 r.flags ++ beBytes 2 r.code ++ beBytes 12 r.time
      ++ beBytes 6 r.uptime ++ beBytes 1 r.tstate ++ [0]).length = 32 := by
    simp [beBytes_length]
  rw [LedgerRec.head, List.getElem?_append_right (by omega), hp, Nat.add_sub_cancel_left, List.getElem?_take_of_lt hi,
    List.getElem?_append_left h]

/-- FLAGS of an ANCHOR is byte 76 of its body (Table 20.10). -/
theorem anchorBody_flags (prev : Nat) (chain : BitVec 384) (discarded flags : Nat) (s : State) :
    (anchorBody prev chain discarded flags s).length = 77 ∧
      (anchorBody prev chain discarded flags s)[76]? = (beBytes 1 flags)[0]? := by
  refine ⟨by simp [anchorBody, beBytes_length], ?_⟩
  unfold anchorBody
  rw [List.getElem?_append_right (by simp [beBytes_length])]
  simp [beBytes_length]

/-- Zero in k bytes. -/
theorem beBytes_zero (k : Nat) : beBytes k 0 = List.replicate k 0 := by
  induction k with
  | zero => rfl
  | succ k ih => rw [beBytes_succ, ih, List.replicate_succ]; simp

/-! ### Records are added at the end -/

/-- The ledger only grew, by no more than so many records of its block. -/
def LedgerGrows (n : Nat) (s t : State) : Prop :=
  (∃ l, t.ledger.unsealed = s.ledger.unsealed ++ l) ∧ t.ledger.offset ≤ s.ledger.offset + n

/-- Where the ledger stays, it grew by none. -/
theorem LedgerGrows.of_eq {n : Nat} {s t : State} (hu : t.ledger.unsealed = s.ledger.unsealed) (ho : t.ledger.offset = s.ledger.offset) :
    LedgerGrows n s t :=
  ⟨⟨[], by rw [hu, List.append_nil]⟩, by omega⟩

/-- One growth after another. -/
theorem LedgerGrows.trans {n m : Nat} {s t u : State} (h : LedgerGrows n s t) (h' : LedgerGrows m t u) : LedgerGrows (n + m) s u := by
  obtain ⟨⟨l, hl⟩, ho⟩ := h
  obtain ⟨⟨l', hl'⟩, ho'⟩ := h'
  exact ⟨⟨l ++ l', by rw [hl', hl, List.append_assoc]⟩, by omega⟩

/-- A record is added at the end. -/
theorem ledgerPut_grows (t code flags : Nat) (body : List Byte) (s : State) : LedgerGrows 1 s (ledgerPut t code flags body s) :=
  ⟨⟨_, rfl⟩, Nat.le_refl _⟩

/-- A record within the allowance is added at the end, or counted. -/
theorem ledgerTake_grows (t code flags : Nat) (body : List Byte) (s : State) : LedgerGrows 1 s (ledgerTake t code flags body s) := by
  unfold ledgerTake
  split
  · exact .of_eq rfl rfl
  · dsimp only
    split
    · exact ledgerPut_grows ..
    · exact ledgerPut_grows ..

/-- An instance's state leaves the ledger. -/
@[simp] theorem fltMod_ledger (c : Cause) (i : Inst) (f : FltInst → FltInst) (s : State) : (fltMod c i f s).ledger = s.ledger := by
  cases i <;> rfl

/-- A safe state leaves the ledger. -/
@[simp] theorem takeSafe_ledger (c : Cause) (i : Inst) (d : Nat) (r : React) (s : State) : (takeSafe c i d r s).ledger = s.ledger := by
  unfold takeSafe
  refine List.foldlRecOn (motive := fun t : State => t.ledger = s.ledger) _ _ rfl fun t h p _ => ?_
  split
  · exact h
  · exact h

/-- The hub's part of an occurrence, the ledger apart, leaves the ledger. -/
@[simp] theorem hubCore_ledger (o : Occ) (s : State) : (hubCore o s).ledger = s.ledger := by
  unfold hubCore
  dsimp only
  have hs (b : Bool) (t : State) : (if b then stackReport o t else t).ledger = t.ledger := by cases b <;> rfl
  have hr (b : Bool) (t : State) : (if b then recMerge o t else t).ledger = t.ledger := by cases b <;> rfl
  rw [hs, hr, fltMod_ledger]

/-- LEDGER_FAULT adds a record at the end, at the most. -/
theorem ledgerFault_grows (d : Nat) (s : State) : LedgerGrows 1 s (ledgerFault d s) := by
  unfold ledgerFault occurWith
  dsimp only
  generalize hv : hubCore _ _ = v
  have hl : v.ledger = s.ledger := by
    rw [← hv, hubCore_ledger]
    split
    · rw [takeSafe_ledger, fltMod_ledger]
    · rw [fltMod_ledger]
  have h0 : LedgerGrows 0 s v := .of_eq (by rw [hl]) (by rw [hl])
  split
  · exact .of_eq (by rw [hl]) (by rw [hl])
  · split
    · exact h0.trans (m := 1) (.of_eq rfl rfl)
    · exact h0.trans (ledgerTake_grows ..)

/-- A record added where the block is not full goes to the end, with a LEDGER_FAULT record at the most. -/
theorem ledgerAppend_grows {s : State} (h : s.ledger.blockFull = false) (t code flags : Nat) (body : List Byte) :
    LedgerGrows 2 s (ledgerAppend t code flags body s) := by
  unfold ledgerAppend
  rw [h]
  split
  · exact .of_eq rfl rfl
  · rw [if_neg Bool.false_ne_true]
    dsimp only
    split
    · exact (ledgerTake_grows ..).trans (ledgerFault_grows ..)
    · exact (ledgerTake_grows t code flags body s).trans (m := 1) (.of_eq rfl rfl)

/-! ### The first record of a boot -/

/-- The first record after storage was found empty. -/
structure FreshAnchor (r : LedgerRec) : Prop where
  /-- an ANCHOR -/
  type : r.type = 1
  /-- whose chain goes on from zero -/
  chain : r.chain = Config.sha384 (List.replicate 48 0 ++ r.head)
  /-- and that has FRESH set -/
  fresh : r.head[32 + 76]? = some 2

/-- The ANCHOR that an empty ledger takes first, with FRESH set in its body (R503). -/
theorem ledgerPut_fresh {s : State} {b : List Byte} (hc : s.ledger.chain = 0) (hu : s.ledger.unsealed = []) (ho : s.ledger.offset = 0)
    (hl : b.length = 77) (hb : b[76]? = some 2) :
    ∃ r, (ledgerPut 1 1 0 b s).ledger.unsealed = [r] ∧ FreshAnchor r ∧ (ledgerPut 1 1 0 b s).ledger.offset = 1 := by
  let r : LedgerRec := { ledgerNew 1 1 0 b s with
    chain := Config.sha384 (beBytes 48 s.ledger.chain.toNat ++ (ledgerNew 1 1 0 b s).head) }
  have hlen : 76 < r.body.length := by
    change 76 < b.length
    omega
  refine ⟨r, ?_, ⟨rfl, ?_, (head_body r hlen (by decide)).trans hb⟩, ?_⟩
  · exact (congrArg (· ++ [r]) hu).trans rfl
  · change Config.sha384 (beBytes 48 s.ledger.chain.toNat ++ r.head) = _
    have h0 : (0 : BitVec 384).toNat = 0 := BitVec.toNat_zero
    rw [hc, h0, beBytes_zero]
  · exact congrArg (· + 1) ho

/-- The block of a boot with empty storage starts with a fresh ANCHOR (R503, R504). -/
theorem ledgerBlock_fresh {s : State} (hc : s.ledger.chain = 0) (hu : s.ledger.unsealed = []) (failed : Nat) :
    ∃ r l, (ledgerBlock 1 0 0 0 2 failed s).ledger.unsealed = r :: l ∧ FreshAnchor r ∧
      (ledgerBlock 1 0 0 0 2 failed s).ledger.offset ≤ 2 := by
  have hi : (s.ledger.increment failed).chain = 0 ∧ (s.ledger.increment failed).unsealed = [] ∧ (s.ledger.increment failed).offset = 0 := by
    unfold LedgerSt.increment
    split <;> exact ⟨hc, hu, rfl⟩
  obtain ⟨hc, hu, ho⟩ := hi
  have hput (b : List Byte) := ledgerPut_fresh (s := { s with ledger := s.ledger.increment failed }) (b := b) hc hu ho
  unfold ledgerBlock
  dsimp only
  generalize ({ s with ledger := s.ledger.increment failed } : State) = s1 at hput ⊢
  obtain ⟨hl, hb⟩ := anchorBody_flags 0 0 0 2 s1
  obtain ⟨r, hr, hf, ho⟩ := hput _ hl hb
  generalize ledgerPut 1 1 0 (anchorBody 0 0 0 2 s1) s1 = v at hr ho ⊢
  split
  next d _ =>
    obtain ⟨⟨l, hl⟩, hof⟩ := ledgerFault_grows d v
    exact ⟨r, l, by rw [hl, hr]; rfl, hf, by omega⟩
  next => exact ⟨r, [], hr, hf, by omega⟩

/-- With empty storage the boot starts from a ledger without a SEAL. -/
theorem ledgerAtBoot_empty {ring : Option (List LedgerBlock)} (h : ring = none ∨ ring = some []) (s : State) :
    (ledgerAtBoot ring s).lastSeal = none ∧ (ledgerAtBoot ring s).chain = 0 ∧ (ledgerAtBoot ring s).unsealed = [] := by
  rcases h with rfl | rfl <;> exact ⟨rfl, rfl, rfl⟩

/-- BOOT_LEDGER_ANCHOR with empty storage starts with a fresh ANCHOR (R503). -/
theorem ledgerBootAnchor_fresh {ring : Option (List LedgerBlock)} (h : ring = none ∨ ring = some []) (failed : Nat) (s : State) :
    ∃ r l, (ledgerBootAnchor ring failed s).ledger.unsealed = r :: l ∧ FreshAnchor r ∧
      (ledgerBootAnchor ring failed s).ledger.offset ≤ 3 := by
  obtain ⟨hs, hc, hu⟩ := ledgerAtBoot_empty h s
  obtain ⟨r, l, hr, hf, ho⟩ := ledgerBlock_fresh (s := { s with ledger := ledgerAtBoot ring s }) hc hu failed
  unfold ledgerBootAnchor
  dsimp only
  rw [hs]
  change ∃ r l,
    (if ring.isSome then ledgerBlock 1 0 0 0 2 failed _ else ledgerFault 1 (ledgerBlock 1 0 0 0 2 failed _)).ledger.unsealed = r :: l ∧
    FreshAnchor r ∧ (if ring.isSome then ledgerBlock 1 0 0 0 2 failed _ else ledgerFault 1 (ledgerBlock 1 0 0 0 2 failed _)).ledger.offset ≤ 3
  generalize ledgerBlock 1 0 0 0 2 failed _ = v at hr ho ⊢
  split
  · exact ⟨r, l, hr, hf, by omega⟩
  · obtain ⟨⟨l', hl⟩, hof⟩ := ledgerFault_grows 1 v
    exact ⟨r, l ++ l', by rw [hl, hr, List.cons_append], hf, by omega⟩

/-- Settles O59: the chain of a record, and the first record after storage was found empty. -/
theorem ledgerChain : Obligations.LedgerChain := by
  refine ⟨fun t code flags body s => ⟨_, rfl, head_length _, bytes_length _, ?_, rfl, rfl, rfl, rfl⟩, fun ring failed s h8 h => ?_⟩
  · rw [LedgerRec.bytes, ← head_length, List.take_left]
  · obtain ⟨r, l, hr, hf, ho⟩ := ledgerBootAnchor_fresh h failed s
    have hb : (ledgerBootAnchor ring failed s).ledger.blockFull = false := by
      simp only [LedgerSt.blockFull, decide_eq_false_iff_not]
      omega
    obtain ⟨⟨l', hl⟩, _⟩ := ledgerAppend_grows hb 0x21 1 0
      (beBytes 1 (ledgerBootAnchor ring failed s).boot.slot ++ beBytes 4 (ledgerBootAnchor ring failed s).bootedHdr.gen
        ++ beBytes 4 (ledgerBootAnchor ring failed s).bootedHdr.svn
        ++ beBytes 48 (ledgerBootAnchor ring failed s).bootedHdr.digest.toNat)
    exact ⟨r, l ++ l', _, congrArg Host.Outcome.next (if_pos h8), hl.trans (by rw [hr, List.cons_append]), hf.type, hf.chain, hf.fresh⟩

end Sys2Proof
end

section
/-!
PROOFS. Commands of the ledger (O29).
-/
namespace Sys2Proof

open Sys2Proof.Machine

/-! ### COUNTERS records -/

/-- What COUNTERS_RECORD_DUE does at one port. -/
def countersAt (s : State) (p : PortId) : State :=
  let s := s.modPort p fun q => { q with ctr := q.ctr.accrue q.link.state q.idleDown s.uptime }
  let s := if s.part.hasPort p && (s.port p).ctr.active then ledgerAppend 0x12 p.val 0 (countersBody (s.port p)) s else s
  s.modPort p fun q => { q with ctr := { PortCtr.zero with since := s.uptime } }

/-- One port's counters start again; every link, the other ports' counters and the uptime stay. -/
theorem countersAt_spec (s : State) (p : PortId) :
    ((countersAt s p).port p).ctr = { PortCtr.zero with since := s.uptime } ∧
      (∀ q, q ≠ p → ((countersAt s p).port q).ctr = (s.port q).ctr) ∧
      (∀ q, ((countersAt s p).port q).link = (s.port q).link) ∧ (countersAt s p).uptime = s.uptime := by
  unfold countersAt
  dsimp only
  generalize hu : s.modPort p _ = u
  have hup : u.uptime = s.uptime := by rw [← hu]; rfl
  have hlink (q) : (u.port q).link = (s.port q).link := by
    rw [← hu]
    by_cases h : p = q
    · subst h
      rw [modPort_port]
    · rw [modPort_port_other _ _ _ _ h]
  have hctr (q) (h : q ≠ p) : (u.port q).ctr = (s.port q).ctr := by
    rw [← hu, modPort_port_other _ _ _ _ h.symm]
  have hf : LedgerFrame u (if u.part.hasPort p && (u.port p).ctr.active then ledgerAppend 0x12 p.val 0 (countersBody (u.port p)) u else u) :=
    .cond (ledgerAppend_frame (.refl u) ..) (.refl u)
  generalize (if u.part.hasPort p && (u.port p).ctr.active then ledgerAppend 0x12 p.val 0 (countersBody (u.port p)) u else u) = v at hf ⊢
  have hv : v.uptime = s.uptime := by rw [hf.rest]; exact hup
  refine ⟨?_, fun q h => ?_, fun q => ?_, hv⟩
  · rw [modPort_port, hv]
  · rw [modPort_port_other _ _ _ _ h.symm, hf.port]
    exact hctr q h
  · by_cases h : p = q
    · subst h
      rw [modPort_port]
      dsimp only
      rw [hf.port]
      exact hlink p
    · rw [modPort_port_other _ _ _ _ h, hf.port]
      exact hlink q

/-- Several ports' counters start again. -/
theorem foldl_countersAt (l : List PortId) (s : State) :
    (∀ p, ((l.foldl countersAt s).port p).ctr = if p ∈ l then { PortCtr.zero with since := s.uptime } else (s.port p).ctr) ∧
      (∀ p, ((l.foldl countersAt s).port p).link = (s.port p).link) := by
  induction l generalizing s with
  | nil => exact ⟨fun _ => rfl, fun _ => rfl⟩
  | cons x l ih =>
    obtain ⟨hx, hother, hlink, hup⟩ := countersAt_spec s x
    obtain ⟨hc, hl⟩ := ih (countersAt s x)
    refine ⟨fun p => ?_, fun p => (hl p).trans (hlink p)⟩
    rw [List.foldl_cons, hc, hup]
    by_cases hp : p = x
    · subst hp
      simp [hx]
    · simp [hp, hother p hp]

/-- COUNTERS_RECORD_DUE starts every port's counters again and leaves the links (R501). -/
theorem execCountersRecordDue_run {s : State} (h : s.ledger.run = true) :
    ∃ t, execCountersRecordDue s = .next t ∧ (∀ p, (t.port p).ctr = { PortCtr.zero with since := s.uptime }) ∧
      ∀ p, (t.port p).link = (s.port p).link := by
  obtain ⟨hc, hl⟩ := foldl_countersAt allPorts s
  refine ⟨_, congrArg Host.Outcome.next (if_neg (by simp [h])), fun p => ?_, hl⟩
  exact (hc p).trans (if_pos (List.mem_finRange p))

/-! ### Commands of the ledger -/

/-- LEDGER_NOTE of a text that fits, with its allowance (R506). -/
theorem execLedgerNote_run {via : Origin} {text : List Byte} {s : State} (hs : Serves via 0x0804 s) (h1 : 1 ≤ text.length)
    (h96 : text.length ≤ 96) (hr : s.ledger.run = true) :
    execLedgerNote via text s = .next (if s.ledger.allowance = 0 then reply via 0x0804 0x01 [] s
      else reply via 0x0804 0x00 (beBytes 8 (ledgerAppend 0x27 0 4 text s).ledger.newest) (ledgerAppend 0x27 0 4 text s)) := by
  rw [execLedgerNote, command_serves hs, if_neg (by simp only [Bool.or_eq_true, decide_eq_true_eq]; omega), if_neg (by simp [hr])]

/-- KEY_REVOKE of a slot that is not revoked, with the programming voltage (R488). -/
theorem execKeyRevoke_open {via : Origin} {slot : Nat} {sig : List Byte} {s : State} (hs : Serves via 0x0807 s) (h3 : slot ≤ 3)
    (hl : sig.length = 96) (hr : s.fw.revoked.testBit slot = false) :
    execKeyRevoke via slot sig true s = .next
      (if ((List.range 4).filter fun k => decide (k ≠ slot) && !s.fw.revoked.testBit k).any
          (fun k => Config.verifyKey k (revokeMessage slot) sig) = true
        then reply via 0x0807 0x00 [] (imageRecord 5 slot s.bootedHdr
          { s with fw := { s.fw with revoked := s.fw.revoked ||| (1 <<< slot) } })
        else reply via 0x0807 0x05 [] s) := by
  rw [execKeyRevoke, command_serves hs]
  dsimp only
  generalize ((List.range 4).filter fun k => decide (k ≠ slot) && !s.fw.revoked.testBit k).any
    (fun k => Config.verifyKey k (revokeMessage slot) sig) = b
  cases b with
  | false => rfl
  | true =>
    have hn : ¬ (decide (3 < slot) || decide (sig.length ≠ 96)) = true := by simp [hl]; omega
    rw [if_neg (by decide), if_neg hn, if_neg (by simp [hr]), if_neg (by decide), if_pos rfl]
    rfl

/-- CERT_READ of one of the two chunks (R511). -/
theorem execCertRead_chunk {via : Origin} {chunk : Nat} {s : State} (hs : Serves via 0x0806 s) (h : chunk ≤ 1) :
    ∃ payload, execCertRead via chunk s = .next (reply via 0x0806 0x00 payload { s with fresh := s.fresh + 2048 }) ∧
      payload.length = 2048 ∧
      (∀ i, i < 2048 → chunk * 2048 + i < 3072 → payload[i]? = some (Config.certByte (chunk * 2048 + i))) := by
  refine ⟨_, congrArg Host.Outcome.next ((command_serves hs).trans (if_neg (by omega))), by simp, fun i hi hc => ?_⟩
  simp [hi, hc]

/-- WITNESS_SEND of a member with an ID that has a SEAL (R507). -/
theorem execWitnessSend_member {id acc : Nat} {chain : BitVec 384} {s : State} (hi : s.stack.id = some id)
    (hl : s.ledger.lastSeal = some (acc, chain)) (hm : s.isMaster = false) :
    ∃ m, execWitnessSend s = .next (stkDeliver m s) ∧ m.typ = 0x40 ∧ m.dst = 0 ∧ m.src = s.srcId ∧
      m.payload = beBytes 8 Config.uid.toNat ++ beBytes 8 acc ++ beBytes 48 chain.toNat := by
  rw [execWitnessSend, hi, hl]
  exact ⟨_, congrArg _ (if_neg (by simp [hm])), rfl, rfl, rfl, rfl⟩

/-- Settles O29: where the commands of the ledger complete, and with what. -/
theorem ledgerCommandsComplete : Obligations.LedgerCommandsComplete := by
  refine ⟨fun via s hs hr ho => ?_, fun via first count s hs h1 h21 => ?_, fun via first s hs => congrArg _ (command_serves hs),
    fun via ok s hs hr => ?_, fun via text s hs h1 h96 hr ha => (execLedgerNote_run hs h1 h96 hr).trans (by rw [if_neg ha]),
    fun via text s hs h1 h96 hr ha => (execLedgerNote_run hs h1 h96 hr).trans (by rw [if_pos ha]), fun via nonce s hs hl => ?_,
    fun via chunk s hs h => execCertRead_chunk hs h,
    fun via slot sig s hs h3 hl hr => ⟨_, execKeyRevoke_open hs h3 hl hr, rfl, rfl, rfl⟩, fun ok s hr h => ?_, fun ok s hr h => ?_,
    fun s hr => execCountersRecordDue_run hr, fun id acc chain s hi hl hm => execWitnessSend_member hi hl hm,
    fun s hr => ?_, fun s hr => ?_⟩
  · refine congrArg _ ((command_serves hs).trans ?_)
    simp only [LedgerSt.ringRecs, hr, ho]
    rfl
  · refine congrArg _ ((command_serves hs).trans ?_)
    exact if_neg (by simp; omega)
  · refine congrArg _ ((command_serves hs).trans ?_)
    exact if_neg (by simp [hr])
  · refine congrArg _ ((command_serves hs).trans ?_)
    exact if_neg (by simp [hl])
  · exact congrArg _ ((if_neg (by simp [hr])).trans (if_neg (by omega)))
  · exact congrArg _ ((if_neg (by simp [hr])).trans (if_pos h))
  · exact congrArg _ (if_pos hr)
  · exact congrArg _ (if_neg (by simp [hr]))

end Sys2Proof
end

section
/-!
PROOFS. The Clerk and the mailbox commands (O52, O28).
-/
namespace Sys2Proof

open Sys2Proof.Machine

/-! ### The Librarian's watchdog of the Clerk -/

/-- The restarts of the Clerk within the last 60 s. -/
def Machine.State.recentRestarts (s : State) : List Nat := s.fw.restartTimes.filter fun x => s.nowNs < x + 60000000000

/-- The state in which the watchdog finds the Clerk, its commands ended: the ports in PARLEY or TRAIN send CMD hold (R491). -/
def Machine.State.clerkHeld (s : State) : State := s.mapPorts fun _ q =>
  if q.link.state = .parley || q.link.state = .train then { q with snd := { q.snd with tapReq := List.replicate 8 0 } } else q

/-- What becomes of the Clerk whose watchdog expired: it is held for a restart, or given up (R490, R492). -/
def Machine.State.clerkExpired (s : State) : State :=
  if s.fw.config.giveUp ≤ s.recentRestarts.length then
    { s.clerkHeld with fw := { s.fw with clerk := .givenUp, restartTimes := s.recentRestarts },
                       clk := { s.clk with gate := setBits s.clk.gate 9 9 0 } }
  else
    { s.clerkHeld with fw := { s.fw with clerk := .restarting, restarts := satAdd 8 s.fw.restarts 1,
                                         restartTimes := s.nowNs :: s.recentRestarts } }

/-- The watchdog of the Clerk: CLERK_WDOG, the end of its commands, and the restart or the end of it (R490 to R492). -/
theorem execClerkWatchdogExpire_runs {s : State} (h : s.fw.clerk = .running ∨ s.fw.clerk = .starting) :
    execClerkWatchdogExpire s = .next (endClerkCommands 0x09 (raise .clerkWdog .dev 0 s)).clerkExpired :=
  congrArg _ (if_neg (by rcases h with h | h <;> simp [State.clerkRuns, h]))

/-- Where GIVE_UP restarts lie within the last 60 s, the Clerk is given up and its gate closes (R492). -/
theorem clerkExpired_givenUp {s : State} (h : s.fw.config.giveUp ≤ s.recentRestarts.length) :
    s.clerkExpired.fw.clerk = .givenUp ∧ bitOf s.clerkExpired.clk.gate 9 = false := by
  rw [State.clerkExpired, if_pos h]
  have hb : (bits (setBits s.clk.gate 9 9 0) 9 9).testBit 0 = false := by
    rw [bits_setBits_same (by decide) (by decide)]
    rfl
  rw [testBit_bits] at hb
  exact ⟨rfl, by simpa [bitOf] using hb⟩

/-- Otherwise it is held for a restart, which counts (R490). -/
theorem clerkExpired_restart {s : State} (h : s.recentRestarts.length < s.fw.config.giveUp) :
    s.clerkExpired.fw.clerk = .restarting ∧ s.clerkExpired.fw.restarts = satAdd 8 s.fw.restarts 1 ∧
      s.clerkExpired.fw.restartTimes = s.nowNs :: s.recentRestarts := by
  rw [State.clerkExpired, if_neg (Nat.not_le.2 h)]
  exact ⟨rfl, rfl, rfl⟩

/-- Either way every port keeps its link. -/
theorem clerkExpired_link (s : State) (p : PortId) : (s.clerkExpired.port p).link = (s.port p).link := by
  have hh : (s.clerkHeld.port p).link = (s.port p).link := by
    rw [State.clerkHeld, mapPorts_port]
    split <;> rfl
  unfold State.clerkExpired
  rw [State.port] at hh ⊢
  split
  · exact hh
  · exact hh

/-- A command of a Clerk that was given up is answered GATED (R492). -/
theorem command_givenUp {via : Origin} {op : Nat} {s : State} {body : State → State} (hl : libGroup op = false)
    (hp : partLacks s.part op = false) (hc : s.fw.clerk = .givenUp) :
    command via op s body = reply via op 0x04 [] (startCommand via op none s) := by
  simp [command, hl, hp, hc]

/-- FW_STAT shows the Clerk's state (Table 20.16). -/
theorem rcRead_fwStat {who : Initiator} {s : State} (hr : who ≠ .spi ∨ s.hubSlow = false) :
    ∃ t w, exec (.rcRead who 0x58010) s = .next t ∧ t.reg.reply = .value w ∧ bits w 31 29 = s.fw.clerk.code := by
  have ha : accessible s 0x58010 = true := accessible_mailbox (o := 0x8010) (by decide)
  have hc : s.fw.clerk.code < 2 ^ 3 := by cases s.fw.clerk <;> decide
  refine ⟨_, _, rcRead_word (a := 0x58010) (by decide) (by decide) ha hr rfl rfl rfl rfl, rfl, ?_⟩
  rw [bits_or, bits_or, bits_fld_apart (lo := 16) (.inr (by decide)), bits_fld_apart (lo := 0) (.inr (by decide)), Nat.or_zero,
    Nat.or_zero]
  exact bits_fld_same (lo := 29) (w := 3) (by decide) (by decide) hc

/-- Settles O52: where GIVE_UP restarts lie within the last 60 s the next expiry stops the Clerk, which its commands and FW_STAT show. -/
theorem clerkGivesUp : Obligations.ClerkGivesUp := by
  refine ⟨fun s h => ⟨_, _, rfl, execClerkWatchdogExpire_runs h, clerkExpired_givenUp, clerkExpired_restart, clerkExpired_link _⟩,
    fun via op s body hl hp hc => command_givenUp hl hp hc, fun who s hc hr => ?_⟩
  obtain ⟨t, w, ht, hv, hw⟩ := rcRead_fwStat hr
  exact ⟨t, w, ht, hv, by rw [hw, hc]⟩

/-! ### A far-end request received again -/

/-- A far-end request that the device has received already waits; port 0 carries it, and MBX_CTRL lets the far end in. -/
def farRequestWaits : State :=
  { State.reset.modPort 0 fun q => { q with link := { q.link with state := .up }, snd := { q.snd with path := .native } } with
    fw := { State.reset.fw with mbxCtrl := 2, waiting := [(.farEnd 0 2, [1, 1])] } }

/-- How many packets wait after a step. -/
def waitingAfter : Host.Outcome State Fault Refusal → Nat
  | .next s => s.fw.waiting.length
  | _ => 0

/-- Refutes O28: a far-end request received again while it waits is not queued a second time (R498), though the statement says so of every
request that completes. -/
theorem not_firmwareCommandsComplete : ¬ Obligations.FirmwareCommandsComplete := by
  intro h
  obtain ⟨_, _, _, _, _, _, _, hreq, _⟩ := h
  have ht := hreq 0 0 2 0 true [1, 1] [] [1, 1] farRequestWaits (by decide +kernel) (by decide +kernel) (by decide +kernel)
    (by decide +kernel)
  have hone : waitingAfter (exec (.farRequestReceive 0 0 2 0 true [1, 1]) farRequestWaits) = 1 := by decide +kernel
  have htwo := congrArg waitingAfter ht
  rw [hone] at htwo
  exact absurd htwo (by decide)

end Sys2Proof
end

section
/-!
PROOFS. Commands of power (O18).
-/
namespace Sys2Proof

open Sys2Proof.Machine

/-! ### One pod changed -/

/-- A change of a pod is told by what it makes of that pod. -/
theorem modPod_congr {s : State} {k : PodId} {f g : Pod → Pod} (h : f (s.pod k) = g (s.pod k)) : s.modPod k f = s.modPod k g := by
  have hv : updAt s.pods k f = updAt s.pods k g := by
    unfold updAt
    exact congrArg (s.pods.set k.val · k.isLt) h
  rw [State.modPod, hv, State.modPod]

/-! ### Adaptive voltage -/

/-- A target set is the target in force. -/
theorem setTarget_target (a : PodAvs) (t now : Nat) : (a.setTarget t now).target = t := by
  unfold PodAvs.setTarget
  split
  next h => exact h.symm
  next => rfl

/-- A target set leaves the counts and the margin of the examinations. -/
theorem setTarget_rest (a : PodAvs) (t now : Nat) :
    (a.setTarget t now).margin = a.margin ∧ (a.setTarget t now).lowRun = a.lowRun ∧ (a.setTarget t now).atMax = a.atMax := by
  unfold PodAvs.setTarget
  split <;> exact ⟨rfl, rfl, rfl⟩

/-- What an examination makes of a pod's AVS (R360). -/
def Machine.PodAvs.examined (a : PodAvs) (held : Bool) (margin : Int) (now : Nat) : PodAvs :=
  let t := if held then a.target else if decide (bits a.ctrl 31 30 = 0) then avsTarget a margin else bits a.ctrl 6 0
  let run := if decide (margin < 6) && decide (a.target = bits a.ctrl 22 16) then a.lowRun + 1 else 0
  ({ a with margin := unsigned 8 margin, lowRun := run, atMax := decide (4 ≤ run) } : PodAvs).setTarget t now

/-- AVS_EXAMINE of a pod that the part has (R360). -/
theorem execAvsExamine_pod {k : PodId} {slacks : List Int} {s u : State} (hp : s.part.hasPod k = true)
    (hu : u = s.modPod k fun q => { q with avs := (s.pod k).avs.examined (avsHeld s k) (minSlack slacks) s.uptime }) :
    execAvsExamine k slacks s = .next (setCond .podTiming (.pod k) 0 (u.pod k).avs.atMax u) := by
  have ha : (u.pod k).avs.atMax = ((s.pod k).avs.examined (avsHeld s k) (minSlack slacks) s.uptime).atMax := by
    rw [hu, modPod_pod]
  have hm := setTarget_rest ({ (s.pod k).avs with
    margin := unsigned 8 (minSlack slacks),
    lowRun := if decide (minSlack slacks < 6) && decide ((s.pod k).avs.target = bits (s.pod k).avs.ctrl 22 16)
      then (s.pod k).avs.lowRun + 1 else 0,
    atMax := decide (4 ≤ if decide (minSlack slacks < 6) && decide ((s.pod k).avs.target = bits (s.pod k).avs.ctrl 22 16)
      then (s.pod k).avs.lowRun + 1 else 0) } : PodAvs)
  rw [ha, hu, PodAvs.examined]
  rw [(hm _ _).2.2]
  unfold execAvsExamine
  rw [if_neg (by simp [hp])]
  rfl

/-- What an examination sets (R360). -/
theorem examined_spec (a : PodAvs) (held : Bool) (margin : Int) (now : Nat) :
    (a.examined held margin now).target = (if held then a.target else if bits a.ctrl 31 30 = 0 then avsTarget a margin else bits a.ctrl 6 0) ∧
      (a.examined held margin now).margin = unsigned 8 margin ∧
      (a.examined held margin now).lowRun = (if margin < 6 ∧ a.target = bits a.ctrl 22 16 then a.lowRun + 1 else 0) ∧
      (a.examined held margin now).atMax = decide (4 ≤ (a.examined held margin now).lowRun) := by
  have hr := setTarget_rest
  unfold PodAvs.examined
  rw [setTarget_target, (hr _ _ _).1, (hr _ _ _).2.1, (hr _ _ _).2.2]
  refine ⟨by simp, rfl, by simp, rfl⟩

/-- AVS_WRITE_RETRY of a write that is due (R361). -/
theorem execAvsWriteRetry_due {k : PodId} {s : State} (hp : s.part.hasPod k = true) (hw : (s.pod k).avs.writePend = true) :
    execAvsWriteRetry k true s = .next (s.modPod k fun q => { q with avs := { q.avs with retries := 0, writePend := false } }) ∧
      ((s.pod k).avs.retries = 2 → execAvsWriteRetry k false s = .next (raise .avsBus (.pod k) 0
        (s.modPod k fun q => { q with avs := { q.avs with retries := 0, busErr := true } }))) := by
  have hw' : s.pods[k.val].avs.writePend = true := hw
  have hp' : ¬ (!s.part.hasPod k) = true := by simp [hp]
  have hn : ¬ (!s.pods[k.val].avs.writePend) = true := by simp [hw']
  unfold execAvsWriteRetry
  rw [if_neg hp', if_neg hp']
  dsimp only
  rw [if_neg hn, if_neg hn, if_pos rfl, if_neg Bool.false_ne_true]
  refine ⟨congrArg _ (modPod_congr rfl), fun h2 => ?_⟩
  have h2' : ¬ s.pods[k.val].avs.retries < 2 := by
    have h2' : s.pods[k.val].avs.retries = 2 := h2
    omega
  rw [if_neg h2']
  exact congrArg (fun u => Host.Outcome.next (raise .avsBus (.pod k) 0 u)) (modPod_congr rfl)

/-! ### Supplies, regions and sensors -/

/-- REGION_SAMPLE of a pod's element that is evaluated (R363, R364). -/
theorem execRegionSample_pod {k : PodId} {x : RegionMeas} {dev : Nat} {s : State} (hp : s.part.hasPod k = true)
    (hd : podDeviation s k x = some dev) :
    execRegionSample (some k) x s = .next (setCondUp .region (.pod k) 0 ((s.pod k).region.sample x.elem dev).fault
      (s.modPod k fun q => { q with region := (s.pod k).region.sample x.elem dev })) := by
  unfold execRegionSample
  dsimp only
  rw [if_neg (by simp [hp]), hd]
  rfl

/-- The hub's rail lost holds the device in reset (R359, R371). -/
theorem execSupplyLoss_hub {mv ns : Nat} {s : State} (hm : mv < Rail.falling .hub) (hn : 100 ≤ ns) :
    execSupplyLoss .hub mv ns s = .next (holdInReset .hub
      { s with pwr := { s.pwr with lost := .hub :: s.pwr.lost.filter (fun x => x ≠ .hub) } }) := by
  unfold execSupplyLoss
  rw [if_neg (by simp only [Bool.or_eq_true, decide_eq_true_eq]; omega)]

/-- VDDA_LINE lost raises SUPPLY_LOSS (R359). -/
theorem execSupplyLoss_vddaLine {mv ns : Nat} {s : State} (hm : mv < Rail.falling .vddaLine) (hn : 100 ≤ ns) :
    execSupplyLoss .vddaLine mv ns s = .next (raise .supplyLoss .dev 0
      { s with pwr := { s.pwr with lost := .vddaLine :: s.pwr.lost.filter (fun x => x ≠ .vddaLine) } }) := by
  unfold execSupplyLoss
  rw [if_neg (by simp only [Bool.or_eq_true, decide_eq_true_eq]; omega)]

/-- VDDH_LINE lost raises SUPPLY_LOSS and takes the line transmitters off (R359, R51). -/
theorem execSupplyLoss_vddhLine {mv ns : Nat} {s : State} (hm : mv < Rail.falling .vddhLine) (hn : 100 ≤ ns) :
    execSupplyLoss .vddhLine mv ns s = .next (raise .supplyLoss .dev 0 (allTxOff
      { s with pwr := { s.pwr with lost := .vddhLine :: s.pwr.lost.filter (fun x => x ≠ .vddhLine) } })) := by
  unfold execSupplyLoss
  rw [if_neg (by simp only [Bool.or_eq_true, decide_eq_true_eq]; omega)]

/-- VDD_AON back in its range, the last rail that was lost, starts the boot (R359). -/
theorem execSupplyRestore_aon {level : Nat} {straps : BitVec 6} {pass : List BankPass} {s : State} (hl : s.pwr.lost = [.aon])
    (h1 : 7600 ≤ level) (h2 : level ≤ 8400) :
    execSupplyRestore .aon level straps pass s = .next (startBoot straps pass { s with pwr := { s.pwr with lost := [] } }) := by
  simp [execSupplyRestore, hl, Rail.range, Rail.resets, h1, h2]

/-- VDDA_LINE back in its range, the last rail that was lost, ends SUPPLY_LOSS (R359). -/
theorem execSupplyRestore_vddaLine {level : Nat} {straps : BitVec 6} {pass : List BankPass} {s : State} (hl : s.pwr.lost = [.vddaLine])
    (h1 : 8730 ≤ level) (h2 : level ≤ 9270) :
    execSupplyRestore .vddaLine level straps pass s = .next (endCond .supplyLoss .dev { s with pwr := { s.pwr with lost := [] } }) := by
  simp [execSupplyRestore, hl, Rail.range, Rail.resets, h1, h2]

/-- SENSOR_CONVERSION of a hub sensor (R366 to R368). -/
theorem execSensorConversion_hub {i : Fin 24} {j : Fin 8} {ok : Bool} {reading : Int} {s u : State} (hi : i.val = 16 + j.val)
    (hu : u = judgeTemps i.val (judgeSensors i.val (decide ((s.pwr.hubSensors[j.val].convert ok reading).fails = 16) &&
          decide (s.pwr.hubSensors[j.val].fails = 0))
        { s with pwr := { s.pwr with hubSensors := updAt s.pwr.hubSensors j fun _ => s.pwr.hubSensors[j.val].convert ok reading } })) :
    execSensorConversion i ok reading s = .next (if 2 ≤ (s.pwr.hubSensors[j.val].convert ok reading).tripRun ∧ u.pwr.trip = false
      then thermalTrip i.val u else u) := by
  have hv : i.val - 16 = j.val := by omega
  unfold execSensorConversion
  rw [dif_neg (by omega)]
  simp only [hv, Fin.eta]
  rw [← hu]
  simp only [Bool.and_eq_true, decide_eq_true_eq, Bool.not_eq_true']

/-- POD_AVS_CTRL_WRITE, where it reaches its register (R370). -/
theorem execPodAvsCtrlWrite_reaches {who : Initiator} {k : PodId} {v : Word} {s : State} (h : WriteReaches who s (podBase k + 0x200)) :
    execPodAvsCtrlWrite who k v s = .next (writePodAvs who k v s) := by
  rw [execPodAvsCtrlWrite, regWrite_reaches h]

/-- Settles O18: where the commands of power complete, and with what. -/
theorem powerCommandsComplete : Obligations.PowerCommandsComplete := by
  refine ⟨fun k slacks s hp hh hc => ⟨_, execAvsExamine_pod hp rfl, ?_⟩, fun k slacks s hp hh => ⟨_, execAvsExamine_pod hp rfl, ?_⟩,
    fun k s hp hw => (execAvsWriteRetry_due hp hw).1, fun k s hp hw h2 => (execAvsWriteRetry_due hp hw).2 h2,
    fun k iout s hp => ?_, fun k iout s hp => ?_, fun who k v s h => execPodAvsCtrlWrite_reaches h, fun k x dev s hp hd => execRegionSample_pod hp hd,
    fun mv hub s => rfl, fun k s h => if_pos h, fun s h => if_pos h, fun r mv ns s h => if_pos (by simpa using h),
    fun mv ns s hm hn => ⟨_, execSupplyLoss_hub hm hn, rfl, rfl, rfl, ?_, rfl, rfl⟩,
    fun mv ns s hm hn => ⟨_, execSupplyLoss_vddaLine hm hn, rfl, rfl⟩, fun mv ns s hm hn => ⟨_, execSupplyLoss_vddhLine hm hn, rfl, rfl⟩,
    fun level straps pass s hl h1 h2 => execSupplyRestore_aon hl h1 h2,
    fun level straps pass s hl h1 h2 => execSupplyRestore_vddaLine hl h1 h2,
    fun i j ok reading s hi => ⟨_, execSensorConversion_hub hi rfl, rfl⟩⟩
  · obtain ⟨ht, hm, hr, ha⟩ := examined_spec (s.pod k).avs (avsHeld s k) (minSlack slacks) s.uptime
    rw [modPod_pod]
    exact ⟨ht.trans (by rw [hh, if_neg Bool.false_ne_true, if_pos hc]), hm, hr, ha, rfl⟩
  · rw [modPod_pod]
    exact (examined_spec (s.pod k).avs (avsHeld s k) (minSlack slacks) s.uptime).1.trans (if_pos hh)
  · refine ⟨_, (if_neg (by simp [hp])).trans (congrArg _ (if_pos rfl)), ?_⟩
    rw [modPod_pod]
    exact ⟨rfl, Bool.and_true _, rfl⟩
  · refine ⟨_, (if_neg (by simp [hp])).trans (congrArg _ (if_neg Bool.false_ne_true)), ?_⟩
    rw [modPod_pod]
    exact Bool.and_false _
  · simp [holdInReset, bitOf]

end Sys2Proof
end

section
/-!
PROOFS. A boot without a calibration set (O19).
-/
namespace Sys2Proof

open Sys2Proof.Machine

/-! ### A boot without a calibration set -/

/-- The header of an image whose Librarian configuration is empty. -/
def emptyConfigHdr : SlotHdr :=
  { SlotHdr.blank with sections := [{ typ := 1, flags := 0, ofs := 0, size := 0, digest := Config.sha384 [] }] }

/-- A device at boot step 4 with such an image, whose ledger runs and whose reactions enter every cause in the ledger. -/
def bootWithLedger : State :=
  { State.reset with
    boot := { State.reset.boot with step := 3, hdr := #v[emptyConfigHdr, SlotHdr.blank] }
    clk := { State.reset.clk with trimmed := true }
    flt := { State.reset.flt with react := Vector.replicate 64 0x40 }
    ledger := { State.reset.ledger with run := true } }

/-- The empty Librarian configuration passes its checks. -/
theorem emptyConfig_read : bootWithLedger.bootedHdr.read 1 [] = .ok [] := by
  have hs : bootWithLedger.bootedHdr.section? 1 = some { typ := 1, flags := 0, ofs := 0, size := 0, digest := Config.sha384 [] } := rfl
  rw [SlotHdr.read, hs]
  dsimp only
  have hc (h : SlotHdr) : (!({ typ := 1, flags := 0, ofs := 0, size := 0, digest := Config.sha384 [] } : Section).kindOk ||
      ({ typ := 1, flags := 0, ofs := 0, size := 0, digest := Config.sha384 [] } : Section).placement ||
      decide (h.length < 0 + 0) || decide (([] : List Byte).length ≠ 0) || decide (Config.sha384 [] ≠ Config.sha384 [])) = false := by
    simp [Section.kindOk, Section.placement, Section.plainSize, Section.encrypted]
  rw [hc, if_neg Bool.false_ne_true]
  rfl

/-- What the Librarian puts in force of its configuration section (R374 steps 4 and 5, R489, R302). -/
def libConfigured (plain secA secB : List Byte) (s : State) : State :=
  chooseCalSet (calSector secA).set (calSector secB).set { s with
    fw := { s.fw with config := LibConfig.ofBytes plain }
    ledger := { s.ledger with allowance := (LibConfig.ofBytes plain).burst }
    cal := { s.cal with secA := calSector secA, secB := calSector secB } }

/-- BOOT_LIB_CONFIG_READ of a section that passes its checks. -/
theorem execBootLibConfigRead_ok {stored secA secB b plain : List Byte} {s : State} (h3 : s.boot.step = 3)
    (hb : s.sectionStored 1 stored = some b) (hr : s.bootedHdr.read 1 b = .ok plain) :
    execBootLibConfigRead stored secA secB s =
      .next { libConfigured plain secA secB s with boot := { (libConfigured plain secA secB s).boot with step := 5 } } := by
  rw [execBootLibConfigRead, if_neg (by simp [h3]), withSection, hb]
  dsimp only
  rw [hr]
  rfl

/-- With no calibration set stored the cause that says so takes a record from the allowance. -/
theorem libConfigured_allowance : (libConfigured [] [] [] bootWithLedger).ledger.allowance = 4095 := by
  decide +kernel

/-- Refutes O19: where BOOT_LIB_CONFIG_READ finds no calibration set and the ledger runs, the record of CAL_SET_INVALID takes one from the
allowance of BURST records that the statement says is left (R302, R506). -/
theorem not_bootCommandsComplete : ¬ Obligations.BootCommandsComplete := by
  intro h
  obtain ⟨_, _, _, _, _, _, _, _, _, _, _, _, hlib, _⟩ := h
  obtain ⟨u, hu, hspec⟩ := hlib [] [] [] [] bootWithLedger rfl rfl
  rw [emptyConfig_read] at hu
  have hu' := (execBootLibConfigRead_ok rfl rfl emptyConfig_read).symm.trans hu
  have he : { libConfigured [] [] [] bootWithLedger with
      boot := { (libConfigured [] [] [] bootWithLedger).boot with step := 5 } } = u [] := Host.Outcome.next.inj hu'
  have ha : (u []).ledger.allowance = 4095 := by
    rw [← he]
    exact libConfigured_allowance
  exact absurd (ha.symm.trans (hspec []).2.2) (by decide)

end Sys2Proof
end

section
/-!
PROOFS. IMG_CONFIRM while the ledger's counter ends (O20).
-/
namespace Sys2Proof

open Sys2Proof.Machine

/-! ### IMG_CONFIRM while the ledger's counter ends -/

/-- A device whose next record starts a ledger block that the spent ANCHOR_CTR cannot count, whose LEDGER_FAULT takes the device safe state,
and that runs IMG_CONFIRM of a slot that was tried; lane 0 of port 0 idles. -/
def confirmAtCounterEnd : State :=
  { State.reset.modLane 0 0 fun l => { l with tx := { l.tx with state := .idle } } with
    boot := { State.reset.boot with configDone := true, hdr := #v[{ SlotHdr.blank with state := 0xFFFF0000, svn := 0 }, SlotHdr.blank] }
    flt := { State.reset.flt with react := Vector.replicate 64 0x10 }
    fw := { State.reset.fw with
      clerk := .running, running := [{ origin := .slot 0, opcode := 0x0705, tag := 0, port := none }] }
    ledger := { State.reset.ledger with run := true, ctr := 131072, offset := 2 ^ 20 - 1 } }

/-- The state of a slot leaves the ports. -/
@[simp] theorem setSlot_ports (n : SlotId) (st : SlotState) (s : State) : (setSlot n st s).ports = s.ports := by
  obtain ⟨v, hv⟩ := setSlot_eq n st s
  rw [hv]

/-- A reply by a slot leaves the ports. -/
theorem reply_slot_ports (n : SlotId) (op status : Nat) (payload : List Byte) (s : State) :
    (reply (.slot n) op status payload s).ports = s.ports := by
  unfold reply replyBy
  dsimp only
  rw [setSlot_ports]
  rfl

/-- How the transmitter of lane 0 of port 0 stands after a step. -/
def txAfter : Host.Outcome State Fault Refusal → Option TxState
  | .next s => some (s.lane 0 0).tx.state
  | _ => none

/-- Refutes O20: the IMAGE record of IMG_CONFIRM can raise LEDGER_FAULT (R504), whose safe state changes the ports that the statement says
stay. -/
theorem not_imageCommandsComplete : ¬ Obligations.ImageCommandsComplete := by
  intro h
  obtain ⟨_, _, _, _, _, _, _, _, _, _, hconfirm, _⟩ := h
  obtain ⟨u, hu, _, _, hports⟩ := hconfirm (.slot 0) 0 confirmAtCounterEnd (by simp only [Serves]; decide +kernel) (by decide +kernel)
    (by decide +kernel) (by decide +kernel) (by decide +kernel)
  have hsafe : txAfter (exec (.imgConfirm (.slot 0) false) confirmAtCounterEnd) = some .safe := by decide +kernel
  have hidle : txAfter (.next (reply (.slot 0) 0x0705 0x00 [] u)) = some .idle := by
    have hp := (reply_slot_ports 0 0x0705 0x00 [] u).trans hports
    rw [txAfter, State.lane, State.port, hp]
    decide +kernel
  rw [hu, hidle] at hsafe
  exact absurd hsafe (by decide)

end Sys2Proof
end

section
/-!
PROOFS. Memory tests and repair: where each command completes (O21).
-/
namespace Sys2Proof

open Sys2Proof.Machine

/-! ### Memory tests (R397 to R400) -/

/-- BIST_RUN of banks that are present, open, free and not held starts with the first (R397). -/
theorem execBistRun_starts {via : Origin} {pods : BitVec 8} {hub : Bool} {groups : BitVec 8} {banks : BitVec 16} {diag raw repair : Bool}
    {scope here : List MemBank} {s : State} (hs : Serves via 0x0A01 s) (hsc : scope = bistScope pods.toNat hub groups.toNat banks.toNat)
    (hh : here = scope.filter (fun b => b.present s.part)) (hg : here.any (bankGated s) = false) (hr : groups &&& 0xE1 = 0)
    (hne : scope ≠ []) (hf : here.all (bankFree s) = true) (hb : s.test.bist = none) (ho : otherRuns via 0x0A01 s = false) :
    execBistRun via pods hub groups banks diag raw repair s = .next (bistNext
      { origin := via, left := here, all := here, diag := diag, raw := raw, repair := repair, partialF := false }
      { s with test := { s.test with lastMode := diag, lastFail := 0, lastTrunc := 0 } }) := by
  have hfree : (here.any fun b => !bankFree s b) = false := by
    simpa [List.any_eq_false, List.all_eq_true] using hf
  refine congrArg _ ((command_serves hs).trans ?_)
  dsimp only
  rw [← hsc, ← hh, hg, if_neg Bool.false_ne_true, if_neg (by rw [hr]; simp [hne]), hfree, if_neg Bool.false_ne_true,
    if_neg (by simp [hb, ho])]

/-- The result of a bank leaves the run and the tallies. -/
theorem setBankResult_test (b : MemBank) (code kind : Nat) (fails : List BitFail) (misr : BitVec 64) (s : State) :
    ∃ results, setBankResult b code kind fails misr s = { s with test := { s.test with results := results } } :=
  ⟨_, rfl⟩

/-- The judging of a bank of a run that does not repair: its result, the tallies, and the next bank (R398). -/
theorem execBistBankDone_judged {found : BistFound} {r : BistRun} {b : MemBank} {rest : List MemBank} {s u : State}
    (hb : s.test.bist = some r) (hl : r.left = b :: rest) (hr : r.repair = false)
    (hu : u = setBankResult b (bistCode b found) (b2n r.diag) (if r.diag then keepFails found.fails else []) found.misr s) :
    execBistBankDone found s = .next (bistNext { r with left := rest, partialF := r.partialF || decide (bistCode b found = 3) }
      { u with test := { u.test with
          lastFail := if bistCode b found = 2 then satAdd 8 u.test.lastFail 1 else u.test.lastFail
          lastTrunc := if bistCode b found = 3 then satAdd 8 u.test.lastTrunc 1 else u.test.lastTrunc } }) := by
  have hub : u.test.bist = some r := by
    obtain ⟨results, h⟩ := setBankResult_test b (bistCode b found) (b2n r.diag) (if r.diag then keepFails found.fails else []) found.misr s
    rw [hu, h]
    exact hb
  rw [execBistBankDone, hb]
  dsimp only
  rw [hl]
  dsimp only
  rw [← hu, hr, Bool.false_and, if_neg Bool.false_ne_true, hub]

/-! ### Internal scan and reference checks (R408, R411) -/

/-- A request for a challenge through the TAP, in AUTH (R411). -/
theorem execScanChallenge_tap {pods : BitVec 8} {hub : Bool} {s : State} (hj : s.test.jtag = .auth) (hl : s.test.scanLocked = false)
    (hd : s.fw.libDead = false) : execScanChallenge none pods hub s = .next (issueChallenge pods.toNat hub s).2 := by
  unfold execScanChallenge
  dsimp only
  rw [if_neg (by simp [hj, hl, hd])]

/-- The bytes of a list of values, two of each. -/
theorem values_length (f : Nat → Nat) (n : Nat) : ((List.range n).flatMap fun i => beBytes 2 (f i)).length = 2 * n := by
  simp [List.length_flatMap, beBytes_length, Nat.mul_comm]

/-- Settles O21: where the commands of memory tests and repair complete, and with what. -/
theorem selfTestCommandsComplete : Obligations.SelfTestCommandsComplete := by
  refine ⟨fun via pods hub groups banks diag raw repair scope here s hs hsc hh hg hr hne hf hb ho =>
      execBistRun_starts hs hsc hh hg hr hne hf hb ho, ?_,
    fun found r b rest s hb hl hr => ⟨_, execBistBankDone_judged hb hl hr rfl, rfl, rfl, rfl, rfl⟩,
    ?_, ?_, ?_, ?_, ?_, ?_, ?_, ?_, fun s => rfl, ?_, ?_, fun die diff s => rfl,
    fun via bg slope inl s hs => ⟨_, _, congrArg _ (command_serves hs), ?_⟩⟩
  · intro found r b rest s hb hl hr hc
    refine (execBistBankDone_judged hb hl hr rfl).trans ?_
    rw [hc]
    simp
  · intro via pod group bank b x s hs hn hp hx
    refine congrArg _ ((command_serves hs).trans ?_)
    simp [hn, hx, hp]
  · intro via pod group bank b s hs hn hp
    refine congrArg _ ((command_serves hs).trans ?_)
    simp [hn, hp]
  · intro via pod group b s hs hn hso hm
    refine congrArg _ ((command_serves hs).trans ?_)
    simp [hn, hso, hm]
  · intro via pods hub good s hs hso hm h6 h8
    refine congrArg _ ((command_serves hs).trans ?_)
    simp [hso, Nat.not_le.mpr hm, h6, h8, programMap]
  · intro via pods hub good s hs hm h6 h8
    refine congrArg _ ((command_serves hs).trans ?_)
    simp [Nat.not_le.mpr hm, h6, h8]
  · intro via pods hub s hs hl ho
    refine congrArg _ ((command_serves hs).trans ?_)
    exact (if_neg (by simp [hl])).trans (if_neg (by simp [ho]))
  · intro pods hub s hj hl hd
    exact execScanChallenge_tap hj hl hd
  · intro via response ok s hs hl hc hlen h6 h8 hb
    refine congrArg _ ((command_serves hs).trans ?_)
    rw [if_neg (by simp [hl, Option.isSome_iff_ne_none.mp hc]), if_neg (by simp [hlen]), if_neg (by simp [h6, h8, hb])]
  · intro op s hp hj
    refine congrArg _ ((if_neg (by simp [hp])).trans ?_)
    rw [hj]
    rfl
  · intro op s hp hj
    refine congrArg _ ((if_neg (by simp [hp])).trans ?_)
    rw [hj]
    rfl
  · simp only [List.length_append, values_length]

end Sys2Proof
end

section
/-!
PROOFS. A far-end loopback that starts in JOINT (O22).
-/
namespace Sys2Proof

open Sys2Proof.Machine

/-! ### A far-end loopback that starts on a receiver in JOINT -/

/-- Lane 0 of port 0 with a far-end loopback granted to its partner, its receiver in JOINT and converged. -/
def grantedInJoint : State :=
  State.reset.modLane 0 0 fun l =>
    { l with test := { l.test with loop := .farGranted }, rx := { l.rx with phase := .joint, conv := true } }

/-- CONV of lane 0 of port 0 after a step. -/
def convAfter : Host.Outcome State Fault Refusal → Option Bool
  | .next s => some (s.lane 0 0).rx.conv
  | _ => none

/-- Refutes O22: FAR_LOOPBACK_START enters JOINT, and a receiver that is in JOINT already keeps its CONV, which the statement says is
clear. -/
theorem not_loopbackCommandsComplete : ¬ Obligations.LoopbackCommandsComplete := by
  intro h
  obtain ⟨_, _, _, _, _, _, _, _, _, hstart, _⟩ := h
  obtain ⟨t, ht, _, _, _, _, hconv⟩ := hstart 0 0 grantedInJoint (by decide +kernel)
  have hkept : convAfter (exec (.farLoopbackStart 0 0) grantedInJoint) = some true := by decide +kernel
  rw [ht, convAfter, hconv] at hkept
  exact absurd hkept (by decide)

end Sys2Proof
end

section
/-!
PROOFS. Fault reports and the tunnel: where each command completes (O26).
-/
namespace Sys2Proof

open Sys2Proof.Machine

/-! ### Fault reports and the tunnel (R455 to R458) -/

/-- The master closes a window: each entry of it becomes a record (R457). -/
theorem execFaultWindowClose_master {w : Nat} {s : State} (hw : closedWindow s.stack.frame (s.stack.depth.getD 8) = some w)
    (hm : s.isMaster = true) : execFaultWindowClose s = .next ((s.stack.entries.filter (windowClosed w)).foldl (fun s e => stackRecord e s)
      { s with stack := { s.stack with entries := s.stack.entries.filter (fun e => !windowClosed w e), closedTo := w + 1 } }) := by
  rw [execFaultWindowClose, hw]
  exact if_pos hm

/-- A device with no path to the master keeps the entries of the windows it closes (R456). -/
theorem execFaultWindowClose_orphan {w : Nat} {s : State} (hw : closedWindow s.stack.frame (s.stack.depth.getD 8) = some w)
    (hm : s.isMaster = false) (hp : s.hasPath = false) : execFaultWindowClose s = .next { s with stack := { s.stack with
      entries := foldOldest 256 (s.stack.entries.filter (windowClosed w)) ++ s.stack.entries.filter (fun e => !windowClosed w e)
      closedTo := w + 1 } } := by
  rw [execFaultWindowClose, hw]
  exact (if_neg (by simp [hm])).trans (if_neg (by simp [hp]))

/-- A fragment of a request through the tunnel that completes none (R458). -/
theorem execMgmtReqReceive_partial {src tag frag : Nat} {last : Bool} {data : List Byte} {l : List TunnelBuf} {s : State}
    (h : tunnelAdd src tag frag last data s.stack.tunIn = (l, none)) :
    execMgmtReqReceive src tag frag last data s = .next { s with stack := { s.stack with tunIn := l } } := by
  rw [execMgmtReqReceive, h]

/-- A fragment that completes a request through the tunnel (R458). -/
theorem execMgmtReqReceive_whole {src tag frag : Nat} {last : Bool} {data bytes : List Byte} {l : List TunnelBuf} {s : State}
    (h : tunnelAdd src tag frag last data s.stack.tunIn = (l, some bytes)) :
    execMgmtReqReceive src tag frag last data s = .next (acceptPacket (.tunnel src tag) s.stack.acceptTunnel bytes
      { s with stack := { s.stack with tunIn := l } }) := by
  rw [execMgmtReqReceive, h]

/-- A fragment that completes the reply of a request under way (R458). -/
theorem execMgmtRespReceive_whole {src tag frag : Nat} {last : Bool} {data bytes : List Byte} {t : TunnelOut} {l : List TunnelBuf}
    {s : State} (ht : (s.stack.tunOut.find? fun t => t.tag == tag && t.dst == src) = some t)
    (h : tunnelAdd src tag frag last data s.stack.respIn = (l, some bytes)) :
    execMgmtRespReceive src tag frag last data s = .next (reply t.origin 0x0503 (beNat ((bytes.drop 6).take 1)) bytes
      { s with stack := { s.stack with respIn := l, tunOut := s.stack.tunOut.erase t } }) := by
  rw [execMgmtRespReceive, ht]
  dsimp only
  rw [h]

/-- A request through the tunnel that is not answered in time (R458). -/
theorem execTunnelTimeout_found {tag : Nat} {t : TunnelOut} {s : State} (ht : (s.stack.tunOut.find? fun t => t.tag == tag) = some t) :
    execTunnelTimeout tag s = .next (reply t.origin 0x0503 0x06 []
      { s with stack := { s.stack with tunOut := s.stack.tunOut.erase t, respIn := s.stack.respIn.filter fun b => b.tag != tag } }) := by
  rw [execTunnelTimeout, ht]

/-- The state in which a packet enters the tunnel: its tag is taken, and its origin waits for the reply (R458). -/
def tunnelOpened (via : Origin) (dst : Nat) (s : State) : State :=
  { s with stack := { s.stack with
      tunTag := (s.stack.tunTag + 1) % 256, tunOut := s.stack.tunOut ++ [{ tag := s.stack.tunTag, dst := dst, origin := via }] } }

/-- STK_TUNNEL to a destination that is held (R458). -/
theorem execStkTunnel_held {via : Origin} {dst : Nat} {packet : List Byte} {s : State} (hs : Serves via 0x0503 s)
    (h8 : 8 ≤ packet.length) (hmax : packet.length ≤ 4096) (hd : dstHeld s dst = true) :
    execStkTunnel via dst packet s = .next
      (if s.stack.id = some dst then
        { tunnelOpened via dst s with fw := { s.fw with waiting := s.fw.waiting ++ [(.tunnel dst s.stack.tunTag, packet)] } }
      else (stkFragments 0x30 dst s.stack.tunTag packet (tunnelOpened via dst s)).foldl (fun s m => stkDeliver m s) (tunnelOpened via dst s)) := by
  refine congrArg _ ((command_serves hs).trans ?_)
  exact if_neg (by simp only [Bool.or_eq_true, decide_eq_true_eq, Bool.not_eq_true', hd]; simp; omega)

/-- STK_FREC_READ at the master (R457). -/
theorem execStkFrecRead_master {via : Origin} {count : Nat} {s : State} (hs : Serves via 0x0505 s) (h1 : 1 ≤ count) (h32 : count ≤ 32)
    (hm : s.isMaster = true) : execStkFrecRead via count s = .next (reply via 0x0505 0x00
      (beBytes 1 (s.stack.recs.take count).length ++ (s.stack.recs.take count).flatMap AggEntry.bytes)
      { s with stack := { s.stack with recs := s.stack.recs.drop count } }) := by
  refine congrArg _ ((command_serves hs).trans ?_)
  refine (if_neg ?_).trans (if_neg ?_)
  · simp only [Bool.or_eq_true, decide_eq_true_eq]
    omega
  · simp [hm]

/-- Settles O26: where the commands of fault reports and the tunnel complete, and with what. -/
theorem stackMessageCommandsComplete : Obligations.StackMessageCommandsComplete := by
  refine ⟨fun w s hw hm => execFaultWindowClose_master hw hm, fun w s hw hm hp => ⟨_, execFaultWindowClose_orphan hw hm hp, rfl, rfl, rfl⟩,
    fun p entries s hr hu hm hc => ⟨_, if_neg (by simp [hr, hu]), rfl, ?_, rfl⟩,
    fun src tag frag last data l s h => execMgmtReqReceive_partial h,
    fun src tag frag last data l bytes s h => execMgmtReqReceive_whole h,
    fun src tag frag last data t l bytes s ht h => execMgmtRespReceive_whole ht h,
    fun tag t s ht => execTunnelTimeout_found ht,
    fun via dst packet s hs h8 hmax hd hid => ⟨tunnelOpened via dst s, (execStkTunnel_held hs h8 hmax hd).trans ?_, rfl, rfl, rfl⟩,
    fun via dst packet s hs h8 hmax hd hid => ⟨_, (execStkTunnel_held hs h8 hmax hd).trans (congrArg _ (if_pos hid)), rfl, rfl⟩,
    fun via s hs => ⟨_, congrArg _ (command_serves hs), ?_⟩,
    fun via count s hs h1 h32 hm => execStkFrecRead_master hs h1 h32 hm,
    fun member uid accession chain s hm => if_pos hm⟩
  · simp only [hm, if_pos, if_neg hc.ne']
  · rw [if_neg hid]
  · simp [allStk, List.finRange, beBytes_length]

end Sys2Proof
end

section
/-!
PROOFS. Time: where each command completes (O27).
-/
namespace Sys2Proof

open Sys2Proof.Machine

/-! ### The time unit's registers (R463 to R465, R471, R481) -/

/-- TIME_CFG, where a write reaches it. -/
theorem execTimeCfgWrite_reaches {who : Initiator} {v : Word} {s : State} (h : WriteReaches who s 0x20000) :
    execTimeCfgWrite who v s = .next (writeTimeCfg v s) := by
  rw [execTimeCfgWrite, regWrite_reaches h]

/-- TIME_RATE, where a write reaches it. -/
theorem execTimeRateWrite_reaches {who : Initiator} {v : Word} {s : State} (h : WriteReaches who s 0x20008) :
    execTimeRateWrite who v s = .next (writeTimeRate who v s) := by
  rw [execTimeRateWrite, regWrite_reaches h]

/-- TS_ENTRY0, where a read reaches it. -/
theorem execTsEntryRead_reaches {who : Initiator} {p : PortId} {s : State} (h : accessible s (portBase p + 0xE10) = true) :
    execTsEntryRead who p s = .next (spiData who (readTsEntry p s)) := by
  rw [execTsEntryRead, regRead_reaches h]

/-- TIME_NOW_FRAC, where a read reaches it. -/
theorem execTimeNowRead_reaches {who : Initiator} {s : State} (h : accessible s 0x20010 = true) :
    execTimeNowRead who s = .next (spiData who (readTimeNow who s)) := by
  rw [execTimeNowRead, regRead_reaches h]

/-- TIME_PPSIN_NS, where a read reaches it. -/
theorem execPpsinRead_reaches {who : Initiator} {s : State} (h : accessible s 0x20024 = true) :
    execPpsinRead who s = .next (spiData who (readPpsin s)) := by
  rw [execPpsinRead, regRead_reaches h]

/-! ### The counter, PPS and the exchanges (R465 to R477) -/

/-- TIME_SET of a time that is one, on a counter that runs by itself (R465). -/
theorem execTimeSet_loads {via : Origin} {sec ns frac : Nat} {s : State} (hs : Serves via 0x0601 s) (h1 : sec < 2 ^ 48)
    (h2 : ns < 1000000000) (h3 : frac < 65536) (hsrc : s.time.src ≠ 4) (hrun : s.time.run = true) :
    execTimeSet via sec ns frac s =
      .next (reply via 0x0601 0x00 [] (timeLoad (sec * secUnits + ns * 2 ^ 40 + frac * 2 ^ 24) s)) := by
  refine congrArg _ ((command_serves hs).trans ?_)
  refine (if_neg ?_).trans (if_neg (by simp [hsrc, hrun]))
  simp only [Bool.or_eq_true, decide_eq_true_eq]
  omega

/-- TIME_STEP within its span, on a counter that runs by itself (R465). -/
theorem execTimeStep_steps {via : Origin} {ns : Int} {s : State} (hs : Serves via 0x0602 s) (h1 : -2147483648 ≤ ns)
    (h2 : ns ≤ 2147483648) (hsrc : s.time.src ≠ 4) (hrun : s.time.run = true) :
    execTimeStep via ns s = .next (reply via 0x0602 0x00 [] (timeAdd (ns * 2 ^ 40) s)) := by
  refine congrArg _ ((command_serves hs).trans ?_)
  exact (if_neg (by omega)).trans (if_neg (by simp [hsrc, hrun]))

/-- TIME_PTP_SAMPLE of timestamps of this epoch, with SRC = PTP (R473). -/
theorem execTimePtpSample_samples {via : Origin} {t1 t2 t3 t4 : Nat} {corr : Int} {s : State} (hs : Serves via 0x0603 s)
    (h2 : s.time.stamps.contains t2 = true) (h3 : s.time.stamps.contains t3 = true) (hsrc : s.time.src = 1) (hrun : s.time.run = true) :
    execTimePtpSample via t1 t2 t3 t4 corr s = .next (reply via 0x0603 0x00 []
      (timeSample false (-((((t2 : Int) - t1) - ((t4 : Int) - t3) - corr) / 2)) s)) := by
  refine congrArg _ ((command_serves hs).trans ?_)
  dsimp only
  rw [h2, h3]
  exact (if_neg Bool.false_ne_true).trans (if_neg (by simp [hsrc, hrun]))

/-- PPS_IN, where PPS is not the source (R471). -/
theorem execPpsInEdge_captures {s : State} (hg : bitOf s.clk.gate 10 = true) (hsrc : s.time.src ≠ 2) :
    execPpsInEdge s = .next (s.modTime fun t => { t with ppsIn := s.time.ctr, ppsNew := true }) := by
  unfold execPpsInEdge
  rw [if_neg (by simp [hg])]
  exact if_pos (by simp [State.modTime, TimeSt.gatePps, hsrc])

/-- PPS_IN just after a second boundary, where PPS is the source (R471). -/
theorem execPpsInEdge_late {f : Nat} {s : State} (hg : bitOf s.clk.gate 10 = true) (hsrc : s.time.src = 2) (hrun : s.time.run = true)
    (hc : s.fw.clerk = .running) (hf : s.time.ctr % secUnits / 2 ^ 24 = f) (hlim : f ≤ 6553600000) :
    execPpsInEdge s = .next (timeSample false (-(f : Int)) (s.modTime fun t => { t with ppsIn := s.time.ctr, ppsNew := true })) := by
  unfold execPpsInEdge
  rw [if_neg (by simp [hg])]
  dsimp only
  rw [hf]
  exact (if_neg (by simp [State.modTime, TimeSt.gatePps, hsrc, hrun, hc])).trans (if_pos (by omega))

/-- TIME_FRAME of a port that exchanges times over its native link (R474). -/
theorem execTimeFrameSend_sends {p : PortId} {a b : Nat × Nat} {sent recv : List (Nat × Nat)} {s : State}
    (hn : (s.port p).snd.path = .native) (hc : bitOf (s.port p).time.tsCtrl 2 = true) (ha : (s.port p).time.sentAl = a :: sent)
    (hb : (s.port p).time.recvAl = b :: recv) : execTimeFrameSend p s =
      .next (queueCm p 0x30 (beBytes 4 a.1 ++ time12 a.2 ++ beBytes 4 b.1 ++ time12 b.2) s) := by
  unfold execTimeFrameSend
  dsimp only
  rw [if_neg (by simp [hn, hc]), ha, hb]

/-- A TIME frame whose two folios this side knows, where the link is not the time's source (R475). -/
theorem execTimeFrameReceive_measures {p : PortId} {slotTx t1 slotRx t2 : Nat} {a b : Nat × Nat} {s : State}
    (hn : (s.port p).snd.path = .native) (hc : bitOf (s.port p).time.tsCtrl 2 = true)
    (ha : ((s.port p).time.sentAl.find? fun a => a.1 == slotRx) = some a)
    (hb : ((s.port p).time.recvAl.find? fun a => a.1 == slotTx) = some b) (hsrc : s.time.src ≠ 3) :
    execTimeFrameReceive p slotTx t1 slotRx t2 s = .next (s.modPort p fun q => { q with time := { q.time with
      ofs := ((((timeTo16 b.2 : Int) - t1) - ((t2 : Int) - timeTo16 a.2)) / 2) / 256
      dly := ((((timeTo16 b.2 : Int) - t1) + ((t2 : Int) - timeTo16 a.2)) / 2) / 256 } }) := by
  unfold execTimeFrameReceive
  dsimp only
  rw [ha, hb]
  exact (if_neg (by simp [hn, hc])).trans (if_neg (by simp [State.modPort, hsrc]))

/-- TIME_SYNC of a device that has a valid time (R477). -/
theorem execTimeSyncSend_sends {f res own : Nat} {s : State} (hl : s.time.lastSof = some (f, res, own)) (hv : s.timeValid = true)
    (hf : f % 16 = 0) : execTimeSyncSend s = .next (allStk.foldl (fun s p =>
      if (s.stk p).state = .up && (s.stk p).role = .downstream && !(s.time.rtt[p.val]).isEmpty then
        stkSend p (stkLocal 0x20 (beBytes 4 f ++ time12 own ++ beBytes 4 (rttMean s.time.rtt[p.val])) s) s
      else s) s) := by
  rw [execTimeSyncSend, hl]
  exact if_neg (by simp [hv, hf])

/-- TIME_SYNC of the frame this device sent last, where the stack is its time's source (R477). -/
theorem execTimeSyncReceive_samples {f t r res own : Nat} {s : State} (hl : s.time.lastSof = some (f, res, own))
    (hrun : s.time.run = true) (hsrc : s.time.src = 4) (hu : s.upstreamUp = true) : execTimeSyncReceive f t r s =
      .next (timeSample true ((t : Int) + ((r + res) / 2 : Nat) - timeTo16 own) s) := by
  rw [execTimeSyncReceive, hl]
  exact if_neg (by simp [hrun, hsrc, hu])

/-- Settles O27: where the commands of time complete, and with what. -/
theorem timeCommandsComplete : Obligations.TimeCommandsComplete := by
  refine ⟨fun who v s h => execTimeCfgWrite_reaches h, fun who v s h => execTimeRateWrite_reaches h,
    fun via sec ns frac s hs h1 h2 h3 hsrc hrun => execTimeSet_loads hs h1 h2 h3 hsrc hrun,
    fun via ns s hs h1 h2 hsrc hrun => execTimeStep_steps hs h1 h2 hsrc hrun,
    fun via t1 t2 t3 t4 corr s hs h2 h3 hsrc hrun => execTimePtpSample_samples hs h2 h3 hsrc hrun,
    fun via s hs => congrArg _ (command_serves hs), fun s h => if_pos (by simp [h]), fun s hg hsrc => execPpsInEdge_captures hg hsrc,
    fun f s hg hsrc hrun hc hf hlim => execPpsInEdge_late hg hsrc hrun hc hf hlim, fun s ha hr hp => if_pos (by simp only [ha, hr, hp]; rfl),
    fun s => rfl, fun p a b sent recv s hn hc ha hb => execTimeFrameSend_sends hn hc ha hb,
    fun p slotTx t1 slotRx t2 a b s hn hc ha hb hsrc => ⟨_, execTimeFrameReceive_measures hn hc ha hb hsrc, ?_⟩,
    fun f res own s hl hv hf => execTimeSyncSend_sends hl hv hf, fun f t r res own s hl hrun hsrc hu => execTimeSyncReceive_samples hl hrun hsrc hu,
    fun who p s h => execTsEntryRead_reaches h, fun who s h => execTimeNowRead_reaches h, fun who s h => execPpsinRead_reaches h⟩
  rw [modPort_port]
  exact ⟨rfl, rfl, rfl, rfl⟩

end Sys2Proof
end

section
/-!
PROOFS. Enumeration: where each command completes (O25).
-/
namespace Sys2Proof

open Sys2Proof.Machine

/-! ### What the messages of a run leave -/

/-- Two states of a device agree but for its stack ports: the run, the ID and the session are the same. -/
structure StkFrame (s t : State) : Prop where
  /-- The straps, of which one makes the master. -/
  boot : t.boot = s.boot
  /-- The 96 ports. -/
  ports : t.ports = s.ports
  /-- GEN of the session. -/
  gen : t.stack.gen = s.stack.gen
  /-- The ID. -/
  id : t.stack.id = s.stack.id
  /-- The UID of the master. -/
  master : t.stack.master = s.stack.master

variable {s₀ s : State}

/-- A state agrees with itself. -/
theorem StkFrame.refl (s : State) : StkFrame s s := ⟨rfl, rfl, rfl, rfl, rfl⟩

/-- A change of a stack port. -/
theorem StkFrame.modStk (h₀ : StkFrame s₀ s) (p : StackPortId) (f : StkPort → StkPort) : StkFrame s₀ (s.modStk p f) := by
  obtain ⟨h1, h2, h3, h4, h5⟩ := h₀
  exact ⟨h1, h2, h3, h4, h5⟩

/-- A message that is sent. -/
theorem StkFrame.stkSend (h₀ : StkFrame s₀ s) (p : StackPortId) (m : StkMsg) : StkFrame s₀ (stkSend p m s) := by
  unfold Machine.stkSend
  split
  · exact h₀.modStk p _
  · exact h₀

/-- A pass over the stack ports. -/
theorem StkFrame.foldl {f : State → StackPortId → State} (h₀ : StkFrame s₀ s) (l : List StackPortId)
    (hf : ∀ u p, StkFrame s₀ u → StkFrame s₀ (f u p)) : StkFrame s₀ (l.foldl f s) :=
  List.foldlRecOn (motive := StkFrame s₀) l f h₀ fun u hu p _ => hf u p hu

/-- What a run knew of the ports is forgotten. -/
theorem StkFrame.clearRun (h₀ : StkFrame s₀ s) : StkFrame s₀ (clearRun s) := h₀.foldl _ fun _ p h => h.modStk p _

/-- DISCOVER goes out. -/
theorem StkFrame.forwardDiscover (h₀ : StkFrame s₀ s) (skip : Option StackPortId) (depth : Nat) :
    StkFrame s₀ (forwardDiscover skip depth s) := by
  refine h₀.foldl _ fun u p h => ?_
  split
  · exact h
  · exact (h.modStk p _).stkSend p _

/-- ASSIGN goes out. -/
theorem StkFrame.assignChildren (rs : List (StackPortId × StkReport)) (b : List Nat) (h₀ : StkFrame s₀ s) :
    StkFrame s₀ (assignChildren rs b s) := by
  induction rs generalizing b s with
  | nil => exact h₀
  | cons r rs ih =>
    obtain ⟨p, r⟩ := r
    exact ih _ ((h₀.modStk p _).stkSend p _)

/-- The master's answer to its reports leaves GEN. -/
theorem masterAssign_gen (s : State) : (masterAssign s).stack.gen = s.stack.gen :=
  (((StkFrame.refl s).foldl allStk fun _ p h => h.modStk p _).assignChildren _ _).gen

/-- A report that falls due at the master leaves GEN. -/
theorem reportTry_gen_master (expired : Bool) {s : State} (hm : s.isMaster = true) : (reportTry expired s).stack.gen = s.stack.gen := by
  unfold reportTry
  split
  · rfl
  · dsimp only
    generalize hu : allStk.foldl _ s = u
    have hf : StkFrame s u := by
      rw [← hu]
      refine (StkFrame.refl s).foldl _ fun v p h => ?_
      split
      · exact h
      · exact h.modStk p _
    have hum : u.isMaster = true := by rw [State.isMaster, hf.boot]; exact hm
    rw [if_pos hum, masterAssign_gen, hf.gen]

/-- GEN of a run that starts (R449). -/
theorem enumStart_gen {s : State} (hb : s.stack.busy = false) (hm : s.isMaster = true) :
    (enumStart s).stack.gen = (s.stack.gen + 1) % 65536 := by
  have hc := (StkFrame.refl s).clearRun
  unfold enumStart
  rw [if_neg (by simp [hm, hb])]
  dsimp only
  generalize hv : ({ clearRun s with stack := _ } : State) = v
  have hf := (StkFrame.refl v).forwardDiscover none 0
  have hvm : v.isMaster = true := by rw [← hv, State.isMaster, hc.boot]; exact hm
  rw [reportTry_gen_master false (by rw [State.isMaster, hf.boot]; exact hvm), hf.gen, ← hv]
  dsimp only
  rw [hc.gen]

/-! ### The commands of enumeration (R449 to R454) -/

/-- The state in which a DISCOVER opens a run at a device (R450). -/
def runOpened (gen : Nat) (master : BitVec 64) (renumber : Bool) (s : State) : State :=
  { clearRun s with stack := { (clearRun s).stack with
      gen := gen, genSeen := true, busy := true, reported := false, runMaster := master, runRenumber := renumber, parent := none } }

/-- The first DISCOVER of a later GEN opens a run (R450). -/
theorem execDiscoverReceive_opens {p : StackPortId} {gen : BitVec 16} {depth : Nat} {master : BitVec 64} {renumber : Bool} {s : State}
    (hm : s.isMaster = false) (he : (s.stk p).enumerable = true) (hd : depth < 8) (h0 : s.stack.master = 0)
    (hg : s.stack.genSeen = false ∨ laterGen16 gen.toNat s.stack.gen = true) : execDiscoverReceive p gen depth master renumber s =
      .next ((runOpened gen.toNat master renumber s).modStk p fun x => { x with disc := some depth }) := by
  unfold execDiscoverReceive
  dsimp only
  rw [if_neg (by simp [hm, he]; omega), if_neg (by simp [h0]), if_pos (by rcases hg with h | h <;> simp [h])]
  rfl

/-- The state in which a device has taken its parent, where the run renumbers nothing (R450). -/
def parentTaken (p : StackPortId) (d : Nat) (s : State) : State :=
  { s with stack := { s.stack with parent := some p, depth := some (d + 1) } }

/-- A device takes its parent, passes DISCOVER on and answers the other offers (R450). -/
theorem execParentChoose_takes {p : StackPortId} {d : Nat} {s : State} (hb : s.stack.busy = true) (hm : s.isMaster = false)
    (hp : s.stack.parent = none) (hbest : bestParent s = some (p, d)) (hr : s.stack.runRenumber = false) (hd : d < 7) :
    execParentChoose s = .next (reportTry false
      (allStk.foldl (fun s r => if r ≠ p && (s.stk r).disc.isSome then answerStandby r s else s)
        (forwardDiscover (some p) (d + 1) (parentTaken p d s)))) := by
  unfold execParentChoose
  rw [if_neg (by simp [hb, hm, hp]), hbest]
  dsimp only
  have hr' : ¬ s.stack.runRenumber = true := by simp [hr]
  rw [if_neg hr', if_neg hr', if_pos (by omega)]
  rfl

/-- The state in which a device without an ID has taken one and given its children theirs (R452, R453). -/
def idTaken (k : Nat) (rest : List Nat) (s : State) : State :=
  let u := { s with stack := { s.stack with id := some k, master := s.stack.runMaster } }
  assignChildren (childReports u) (rest ++ [1024]) (allStk.foldl (fun s r => s.modStk r fun x => { x with route := 0 }) u)

/-- ASSIGN gives a device without an ID the first one (R452). -/
theorem execAssignReceive_takes {p : StackPortId} {gen : BitVec 16} {k : Nat} {rest : List Nat} {s : State} (hb : s.stack.busy = true)
    (hr : s.stack.reported = true) (hg : gen.toNat = s.stack.gen) (hp : s.stack.parent = some p) (hid : s.stack.id = none)
    (hk : k < 1024) : execAssignReceive p gen (k :: rest) s = .next (releaseHeld (endEnum (idTaken k rest s))) := by
  have htake : (s.stack.id.isNone && decide ((k :: rest).getD 0 1024 < 1024)) = true := by simp [hid, hk]
  unfold execAssignReceive
  dsimp only
  rw [if_neg (by simp [hb, hr, hg, hp]), htake, if_pos rfl, if_pos rfl]
  rfl

/-- What the device that took an ID holds. -/
theorem idTaken_frame (k : Nat) (rest : List Nat) (s : State) :
    StkFrame { s with stack := { s.stack with id := some k, master := s.stack.runMaster } } (idTaken k rest s) :=
  ((StkFrame.refl _).foldl allStk fun _ r h => h.modStk r _).assignChildren _ _

/-- Settles O25: where the commands of enumeration complete, and with what. -/
theorem enumerationCommandsComplete : Obligations.EnumerationCommandsComplete := by
  refine ⟨fun s hb hw => (if_neg (by simp [hb])).trans (if_pos (by rcases hw with h | ⟨h, h'⟩ <;> simp [*])),
    fun s hb hm => enumStart_gen hb hm,
    fun p gen depth master renumber s hm he hd h0 hg => ⟨_, execDiscoverReceive_opens hm he hd h0 hg, rfl, rfl, rfl, rfl, rfl, ?_, ?_⟩,
    fun p gen depth master renumber s hm => if_pos (by simp [hm]),
    fun p d s hb hm hp hbest hr hd => ⟨parentTaken p d s, execParentChoose_takes hb hm hp hbest hr hd, rfl, rfl, rfl, rfl, fun q => rfl⟩,
    fun p gen r s hb hg hf => if_pos (by simp [hb, hg, hf]), fun expired s => rfl,
    fun p gen k rest s hb hr hg hp hid hk => ⟨_, execAssignReceive_takes hb hr hg hp hid hk, (idTaken_frame k rest s).id,
      (idTaken_frame k rest s).master⟩,
    fun p s hm hu => if_pos (by simp [hm, hu]), fun p s hu hm => if_pos (by simp [hu, hm]),
    fun via s hs hm hb => congrArg _ ((command_serves hs).trans ?_), fun via s hs hm hb => congrArg _ ((command_serves hs).trans ?_),
    fun via s hs hm hb => congrArg _ ((command_serves hs).trans ?_), fun via s hs hm => congrArg _ ((command_serves hs).trans ?_)⟩
  · rw [modStk_stk]
  · exact (StkFrame.refl s).clearRun.ports
  · simp only [hm, hb, if_pos, Bool.not_true, if_neg Bool.false_ne_true]
  · simp only [hm, hb, Bool.not_true, if_neg Bool.false_ne_true]
  · dsimp only
    rw [hm, hb]
    rfl
  · exact if_pos (by simp [hm])

end Sys2Proof
end

section
/-!
PROOFS. Stack links: where each command completes (O24).
-/
namespace Sys2Proof

open Sys2Proof.Machine

/-! ### Bring-up of a stack port (R440, R441) -/

/-- The stack PLL settled: its reference, and the ports. -/
theorem stackPllSettle_spec (s : State) : (stackPllSettle s).clk.stkSrc = stackPllSource s.clk s.upstreamClock ∧
    (stackPllSettle s).ports = s.ports ∧ ∀ q, (stackPllSettle s).stk q = s.stk q := by
  unfold stackPllSettle
  dsimp only
  split
  next h => exact ⟨h.symm, rfl, fun q => rfl⟩
  next => exact ⟨rfl, rfl, fun q => rfl⟩

/-- STACK_CLOCK_DETECT that finds the stack PLL locked on the same reference: the port goes to LOCK (R440). -/
theorem execStackClockDetect_locked {p : StackPortId} {s : State} (hst : (s.stk p).state = .clock) (hl : s.clk.stkLock = true)
    (hsrc : stackPllSource s.clk (s.modStk p fun x => { x with rclk := true }).upstreamClock = s.clk.stkSrc) :
    execStackClockDetect p s = .next (stkToLock p (s.modStk p fun x => { x with rclk := true })) := by
  have hsame : stackPllSettle (s.modStk p fun x => { x with rclk := true }) = s.modStk p fun x => { x with rclk := true } := if_pos hsrc
  have hck : (s.modStk p fun x => { x with rclk := true }).clk.stkLock = true := hl
  unfold execStackClockDetect
  rw [if_neg (by simp [hst]), hsame]
  dsimp only
  rw [modStk_stk, hck, if_pos (by simp [hst])]

/-- STACK_CLOCK_DETECT of a port that is not off: its clock, and the stack PLL's reference (R333, R440). -/
theorem execStackClockDetect_spec {p : StackPortId} {s : State} (hst : (s.stk p).state ≠ .off) :
    ∃ t, execStackClockDetect p s = .next t ∧ (t.stk p).rclk = true ∧
      t.clk.stkSrc = stackPllSource s.clk (s.modStk p fun x => { x with rclk := true }).upstreamClock ∧ t.ports = s.ports := by
  obtain ⟨hsrc, hports, hstk⟩ := stackPllSettle_spec (s.modStk p fun x => { x with rclk := true })
  have hr : ((stackPllSettle (s.modStk p fun x => { x with rclk := true })).stk p).rclk = true := by rw [hstk, modStk_stk]
  refine ⟨_, if_neg hst, ?_⟩
  split
  · rw [stkToLock, modStk_stk]
    exact ⟨hr, hsrc, hports⟩
  · exact ⟨hr, hsrc, hports⟩

/-- STACK_LANE_LOCK of a port in LOCK, by SOFs that lock the lane (R441). -/
theorem execStackLaneLock_locks {p : StackPortId} {d : Fin 4} {sofs : List Nat} {inv : Bool} {centre : Int} {s : State}
    (hst : (s.stk p).state = .lock) (hs : sofsLock sofs = true) : execStackLaneLock p d sofs inv centre s =
      .next (s.modStk p fun x =>
        { x with lockMask := x.lockMask ||| (1#4 <<< d.val), polInv := if inv then x.polInv ||| (1#4 <<< d.val) else x.polInv
                 deskew := if x.deskewMeas then x.deskew else listUpd x.deskew d.val fun _ => centre
                 state := if x.lockMask ||| (1#4 <<< d.val) = 0xF then .align else .lock }) :=
  if_neg (by simp [hst, hs])

/-- STACK_LANE_LOCK_LOSS of a port, by the missed SOFs or the errors of a frame (R441). -/
theorem execStackLaneLockLoss_loses {p : StackPortId} {d : Fin 4} {missed errored : Nat} {s u : State} (h : 4 ≤ missed ∨ 64 ≤ errored)
    (hu : u = s.modStk p fun x => { x with symErr := Nat.min 4095 (x.symErr + errored) }) :
    ((s.stk p).state = .lock → execStackLaneLockLoss p d missed errored s =
      .next (u.modStk p fun x => { x with lockMask := x.lockMask &&& ~~~(1#4 <<< d.val) })) ∧
    ((s.stk p).state = .up → execStackLaneLockLoss p d missed errored s = .next (stkFail p false u)) := by
  have hst : (u.stk p).state = (s.stk p).state := by rw [hu, modStk_stk]
  unfold execStackLaneLockLoss
  rw [← hu]
  dsimp only
  rw [if_neg (by simp only [Bool.and_eq_true, decide_eq_true_eq]; omega)]
  exact ⟨fun hl => by rw [hst, hl], fun hup => by rw [hst, hup]⟩

/-! ### Frames (R439, R476, R477) -/

/-- What is done to each of a list's stack ports is done to the ports of the list. -/
theorem foldl_modStk_stk (f : StackPortId → StkPort → StkPort) {l : List StackPortId} (hl : l.Nodup) (s : State) (q : StackPortId) :
    (l.foldl (fun s p => s.modStk p (f p)) s).stk q = if q ∈ l then f q (s.stk q) else s.stk q := by
  induction l generalizing s with
  | nil => rfl
  | cons p l ih =>
    obtain ⟨hp, hl⟩ := List.nodup_cons.mp hl
    rw [List.foldl_cons, ih hl]
    by_cases h : p = q
    · subst h
      simp [hp]
    · rw [modStk_stk_other _ _ _ _ h]
      simp [Ne.symm h]

/-- What is done to each stack port leaves all but the stack ports. -/
theorem foldl_modStk_eq (f : StackPortId → StkPort → StkPort) (l : List StackPortId) (s : State) :
    ∃ v, l.foldl (fun s p => s.modStk p (f p)) s = { s with stack := { s.stack with ports := v } } := by
  induction l generalizing s with
  | nil => exact ⟨_, rfl⟩
  | cons p l ih =>
    obtain ⟨v, hv⟩ := ih (s.modStk p (f p))
    exact ⟨v, hv⟩

/-- The number of the frame a device sends (R439). -/
def Machine.State.frameOut (s : State) : Nat :=
  if s.upstreamUp && !s.isMaster then s.stack.frameIn else if !s.stack.sofSent then 0 else (s.stack.frame + 1) % 2 ^ 32

/-- The columns of the frame a device sends (R439). -/
def Machine.State.frameCols (s : State) (cols : Nat) : Nat :=
  if s.upstreamUp && !s.isMaster then Nat.max 999 (Nat.min 1001 cols) else 1000

/-- STACK_SOF_SEND with the stack PLL locked: the frame's number, its time, and a frame on every port (R439, R477). -/
theorem execStackSofSend_spec {residence cols : Nat} {spoil : BitVec 4} {s : State} (hl : s.clk.stkLock = true) :
    ∃ t, execStackSofSend residence cols spoil s = .next t ∧ t.stack.frame = s.frameOut ∧ t.stack.sofTime = s.uptime ∧
      t.stack.sofSent = true ∧ t.ports = s.ports ∧
      ∀ p, t.stk p = (s.stk p).sendFrame s.frameOut (s.frameCols cols) (spoil.getLsbD p.val) := by
  generalize hf : s.frameOut = f
  generalize hn : s.frameCols cols = n
  generalize hu : ({ s with stack := { s.stack with frame := f, sofTime := s.uptime, sofSent := true } } : State) = u
  generalize ht : allStk.foldl (fun s p => s.modStk p fun x => x.sendFrame f n (spoil.getLsbD p.val)) u = t
  have hstk : ∀ p, t.stk p = (s.stk p).sendFrame f n (spoil.getLsbD p.val) := by
    intro p
    rw [← ht]
    refine (foldl_modStk_stk (fun p x => x.sendFrame f n (spoil.getLsbD p.val)) (List.nodup_finRange 4) u p).trans ?_
    rw [if_pos (List.mem_finRange p), ← hu]
    rfl
  have hexec : execStackSofSend residence cols spoil s = .next
      (if f % 16 = 0 then { t with time := { t.time with lastSof := some (f, residence, t.time.ctr) } } else t) := by
    rw [← ht, ← hu, ← hf, ← hn]
    exact if_neg (by simp [hl])
  obtain ⟨v, hv⟩ := foldl_modStk_eq (fun p x => x.sendFrame f n (spoil.getLsbD p.val)) allStk u
  have hkeep : t.stack.frame = f ∧ t.stack.sofTime = s.uptime ∧ t.stack.sofSent = true ∧ t.ports = s.ports := by
    rw [← ht, hv, ← hu]
    exact ⟨rfl, rfl, rfl, rfl⟩
  obtain ⟨hfr, htm, hsent, hports⟩ := hkeep
  refine ⟨_, hexec, ?_⟩
  split
  · exact ⟨hfr, htm, hsent, hports, hstk⟩
  · exact ⟨hfr, htm, hsent, hports, hstk⟩

/-! ### HELLO and messages (R442 to R447, R453) -/

/-- HELLO_RECEIVE on a port in HELLO. -/
theorem execHelloReceive_hello {p : StackPortId} {h : Hello} {s : State} (hst : (s.stk p).state = .hello) :
    execHelloReceive p h s = .next (if h.peer = Config.uid then stkUp p h (s.modStk p fun x => { x with partner := some h })
      else s.modStk p fun x => { x with partner := some h }) := by
  rw [execHelloReceive, hst]

/-- HELLO_RECEIVE on a port in UP. -/
theorem execHelloReceive_up {p : StackPortId} {h : Hello} {s : State} (hst : (s.stk p).state = .up) :
    execHelloReceive p h s = .next (judgeRole p h (s.modStk p fun x => { x with partner := some h })) := by
  rw [execHelloReceive, hst]

/-- HELLO_SEND on a port in HELLO or UP. -/
theorem execHelloSend_sends {p : StackPortId} {s : State} (hst : (s.stk p).state = .hello ∨ (s.stk p).state = .up) :
    execHelloSend p s = .next (s.modStk p fun x => { x with
      lastOut := some (stkLocal 0x50 (helloBytes p s) s), queue := x.queue ++ [stkLocal 0x50 (helloBytes p s) s] }) := by
  unfold execHelloSend
  rcases hst with h | h
  · rw [h]
  · rw [h]

/-- The state after the errored code groups of a message are counted. -/
def groupsCounted (p : StackPortId) (quads : List StkQuad) (s : State) : State :=
  s.modStk p fun x => { x with symErr := Nat.min 4095 (x.symErr + ((stkColumns (s.stk p).polInv quads).map StkCol.groups).sum) }

/-- A message that is not intact on a port in UP (R445). -/
theorem execStackMsgReceive_bad {p : StackPortId} {quads : List StkQuad} {s : State} (hst : (s.stk p).state = .up)
    (hm : (stkReassemble (stkColumns (s.stk p).polInv quads)).bind stkParse = none) :
    execStackMsgReceive p quads s = .next (stkDiscard p (groupsCounted p quads s)) := by
  unfold execStackMsgReceive
  dsimp only
  rw [if_neg (by simp [hst]), hm]
  rfl

/-- A sequenced message out of turn on a port in UP (R446). -/
theorem execStackMsgReceive_outOfTurn {p : StackPortId} {quads : List StkQuad} {msg : StkMsg} {s : State} (hst : (s.stk p).state = .up)
    (hm : (stkReassemble (stkColumns (s.stk p).polInv quads)).bind stkParse = some msg) (hseq : stkSequenced msg.typ = true)
    (hl : msg.lseq ≠ (s.stk p).rxSeq) : execStackMsgReceive p quads s = .next (linkAck p true (groupsCounted p quads s)) := by
  unfold execStackMsgReceive
  dsimp only
  rw [if_neg (by simp [hst]), hm]
  refine (if_neg (by simp [hseq, hst])).trans (if_pos ?_)
  rw [modStk_stk]
  exact hl

/-- The state after a message in turn is taken: its groups and its number are counted, and one more is to be acknowledged (R446). -/
def messageTaken (p : StackPortId) (quads : List StkQuad) (s : State) : State :=
  (groupsCounted p quads s).modStk p fun x => { x with rxSeq := (x.rxSeq + 1) % 256, toAck := x.toAck + 1 }

/-- A taken message, of its port. -/
theorem messageTaken_stk (p : StackPortId) (quads : List StkQuad) (s : State) : (messageTaken p quads s).stk p = { s.stk p with
    symErr := Nat.min 4095 ((s.stk p).symErr + ((stkColumns (s.stk p).polInv quads).map StkCol.groups).sum)
    rxSeq := ((s.stk p).rxSeq + 1) % 256, toAck := (s.stk p).toAck + 1 } := by
  rw [messageTaken, modStk_stk, groupsCounted, modStk_stk]

/-- A taken message leaves the other stack ports. -/
theorem messageTaken_stk_other (p : StackPortId) (quads : List StkQuad) (s : State) {q : StackPortId} (hq : q ≠ p) :
    (messageTaken p quads s).stk q = s.stk q := by
  rw [messageTaken, modStk_stk_other _ _ _ _ hq.symm, groupsCounted, modStk_stk_other _ _ _ _ hq.symm]

/-- Two changes of one stack port are one. -/
theorem modStk_modStk (s : State) (p : StackPortId) (f g : StkPort → StkPort) :
    (s.modStk p f).modStk p g = s.modStk p fun x => g (f x) := by
  simp [State.modStk, updAt]

/-- A sequenced message in turn on a port in UP, with fewer than eight to acknowledge (R446, R453). -/
theorem execStackMsgReceive_takes {p : StackPortId} {quads : List StkQuad} {msg : StkMsg} {s : State} (hst : (s.stk p).state = .up)
    (hm : (stkReassemble (stkColumns (s.stk p).polInv quads)).bind stkParse = some msg) (hseq : stkSequenced msg.typ = true)
    (hl : msg.lseq = (s.stk p).rxSeq) (ha : (s.stk p).toAck < 7) : execStackMsgReceive p quads s =
      .next (if (stkClass msg.typ).isNone then (messageTaken p quads s).modStk p fun x => { x with msgErr := satAdd 8 x.msgErr 1 }
        else stkRouteOn p msg (messageTaken p quads s)) := by
  have hseqNo : ¬ msg.lseq ≠ ((groupsCounted p quads s).stk p).rxSeq := by
    rw [groupsCounted, modStk_stk]
    exact not_not.mpr hl
  have hack : ¬ 8 ≤ ((messageTaken p quads s).stk p).toAck := by
    rw [messageTaken_stk]
    dsimp only
    omega
  unfold execStackMsgReceive
  dsimp only
  rw [if_neg (by simp [hst]), hm]
  refine (if_neg (by simp [hseq, hst])).trans ((if_neg hseqNo).trans ?_)
  rw [← groupsCounted, ← messageTaken, if_neg hack]

/-- The state after an acknowledgement, before a NAK resends (R446). -/
def ackTaken (p : StackPortId) (next : Nat) (s : State) : State :=
  let x := s.stk p
  let known := decide (next = x.txSeq) || x.unacked.any fun m => decide (m.lseq = next)
  let left := if known then ackUpTo next x.unacked else x.unacked
  s.modStk p fun x =>
    { x with unacked := left, again := x.again.filter left.contains, resendRun := if left.length < x.unacked.length then 0 else x.resendRun }

/-- LINK_ACK on a port in UP (R446). -/
theorem execLinkAckReceive_up {p : StackPortId} {next : BitVec 8} {nak : Bool} {s : State} (hst : (s.stk p).state = .up) :
    execLinkAckReceive p next nak s = .next (if nak then stkResend p (ackTaken p next.toNat s) else ackTaken p next.toNat s) := by
  unfold execLinkAckReceive
  exact if_neg (by simp [hst])

/-- Settles O24: where the commands of the stack links complete, and with what. -/
theorem stackLinkCommandsComplete : Obligations.StackLinkCommandsComplete := by
  refine ⟨fun p s hst hl hsrc => execStackClockDetect_locked hst hl hsrc, fun p s hst => execStackClockDetect_spec hst,
    fun p d sofs centre s hst hs hmask => ⟨_, execStackLaneLock_locks hst hs, ?_⟩,
    fun p spread frame s hst hsp => ⟨_, if_pos (by simp [hst, hsp]), ?_⟩,
    fun p s hst => ⟨_, if_pos hst, modStk_stk _ _ _⟩,
    fun p d missed errored s hst h => ⟨_, (execStackLaneLockLoss_loses h rfl).1 hst, ?_⟩,
    fun p d missed errored s hst h => (execStackLaneLockLoss_loses h rfl).2 hst,
    fun p frame dt s hst hu => (if_neg (by simp [hst])).trans (if_pos hu),
    fun p frame dt s hst hu hr => ⟨_, (if_neg (by simp [hst])).trans ((if_neg hu).trans (if_pos hr)), updAt_self _ _ _ _, rfl⟩,
    fun residence cols spoil s hl hm hs => ?_, fun residence cols spoil s hl hm hs => ?_, fun residence cols spoil s hl hm hu => ?_,
    fun p s hst => ?_, fun p h s hst hp => (execHelloReceive_hello hst).trans (congrArg _ (if_neg hp)),
    fun p h s hst hp => (execHelloReceive_hello hst).trans (congrArg _ (if_pos hp)), fun p h s hst => ?_, fun p s => rfl,
    fun p lost s => rfl, fun p quads s hst hm => execStackMsgReceive_bad hst hm,
    fun p quads msg s hst hm hseq hl ha hc => ?_, fun p quads msg s hst hm hseq hl ha hc hd => ?_,
    fun p quads msg s hst hm hseq hl ha hc => ?_, fun p quads msg s hst hm hseq hl => execStackMsgReceive_outOfTurn hst hm hseq hl,
    fun p next s hst hn => ⟨ackTaken p next.toNat s, execLinkAckReceive_up hst, execLinkAckReceive_up hst,
      fun q hq => modStk_stk_other _ _ _ _ hq.symm, rfl⟩,
    fun p s hst ha => if_pos (by simp [hst, ha]), fun p s => rfl⟩
  · rw [modStk_stk]
    exact ⟨if_pos hmask, hmask, rfl, fun q hq => modStk_stk_other _ _ _ _ hq.symm, rfl⟩
  · rw [modStk_stk]
    exact ⟨rfl, rfl, fun q hq => modStk_stk_other _ _ _ _ hq.symm⟩
  · rw [modStk_stk, modStk_stk]
    exact ⟨hst, rfl, rfl⟩
  · have hf : s.frameOut = (s.stack.frame + 1) % 2 ^ 32 := by simp [State.frameOut, hm, hs]
    have hc : s.frameCols cols = 1000 := by simp [State.frameCols, hm]
    obtain ⟨t, ht, hfr, htm, -, hports, hstk⟩ := execStackSofSend_spec (residence := residence) (cols := cols) (spoil := spoil) hl
    rw [hf] at hfr hstk
    rw [hc] at hstk
    exact ⟨t, ht, hfr, htm, hports, hstk⟩
  · have hf : s.frameOut = 0 := by simp [State.frameOut, hm, hs]
    obtain ⟨t, ht, hfr, -, hsent, -, -⟩ := execStackSofSend_spec (residence := residence) (cols := cols) (spoil := spoil) hl
    exact ⟨t, ht, hfr.trans hf, hsent⟩
  · have hf : s.frameOut = s.stack.frameIn := by simp [State.frameOut, hm, hu]
    have hc : s.frameCols cols = max 999 (min 1001 cols) := by simp [State.frameCols, hm, hu]
    obtain ⟨t, ht, hfr, -, -, -, hstk⟩ := execStackSofSend_spec (residence := residence) (cols := cols) (spoil := spoil) hl
    rw [hf] at hfr hstk
    rw [hc] at hstk
    exact ⟨t, ht, hfr, hstk⟩
  · exact execHelloSend_sends hst
  · exact execHelloReceive_up hst
  · refine (execStackMsgReceive_takes hst hm hseq hl ha).trans ?_
    rw [hc, if_neg Bool.false_ne_true, messageTaken, groupsCounted, modStk_modStk]
  · have hroute : stkRouteOn p msg (messageTaken p quads s) = messageTaken p quads s :=
      if_pos (by rcases hd with h | h <;> simp [messageTaken, groupsCounted, State.modStk, h])
    refine ⟨_, execStackMsgReceive_takes hst hm hseq hl ha, ?_⟩
    rw [hc, if_neg Bool.false_ne_true, hroute, messageTaken_stk]
    exact ⟨rfl, rfl, rfl, rfl, fun q hq => messageTaken_stk_other p quads s hq, rfl⟩
  · refine ⟨_, execStackMsgReceive_takes hst hm hseq hl ha, ?_⟩
    rw [hc, if_pos rfl, modStk_stk, messageTaken_stk]
    exact ⟨rfl, rfl, rfl⟩

end Sys2Proof
end

section
/-!
PROOFS. Commands within one port leave every other port and the hub (O39).
-/
namespace Sys2Proof

open Sys2Proof.Machine

/-! ### Commands within one port -/

/-- Where a command goes on to a next state, at most one port and the count of random draws have changed. -/
structure NextPortOnly (p : PortId) (s : State) (o : Host.Outcome State Fault Refusal) : Prop where
  /-- The next state is the earlier one but for that port and that count. -/
  only : ∀ t, o = .next t → PortOnly p s t

/-- A command whose next state is known. -/
theorem NextPortOnly.next {p : PortId} {s t : State} (h : PortOnly p s t) : NextPortOnly p s (.next t) := by
  refine ⟨?_⟩
  rintro _ ⟨⟩
  exact h

/-! ### Lane loops, calibration and patterns -/

/-- PARCEL_CLOSE. -/
theorem execParcelClose_portOnly (p l2h s) : NextPortOnly p s (execParcelClose p l2h s) :=
  .next <| reHold_portonly p <| modPort_portonly (.refl p s) _

/-- CTLE_STEP_APPLY. -/
theorem execCtleStepApply_portOnly (p n s) : NextPortOnly p s (execCtleStepApply p n s) := by
  refine .next ?_
  dsimp only
  split
  · exact .refl p s
  · exact .ite (.refl p s) <| modLane_portonly p n _ (.refl p s)

/-- CTLE_CHECK_TIMEOUT. -/
theorem execCtleCheckTimeout_portOnly (p n s) : NextPortOnly p s (execCtleCheckTimeout p n s) := by
  refine .next ?_
  dsimp only
  split
  · exact .ite (modLane_portonly p n _ (.refl p s)) <| .refl p s
  · exact .refl p s

/-- CTLE_FREEZE_END. -/
theorem execCtleFreezeEnd_portOnly (p n s) : NextPortOnly p s (execCtleFreezeEnd p n s) :=
  .next <| modLane_portonly p n _ (.refl p s)

/-- LOOPBACK_REQ_RECEIVE. -/
theorem execLoopbackReqReceive_portOnly (p n s) : NextPortOnly p s (execLoopbackReqReceive p n s) :=
  .next <| .ite (queueCm_portonly p _ _ <| setLoop_portonly p n _ (.refl p s)) <| queueCm_portonly p _ _ (.refl p s)

/-- LOOPBACK_ACK_RECEIVE. -/
theorem execLoopbackAckReceive_portOnly (p n s) : NextPortOnly p s (execLoopbackAckReceive p n s) :=
  .next <| .ite (.refl p s) <| modPort_portonly (setLoop_portonly p n _ (.refl p s)) _

/-- LOOPBACK_END_RECEIVE. -/
theorem execLoopbackEndReceive_portOnly (p n s) : NextPortOnly p s (execLoopbackEndReceive p n s) := by
  have hend : PortOnly p s (s.modLane p n Lane.endFarLoop) := modLane_portonly p n _ (.refl p s)
  refine .next ?_
  cases (s.lane p n).test.loop
  case far => exact hend
  case farServe => exact hend
  case farEnding => exact hend
  case farGranted => exact hend
  all_goals exact .refl p s

/-- PRBS_LOCK. -/
theorem execPrbsLock_portOnly (p n rx s) : NextPortOnly p s (execPrbsLock p n rx s) :=
  .next <| .ite (.refl p s) <| modLane_portonly p n _ (.refl p s)

/-- PRBS_LOCK_LOSS. -/
theorem execPrbsLockLoss_portOnly (p n rx s) : NextPortOnly p s (execPrbsLockLoss p n rx s) :=
  .next <| .ite (.refl p s) <| modLane_portonly p n _ (.refl p s)

/-! ### The line transmitter and the receivers -/

/-- FFE_WALK_STEP. -/
theorem execFfeWalkStep_portOnly (p n s) : NextPortOnly p s (execFfeWalkStep p n s) :=
  .next <| .ite (modLane_portonly p n _ (.refl p s)) (.refl p s)

/-- DAC_CELL_EXCHANGE. -/
theorem execDacCellExchange_portOnly (p n s) : NextPortOnly p s (execDacCellExchange p n s) := by
  refine .next ?_
  split
  · exact .refl p s
  · exact .ite (.refl p s) <| modLane_portonly p n _ (.refl p s)

/-- RANGE_IDLE_START. -/
theorem execRangeIdleStart_portOnly (p n s) : NextPortOnly p s (execRangeIdleStart p n s) :=
  .next <| .ite (.refl p s) <| modLane_portonly p n _ (.refl p s)

/-- RANGE_TAKE_EFFECT. -/
theorem execRangeTakeEffect_portOnly (p n s) : NextPortOnly p s (execRangeTakeEffect p n s) := by
  refine .next ?_
  split
  · exact .refl p s
  · exact .ite (.refl p s) <| modLane_portonly p n _ (.refl p s)

/-- TONE_RAMP_RELOAD. -/
theorem execToneRampReload_portOnly (p n samples s) : NextPortOnly p s (execToneRampReload p n samples s) :=
  .next <| modLane_portonly p n _ (.refl p s)

/-- AGC_STEP. -/
theorem execAgcStep_portOnly (p n samples s) : NextPortOnly p s (execAgcStep p n samples s) := by
  have hr : PortOnly p s (receive p n samples s) := receive_portonly p n samples (.refl p s)
  have hm : ∀ f, PortOnly p s ((receive p n samples s).modLane p n f) := fun f => modLane_portonly p n f hr
  exact .next <| .ite hr <| .ite (hm _) <| .ite (.ite (hm _) <| modLane_portonly p n _ (hm _)) <| modLane_portonly p n _ (hm _)

/-- SLICE_SWAP. -/
theorem execSliceSwap_portOnly (p n s) : NextPortOnly p s (execSliceSwap p n s) :=
  .next <| .ite (.refl p s) <| modLane_portonly p n _ (.refl p s)

/-- ECHO_SEARCH_END. -/
theorem execEchoSearchEnd_portOnly (p n samples s) : NextPortOnly p s (execEchoSearchEnd p n samples s) :=
  .next <| .ite (.refl p s) <| modLane_portonly p n _ (.refl p s)

/-- ECHO_CONVERGE. -/
theorem execEchoConverge_portOnly (p n powers samples s) : NextPortOnly p s (execEchoConverge p n powers samples s) :=
  .next <| .ite (.refl p s) <| .ite (tsRise_portonly p <| modLane_portonly p n _ <| receive_portonly p n samples (.refl p s)) <|
    modLane_portonly p n _ <| receive_portonly p n samples (.refl p s)

/-- SNR_WINDOW_END. -/
theorem execSnrWindowEnd_portOnly (p n lock trials samples s) : NextPortOnly p s (execSnrWindowEnd p n lock trials samples s) := by
  have hr : PortOnly p s (receive p n samples s) := receive_portonly p n samples (.refl p s)
  exact .next <| .ite hr <| .ite (tsRise_portonly p <| modLane_portonly p n _ hr) <| modLane_portonly p n _ hr

/-- EYE_HEIGHT_UPDATE. -/
theorem execEyeHeightUpdate_portOnly (p n codes s) : NextPortOnly p s (execEyeHeightUpdate p n codes s) :=
  .next <| .ite (.refl p s) <| modLane_portonly p n _ (.refl p s)

/-- EYE_WIDTH_UPDATE. -/
theorem execEyeWidthUpdate_portOnly (p n offsets s) : NextPortOnly p s (execEyeWidthUpdate p n offsets s) :=
  .next <| .ite (.refl p s) <| modLane_portonly p n _ (.refl p s)

/-! ### Blocks, alignment and lane changes -/

/-- NAK_REPEAT_DUE. -/
theorem execNakRepeatDue_portOnly (p n slot s) : NextPortOnly p s (execNakRepeatDue p n slot s) :=
  .next <| modPort_portonly (.refl p s) _

/-- BLOCK_LOCK_ACQUIRE. -/
theorem execBlockLockAcquire_portOnly (p n headers s) : NextPortOnly p s (execBlockLockAcquire p n headers s) :=
  .next <| .ite (.refl p s) <| modLane_portonly p n _ (.refl p s)

/-- FOLLOWER_COUNT_LOAD. -/
theorem execFollowerCountLoad_portOnly (p n s) : NextPortOnly p s (execFollowerCountLoad p n s) := by
  refine .next ?_
  dsimp only
  split
  · exact .ite (.refl p s) <| modPort_portonly (.refl p s) _
  · exact .refl p s

/-- ALIGN_TIMEOUT. -/
theorem execAlignTimeout_portOnly (p s) : NextPortOnly p s (execAlignTimeout p s) :=
  .next <| .ite (.refl p s) <| .ite (modPort_portonly (.refl p s) _) <| downDue_portonly p 3 (.refl p s)

/-- READD_HOLDOFF_EXPIRE. -/
theorem execReaddHoldoffExpire_portOnly (p n s) : NextPortOnly p s (execReaddHoldoffExpire p n s) := by
  have hmod : ∀ f, PortOnly p s (s.modPort p f) := modPort_portonly (.refl p s)
  have hsend : PortOnly p s (sendAddNotice p n s) := sendAddNotice_portonly p n (.refl p s)
  refine .next <| .ite (.refl p s) ?_
  cases (s.port p).link.state
  case up => exact hsend
  case degraded => exact hsend
  case quiet => exact hmod _
  case wake => exact hmod _
  all_goals exact .refl p s

/-- NOTICE_ACK_RECEIVE. -/
theorem execNoticeAckReceive_portOnly (p id typ what epoch s) : NextPortOnly p s (execNoticeAckReceive p id typ what epoch s) := by
  have htake : PortOnly p s (s.modPort p fun _ => ((s.port p).takeNotice id typ).2) := modPort_portonly (.refl p s) _
  refine .next <| .ite (.refl p s) <| .ite (.refl p s) <| .ite ?_ <|
    .ite (.ite (modPort_portonly htake _) <| .ite (modPort_portonly htake _) htake) htake
  split
  · exact .ite (beginAdd_portonly p _ htake) htake
  · exact htake

/-! ### Sounding and negotiation -/

/-- PREAMBLE_DETECT. -/
theorem execPreambleDetect_portOnly (p cm rx0 tx0 since s) : NextPortOnly p s (execPreambleDetect p cm rx0 tx0 since s) :=
  .next <| .ite (.refl p s) <| modInst_portonly p cm _ (.refl p s)

/-- FALSE_DETECT. -/
theorem execFalseDetect_portOnly (p cm s) : NextPortOnly p s (execFalseDetect p cm s) :=
  .next <| .ite (.refl p s) <| modInst_portonly p cm _ (.refl p s)

/-- SND_RECEPTION_TRUNCATE. -/
theorem execSndReceptionTruncate_portOnly (p cm w1 w2 s) : NextPortOnly p s (execSndReceptionTruncate p cm w1 w2 s) :=
  .next <| .ite (.refl p s) <| modInst_portonly p cm _ (.refl p s)

/-- SND_HEADER_RECEIVE. -/
theorem execSndHeaderReceive_portOnly (p cm w s) : NextPortOnly p s (execSndHeaderReceive p cm w s) := by
  have hmod : ∀ f, PortOnly p s (modInst p cm f s) := fun f => modInst_portonly p cm f (.refl p s)
  refine .next ?_
  cases ((s.port p).snd.inst cm).rx
  case preamble => exact .ite (hmod _) (hmod _)
  case synced => exact .ite (hmod _) (hmod _)
  all_goals exact .refl p s

/-- SND_FRAME_RECEIVE. -/
theorem execSndFrameReceive_portOnly (p cm raw s) : NextPortOnly p s (execSndFrameReceive p cm raw s) := by
  refine .next ?_
  dsimp only
  split
  · exact .ite (modInst_portonly p cm _ (.refl p s)) <| modInst_portonly p cm _ (.refl p s)
  · exact .refl p s

/-- CM_FRAME_SEND. -/
theorem execCmFrameSend_portOnly (p clear s) : NextPortOnly p s (execCmFrameSend p clear s) := by
  refine .next <| .ite (.refl p s) ?_
  split
  · exact .refl p s
  · split
    · exact modPort_portonly (.refl p s) _
    · exact .ite (modPort_portonly (.refl p s) _) <| .refl p s

/-- CALL_SEND. -/
theorem execCallSend_portOnly (p s) : NextPortOnly p s (execCallSend p s) :=
  .next <| .ite (.refl p s) <| modPort_portonly (.refl p s) _

/-- PROBE_RECEIVE. -/
theorem execProbeReceive_portOnly (p session mask est measured rtt s) :
    NextPortOnly p s (execProbeReceive p session mask est measured rtt s) :=
  .next <| .ite (.refl p s) <| .ite (.ite (.refl p s) <| sendOffer_portonly p 1 <| modPort_portonly (.refl p s) _) <|
    .ite (modPort_portonly (.refl p s) _) <| modPort_portonly (.refl p s) _

/-- REFUSE_RECEIVE. -/
theorem execRefuseReceive_portOnly (p session no rates s) : NextPortOnly p s (execRefuseReceive p session no rates s) := by
  refine .next <| .ite (.refl p s) ?_
  split
  · exact .ite (.refl p s) <| sendOffer_portonly p _ <| modPort_portonly (.refl p s) _
  · exact .refl p s

/-- GO_RECEIVE. -/
theorem execGoReceive_portOnly (p session s) : NextPortOnly p s (execGoReceive p session s) :=
  .next <| .ite (.refl p s) <| applyGo_portonly p (.refl p s)

/-! ### Training, low power and diagnostics -/

/-- TRAIN_STAT_SEND. -/
theorem execTrainStatSend_portOnly (p req s) : NextPortOnly p s (execTrainStatSend p req s) :=
  .next <| .ite (.refl p s) <| queueTs_portonly p <| modPort_portonly (.refl p s) _

/-- TRAIN_STAT_RECEIVE. -/
theorem execTrainStatReceive_portOnly (p session step seq conv cdr req ack set s) :
    NextPortOnly p s (execTrainStatReceive p session step seq conv cdr req ack set s) := by
  refine .next <| .ite (.refl p s) ?_
  dsimp only
  generalize hu : State.modPort _ p (fun q => Port.tsAnswered _ step ack) = u
  have h : PortOnly p s u := by
    rw [← hu]
    exact modPort_portonly (.ite (modPort_portonly (.refl p s) _) (.refl p s)) _
  have hset : ∀ f, PortOnly p s (setJudged p (u.modPort p f)) := fun f => setJudged_portonly p (modPort_portonly h f)
  exact .ite (.ite (queueTs_portonly p h) <| .ite (.ite (queueTs_portonly p <| modPort_portonly h _) <| modPort_portonly h _) h) <|
    .ite (modPort_portonly (hset _) _) (hset _)

/-- TRAIN_STEP_TIMEOUT. -/
theorem execTrainStepTimeout_portOnly (p s) : NextPortOnly p s (execTrainStepTimeout p s) :=
  .next <| .ite (.refl p s) <| .ite (failTrain_portonly p 8 (.refl p s)) <| queueTs_portonly p <| modPort_portonly (.refl p s) _

/-- TRAIN_PARTNER_TIMEOUT. -/
theorem execTrainPartnerTimeout_portOnly (p s) : NextPortOnly p s (execTrainPartnerTimeout p s) :=
  .next <| .ite (failTrain_portonly p _ (.refl p s)) (.refl p s)

/-- TRAIN_TIMEOUT. -/
theorem execTrainTimeout_portOnly (p s) : NextPortOnly p s (execTrainTimeout p s) :=
  .next <| .ite (failTrain_portonly p _ (.refl p s)) (.refl p s)

/-- LINK_SNAP_TAKE. -/
theorem execLinkSnapTake_portOnly (p s) : NextPortOnly p s (execLinkSnapTake p s) :=
  .next <| .ite (.refl p s) <| modPort_portonly (.refl p s) _

/-- QUIET_REQUEST. -/
theorem execQuietRequest_portOnly (p s) : NextPortOnly p s (execQuietRequest p s) :=
  .next <| .ite (.refl p s) <| queueCm_portonly p _ _ <| modPort_portonly (.refl p s) _

/-- QUIET_REQ_RECEIVE. -/
theorem execQuietReqReceive_portOnly (p epoch s) : NextPortOnly p s (execQuietReqReceive p epoch s) := by
  refine .next <| .ite (.refl p s) ?_
  split
  · exact modPort_portonly (.refl p s) _
  · exact .ite (queueCm_portonly p _ _ (.refl p s)) <| .ite (queueCm_portonly p _ _ <| modPort_portonly (.refl p s) _) <|
      queueCm_portonly p _ _ (.refl p s)

/-- QUIET_ACK_RECEIVE. -/
theorem execQuietAckReceive_portOnly (p epoch s) : NextPortOnly p s (execQuietAckReceive p epoch s) :=
  .next <| .ite (modPort_portonly (.refl p s) _) (.refl p s)

/-- QUIET_DECLINE_RECEIVE. -/
theorem execQuietDeclineReceive_portOnly (p epoch s) : NextPortOnly p s (execQuietDeclineReceive p epoch s) :=
  .next <| .ite (.refl p s) <| modPort_portonly (.refl p s) _

/-- WAKE_TIMEOUT. -/
theorem execWakeTimeout_portOnly (p s) : NextPortOnly p s (execWakeTimeout p s) :=
  .next <| .ite (.refl p s) <| downDue_portonly p 7 <| modPort_portonly (.refl p s) _

/-- FSI_EVENT_EXPIRE. -/
theorem execFsiEventExpire_portOnly (p s) : NextPortOnly p s (execFsiEventExpire p s) :=
  .next <| modPort_portonly (.refl p s) _

/-- IL_ACK_RECEIVE. -/
theorem execIlAckReceive_portOnly (p session fs s) : NextPortOnly p s (execIlAckReceive p session fs s) :=
  .next <| .ite (.refl p s) <| modPort_portonly (.refl p s) _

/-- IL_SCHEDULE_START. -/
theorem execIlScheduleStart_portOnly (p s) : NextPortOnly p s (execIlScheduleStart p s) :=
  .next <| .ite (.refl p s) <| modPort_portonly (.refl p s) _

/-- Settles O39: each command of ownPort changes its own port alone. -/
theorem ownPortFrame : Obligations.OwnPortFrame := by
  intro c p s t hc
  suffices h : NextPortOnly p s (exec c s) from h.only t
  unfold ownPort at hc
  split at hc
  all_goals cases hc
  · exact execParcelClose_portOnly ..
  · exact execCtleStepApply_portOnly ..
  · exact execCtleCheckTimeout_portOnly ..
  · exact execCtleFreezeEnd_portOnly ..
  · exact execLoopbackReqReceive_portOnly ..
  · exact execLoopbackAckReceive_portOnly ..
  · exact execLoopbackEndReceive_portOnly ..
  · exact execPrbsLock_portOnly ..
  · exact execPrbsLockLoss_portOnly ..
  · exact execFfeWalkStep_portOnly ..
  · exact execDacCellExchange_portOnly ..
  · exact execRangeIdleStart_portOnly ..
  · exact execRangeTakeEffect_portOnly ..
  · exact execToneRampReload_portOnly ..
  · exact execAgcStep_portOnly ..
  · exact execSliceSwap_portOnly ..
  · exact execEchoSearchEnd_portOnly ..
  · exact execEchoConverge_portOnly ..
  · exact execSnrWindowEnd_portOnly ..
  · exact execEyeHeightUpdate_portOnly ..
  · exact execEyeWidthUpdate_portOnly ..
  · exact execNakRepeatDue_portOnly ..
  · exact execBlockLockAcquire_portOnly ..
  · exact execFollowerCountLoad_portOnly ..
  · exact execAlignTimeout_portOnly ..
  · exact execReaddHoldoffExpire_portOnly ..
  · exact execNoticeAckReceive_portOnly ..
  · exact execPreambleDetect_portOnly ..
  · exact execFalseDetect_portOnly ..
  · exact execSndReceptionTruncate_portOnly ..
  · exact execSndHeaderReceive_portOnly ..
  · exact execSndFrameReceive_portOnly ..
  · exact execCmFrameSend_portOnly ..
  · exact execCallSend_portOnly ..
  · exact execProbeReceive_portOnly ..
  · exact execRefuseReceive_portOnly ..
  · exact execGoReceive_portOnly ..
  · exact execTrainStatSend_portOnly ..
  · exact execTrainStatReceive_portOnly ..
  · exact execTrainStepTimeout_portOnly ..
  · exact execTrainPartnerTimeout_portOnly ..
  · exact execTrainTimeout_portOnly ..
  · exact execLinkSnapTake_portOnly ..
  · exact execQuietRequest_portOnly ..
  · exact execQuietReqReceive_portOnly ..
  · exact execQuietAckReceive_portOnly ..
  · exact execQuietDeclineReceive_portOnly ..
  · exact execWakeTimeout_portOnly ..
  · exact execFsiEventExpire_portOnly ..
  · exact execIlAckReceive_portOnly ..
  · exact execIlScheduleStart_portOnly ..

end Sys2Proof
end

section
/-!
PROOFS. The calm commands of the hub: what they leave of the registers, clocks, power and time (O40).
-/
namespace Sys2Proof

open Sys2Proof.Machine

variable {ck lt : Bool}

/-! ### How a meaning is put together -/

/-- CalmBut.ite where the branches use the condition. -/
theorem CalmBut.dite {c : Prop} [Decidable c] {s : State} {a : c → State} {b : ¬c → State} (ha : ∀ h, CalmBut ck lt s (a h))
    (hb : ∀ h, CalmBut ck lt s (b h)) : CalmBut ck lt s (if h : c then a h else b h) := by
  split
  · exact ha _
  · exact hb _

/-- CalmBut.foldl where a tally runs beside the state. -/
theorem CalmBut.foldlFst {α β} {s : State} {l : List α} {f : State × β → α → State × β} {a : State × β}
    (k : ∀ a x, CalmBut ck lt s a.1 → CalmBut ck lt s (f a x).1) (h : CalmBut ck lt s a.1) : CalmBut ck lt s (l.foldl f a).1 := by
  induction l generalizing a with
  | nil => exact h
  | cons x xs ih => exact ih (k _ _ h)

/-- Where a command goes on to a next state, nothing of what Calm holds has changed but the clocks, under ck, and the marks of a late
request, under lt. -/
structure NextCalm (ck lt : Bool) (s : State) (o : Host.Outcome State Fault Refusal) : Prop where
  /-- From the earlier state to the next. -/
  calm : ∀ {t}, o = .next t → CalmBut ck lt s t

/-- A command whose next state is known. -/
theorem NextCalm.next {s t : State} (h : CalmBut ck lt s t) : NextCalm ck lt s (.next t) := ⟨fun e => by cases e; exact h⟩

/-- A command that changes nothing. -/
theorem NextCalm.same {s : State} : NextCalm ck lt s (.next s) := .next (.refl s)

/-- A command that goes one of two ways. -/
theorem NextCalm.ite {c : Prop} [Decidable c] {s : State} {a b : Host.Outcome State Fault Refusal} (ha : NextCalm ck lt s a)
    (hb : NextCalm ck lt s b) : NextCalm ck lt s (if c then a else b) := by
  split
  · exact ha
  · exact hb

/-- A command that goes one of two ways, each of which uses the condition. -/
theorem NextCalm.dite {c : Prop} [Decidable c] {s : State} {a : c → Host.Outcome State Fault Refusal}
    {b : ¬c → Host.Outcome State Fault Refusal} (ha : ∀ h, NextCalm ck lt s (a h)) (hb : ∀ h, NextCalm ck lt s (b h)) :
    NextCalm ck lt s (if h : c then a h else b h) := by
  split
  · exact ha _
  · exact hb _

/-- A command packet. -/
theorem NextCalm.command {s : State} {via : Origin} {opcode : Nat} {body : State → State}
    (h : ∀ x, CalmBut ck lt s x → CalmBut ck lt s (body x)) : NextCalm ck lt s (.next (command via opcode s body)) :=
  .next (command_calm (.refl s) _ _ _ h)

/-- A command packet that names a port. -/
theorem NextCalm.portCommand {s : State} {via : Origin} {opcode : Nat} {p : PortId} {body : State → State}
    (h : ∀ x, CalmBut ck lt s x → CalmBut ck lt s (body x)) : NextCalm ck lt s (.next (portCommand via opcode p s body)) :=
  .next (portCommand_calm (.refl s) _ _ _ _ h)

/-! ### The commands of Machine/Spill -/

/-- PORT_CLASS. -/
theorem execPortClass_calm (via mask cls s) : NextCalm ck lt s (execPortClass via mask cls s) :=
  .command fun _ h =>
    .ite (reply_calm h ..) <|
    .ite (reply_calm h ..) <|
    .ite (reply_calm h ..) <|
    .ite (reply_calm h ..) <|
    reply_calm
      (classRecord_calm
        (.foldl (fun _ _ h2 => guarRise_calm (reHold_calm h2 _) _)
          (mapPorts_calm (.ite h <| .foldl (fun _ _ h2 => guarFail_calm h2 ..) h) _))
        ..)
      ..

/-- PARCEL_CLOSE. -/
theorem execParcelClose_calm (p l2h s) : NextCalm ck lt s (execParcelClose p l2h s) :=
  .next <| reHold_calm (modPort_calm (.refl _) ..) _

/-! ### The commands of Machine/Time -/

/-- TIME_STATUS. -/
theorem execTimeStatus_calm (via s) : NextCalm ck lt s (execTimeStatus via s) :=
  .command fun _ h => reply_calm h ..

/-- TIME_SYNC_SEND. -/
theorem execTimeSyncSend_calm (s) : NextCalm ck lt s (execTimeSyncSend s) := by
  unfold execTimeSyncSend
  split
  · exact .same
  · exact .ite .same <| .next <| .foldl (fun _ _ h => .ite (stkSend_calm h ..) h) (.refl _)

/-! ### The commands of Machine/Clocks -/

/-- FLASH_ACCESS_TIMEOUT. -/
theorem execFlashAccessTimeout_calm (s) : NextCalm ck lt s (execFlashAccessTimeout s) :=
  .ite .same <| .next <| flashTimeout_calm (.refl _)

/-! ### The commands of Machine/Device -/

/-- LPLL_RETUNE. -/
theorem execLpllRetune_calm (p f s) : NextCalm ck lt s (execLpllRetune p f s) :=
  .next <| .ite (needFreq_calm (.refl _) ..) <| .refl _

/-- LPLL_PLAN_APPLY. -/
theorem execLpllPlanApply_calm (k g s) : NextCalm ck lt s (execLpllPlanApply k g s) :=
  .next <|
  .ite (.refl _) <|
  .ite (planWaitEnd_calm (modGroup_calm (.refl _) ..) ..) <|
  startRetune_calm (planWaitEnd_calm (modGroup_calm (.refl _) ..) ..) ..

/-- BRIDGE_FLIT_RECEIVE. -/
theorem execBridgeFlitReceive_calm (k toHub crcOk s) : NextCalm ck lt s (execBridgeFlitReceive k toHub crcOk s) :=
  .next <|
  .ite (.refl _) <|
  .ite (modPod_calm (.refl _) ..) <| .ite (bridgeFailed_calm (.refl _) _) <| raise_calm (modPod_calm (.refl _) ..) ..

/-- BRIDGE_FLIT_SEND. -/
theorem execBridgeFlitSend_calm (k toHub waiting newUs s) : NextCalm ck lt s (execBridgeFlitSend k toHub waiting newUs s) :=
  .next <| .ite (.refl _) <| modPod_calm (.refl _) ..

/-- BRIDGE_TRAINED. -/
theorem execBridgeTrained_calm (k s) : NextCalm ck lt s (execBridgeTrained k s) :=
  .next <| .ite (.refl _) <| endCond_calm (.foldl (fun _ _ h => hubApply_calm h _) (modPod_calm (.refl _) ..)) ..

/-! ### The commands of Machine/Stack -/

/-- STACK_CLOCK_DETECT. -/
theorem execStackClockDetect_calm (p s) : NextCalm true lt s (execStackClockDetect p s) :=
  .ite .same <|
  .next <|
  .ite (stkToLock_calm (stackPllSettle_calm (modStk_calm (.refl _) ..)) _) <| stackPllSettle_calm (modStk_calm (.refl _) ..)

/-- STACK_LANE_LOCK. -/
theorem execStackLaneLock_calm (p d sofs inv centre s) : NextCalm ck lt s (execStackLaneLock p d sofs inv centre s) :=
  .ite .same <| .next <| modStk_calm (.refl _) ..

/-- STACK_PORT_ALIGN. -/
theorem execStackPortAlign_calm (p spread frame compl s) : NextCalm ck lt s (execStackPortAlign p spread frame compl s) :=
  .ite (.next <| modStk_calm (.refl _) ..) .same

/-- STACK_ALIGN_TIMEOUT. -/
theorem execStackAlignTimeout_calm (p s) : NextCalm ck lt s (execStackAlignTimeout p s) :=
  .ite (.next <| modStk_calm (stkToLock_calm (.refl _) _) ..) .same

/-- HELLO_SEND. -/
theorem execHelloSend_calm (p s) : NextCalm ck lt s (execHelloSend p s) := by
  unfold execHelloSend
  split
  · exact .next <| modStk_calm (.refl _) ..
  · exact .next <| modStk_calm (.refl _) ..
  · exact .same

/-- HELLO_RECEIVE. -/
theorem execHelloReceive_calm (p h s) : NextCalm ck lt s (execHelloReceive p h s) := by
  unfold execHelloReceive
  split
  · exact .next <| .ite (stkUp_calm (modStk_calm (.refl _) ..) ..) <| modStk_calm (.refl _) ..
  · exact .next <| judgeRole_calm (modStk_calm (.refl _) ..) ..
  · exact .same

/-- LINK_ACK_SEND. -/
theorem execLinkAckSend_calm (p s) : NextCalm ck lt s (execLinkAckSend p s) :=
  .ite (.next <| linkAck_calm (.refl _) ..) .same

/-- ENUM_RUN_START. -/
theorem execEnumRunStart_calm (s) : NextCalm true lt s (execEnumRunStart s) :=
  .ite .same <| .ite (.next <| enumStart_calm (.refl _)) <| .next <| .upd (.refl _)

/-- PARENT_CHOOSE. -/
theorem execParentChoose_calm (s) : NextCalm true lt s (execParentChoose s) := by
  refine .ite .same ?_
  split
  · exact .same
  · exact .next <|
    reportTry_calm
      (.foldl (fun _ _ h => .ite (answerStandby_calm h _) h)
        (.ite (forwardDiscover_calm (.upd (.refl _)) ..) <| .foldl (fun _ _ h => .ite (modStk_calm h ..) h) (.upd (.refl _))))
      _

/-- REPORT_RECEIVE. -/
theorem execReportReceive_calm (p gen r s) : NextCalm true lt s (execReportReceive p gen r s) :=
  .ite (.next <| reportTry_calm (modStk_calm (.refl _) ..) _) .same

/-- REPORT_DUE. -/
theorem execReportDue_calm (expired s) : NextCalm true lt s (execReportDue expired s) :=
  .next <| reportTry_calm (.refl _) _

/-- TOPO_CHANGE_RECEIVE. -/
theorem execTopoChangeReceive_calm (p s) : NextCalm ck lt s (execTopoChangeReceive p s) :=
  .ite (.next <| topoChange_calm (.refl _)) .same

/-- ORPHAN_NOTICE_RECEIVE. -/
theorem execOrphanNoticeReceive_calm (p s) : NextCalm ck lt s (execOrphanNoticeReceive p s) :=
  .ite (.next <| orphanNotice_calm (.upd (.refl _))) .same

/-- FAULT_WINDOW_CLOSE. -/
theorem execFaultWindowClose_calm (s) : NextCalm ck lt s (execFaultWindowClose s) := by
  unfold execFaultWindowClose
  split
  · exact .same
  · exact .ite (.next <| .foldl (fun _ _ h => stackRecord_calm h _) (.upd (.refl _))) <|
    .ite (.next <| sendReports_calm (.upd (.refl _)) ..) <| .next <| .upd (.refl _)

/-- FAULT_REPORT_RECEIVE. -/
theorem execFaultReportReceive_calm (p entries s) : NextCalm ck lt s (execFaultReportReceive p entries s) :=
  .ite .same <| .next <| .upd (.refl _)

/-- MGMT_RESP_RECEIVE. -/
theorem execMgmtRespReceive_calm (src tag frag last data s) : NextCalm ck lt s (execMgmtRespReceive src tag frag last data s) := by
  unfold execMgmtRespReceive
  split
  · exact .same
  · dsimp only
    split
    · exact .next <| .upd (.refl _)
    · exact .next <| reply_calm (.upd (.upd (.refl _))) ..

/-- TUNNEL_TIMEOUT. -/
theorem execTunnelTimeout_calm (tag s) : NextCalm ck lt s (execTunnelTimeout tag s) := by
  unfold execTunnelTimeout
  split
  · exact .same
  · exact .next <| reply_calm (.upd (.refl _)) ..

/-- LEDGER_ANCHOR_RECEIVE. -/
theorem execLedgerAnchorReceive_calm (member uid accession chain s) :
    NextCalm ck lt s (execLedgerAnchorReceive member uid accession chain s) :=
  .ite (.next <| ledgerAppend_calm (.refl _) ..) .same

/-- STK_ENUM. -/
theorem execStkEnum_calm (via s) : NextCalm true lt s (execStkEnum via s) :=
  .command fun _ h => .ite (reply_calm h ..) <| reply_calm (.ite (.upd h) <| enumStart_calm h) ..

/-- STK_RENUMBER. -/
theorem execStkRenumber_calm (via s) : NextCalm true lt s (execStkRenumber via s) :=
  .command fun _ h => .ite (reply_calm h ..) <| reply_calm (.ite (.upd (.upd h)) <| enumStart_calm (.upd h)) ..

/-- STK_TUNNEL. -/
theorem execStkTunnel_calm (via dst packet s) : NextCalm ck lt s (execStkTunnel via dst packet s) :=
  .command fun _ h => .ite (reply_calm h ..) <| .ite (.upd (.upd h)) <| .foldl (fun _ _ h2 => stkDeliver_calm h2 _) (.upd h)

/-- STK_PORT_INFO. -/
theorem execStkPortInfo_calm (via s) : NextCalm ck lt s (execStkPortInfo via s) :=
  .command fun _ h => reply_calm h ..

/-- STK_FREC_READ. -/
theorem execStkFrecRead_calm (via count s) : NextCalm ck lt s (execStkFrecRead via count s) :=
  .command fun _ h => .ite (reply_calm h ..) <| .ite (reply_calm h ..) <| reply_calm (.upd h) ..

/-! ### The commands of Machine/Calibration -/

/-- CAL_RUN. -/
theorem execCalRun_calm (via ports lanes stk items s) : NextCalm ck lt s (execCalRun via ports lanes stk items s) :=
  .command fun _ h =>
    .ite (reply_calm h ..) <| .ite (reply_calm h ..) <| .ite (reply_calm h ..) <| .ite (reply_calm h ..) <| .upd h

/-- CAL_RUN_DONE. -/
theorem execCalRunDone_calm (meas us s) : NextCalm ck lt s (execCalRunDone meas us s) := by
  unfold execCalRunDone
  refine .next ?_
  split
  · exact .refl _
  · extract_lets ms act cal s₁
    have h₁ : CalmBut ck lt s s₁ := .upd (.refl _)
    split
    · refine reply_calm (.foldl (fun t m h => ?_) h₁) ..
      split
      · exact modLane_calm h ..
      · exact h
    · refine reply_calm ?_ ..
      exact .foldlFst (fun a m h => applyMeas_calm h m) h₁

/-- DAC_MEASURE_DONE. -/
theorem execDacMeasureDone_calm (p n e s) : NextCalm ck lt s (execDacMeasureDone p n e s) := by
  refine .next <| .ite (.refl _) <| .ite (modLane_calm (.refl _) ..) ?_
  dsimp only
  split
  · exact modLane_calm (modLane_calm (.refl _) ..) ..
  · exact raise_calm (modLane_calm (modLane_calm (.refl _) ..) ..) ..
  · exact modLane_calm (modLane_calm (.refl _) ..) ..
  · exact modLane_calm (modLane_calm (.refl _) ..) ..

/-- CTLE_STEP_APPLY. -/
theorem execCtleStepApply_calm (p n s) : NextCalm ck lt s (execCtleStepApply p n s) := by
  refine .next ?_
  dsimp only
  split
  · exact .refl _
  · exact .ite (.refl _) <| modLane_calm (.refl _) ..

/-- CTLE_CHECK_TIMEOUT. -/
theorem execCtleCheckTimeout_calm (p n s) : NextCalm ck lt s (execCtleCheckTimeout p n s) := by
  refine .next ?_
  dsimp only
  split
  · exact .ite (modLane_calm (.refl _) ..) <| .refl _
  · exact .refl _

/-- CTLE_FREEZE_END. -/
theorem execCtleFreezeEnd_calm (p n s) : NextCalm ck lt s (execCtleFreezeEnd p n s) :=
  .next <| modLane_calm (.refl _) ..

/-- CAL_STORE. -/
theorem execCalStore_calm (via s) : NextCalm ck lt s (execCalStore via s) :=
  .command fun _ h => .ite (reply_calm h ..) <| startStore_calm h ..

/-- CAL_EXPORT. -/
theorem execCalExport_calm (via chunk s) : NextCalm ck lt s (execCalExport via chunk s) := by
  refine .command fun _ h => .ite (reply_calm h ..) ?_
  split
  · exact reply_calm h ..
  · exact .ite (reply_calm h ..) <| reply_calm h ..

/-- CAL_IMPORT. -/
theorem execCalImport_calm (via chunk data last s) : NextCalm ck lt s (execCalImport via chunk data last s) := by
  refine .command fun _ h => .ite (reply_calm h ..) <| .ite (reply_calm h ..) <| .ite (reply_calm (.upd h) ..) ?_
  dsimp only
  split
  · exact reply_calm (.upd h) ..
  · exact startStore_calm (.upd h) ..

/-- CAL_COEF_READ. -/
theorem execCalCoefRead_calm (via port n stage first count anchor s) :
    NextCalm ck lt s (execCalCoefRead via port n stage first count anchor s) :=
  .command fun _ h =>
    .ite (.dite (fun _ => .ite (reply_calm h ..) <| reply_calm h ..) fun _ => reply_calm h ..) <|
    .dite (fun _ =>
        .ite (reply_calm h ..) <|
        .ite (reply_calm h ..) <| .ite (reply_calm h ..) <| .ite (reply_calm h ..) <| reply_calm h ..) fun _ =>
      reply_calm h ..

/-- CAL_LIMITS_READ. -/
theorem execCalLimitsRead_calm (via s) : NextCalm ck lt s (execCalLimitsRead via s) :=
  .command fun _ h => reply_calm h ..

/-! ### The commands of Machine/SelfTest -/

/-- BIST_RUN. -/
theorem execBistRun_calm (via pods hub groups banks diag raw repair s) :
    NextCalm ck lt s (execBistRun via pods hub groups banks diag raw repair s) :=
  .command fun _ h =>
    .ite (reply_calm h ..) <|
    .ite (reply_calm h ..) <| .ite (reply_calm h ..) <| .ite (reply_calm h ..) <| bistNext_calm (.upd h) _

/-- BIST_BANK_DONE. -/
theorem execBistBankDone_calm (found s) : NextCalm ck lt s (execBistBankDone found s) := by
  refine .next ?_
  split
  · exact .refl _
  · split
    · exact .refl _
    · extract_lets code s₁ test s₂ x s₃
      have h₁ : CalmBut ck lt s s₂ := .upd (setBankResult_calm (.refl _) ..)
      have h₂ : CalmBut ck lt s x.1 := repairRows_calm h₁ ..
      have h₃ : CalmBut ck lt s s₃ := .ite (.ite h₂ <| unrepairable_calm h₂ _) h₁
      split
      · exact bistNext_calm h₃ _
      · exact h₃

/-- BIST_READ. -/
theorem execBistRead_calm (via pod group bank s) : NextCalm ck lt s (execBistRead via pod group bank s) := by
  refine .command fun _ h => ?_
  split
  · exact reply_calm h ..
  · exact reply_calm h ..

/-- REPAIR_READ. -/
theorem execRepairRead_calm (via pod group s) : NextCalm ck lt s (execRepairRead via pod group s) := by
  refine .command fun _ h => ?_
  split
  · exact reply_calm h ..
  · exact reply_calm h ..

/-- FUSE_REPAIR. -/
theorem execFuseRepair_calm (via pods hub vppOk good s) : NextCalm ck lt s (execFuseRepair via pods hub vppOk good s) :=
  .command fun _ h =>
    .ite (reply_calm h ..) <|
    .ite (reply_calm h ..) <| .ite (reply_calm h ..) <| reply_calm (fuseRecords_calm (programMap_calm h ..) _) ..

/-- LOOP_SET. -/
theorem execLoopSet_calm (via p lanes kind heard s) : NextCalm ck lt s (execLoopSet via p lanes kind heard s) := by
  refine .portCommand fun _ h =>
    .ite (reply_calm h ..) <|
    .ite (reply_calm h ..) <| .ite (reply_calm h ..) <| .ite (reply_calm h ..) <| .ite (reply_calm h ..) ?_
  split
  · exact reply_calm (.foldl (fun _ _ h2 => .ite (queueCm_calm (setLoop_calm h2 ..) ..) <| modLane_calm h2 ..) h) ..
  · exact .foldl (fun _ _ h2 => .upd (queueCm_calm (setLoop_calm h2 ..) ..)) h
  · exact reply_calm (.foldl (fun _ _ h2 => modLane_calm h2 ..) h) ..

/-- LOOPBACK_REQ_RECEIVE. -/
theorem execLoopbackReqReceive_calm (p n s) : NextCalm ck lt s (execLoopbackReqReceive p n s) :=
  .next <| .ite (queueCm_calm (setLoop_calm (.refl _) ..) ..) <| queueCm_calm (.refl _) ..

/-- LOOPBACK_ACK_RECEIVE. -/
theorem execLoopbackAckReceive_calm (p n s) : NextCalm ck lt s (execLoopbackAckReceive p n s) :=
  .next <| .ite (.refl _) <| modPort_calm (setLoop_calm (.refl _) ..) ..

/-- LOOPBACK_DECLINE_RECEIVE. -/
theorem execLoopbackDeclineReceive_calm (p n _reason s) : NextCalm ck lt s (execLoopbackDeclineReceive p n _reason s) :=
  .next <| .ite (.refl _) <| loopReqFails_calm (.refl _) ..

/-- FAR_LOOPBACK_START. -/
theorem execFarLoopbackStart_calm (p n s) : NextCalm ck lt s (execFarLoopbackStart p n s) :=
  .next <|
  .ite (by
      dsimp only
      split
      · exact reply_calm (takeLoopReq_calm (modLane_calm (.refl _) ..) ..) ..
      · exact takeLoopReq_calm (modLane_calm (.refl _) ..) ..) <|
  .ite (modLane_calm (.refl _) ..) <| .refl _

/-- LOOPBACK_END_RECEIVE. -/
theorem execLoopbackEndReceive_calm (p n s) : NextCalm ck lt s (execLoopbackEndReceive p n s) := by
  refine .next ?_
  split
  · exact modLane_calm (.refl _) ..
  · exact modLane_calm (.refl _) ..
  · exact modLane_calm (.refl _) ..
  · exact modLane_calm (.refl _) ..
  · exact .refl _

/-- PRBS_LOCK. -/
theorem execPrbsLock_calm (p n rx s) : NextCalm ck lt s (execPrbsLock p n rx s) :=
  .next <| .ite (.refl _) <| modLane_calm (.refl _) ..

/-- PRBS_LOCK_LOSS. -/
theorem execPrbsLockLoss_calm (p n rx s) : NextCalm ck lt s (execPrbsLockLoss p n rx s) :=
  .next <| .ite (.refl _) <| modLane_calm (.refl _) ..

/-- BANDGAP_CHECK. -/
theorem execBandgapCheck_calm (die diff s) : NextCalm ck lt s (execBandgapCheck die diff s) :=
  .next <| bandgapSample_calm (.refl _) ..

/-- REF_CHECK. -/
theorem execRefCheck_calm (via bandgap slope inl s) : NextCalm ck lt s (execRefCheck via bandgap slope inl s) :=
  .command fun _ h =>
    reply_calm (bandgapSample_calm (.foldl (fun _ _ h2 => rampSample_calm (bandgapSample_calm h2 ..) ..) h) ..) ..

/-- JTAG_INSTRUCTION. -/
theorem execJtagInstruction_calm (opcode s) : NextCalm ck lt s (execJtagInstruction opcode s) := by
  refine .next <| .ite (.refl _) <| .ite (.ite (.upd (.refl _)) <| raise_calm (.upd (.refl _)) ..) ?_
  split
  · exact endCond_calm (.upd (.refl _)) ..
  · exact endCond_calm (.upd (.refl _)) ..
  · exact endCond_calm (.upd (.refl _)) ..
  · exact .ite (.upd (.refl _)) <| endCond_calm (.upd (.refl _)) ..
  · exact .upd (.refl _)

/-- SCAN_CHALLENGE. -/
theorem execScanChallenge_calm (via pods hub s) : NextCalm ck lt s (execScanChallenge via pods hub s) := by
  refine .next ?_
  split
  · exact command_calm (.refl _) _ _
      _ fun _ h => .ite (reply_calm h ..) <| .ite (reply_calm h ..) <| reply_calm (issueChallenge_calm h ..) ..
  · exact .ite (.refl _) <| issueChallenge_calm (.refl _) ..

/-- SCAN_CHALLENGE_EXPIRE. -/
theorem execScanChallengeExpire_calm (s) : NextCalm ck lt s (execScanChallengeExpire s) :=
  .next <| .upd (.refl _)

/-! ### The commands of Machine/Power -/

/-- AVS_EXAMINE. -/
theorem execAvsExamine_calm (k slacks s) : NextCalm ck lt s (execAvsExamine k slacks s) :=
  .ite .same <| .next <| setCond_calm (modPod_calm (.refl _) ..) ..

/-- AVS_WRITE_RETRY. -/
theorem execAvsWriteRetry_calm (k ok s) : NextCalm ck lt s (execAvsWriteRetry k ok s) :=
  .ite .same <|
  .ite .same <|
  .ite (.next <| modPod_calm (.refl _) ..) <|
  .ite (.next <| modPod_calm (.refl _) ..) <| .next <| raise_calm (modPod_calm (.refl _) ..) ..

/-- AVS_STATUS_POLL. -/
theorem execAvsStatusPoll_calm (k alert iout s) : NextCalm ck lt s (execAvsStatusPoll k alert iout s) :=
  .ite .same <| .next <| .ite (modPod_calm (.refl _) ..) <| endCond_calm (modPod_calm (.refl _) ..) ..

/-! ### The commands of Machine/Boot -/

/-- PE_PERST_N_RELEASE. -/
theorem execPePerstNRelease_calm (s) : NextCalm ck lt s (execPePerstNRelease s) :=
  .next <| .upd (.refl _)

/-- TRST_N_ASSERT. -/
theorem execTrstNAssert_calm (s) : NextCalm ck lt s (execTrstNAssert s) :=
  .next <| endCond_calm (.upd (.refl _)) ..

/-- BOOT_RPLL_TIMEOUT. -/
theorem execBootRpllTimeout_calm (s) : NextCalm ck lt s (execBootRpllTimeout s) :=
  .ite (.next <| .upd (.refl _)) .same

/-- BOOT_LEDGER_ANCHOR. -/
theorem execBootLedgerAnchor_calm (ring failedBits s) : NextCalm ck lt s (execBootLedgerAnchor ring failedBits s) :=
  .next <| .ite (.upd (imageRecord_calm (ledgerBootAnchor_calm (.refl _) ..) ..)) <| .refl _

/-- IMG_INFO. -/
theorem execImgInfo_calm (via s) : NextCalm ck lt s (execImgInfo via s) :=
  .command fun _ h => reply_calm h ..

/-- IMG_ERASE. -/
theorem execImgErase_calm (via blocks s) : NextCalm ck lt s (execImgErase via blocks s) :=
  .command fun _ h => .ite (reply_calm h ..) <| .ite (reply_calm h ..) <| .ite (reply_calm h ..) <| reply_calm (.upd h) ..

/-- IMG_ERASE_BLOCK_DONE. -/
theorem execImgEraseBlockDone_calm (s) : NextCalm ck lt s (execImgEraseBlockDone s) := by
  unfold execImgEraseBlockDone
  split
  · exact .ite (.next <| .upd (.refl _)) .same
  · exact .same

/-- IMG_WRITE. -/
theorem execImgWrite_calm (via ofs data s) : NextCalm ck lt s (execImgWrite via ofs data s) :=
  .command fun _ h => .ite (reply_calm h ..) <| .ite (reply_calm h ..) <| .upd h

/-- IMG_WRITE_STREAM. -/
theorem execImgWriteStream_calm (via ofs data s) : NextCalm ck lt s (execImgWriteStream via ofs data s) := by
  refine .command fun _ h => .ite (reply_calm h ..) ?_
  dsimp only
  split
  · exact reply_calm (streamRestart_calm h) ..
  · exact reply_calm (.upd h) ..

/-- IMG_CONFIRM. -/
theorem execImgConfirm_calm (via raiseSvn s) : NextCalm ck lt s (execImgConfirm via raiseSvn s) :=
  .command fun _ h =>
    .ite (reply_calm h ..) <|
    .ite (reply_calm h ..) <|
    .ite (reply_calm h ..) <|
    have h₁ := imageRecord_calm (.upd h) ..
    reply_calm (.ite (imageRecord_calm (.upd h₁) ..) h₁) ..

/-- DEV_RESET. -/
theorem execDevReset_calm (via delay s) : NextCalm ck lt s (execDevReset via delay s) :=
  .command fun _ h => .ite (reply_calm h ..) <| .ite (reply_calm h ..) <| reply_calm (.upd h) ..

/-! ### The commands of Machine/Faults -/

/-- FAULT_MESSAGE. -/
theorem execFaultMessage_calm (k s) : NextCalm ck lt s (execFaultMessage k s) :=
  .ite .same <| .next <| settleSafe_calm (.foldl (fun _ _ h => hubApply_calm h _) (messageLeaves_calm (.refl _) _))

/-- EVENT_CAUSE_EXPIRE. -/
theorem execEventCauseExpire_calm (c i s) : NextCalm ck lt s (execEventCauseExpire c i s) :=
  .next <| .ite (.refl _) <| settleSafe_calm (fltMod_calm (.refl _) ..)

/-- FI_ARM. -/
theorem execFiArm_calm (via code inst delay rep period count hold s) :
    NextCalm ck lt s (execFiArm via code inst delay rep period count hold s) := by
  refine .command fun _ h => .ite (reply_calm h ..) ?_
  split
  · exact reply_calm h ..
  · exact .ite (reply_calm h ..) <| .ite (reply_calm h ..) <| reply_calm (ledgerAppend_calm (.upd h) ..) ..

/-- FI_STOP. -/
theorem execFiStop_calm (via what s) : NextCalm ck lt s (execFiStop via what s) :=
  .command fun _ h => .ite (reply_calm h ..) <| .ite (reply_calm (.upd h) ..) <| reply_calm h ..

/-- FI_LIST. -/
theorem execFiList_calm (via s) : NextCalm ck lt s (execFiList via s) :=
  .command fun _ h => .ite (reply_calm h ..) <| reply_calm h ..

/-- INJECTION_DELIVER. -/
theorem execInjectionDeliver_calm (c i s) : NextCalm ck lt s (execInjectionDeliver c i s) :=
  .next <| .ite (raiseInjected_calm (.upd (.refl _)) ..) <| .refl _

/-- INJECT_HOLD_END. -/
theorem execInjectHoldEnd_calm (c i s) : NextCalm ck lt s (execInjectHoldEnd c i s) :=
  .next <| settleSafe_calm (fltMod_calm (.refl _) ..)

/-! ### The commands of Machine/Firmware -/

/-- COMMAND_START. -/
theorem execCommandStart_calm (via port lengthOk s) : NextCalm ck lt s (execCommandStart via port lengthOk s) := by
  refine .next ?_
  split
  · exact .ite (startPacket_calm (.refl _) ..) <| .refl _
  · split
    · exact .refl _
    · exact .ite (.upd (startPacket_calm (.upd (.refl _)) ..)) <| .refl _

/-- COMMAND_TIMEOUT. -/
theorem execCommandTimeout_calm (via s) : NextCalm ck lt s (execCommandTimeout via s) := by
  refine .next ?_
  split
  · exact .refl _
  · exact endCommand_calm (.refl _) ..

/-- FAR_CMD. -/
theorem execFarCmd_calm (via p packet s) : NextCalm ck lt s (execFarCmd via p packet s) :=
  .portCommand fun _ h =>
    .ite (reply_calm h ..) <| .ite (reply_calm h ..) <| .ite (reply_calm h ..) <| sendMgmt_calm (.upd h) ..

/-- FAR_REQUEST_RECEIVE. -/
theorem execFarRequestReceive_calm (p session tag frag last data s) :
    NextCalm ck lt s (execFarRequestReceive p session tag frag last data s) := by
  refine .next <| .ite (.refl _) ?_
  split
  · exact .upd (.refl _)
  · exact .ite (.upd (.refl _)) <| .ite (.upd (.upd (.refl _))) <| replyBy_calm (.upd (.refl _)) ..

/-- FAR_REPLY_RECEIVE. -/
theorem execFarReplyReceive_calm (p session tag frag last data s) :
    NextCalm ck lt s (execFarReplyReceive p session tag frag last data s) := by
  refine .next <| .ite (.refl _) ?_
  split
  · exact .refl _
  · dsimp only
    split
    · exact .upd (.refl _)
    · exact reply_calm (.upd (.upd (.refl _))) ..

/-- FAR_CMD_TIMEOUT. -/
theorem execFarCmdTimeout_calm (p s) : NextCalm ck lt s (execFarCmdTimeout p s) := by
  refine .next ?_
  split
  · exact .refl _
  · exact reply_calm (.upd (.refl _)) ..

/-- CLERK_RESTART_DONE. -/
theorem execClerkRestartDone_calm (stored s) : NextCalm ck lt s (execClerkRestartDone stored s) :=
  .next <| .ite (.refl _) <| .ite (.upd (.refl _)) <| .upd (.refl _)

/-- FIREWALL_VIOLATION. -/
theorem execFirewallViolation_calm (addr core s) : NextCalm ck lt s (execFirewallViolation addr core s) :=
  .next <| .ite (.refl _) <| .ite (ledgerAppend_calm (.upd (.refl _)) ..) <| .upd (.refl _)

/-- LIB_ROM_CHECK. -/
theorem execLibRomCheck_calm (ok s) : NextCalm ck lt s (execLibRomCheck ok s) :=
  .next <| .ite (.refl _) <| libIntegrity_calm (.refl _) _

/-- LIB_FIREWALL_CHECK. -/
theorem execLibFirewallCheck_calm (ok s) : NextCalm ck lt s (execLibFirewallCheck ok s) :=
  .next <| .ite (.refl _) <| libIntegrity_calm (.refl _) _

/-- LIB_WATCHDOG_EXPIRE. -/
theorem execLibWatchdogExpire_calm (s) : NextCalm ck lt s (execLibWatchdogExpire s) :=
  .next <| .ite (.refl _) <| libIntegrity_calm (.refl _) _

/-! ### The commands of Machine/Ledger -/

/-- LEDGER_INFO. -/
theorem execLedgerInfo_calm (via s) : NextCalm ck lt s (execLedgerInfo via s) :=
  .command fun _ h => reply_calm h ..

/-- LEDGER_READ. -/
theorem execLedgerRead_calm (via first count s) : NextCalm ck lt s (execLedgerRead via first count s) :=
  .command fun _ h => .ite (reply_calm h ..) <| reply_calm h ..

/-- LEDGER_SEAL. -/
theorem execLedgerSeal_calm (via programOk s) : NextCalm ck lt s (execLedgerSeal via programOk s) :=
  .command fun _ h => .ite (reply_calm h ..) <| reply_calm (ledgerMakeSeal_calm h _) ..

/-- LEDGER_NOTE. -/
theorem execLedgerNote_calm (via text s) : NextCalm ck lt s (execLedgerNote via text s) :=
  .command fun _ h =>
    .ite (reply_calm h ..) <| .ite (reply_calm h ..) <| .ite (reply_calm h ..) <| reply_calm (ledgerAppend_calm h ..) ..

/-- ATTEST_QUOTE. -/
theorem execAttestQuote_calm (via nonce s) : NextCalm ck lt s (execAttestQuote via nonce s) :=
  .command fun _ h => .ite (reply_calm h ..) <| reply_calm h ..

/-- CERT_READ. -/
theorem execCertRead_calm (via chunk s) : NextCalm ck lt s (execCertRead via chunk s) :=
  .command fun _ h => .ite (reply_calm h ..) <| reply_calm (.upd h) ..

/-- KEY_REVOKE. -/
theorem execKeyRevoke_calm (via slot sig vppOk s) : NextCalm ck lt s (execKeyRevoke via slot sig vppOk s) :=
  .command fun _ h =>
    .ite (reply_calm h ..) <|
    .ite (reply_calm h ..) <|
    .ite (reply_calm h ..) <|
    .ite (reply_calm h ..) <|
    reply_calm (imageRecord_calm (.upd h) ..) ..

/-- SEAL_DUE. -/
theorem execSealDue_calm (programOk s) : NextCalm ck lt s (execSealDue programOk s) :=
  .next <| .ite (.refl _) <| .ite (ledgerProgram_calm (.refl _) _) <| ledgerMakeSeal_calm (.refl _) _

/-- COUNTERS_RECORD_DUE. -/
theorem execCountersRecordDue_calm (s) : NextCalm ck lt s (execCountersRecordDue s) :=
  .next <|
  .ite (.refl _) <|
  .foldl (fun _ _ h => modPort_calm (.ite (ledgerAppend_calm (modPort_calm h ..) ..) <| modPort_calm h ..) ..) (.refl _)

/-- WITNESS_SEND. -/
theorem execWitnessSend_calm (s) : NextCalm ck lt s (execWitnessSend s) := by
  refine .next ?_
  split
  · exact .ite (.refl _) <| stkDeliver_calm (.refl _) _
  · exact .refl _

/-- ALLOWANCE_REFILL. -/
theorem execAllowanceRefill_calm (s) : NextCalm ck lt s (execAllowanceRefill s) :=
  .next <| .ite (summaries_calm (.upd (.refl _)) _) <| .upd (.refl _)

end Sys2Proof
end

section
/-!
PROOFS. The calm commands of the line, and all of them together (O40).
-/
namespace Sys2Proof

open Sys2Proof.Machine

variable {ck lt : Bool}

/-! ### The commands of Machine/Transmit -/

/-- FFE_WALK_STEP. -/
theorem execFfeWalkStep_calm (p n s) : NextCalm ck lt s (execFfeWalkStep p n s) :=
  .next <| .ite (modLane_calm (.refl _) ..) <| .refl _

/-- DAC_CELL_EXCHANGE. -/
theorem execDacCellExchange_calm (p n s) : NextCalm ck lt s (execDacCellExchange p n s) := by
  refine .next ?_
  split
  · exact .refl _
  · exact .ite (.refl _) <| modLane_calm (.refl _) ..

/-- RANGE_IDLE_START. -/
theorem execRangeIdleStart_calm (p n s) : NextCalm ck lt s (execRangeIdleStart p n s) :=
  .next <| .ite (.refl _) <| modLane_calm (.refl _) ..

/-- RANGE_TAKE_EFFECT. -/
theorem execRangeTakeEffect_calm (p n s) : NextCalm ck lt s (execRangeTakeEffect p n s) := by
  refine .next ?_
  split
  · exact .refl _
  · exact .ite (.refl _) <| modLane_calm (.refl _) ..

/-- COMPLIANCE_INTERVAL. -/
theorem execComplianceInterval_calm (p n vcm pMax pMin nMax nMin swing s) :
    NextCalm ck lt s (execComplianceInterval p n vcm pMax pMin nMax nMin swing s) :=
  .next <|
  .ite (.refl _) <|
  .ite (endCond_calm (modLane_calm (.refl _) ..) ..) <| raise_calm (modLane_calm (modLane_calm (.refl _) ..) ..) ..

/-- TONE_RAMP_RELOAD. -/
theorem execToneRampReload_calm (p n samples s) : NextCalm ck lt s (execToneRampReload p n samples s) :=
  .next <| modLane_calm (.refl _) ..

/-! ### The commands of Machine/Receive -/

/-- AGC_STEP. -/
theorem execAgcStep_calm (p n samples s) : NextCalm ck lt s (execAgcStep p n samples s) :=
  .next <|
  .ite (receive_calm (.refl _) ..) <|
  .ite (modLane_calm (receive_calm (.refl _) ..) ..) <|
  .ite (.ite (modLane_calm (receive_calm (.refl _) ..) ..) <| modLane_calm (modLane_calm (receive_calm (.refl _) ..) ..) ..) <|
  modLane_calm (modLane_calm (receive_calm (.refl _) ..) ..) ..

/-- SLICE_SWAP. -/
theorem execSliceSwap_calm (p n s) : NextCalm ck lt s (execSliceSwap p n s) :=
  .next <| .ite (.refl _) <| modLane_calm (.refl _) ..

/-- SLICE_CAL_DONE. -/
theorem execSliceCalDone_calm (p n cal diff comps slope inl s) : NextCalm ck lt s (execSliceCalDone p n cal diff comps slope inl s) :=
  .next <|
  .ite (.refl _) <|
  .ite (rampSample_calm (checkSpare_calm (modLane_calm (.refl _) ..) ..) ..) <| checkSpare_calm (modLane_calm (.refl _) ..) ..

/-- ECHO_SEARCH_END. -/
theorem execEchoSearchEnd_calm (p n samples s) : NextCalm ck lt s (execEchoSearchEnd p n samples s) :=
  .next <| .ite (.refl _) <| modLane_calm (.refl _) ..

/-- ECHO_CONVERGE. -/
theorem execEchoConverge_calm (p n powers samples s) : NextCalm ck lt s (execEchoConverge p n powers samples s) :=
  .next <|
  .ite (.refl _) <|
  .ite (tsRise_calm (modLane_calm (receive_calm (.refl _) ..) ..) _) <| modLane_calm (receive_calm (.refl _) ..) ..

/-- SNR_WINDOW_END. -/
theorem execSnrWindowEnd_calm (p n lock trials samples s) : NextCalm ck lt s (execSnrWindowEnd p n lock trials samples s) :=
  .next <|
  .ite (receive_calm (.refl _) ..) <|
  .ite (tsRise_calm (modLane_calm (receive_calm (.refl _) ..) ..) _) <| modLane_calm (receive_calm (.refl _) ..) ..

/-- ALIGN_FOLIO_RECEIVE. -/
theorem execAlignFolioReceive_calm (p n decisions samples s) : NextCalm ck lt s (execAlignFolioReceive p n decisions samples s) :=
  .next <|
  .ite (receive_calm (.refl _) ..) <| anchorPoint_calm (modLane_calm (echoReport_calm (receive_calm (.refl _) ..) ..) ..) ..

/-- ANCHOR_REVERT. -/
theorem execAnchorRevert_calm (p n s) : NextCalm ck lt s (execAnchorRevert p n s) :=
  .next <| .ite (.refl _) <| .ite (raise_calm (modLane_calm (.refl _) ..) ..) <| modLane_calm (.refl _) ..

/-- EYE_HEIGHT_UPDATE. -/
theorem execEyeHeightUpdate_calm (p n codes s) : NextCalm ck lt s (execEyeHeightUpdate p n codes s) :=
  .next <| .ite (.refl _) <| modLane_calm (.refl _) ..

/-- EYE_WIDTH_UPDATE. -/
theorem execEyeWidthUpdate_calm (p n offsets s) : NextCalm ck lt s (execEyeWidthUpdate p n offsets s) :=
  .next <| .ite (.refl _) <| modLane_calm (.refl _) ..

/-! ### The commands of Machine/Lre -/

/-- NAK_REPEAT_DUE. -/
theorem execNakRepeatDue_calm (p n slot s) : NextCalm ck lt s (execNakRepeatDue p n slot s) :=
  .next <| modPort_calm (.refl _) ..

/-! ### The commands of Machine/FolioRx -/

/-- BLOCK_LOCK_ACQUIRE. -/
theorem execBlockLockAcquire_calm (p n headers s) : NextCalm ck lt s (execBlockLockAcquire p n headers s) :=
  .next <| .ite (.refl _) <| modLane_calm (.refl _) ..

/-- BLOCK_LOCK_LOSS. -/
theorem execBlockLockLoss_calm (p n s) : NextCalm ck lt s (execBlockLockLoss p n s) :=
  .next <| .ite (.refl _) <| ownTrigger_calm (modLane_calm (.refl _) ..) ..

/-- ALIGNMENT_LOSS. -/
theorem execAlignmentLoss_calm (p n s) : NextCalm ck true s (execAlignmentLoss p n s) :=
  .next <| .ite (.refl _) <| framingFails_calm (ownTrigger_calm (modLane_calm (.refl _) ..) ..) ..

/-- FOLLOWER_COUNT_LOAD. -/
theorem execFollowerCountLoad_calm (p n s) : NextCalm ck lt s (execFollowerCountLoad p n s) := by
  refine .next ?_
  dsimp only
  split
  · exact .ite (.refl _) <| modPort_calm (.refl _) ..
  · exact .refl _

/-! ### The commands of Machine/Lanes -/

/-- ALIGN_TIMEOUT. -/
theorem execAlignTimeout_calm (p s) : NextCalm ck lt s (execAlignTimeout p s) :=
  .next <| .ite (.refl _) <| .ite (modPort_calm (.refl _) ..) <| downDue_calm (.refl _) ..

/-- LANE_QUARANTINE. -/
theorem execLaneQuarantine_calm (p n s) : NextCalm ck lt s (execLaneQuarantine p n s) := by
  refine .next ?_
  split
  · exact .ite (.refl _) <| sendLaneNotice_calm (quarantine_calm (.refl _) ..) ..
  · exact .refl _

/-- PARTNER_QUARANTINE. -/
theorem execPartnerQuarantine_calm (p n s) : NextCalm ck lt s (execPartnerQuarantine p n s) := by
  refine .next ?_
  split
  · exact .ite (.refl _) <| quarantine_calm (.refl _) ..
  · exact .refl _

/-- READD_HOLDOFF_EXPIRE. -/
theorem execReaddHoldoffExpire_calm (p n s) : NextCalm ck lt s (execReaddHoldoffExpire p n s) := by
  refine .next <| .ite (.refl _) ?_
  split
  · exact sendAddNotice_calm (.refl _) ..
  · exact sendAddNotice_calm (.refl _) ..
  · exact modPort_calm (.refl _) ..
  · exact modPort_calm (.refl _) ..
  · exact .refl _

/-- ADD_ATTEMPT_TIMEOUT. -/
theorem execAddAttemptTimeout_calm (p n s) : NextCalm ck true s (execAddAttemptTimeout p n s) :=
  .next <| .ite (judgeWaiting_calm (failAdd_calm (.refl _) ..) _) <| .refl _

/-- LANE_NOTICE_RECEIVE. -/
theorem execLaneNoticeReceive_calm (p id kind quar nextMap epoch s) :
    NextCalm ck lt s (execLaneNoticeReceive p id kind quar nextMap epoch s) := by
  unfold execLaneNoticeReceive
  refine .next <| .ite (.refl _) ?_
  have h {f} : CalmBut ck lt s (wakeTrigger p (s.modPort p f)) := wakeTrigger_calm (modPort_calm (.refl s) ..) _
  refine .ite (sendAck_calm (.foldl (fun _ _ h => .ite (shedTrigger_calm h ..) h) (modPort_calm h ..)) ..) <|
    .ite h <|
    .ite (sendAck_calm h ..) <|
    .ite (sendAck_calm (adoptPlan_calm (modPort_calm h ..) ..) ..) <|
    .ite (sendDecline_calm (modPort_calm h ..) ..) ?_
  split
  · exact sendAck_calm (adoptPlan_calm h ..) ..
  · exact h

/-- ADD_NOTICE_RECEIVE. -/
theorem execAddNoticeReceive_calm (p id n s) : NextCalm ck lt s (execAddNoticeReceive p id n s) :=
  .next <|
  .ite (.refl _) <|
  .ite (sendDecline_calm (wakeTrigger_calm (.refl _) _) ..) <|
  .ite (sendDecline_calm (wakeTrigger_calm (.refl _) _) ..) <|
  .ite (sendDecline_calm (wakeTrigger_calm (.refl _) _) ..) <|
  beginAdd_calm (sendAck_calm (modPort_calm (wakeTrigger_calm (.refl _) _) ..) ..) ..

/-- NOTICE_ACK_RECEIVE. -/
theorem execNoticeAckReceive_calm (p id typ what epoch s) : NextCalm ck lt s (execNoticeAckReceive p id typ what epoch s) :=
  .next <|
  .ite (.refl _) <|
  .ite (.refl _) <|
  .ite (.dite (fun _ => .ite (beginAdd_calm (modPort_calm (.refl _) ..) ..) <| modPort_calm (.refl _) ..) fun _ =>
      modPort_calm (.refl _) ..) <|
  .ite
    (.ite (modPort_calm (modPort_calm (.refl _) ..) ..) <|
    .ite (modPort_calm (modPort_calm (.refl _) ..) ..) <| modPort_calm (.refl _) ..) <|
  modPort_calm (.refl _) ..

/-- NOTICE_DECLINE_RECEIVE. -/
theorem execNoticeDeclineReceive_calm (p id typ lane reason epoch s) :
    NextCalm ck true s (execNoticeDeclineReceive p id typ lane reason epoch s) :=
  .next <|
  .ite (.refl _) <|
  .ite (.refl _) <|
  .ite (.ite (modPort_calm (modPort_calm (.refl _) ..) ..) <| modPort_calm (.refl _) ..) <|
  .dite (fun _ =>
      .ite (modPort_calm (.refl _) ..) <|
      .ite (modPort_calm (modPort_calm (.refl _) ..) ..) <|
      judgeWaiting_calm (failAdd_calm (modPort_calm (.refl _) ..) ..) _) fun _ =>
    modPort_calm (.refl _) ..

/-! ### The commands of Machine/Sounding -/

/-- PREAMBLE_DETECT. -/
theorem execPreambleDetect_calm (p cm rx0 tx0 since s) : NextCalm ck lt s (execPreambleDetect p cm rx0 tx0 since s) :=
  .next <| .ite (.refl _) <| modInst_calm (.refl _) ..

/-- FALSE_DETECT. -/
theorem execFalseDetect_calm (p cm s) : NextCalm ck lt s (execFalseDetect p cm s) :=
  .next <| .ite (.refl _) <| modInst_calm (.refl _) ..

/-- SND_RECEPTION_TRUNCATE. -/
theorem execSndReceptionTruncate_calm (p cm w1 w2 s) : NextCalm ck lt s (execSndReceptionTruncate p cm w1 w2 s) :=
  .next <| .ite (.refl _) <| modInst_calm (.refl _) ..

/-- SND_HEADER_RECEIVE. -/
theorem execSndHeaderReceive_calm (p cm w s) : NextCalm ck lt s (execSndHeaderReceive p cm w s) := by
  refine .next ?_
  split
  · exact .ite (modInst_calm (.refl _) ..) <| modInst_calm (.refl _) ..
  · exact .ite (modInst_calm (.refl _) ..) <| modInst_calm (.refl _) ..
  · exact .refl _

/-- SND_FRAME_RECEIVE. -/
theorem execSndFrameReceive_calm (p cm raw s) : NextCalm ck lt s (execSndFrameReceive p cm raw s) := by
  refine .next ?_
  dsimp only
  split
  · exact .ite (modInst_calm (.refl _) ..) <| modInst_calm (.refl _) ..
  · exact .refl _

/-- CM_FRAME_SEND. -/
theorem execCmFrameSend_calm (p clear s) : NextCalm ck lt s (execCmFrameSend p clear s) := by
  refine .next <| .ite (.refl _) ?_
  split
  · exact .refl _
  · split
    · exact modPort_calm (.refl _) ..
    · exact .ite (modPort_calm (.refl _) ..) <| .refl _

/-- SOUND_ROUND. -/
theorem execSoundRound_calm (p s) : NextCalm ck lt s (execSoundRound p s) :=
  .next <| .ite (.refl _) <| modPort_calm (draw_calm (.refl _)) ..

/-- CALL_SEND. -/
theorem execCallSend_calm (p s) : NextCalm ck lt s (execCallSend p s) :=
  .next <| .ite (.refl _) <| modPort_calm (.refl _) ..

/-- SOUND_WINDOW_END. -/
theorem execSoundWindowEnd_calm (p s) : NextCalm ck lt s (execSoundWindowEnd p s) :=
  .next <| .ite (.refl _) <| .ite (toClause73_calm (.refl _) _) <| soundWindow_calm (modPort_calm (.refl _) ..) _

/-! ### The commands of Machine/Parley -/

/-- TURN_REPLY. -/
theorem execTurnReply_calm (p s) : NextCalm ck lt s (execTurnReply p s) := by
  refine .next ?_
  dsimp only
  split
  · exact .refl _
  · exact .ite (.refl _) <|
    modPort_calm (by
        split
        · exact .ite (enterParley_calm (.refl _) ..) <| .refl _
        · exact .refl _) ..

/-- CALL_RECEIVE. -/
theorem execCallReceive_calm (p c sf snr s) : NextCalm ck lt s (execCallReceive p c sf snr s) :=
  .next <|
  .ite (.refl _) <|
  .ite (.ite (.refl _) <| answerCall_calm (.refl _) ..) <|
  .ite (answerCall_calm (enterSound_calm (setWaiting_calm (modPort_calm (.refl _) ..) ..) _) ..) <|
  .ite (by
      split
      · exact .ite (modPort_calm (.refl _) ..) <| .refl _
      · exact .refl _) <|
  .refl _

/-- RETURN_RECEIVE. -/
theorem execReturnReceive_calm (p c cRand cUid cPort pairTx sf s) :
    NextCalm ck lt s (execReturnReceive p c cRand cUid cPort pairTx sf s) :=
  .next <| .ite (.refl _) <| modPort_calm (enterParley_calm (modPort_calm (.refl _) ..) ..) ..

/-- PROBE_RECEIVE. -/
theorem execProbeReceive_calm (p session mask est measured rtt s) :
    NextCalm ck lt s (execProbeReceive p session mask est measured rtt s) :=
  .next <|
  .ite (.refl _) <|
  .ite (.ite (.refl _) <| sendOffer_calm (modPort_calm (.refl _) ..) ..) <|
  .ite (modPort_calm (.refl _) ..) <| modPort_calm (.refl _) ..

/-- OFFER_RECEIVE. -/
theorem execOfferReceive_calm (p session o s) : NextCalm ck lt s (execOfferReceive p session o s) :=
  .next <|
  .ite (.refl _) <|
  .ite (modPort_calm (.refl _) ..) <|
  .ite (modPort_calm (modPort_calm (.refl _) ..) ..) <|
  .ite (modPort_calm (needFreq_calm (modPort_calm (.refl _) ..) ..) ..) <| modPort_calm (modPort_calm (.refl _) ..) ..

/-- ACCEPT_RECEIVE. -/
theorem execAcceptReceive_calm (p session no s) : NextCalm ck lt s (execAcceptReceive p session no s) := by
  refine .next <| .ite (.refl _) ?_
  split
  · refine .ite (.refl _) ?_
    split
    · exact failParley_calm (.refl _) ..
    · exact .ite (modPort_calm (needFreq_calm (.refl _) ..) ..) <| sendOffer_calm (.refl _) ..
  · exact .refl _

/-- REFUSE_RECEIVE. -/
theorem execRefuseReceive_calm (p session no rates s) : NextCalm ck lt s (execRefuseReceive p session no rates s) := by
  refine .next <| .ite (.refl _) ?_
  split
  · exact .ite (.refl _) <| sendOffer_calm (modPort_calm (.refl _) ..) ..
  · exact .refl _

/-- GO_RECEIVE. -/
theorem execGoReceive_calm (p session s) : NextCalm ck lt s (execGoReceive p session s) :=
  .next <| .ite (.refl _) <| applyGo_calm (.refl _) _

/-- PARLEY_RESEND. -/
theorem execParleyResend_calm (p s) : NextCalm ck lt s (execParleyResend p s) :=
  .next <| .ite (.refl _) <| .ite (modPort_calm (.refl _) ..) <| .ite (diagEnd_calm (.refl _) ..) <| .refl _

/-- PARLEY_TIMEOUT. -/
theorem execParleyTimeout_calm (p exhausted s) : NextCalm ck lt s (execParleyTimeout p exhausted s) :=
  .next <| .ite (.refl _) <| failParley_calm (.refl _) ..

/-- NEG_RETRY_EXPIRE. -/
theorem execNegRetryExpire_calm (p sub s) : NextCalm ck lt s (execNegRetryExpire p sub s) := by
  refine .next <| .ite (.refl _) ?_
  split
  · exact .ite (.refl _) <| startLink_calm (modPort_calm (.refl _) ..) _
  · exact .ite (.refl _) <|
    .ite (startLink_calm (modPort_calm (.refl _) ..) _) <|
    .ite (enterIeee_calm (modPort_calm (.refl _) ..) ..) <| modPort_calm (.refl _) ..

/-- SOUNDING_FRAME_SENT. -/
theorem execSoundingFrameSent_calm (p kind s) : NextCalm ck lt s (execSoundingFrameSent p kind s) := by
  refine .next ?_
  dsimp only
  split
  · split
    · exact diffSent_calm (.refl _) ..
    · exact .refl _
  · split
    · exact modPort_calm (.refl _) ..
    · exact .refl _
  · split
    · exact modPort_calm (.refl _) ..
    · exact .refl _

/-! ### The commands of Machine/Train -/

/-- TRAIN_START. -/
theorem execTrainStart_calm (p s) : NextCalm ck lt s (execTrainStart p s) :=
  .next <| .ite (.refl _) <| .ite (needFreq_calm (.refl _) ..) <| .ite (.refl _) <| setLink_calm (modPort_calm (.refl _) ..) ..

/-- TRAIN_STAT_SEND. -/
theorem execTrainStatSend_calm (p req s) : NextCalm ck lt s (execTrainStatSend p req s) :=
  .next <| .ite (.refl _) <| queueTs_calm (modPort_calm (.refl _) ..) _

/-- TRAIN_STAT_RECEIVE. -/
theorem execTrainStatReceive_calm (p session step seq conv cdr req ack set s) :
    NextCalm ck lt s (execTrainStatReceive p session step seq conv cdr req ack set s) :=
  .next <|
  .ite (.refl _) <|
  have h₁ := CalmBut.ite (modPort_calm (.refl s) ..) (.refl s)
  have h₂ := modPort_calm (modPort_calm h₁ ..) ..
  have h₃ := setJudged_calm (modPort_calm (modPort_calm h₁ ..) ..) _
  .ite
    (.ite (queueTs_calm (modPort_calm h₁ ..) _) <|
    .ite (.ite (queueTs_calm h₂ _) h₂) <|
    modPort_calm h₁ ..) <|
  .ite (modPort_calm h₃ ..) h₃

/-- TRAIN_STEP_SWITCH. -/
theorem execTrainStepSwitch_calm (p s) : NextCalm ck lt s (execTrainStepSwitch p s) := by
  refine .next ?_
  dsimp only
  split
  · exact .refl _
  · exact .ite (.refl _) <| .ite (toAlign_calm (.refl _) _) <| modPort_calm (.refl _) ..

/-- TRAIN_STEP_TIMEOUT. -/
theorem execTrainStepTimeout_calm (p s) : NextCalm ck lt s (execTrainStepTimeout p s) :=
  .next <| .ite (.refl _) <| .ite (failTrain_calm (.refl _) ..) <| queueTs_calm (modPort_calm (.refl _) ..) _

/-- TRAIN_PARTNER_TIMEOUT. -/
theorem execTrainPartnerTimeout_calm (p s) : NextCalm ck lt s (execTrainPartnerTimeout p s) :=
  .next <| .ite (failTrain_calm (.refl _) ..) <| .refl _

/-- TRAIN_TIMEOUT. -/
theorem execTrainTimeout_calm (p s) : NextCalm ck lt s (execTrainTimeout p s) :=
  .next <| .ite (failTrain_calm (.refl _) ..) <| .refl _

/-- PORT_DOWN_ENTER. -/
theorem execPortDownEnter_calm (p s) : NextCalm ck lt s (execPortDownEnter p s) := by
  refine .next ?_
  dsimp only
  split
  · exact .refl _
  · exact
      have h := enterDown_calm (.ite (diagEnd_calm (.refl s) ..) (.refl s)) ..
      startLink_calm (modPort_calm (.ite h <| setWaiting_calm h ..) ..) _

/-! ### The commands of Machine/Link -/

/-- LINK_SNAP_TAKE. -/
theorem execLinkSnapTake_calm (p s) : NextCalm ck lt s (execLinkSnapTake p s) :=
  .next <| .ite (.refl _) <| modPort_calm (.refl _) ..

/-- QUIET_REQUEST. -/
theorem execQuietRequest_calm (p s) : NextCalm ck lt s (execQuietRequest p s) :=
  .next <| .ite (.refl _) <| queueCm_calm (modPort_calm (.refl _) ..) ..

/-- QUIET_REQ_RECEIVE. -/
theorem execQuietReqReceive_calm (p epoch s) : NextCalm ck lt s (execQuietReqReceive p epoch s) := by
  refine .next <| .ite (.refl _) ?_
  split
  · exact modPort_calm (.refl _) ..
  · exact .ite (queueCm_calm (.refl _) ..) <| .ite (queueCm_calm (modPort_calm (.refl _) ..) ..) <| queueCm_calm (.refl _) ..

/-- QUIET_ACK_RECEIVE. -/
theorem execQuietAckReceive_calm (p epoch s) : NextCalm ck lt s (execQuietAckReceive p epoch s) :=
  .next <| .ite (modPort_calm (.refl _) ..) <| .refl _

/-- QUIET_DECLINE_RECEIVE. -/
theorem execQuietDeclineReceive_calm (p epoch s) : NextCalm ck lt s (execQuietDeclineReceive p epoch s) :=
  .next <| .ite (.refl _) <| modPort_calm (.refl _) ..

/-- QUIET_ENTER. -/
theorem execQuietEnter_calm (p s) : NextCalm ck lt s (execQuietEnter p s) :=
  .next <| .ite (.refl _) <| reHold_calm (holdFall_calm (guarJudge_calm (setLink_calm (modPort_calm (.refl _) ..) ..) _) _) _

/-- REFRESH_WINDOW_START. -/
theorem execRefreshWindowStart_calm (p s) : NextCalm ck lt s (execRefreshWindowStart p s) :=
  .next <| .ite (.refl _) <| standingTriggers_calm (modPort_calm (.refl _) ..) _

/-- REFRESH_WINDOW_END. -/
theorem execRefreshWindowEnd_calm (p s) : NextCalm ck lt s (execRefreshWindowEnd p s) :=
  .next <|
  .ite (.refl _) <|
  .ite (wakeStart_calm (modPort_calm (.foldl (fun _ _ h => .ite (windowDrift_calm h ..) h) (.refl _)) ..) ..) <|
  modPort_calm (modPort_calm (.foldl (fun _ _ h => .ite (windowDrift_calm h ..) h) (.refl _)) ..) ..

/-- WAKE_TRIGGER. -/
theorem execWakeTrigger_calm (p why s) : NextCalm ck lt s (execWakeTrigger p why s) := by
  refine .next ?_
  split
  · exact .ite (.refl _) <| wakeTrigger_calm (.refl _) _
  · exact .ite (wakeTrigger_calm (.refl _) _) <| .refl _
  · exact .ite (wakeTrigger_calm (.refl _) _) <| .refl _
  · exact wakeTrigger_calm (.refl _) _

/-- WAKE_TX_DATA. -/
theorem execWakeTxData_calm (p s) : NextCalm ck lt s (execWakeTxData p s) :=
  .next <| .ite (.refl _) <| wakeComplete_calm (modPort_calm (.refl _) ..) _

/-- WAKE_RESPOND. -/
theorem execWakeRespond_calm (p s) : NextCalm ck lt s (execWakeRespond p s) :=
  .next <| .ite (.refl _) <| wakeComplete_calm (modPort_calm (.refl _) ..) _

/-- WAKE_BURST_TIMEOUT. -/
theorem execWakeBurstTimeout_calm (p s) : NextCalm ck lt s (execWakeBurstTimeout p s) :=
  .next <|
  .ite (.refl _) <|
  .ite (wakeComplete_calm (modPort_calm (.refl _) ..) _) <| .ite (modPort_calm (.refl _) ..) <| modPort_calm (.refl _) ..

/-- WAKE_TIMEOUT. -/
theorem execWakeTimeout_calm (p s) : NextCalm ck lt s (execWakeTimeout p s) :=
  .next <| .ite (.refl _) <| downDue_calm (modPort_calm (.refl _) ..) ..

/-- WAKE_BURST_DETECT. -/
theorem execWakeBurstDetect_calm (p s) : NextCalm ck lt s (execWakeBurstDetect p s) :=
  .next <|
  .ite (.refl _) <|
  reHold_calm
    (.ite (holdFall_calm (modPort_calm (setLink_calm (.refl _) ..) ..) _) <| modPort_calm (setLink_calm (.refl _) ..) ..) _

/-! ### The commands of Machine/Ieee -/

/-- LPLL_RELOCK_DONE. -/
theorem execLpllRelockDone_calm (k g s) : NextCalm ck lt s (execLpllRelockDone k g s) :=
  .next <| .ite (.refl _) <| groupLocked_calm (.refl _) ..

/-- CLAUSE73_PAGE_RECEIVE. -/
theorem execClause73PageReceive_calm (p i page able s) : NextCalm ck lt s (execClause73PageReceive p i page able s) :=
  .next <|
  .ite (.refl _) <|
  .ite (.ite (modSub_calm (toClause73_calm (.refl _) _) ..) <| .refl _) <| .ite (modSub_calm (.refl _) ..) <| .refl _

/-- CLAUSE73_RESOLVE. -/
theorem execClause73Resolve_calm (p i s) : NextCalm ck lt s (execClause73Resolve p i s) :=
  .next <|
  .ite (.refl _) <|
  .ite (subTrain_calm (needFreq_calm (modSub_calm (.refl _) ..) ..) ..) <|
  modSub_calm (needFreq_calm (modSub_calm (.refl _) ..) ..) ..

/-- AN_ATTEMPT_TIMEOUT. -/
theorem execAnAttemptTimeout_calm (p i s) : NextCalm ck lt s (execAnAttemptTimeout p i s) :=
  .next <|
  .ite (.refl _) <|
  .ite
    (enterSound_calm
      (.ite (waitingDone_calm (modSub_calm (modSub_calm (.refl _) ..) ..) _) <| modSub_calm (modSub_calm (.refl _) ..) ..) _) <|
  .ite (waitingDone_calm (modSub_calm (modSub_calm (.refl _) ..) ..) _) <| modSub_calm (modSub_calm (.refl _) ..) ..

/-- IEEE_TRAIN_DONE. -/
theorem execIeeeTrainDone_calm (p i partnerAsks wants reqs s) : NextCalm ck lt s (execIeeeTrainDone p i partnerAsks wants reqs s) :=
  .next <| .ite (.refl _) <| setLink_calm (mapLanes_calm (modSub_calm (.refl _) ..) ..) ..

/-- IEEE_TRAIN_TIMEOUT. -/
theorem execIeeeTrainTimeout_calm (p i s) : NextCalm ck lt s (execIeeeTrainTimeout p i s) :=
  .next <| .ite (subDown_calm (.refl _) ..) <| .refl _

/-- IEEE_SUBPORT_FAIL. -/
theorem execIeeeSubportFail_calm (p i why s) : NextCalm ck lt s (execIeeeSubportFail p i why s) :=
  .next <| .ite (subDown_calm (.refl _) ..) <| .refl _

/-- CDR_LOCK_LOST. -/
theorem execCdrLockLost_calm (p n s) : NextCalm ck true s (execCdrLockLost p n s) := by
  refine .next <| .ite (.refl _) ?_
  dsimp only
  split
  · exact subDown_calm (modLane_calm (.refl _) ..) ..
  · exact framingFails_calm (ownTrigger_calm (modLane_calm (.refl _) ..) ..) ..

/-- IEEE_CODEWORD_RECEIVE. -/
theorem execIeeeCodewordReceive_calm (p i host order blocks errs drift s) :
    NextCalm ck lt s (execIeeeCodewordReceive p i host order blocks errs drift s) :=
  .next <|
  .ite (.refl _) <|
  have h₁ := modPort_calm (.refl s) ..
  have h₂ := modSub_calm (.ite (raise_calm h₁ ..) h₁) ..
  have h₃ := CalmBut.ite (modPort_calm h₂ ..) h₂
  .ite (raise_calm h₃ ..) h₃

/-- MDIO_PMA_RESET. -/
theorem execMdioPmaReset_calm (prtad s) : NextCalm ck lt s (execMdioPmaReset prtad s) :=
  .next <|
  mdioWrite_calm (.refl _) _
    _ fun _ _ _ h =>
    .ite (subRestart_calm h ..) <| subRestart_calm (.ite (enterDown_calm (subDown_calm h ..) ..) <| subDown_calm h ..) ..

/-- MDIO_AN_RESTART. -/
theorem execMdioAnRestart_calm (prtad s) : NextCalm ck lt s (execMdioAnRestart prtad s) :=
  .next <|
  mdioWrite_calm (.refl _) _
    _ fun _ _ _ h => .ite h <| setLink_calm (waitingDone_calm (modSub_calm (modPort_calm h ..) ..) _) ..

/-- MDIO_ADV_MASK_WRITE. -/
theorem execMdioAdvMaskWrite_calm (prtad covers sets s) : NextCalm ck lt s (execMdioAdvMaskWrite prtad covers sets s) :=
  .next <| mdioWrite_calm (.refl _) _ _ fun _ _ _ h => modSub_calm h ..

/-! ### The commands of Machine/HostIf -/

/-- HOST_MARKER_RECEIVE. -/
theorem execHostMarkerReceive_calm (p h d s) : NextCalm ck lt s (execHostMarkerReceive p h d s) :=
  .next <| .ite (.refl _) <| .ite (failHostLane_calm (modPort_calm (.refl _) ..) ..) <| modPort_calm (.refl _) ..

/-- HOST_LANE_FAIL. -/
theorem execHostLaneFail_calm (p h why s) : NextCalm ck lt s (execHostLaneFail p h why s) :=
  .next <| .ite (failHostLane_calm (.refl _) ..) <| .refl _

/-- HOST_CODEWORD_RECEIVE. -/
theorem execHostCodewordReceive_calm (p h period errs units late s) :
    NextCalm ck lt s (execHostCodewordReceive p h period errs units late s) :=
  .next <|
  .ite (.refl _) <|
  have h₁ := raise_calm (modPort_calm (.refl s) ..) ..
  have h₂ := CalmBut.foldl (fun _ _ h => hostArrive_calm h ..) (modPort_calm (.refl s) ..)
  .ite (reHold_calm (modPort_calm (.ite (failHostLane_calm h₁ ..) h₁) ..) _) <|
  .ite (wakeTrigger_calm h₂ _) h₂

/-- FSI_EVENT_EXPIRE. -/
theorem execFsiEventExpire_calm (p s) : NextCalm ck lt s (execFsiEventExpire p s) :=
  .next <| modPort_calm (.refl _) ..

/-! ### The commands of Machine/Diagnostics -/

/-- DIAG_TDR. -/
theorem execDiagTdr_calm (via p pairs vf threshold s) : NextCalm ck lt s (execDiagTdr via p pairs vf threshold s) :=
  .next <| diagStart_calm (.refl _) _ _ _ _ _ _ fun _ h => modPort_calm (diagTake_calm (freeNat_calm h) ..) ..

/-- DIAG_RL. -/
theorem execDiagRl_calm (via p pairs s) : NextCalm ck lt s (execDiagRl via p pairs s) :=
  .next <| diagStart_calm (.refl _) _ _ _ _ _ _ fun _ h => modPort_calm (diagTake_calm h ..) ..

/-- DIAG_NEXT. -/
theorem execDiagNext_calm (via p mask s) : NextCalm ck lt s (execDiagNext via p mask s) :=
  .next <| diagStart_calm (.refl _) _ _ _ _ _ _ fun _ h => modPort_calm (diagTake_calm h ..) ..

/-- DIAG_RUN_DONE. -/
theorem execDiagRunDone_calm (p listens meas s) : NextCalm ck lt s (execDiagRunDone p listens meas s) := by
  refine .next ?_
  dsimp only
  split
  · exact .ite (sendDiff_calm (diagRelease_calm (.refl _) _) ..) <| .refl _
  · exact .ite (diagFinish_calm (keepResults_calm (.refl _) ..) ..) <| diagEnd_calm (modPort_calm (.refl _) ..) ..
  · exact .ite (diagFinish_calm (keepResults_calm (.refl _) ..) ..) <| diagEnd_calm (modPort_calm (.refl _) ..) ..
  · exact .ite (diagFinish_calm (keepResults_calm (.refl _) ..) ..) <| diagEnd_calm (modPort_calm (.refl _) ..) ..
  · exact .refl _

/-- DIAG_READ. -/
theorem execDiagRead_calm (via p kind index s) : NextCalm ck lt s (execDiagRead via p kind index s) := by
  refine .portCommand fun _ h => .ite (reply_calm h ..) ?_
  dsimp only
  split
  · exact reply_calm h ..
  · exact reply_calm h ..

/-- DIAG_LIVE. -/
theorem execDiagLive_calm (via p vf s) : NextCalm ck lt s (execDiagLive via p vf s) :=
  .portCommand fun _ h => .ite (reply_calm h ..) <| .ite (reply_calm h ..) <| reply_calm h ..

/-- DIAG_IL. -/
theorem execDiagIl_calm (via p mask cable range sf s) : NextCalm ck lt s (execDiagIl via p mask cable range sf s) :=
  .next <| diagStart_calm (.refl _) _ _ _ _ _ _ fun _ h => sendDiff_calm (modPort_calm (diagTake_calm h ..) ..) ..

/-- IL_REQ_RECEIVE. -/
theorem execIlReqReceive_calm (p session uid port mask range fs s) :
    NextCalm ck lt s (execIlReqReceive p session uid port mask range fs s) :=
  .next <|
  .ite (.refl _) <|
  .ite (sendDiff_calm (.refl _) ..) <|
  .ite (sendDiff_calm (modPort_calm (diagTake_calm (.refl _) ..) ..) ..) <| sendDiff_calm (.refl _) ..

/-- IL_ACK_RECEIVE. -/
theorem execIlAckReceive_calm (p session fs s) : NextCalm ck lt s (execIlAckReceive p session fs s) :=
  .next <| .ite (.refl _) <| modPort_calm (.refl _) ..

/-- IL_DECLINE_RECEIVE. -/
theorem execIlDeclineReceive_calm (p session _reason s) : NextCalm ck lt s (execIlDeclineReceive p session _reason s) :=
  .next <| .ite (.refl _) <| diagEnd_calm (.refl _) ..

/-- IL_SCHEDULE_START. -/
theorem execIlScheduleStart_calm (p s) : NextCalm ck lt s (execIlScheduleStart p s) :=
  .next <| .ite (.refl _) <| modPort_calm (.refl _) ..

/-- IL_DONE_RECEIVE. -/
theorem execIlDoneReceive_calm (p session meas s) : NextCalm ck lt s (execIlDoneReceive p session meas s) :=
  .next <| .ite (.refl _) <| ilFinish_calm (.refl _) ..

/-- IL_DONE_TIMEOUT. -/
theorem execIlDoneTimeout_calm (p meas s) : NextCalm ck lt s (execIlDoneTimeout p meas s) :=
  .next <| .ite (.refl _) <| ilFinish_calm (.refl _) ..

/-- CAPTURE_START. -/
theorem execCaptureStart_calm (via p lanes txGroup vga peak n count trigger s) :
    NextCalm ck lt s (execCaptureStart via p lanes txGroup vga peak n count trigger s) :=
  .portCommand fun _ h =>
    .ite (diagReply_calm h ..) <|
    .ite (diagReply_calm h ..) <| .ite (diagReply_calm h ..) <| diagReply_calm (modPort_calm (.upd h) ..) ..

/-- CAPTURE_TRIGGER. -/
theorem execCaptureTrigger_calm (samples s) : NextCalm ck lt s (execCaptureTrigger samples s) := by
  refine .next ?_
  dsimp only
  split
  · exact .refl _
  · exact .ite (.refl _) <| .ite (.ite (.refl _) <| .upd (.refl _)) <| .upd (.refl _)

/-- CAPTURE_TIMEOUT. -/
theorem execCaptureTimeout_calm (s) : NextCalm ck lt s (execCaptureTimeout s) :=
  .next <| captureEnd_calm (.refl _) _

/-- CAPTURE_STOP. -/
theorem execCaptureStop_calm (via s) : NextCalm ck lt s (execCaptureStop via s) :=
  .command fun _ h => reply_calm (captureEnd_calm h _) ..

/-- CAPTURE_STATUS. -/
theorem execCaptureStatus_calm (via s) : NextCalm ck lt s (execCaptureStatus via s) :=
  .command fun _ h => reply_calm h ..

/-- CAPTURE_READ. -/
theorem execCaptureRead_calm (via segment ofs s) : NextCalm ck lt s (execCaptureRead via segment ofs s) := by
  refine .command fun _ h => ?_
  dsimp only
  split
  · exact reply_calm h ..
  · exact .ite (reply_calm h ..) <| .ite (reply_calm h ..) <| reply_calm (.upd h) ..

/-! ### The commands of Machine/Commit -/

/-- COMMIT_JUDGE. -/
theorem execCommitJudge_calm (p s) : NextCalm ck lt s (execCommitJudge p s) :=
  .next <| commitJudge_calm (.refl _) _

/-! ### The commands of Machine/BootConfig -/

/-- PORT_INFO. -/
theorem execPortInfo_calm (via port s) : NextCalm ck lt s (execPortInfo via port s) :=
  .command fun _ h => .dite (fun _ => .ite (reply_calm h ..) <| reply_calm h ..) fun _ => reply_calm h ..
/-! ### The commands together -/

/-- Each command of calmCommand is calm. -/
theorem exec_calm {c : Instr} {s : State} (hc : calmCommand c = true) : NextCalm false false s (exec c s) := by
  cases c
  case portClass => exact execPortClass_calm ..
  case parcelClose => exact execParcelClose_calm ..
  case timeStatus => exact execTimeStatus_calm ..
  case timeSyncSend => exact execTimeSyncSend_calm ..
  case flashAccessTimeout => exact execFlashAccessTimeout_calm ..
  case lpllRetune => exact execLpllRetune_calm ..
  case lpllPlanApply => exact execLpllPlanApply_calm ..
  case bridgeFlitReceive => exact execBridgeFlitReceive_calm ..
  case bridgeFlitSend => exact execBridgeFlitSend_calm ..
  case bridgeTrained => exact execBridgeTrained_calm ..
  case stackLaneLock => exact execStackLaneLock_calm ..
  case stackPortAlign => exact execStackPortAlign_calm ..
  case stackAlignTimeout => exact execStackAlignTimeout_calm ..
  case helloSend => exact execHelloSend_calm ..
  case helloReceive => exact execHelloReceive_calm ..
  case linkAckSend => exact execLinkAckSend_calm ..
  case topoChangeReceive => exact execTopoChangeReceive_calm ..
  case orphanNoticeReceive => exact execOrphanNoticeReceive_calm ..
  case faultWindowClose => exact execFaultWindowClose_calm ..
  case faultReportReceive => exact execFaultReportReceive_calm ..
  case mgmtRespReceive => exact execMgmtRespReceive_calm ..
  case tunnelTimeout => exact execTunnelTimeout_calm ..
  case ledgerAnchorReceive => exact execLedgerAnchorReceive_calm ..
  case stkTunnel => exact execStkTunnel_calm ..
  case stkPortInfo => exact execStkPortInfo_calm ..
  case stkFrecRead => exact execStkFrecRead_calm ..
  case calRun => exact execCalRun_calm ..
  case calRunDone => exact execCalRunDone_calm ..
  case dacMeasureDone => exact execDacMeasureDone_calm ..
  case ctleStepApply => exact execCtleStepApply_calm ..
  case ctleCheckTimeout => exact execCtleCheckTimeout_calm ..
  case ctleFreezeEnd => exact execCtleFreezeEnd_calm ..
  case calStore => exact execCalStore_calm ..
  case calExport => exact execCalExport_calm ..
  case calImport => exact execCalImport_calm ..
  case calCoefRead => exact execCalCoefRead_calm ..
  case calLimitsRead => exact execCalLimitsRead_calm ..
  case bistRun => exact execBistRun_calm ..
  case bistBankDone => exact execBistBankDone_calm ..
  case bistRead => exact execBistRead_calm ..
  case repairRead => exact execRepairRead_calm ..
  case fuseRepair => exact execFuseRepair_calm ..
  case loopSet => exact execLoopSet_calm ..
  case loopbackReqReceive => exact execLoopbackReqReceive_calm ..
  case loopbackAckReceive => exact execLoopbackAckReceive_calm ..
  case loopbackDeclineReceive p n why => exact execLoopbackDeclineReceive_calm p n why s
  case farLoopbackStart => exact execFarLoopbackStart_calm ..
  case loopbackEndReceive => exact execLoopbackEndReceive_calm ..
  case prbsLock => exact execPrbsLock_calm ..
  case prbsLockLoss => exact execPrbsLockLoss_calm ..
  case bandgapCheck => exact execBandgapCheck_calm ..
  case refCheck => exact execRefCheck_calm ..
  case jtagInstruction => exact execJtagInstruction_calm ..
  case scanChallenge => exact execScanChallenge_calm ..
  case scanChallengeExpire => exact execScanChallengeExpire_calm ..
  case avsExamine => exact execAvsExamine_calm ..
  case avsWriteRetry => exact execAvsWriteRetry_calm ..
  case avsStatusPoll => exact execAvsStatusPoll_calm ..
  case pePerstNRelease => exact execPePerstNRelease_calm ..
  case trstNAssert => exact execTrstNAssert_calm ..
  case bootRpllTimeout => exact execBootRpllTimeout_calm ..
  case bootLedgerAnchor => exact execBootLedgerAnchor_calm ..
  case imgInfo => exact execImgInfo_calm ..
  case imgErase => exact execImgErase_calm ..
  case imgEraseBlockDone => exact execImgEraseBlockDone_calm ..
  case imgWrite => exact execImgWrite_calm ..
  case imgWriteStream => exact execImgWriteStream_calm ..
  case imgConfirm => exact execImgConfirm_calm ..
  case devReset => exact execDevReset_calm ..
  case faultMessage => exact execFaultMessage_calm ..
  case eventCauseExpire => exact execEventCauseExpire_calm ..
  case fiArm => exact execFiArm_calm ..
  case fiStop => exact execFiStop_calm ..
  case fiList => exact execFiList_calm ..
  case injectionDeliver => exact execInjectionDeliver_calm ..
  case injectHoldEnd => exact execInjectHoldEnd_calm ..
  case commandStart => exact execCommandStart_calm ..
  case commandTimeout => exact execCommandTimeout_calm ..
  case farCmd => exact execFarCmd_calm ..
  case farRequestReceive => exact execFarRequestReceive_calm ..
  case farReplyReceive => exact execFarReplyReceive_calm ..
  case farCmdTimeout => exact execFarCmdTimeout_calm ..
  case clerkRestartDone => exact execClerkRestartDone_calm ..
  case firewallViolation => exact execFirewallViolation_calm ..
  case libRomCheck => exact execLibRomCheck_calm ..
  case libFirewallCheck => exact execLibFirewallCheck_calm ..
  case libWatchdogExpire => exact execLibWatchdogExpire_calm ..
  case ledgerInfo => exact execLedgerInfo_calm ..
  case ledgerRead => exact execLedgerRead_calm ..
  case ledgerSeal => exact execLedgerSeal_calm ..
  case ledgerNote => exact execLedgerNote_calm ..
  case attestQuote => exact execAttestQuote_calm ..
  case certRead => exact execCertRead_calm ..
  case keyRevoke => exact execKeyRevoke_calm ..
  case sealDue => exact execSealDue_calm ..
  case countersRecordDue => exact execCountersRecordDue_calm ..
  case witnessSend => exact execWitnessSend_calm ..
  case allowanceRefill => exact execAllowanceRefill_calm ..
  case ffeWalkStep => exact execFfeWalkStep_calm ..
  case dacCellExchange => exact execDacCellExchange_calm ..
  case rangeIdleStart => exact execRangeIdleStart_calm ..
  case rangeTakeEffect => exact execRangeTakeEffect_calm ..
  case complianceInterval => exact execComplianceInterval_calm ..
  case toneRampReload => exact execToneRampReload_calm ..
  case agcStep => exact execAgcStep_calm ..
  case sliceSwap => exact execSliceSwap_calm ..
  case sliceCalDone => exact execSliceCalDone_calm ..
  case echoSearchEnd => exact execEchoSearchEnd_calm ..
  case echoConverge => exact execEchoConverge_calm ..
  case snrWindowEnd => exact execSnrWindowEnd_calm ..
  case alignFolioReceive => exact execAlignFolioReceive_calm ..
  case anchorRevert => exact execAnchorRevert_calm ..
  case eyeHeightUpdate => exact execEyeHeightUpdate_calm ..
  case eyeWidthUpdate => exact execEyeWidthUpdate_calm ..
  case nakRepeatDue => exact execNakRepeatDue_calm ..
  case blockLockAcquire => exact execBlockLockAcquire_calm ..
  case blockLockLoss => exact execBlockLockLoss_calm ..
  case followerCountLoad => exact execFollowerCountLoad_calm ..
  case alignTimeout => exact execAlignTimeout_calm ..
  case laneQuarantine => exact execLaneQuarantine_calm ..
  case partnerQuarantine => exact execPartnerQuarantine_calm ..
  case readdHoldoffExpire => exact execReaddHoldoffExpire_calm ..
  case laneNoticeReceive => exact execLaneNoticeReceive_calm ..
  case addNoticeReceive => exact execAddNoticeReceive_calm ..
  case noticeAckReceive => exact execNoticeAckReceive_calm ..
  case preambleDetect => exact execPreambleDetect_calm ..
  case falseDetect => exact execFalseDetect_calm ..
  case sndReceptionTruncate => exact execSndReceptionTruncate_calm ..
  case sndHeaderReceive => exact execSndHeaderReceive_calm ..
  case sndFrameReceive => exact execSndFrameReceive_calm ..
  case cmFrameSend => exact execCmFrameSend_calm ..
  case soundRound => exact execSoundRound_calm ..
  case callSend => exact execCallSend_calm ..
  case soundWindowEnd => exact execSoundWindowEnd_calm ..
  case turnReply => exact execTurnReply_calm ..
  case callReceive => exact execCallReceive_calm ..
  case returnReceive => exact execReturnReceive_calm ..
  case probeReceive => exact execProbeReceive_calm ..
  case offerReceive => exact execOfferReceive_calm ..
  case acceptReceive => exact execAcceptReceive_calm ..
  case refuseReceive => exact execRefuseReceive_calm ..
  case goReceive => exact execGoReceive_calm ..
  case parleyResend => exact execParleyResend_calm ..
  case parleyTimeout => exact execParleyTimeout_calm ..
  case negRetryExpire => exact execNegRetryExpire_calm ..
  case soundingFrameSent => exact execSoundingFrameSent_calm ..
  case trainStart => exact execTrainStart_calm ..
  case trainStatSend => exact execTrainStatSend_calm ..
  case trainStatReceive => exact execTrainStatReceive_calm ..
  case trainStepSwitch => exact execTrainStepSwitch_calm ..
  case trainStepTimeout => exact execTrainStepTimeout_calm ..
  case trainPartnerTimeout => exact execTrainPartnerTimeout_calm ..
  case trainTimeout => exact execTrainTimeout_calm ..
  case portDownEnter => exact execPortDownEnter_calm ..
  case linkSnapTake => exact execLinkSnapTake_calm ..
  case quietRequest => exact execQuietRequest_calm ..
  case quietReqReceive => exact execQuietReqReceive_calm ..
  case quietAckReceive => exact execQuietAckReceive_calm ..
  case quietDeclineReceive => exact execQuietDeclineReceive_calm ..
  case quietEnter => exact execQuietEnter_calm ..
  case refreshWindowStart => exact execRefreshWindowStart_calm ..
  case refreshWindowEnd => exact execRefreshWindowEnd_calm ..
  case wakeTrigger => exact execWakeTrigger_calm ..
  case wakeTxData => exact execWakeTxData_calm ..
  case wakeRespond => exact execWakeRespond_calm ..
  case wakeBurstTimeout => exact execWakeBurstTimeout_calm ..
  case wakeTimeout => exact execWakeTimeout_calm ..
  case wakeBurstDetect => exact execWakeBurstDetect_calm ..
  case lpllRelockDone => exact execLpllRelockDone_calm ..
  case clause73PageReceive => exact execClause73PageReceive_calm ..
  case clause73Resolve => exact execClause73Resolve_calm ..
  case anAttemptTimeout => exact execAnAttemptTimeout_calm ..
  case ieeeTrainDone => exact execIeeeTrainDone_calm ..
  case ieeeTrainTimeout => exact execIeeeTrainTimeout_calm ..
  case ieeeSubportFail => exact execIeeeSubportFail_calm ..
  case ieeeCodewordReceive => exact execIeeeCodewordReceive_calm ..
  case mdioPmaReset => exact execMdioPmaReset_calm ..
  case mdioAnRestart => exact execMdioAnRestart_calm ..
  case mdioAdvMaskWrite => exact execMdioAdvMaskWrite_calm ..
  case hostMarkerReceive => exact execHostMarkerReceive_calm ..
  case hostLaneFail => exact execHostLaneFail_calm ..
  case hostCodewordReceive => exact execHostCodewordReceive_calm ..
  case fsiEventExpire => exact execFsiEventExpire_calm ..
  case diagTdr => exact execDiagTdr_calm ..
  case diagRl => exact execDiagRl_calm ..
  case diagNext => exact execDiagNext_calm ..
  case diagRunDone => exact execDiagRunDone_calm ..
  case diagRead => exact execDiagRead_calm ..
  case diagLive => exact execDiagLive_calm ..
  case diagIl => exact execDiagIl_calm ..
  case ilReqReceive => exact execIlReqReceive_calm ..
  case ilAckReceive => exact execIlAckReceive_calm ..
  case ilDeclineReceive p session why => exact execIlDeclineReceive_calm p session why s
  case ilScheduleStart => exact execIlScheduleStart_calm ..
  case ilDoneReceive => exact execIlDoneReceive_calm ..
  case ilDoneTimeout => exact execIlDoneTimeout_calm ..
  case captureStart => exact execCaptureStart_calm ..
  case captureTrigger => exact execCaptureTrigger_calm ..
  case captureTimeout => exact execCaptureTimeout_calm ..
  case captureStop => exact execCaptureStop_calm ..
  case captureStatus => exact execCaptureStatus_calm ..
  case captureRead => exact execCaptureRead_calm ..
  case commitJudge => exact execCommitJudge_calm ..
  case portInfo => exact execPortInfo_calm ..
  all_goals exact absurd hc Bool.false_ne_true

/-- Each command of clockCommand is calm but for the clocks. -/
theorem exec_clock_calm {c : Instr} {s : State} (hc : clockCommand c = true) : NextCalm true false s (exec c s) := by
  cases c
  case stackClockDetect => exact execStackClockDetect_calm ..
  case enumRunStart => exact execEnumRunStart_calm ..
  case parentChoose => exact execParentChoose_calm ..
  case reportReceive => exact execReportReceive_calm ..
  case reportDue => exact execReportDue_calm ..
  case stkEnum => exact execStkEnum_calm ..
  case stkRenumber => exact execStkRenumber_calm ..
  all_goals exact absurd hc Bool.false_ne_true

/-- Each command of lateCommand is calm but for the mark of a late request. -/
theorem exec_late_calm {c : Instr} {s : State} (hc : lateCommand c = true) : NextCalm false true s (exec c s) := by
  cases c
  case alignmentLoss => exact execAlignmentLoss_calm ..
  case cdrLockLost => exact execCdrLockLost_calm ..
  case addAttemptTimeout => exact execAddAttemptTimeout_calm ..
  case noticeDeclineReceive => exact execNoticeDeclineReceive_calm ..
  all_goals exact absurd hc Bool.false_ne_true

/-- Settles O40: the calm commands, one by one. -/
theorem calmCommandFrame : Obligations.CalmCommandFrame :=
  ⟨fun _ s t hc h => (calm_iff s t).mpr ((exec_calm hc).calm h), fun _ _ _ hc h => (exec_clock_calm hc).calm h,
    fun _ _ _ hc h => (exec_late_calm hc).calm h⟩

end Sys2Proof
end
